-- ==== Sys2Proof/Word.lean ====
section
/-! DEFINITION. The word types of the register space (R7: 32-bit little-endian words). -/

namespace Sys2Proof

/-- A register word, a packet word or a record word (R7). -/
abbrev Word := BitVec 32

/-- A byte of a memory or of a wire format (R8). -/
abbrev Byte := BitVec 8

/-- A 64-bit register value (R7, R18, R19). -/
abbrev Dword := BitVec 64

end Sys2Proof
end

