-- ==== Sys2Proof/Machine/Operands.lean ====
section
/-! DEFINITION. The operand forms of the commands: who accesses, what arrives on a lane or a wire, and
what the outside reports. Instance numbers are Fin types, so R21's ranges hold by construction. -/

namespace Sys2Proof.Machine

/-- A requester of the register space (R107). -/
inductive Req where
  | host | mc0 | mc1 | mc2 | mc3 | smb | jtag
  deriving DecidableEq, Repr

/-- The requester code of R107. -/
def Req.code : Req → Nat
  | .host => 0 | .mc0 => 1 | .mc1 => 2 | .mc2 => 3 | .mc3 => 4 | .smb => 5 | .jtag => 6

/-- One single-word write access to BAR0 as issued (R106, R108). -/
structure Access where
  req  : Req
  /-- The BAR0 offset as issued, before any image is resolved. -/
  addr : BitVec 28
  /-- Byte enables; a write needs all four (R108). -/
  be   : BitVec 4
  val  : Word
  deriving DecidableEq, Repr

/-- A master port of the bus matrix (R441): a requester of the register space, the HUB DMA engine, or the HOST island's
engines. -/
inductive Master where
  | req (q : Req)
  | dma
  | engines
  deriving DecidableEq, Repr

/-- A target of the bus matrix but for the register space (R441). -/
inductive BusTarget where
  | journal | dram | hostMem | coreMem | periph
  deriving DecidableEq, Repr

/-- The paths of R441's table to the targets but for the register space; the sideband reads the journal only. -/
def Master.hasPath (m : Master) (t : BusTarget) (write : Bool) : Bool :=
  match m, t with
  | .req .host, _ => false
  | .req .smb, .journal | .req .jtag, .journal => !write
  | .req .smb, t | .req .jtag, t => t == .periph
  | .req _, _ => true
  | .dma, t => t != .periph
  | .engines, t => t == .dram || t == .hostMem

/-- The place of a master in the rotation of R445. -/
def Master.code : Master → Nat
  | .req q => q.code
  | .dma => 5
  | .engines => 6

/-- Does a master come through the upward bridge port, outside the rotation (R446)? -/
def Master.sideband : Master → Bool
  | .req .smb | .req .jtag => true
  | _ => false

/-- One request of a master on the bus matrix (R105, R108, R441, R442). -/
inductive BusOp where
  /-- A write of the access's word and of the words after it, each with its byte enables, in ascending order
  (R108). -/
  | write (a : Access) (more : List (BitVec 4 × Word))
  /-- A read of a word and of `more` words after it. -/
  | read (req : Req) (addr : BitVec 28) (more : Nat)
  /-- A request for another target than the register space. -/
  | other (m : Master) (t : BusTarget) (write : Bool)
  deriving DecidableEq, Repr

/-- The master of a request. -/
def BusOp.master : BusOp → Master
  | .write a _ => .req a.req
  | .read q _ _ => .req q
  | .other m _ _ => m

/-- The target of a request, `none` the register space. -/
def BusOp.target : BusOp → Option BusTarget
  | .other _ t _ => some t
  | _ => none

/-- Does a request lead to a target (R441)? -/
def BusOp.hasPath : BusOp → Bool
  | .other m t w => m.hasPath t w
  | _ => true

/-- The requests that meet in one cycle, and for how many cycles the upward bridge port has waited before it
(R446, R551). -/
structure BusCycle where
  ops    : List BusOp
  waited : Nat
  deriving DecidableEq, Repr

/-- A configuration request (R81 to R83, R85): a read, a write of a BAR, a return to D0, or a write of the MSI-X
control that clears Enable. -/
inductive ConfigOp where
  | read
  /-- BAR0, BAR2 or BAR4 by its place in R85's table; `none` unassigns it. -/
  | bar (k : Fin 3) (base : Option Nat)
  | toD0
  | msixOff
  deriving DecidableEq, Repr

/-- An access to the command window in BAR2 (R87, R149). -/
inductive SlotAccess where
  | write (offset : Nat) (words : List Word)
  /-- A read of `n` words. -/
  | read (offset n : Nat)
  deriving DecidableEq, Repr

/-- An access to the MSI-X table and PBA in BAR4 (R85, R88). -/
inductive MsixAccess where
  /-- The mask bit of a vector. -/
  | mask (v : Fin 64) (masked : Bool)
  /-- The address and data of a vector, which programs it. -/
  | entry (v : Fin 64) (addr : Dword) (data : Word)
  /-- A read of the word at an offset of BAR4. -/
  | read (offset : Nat)
  deriving DecidableEq, Repr

/-- What DOE_DISCOVERY sends: a discovery request, or one that names an object type by its vendor and type word
(R95). -/
inductive DoeRequest where
  | discovery (index : Nat)
  | object (word : Word)
  deriving DecidableEq, Repr

/-- A request to the DOE mailbox (R95). -/
inductive DoeCall where
  | plain (r : DoeRequest)
  | cdat (entry : Nat)
  | certificate (slot : Fin 8) (offset len : Nat)
  | challenge (slot : Fin 8) (nonce : BitVec 256)
  | measurements (index : Fin 9) (nonce : BitVec 256)
  | keyExchange
  deriving DecidableEq, Repr

/-- What an ECC read of a codeword finds (R469, R470). -/
inductive EccResult where
  | clean | corrected | uncorrectable
  deriving DecidableEq, Repr

/-- What a decoder finds in one RS(544,514) codeword (R198, R199). -/
inductive CodewordResult where
  | clean
  | corrected (symbols bits : Nat)
  | uncorrectable
  deriving DecidableEq, Repr

/-- A CXL.io or CXL.mem IDE stream (R97). -/
inductive IdeStream where
  | io | mem
  deriving DecidableEq, Repr

/-- What a lane's deframer reports of one FlexO frame (R192, R203, R204). -/
structure FlexoFrame where
  /-- The alignment marker stands at the locked bit position. -/
  marker  : Bool
  /-- The OMFI value is one above the last, modulo its multiframe length. -/
  omfiRun : Bool
  /-- The CRC-16 over the FlexO overhead holds (R192). -/
  crcOk   : Bool
  gid     : BitVec 20
  pid     : Byte
  /-- The PIDs the received MAP lists (R194). -/
  map     : List Byte
  /-- Arrival of the marker's first bit at the contact, in 2^-16 ns, from an instant that recurs once a
  marker period and is the same for all lanes: a lane that does not drift keeps its value (R204, R206). -/
  arrival : Nat
  deriving DecidableEq, Repr

/-- The overhead of one monitored layer in one frame (R223 to R228). -/
structure LayerOh where
  /-- BIP-8 violations of each slice, 0 to 8 (R231). -/
  bip  : List Nat
  /-- BEI/BIAE of each slice, 0 to 15 (R228, R236). -/
  bei  : List Nat
  bdi  : Bool
  iae  : Bool
  /-- The received STAT, three bits. -/
  stat : BitVec 3
  /-- The TTI multiframe that ends in this frame, if one does (R224). -/
  tti  : Option (List Byte)
  /-- The received PT at a multiframe's end (R228). -/
  pt   : Option Byte
  /-- At a multiframe's end, the received MSI slot by slot: the TPN of a slot marked allocated (R228, R250). -/
  msi  : Option (List (Option Nat))
  /-- The APS/PCC level of this frame (MFAS[2:0]) and its four bytes (R226). -/
  apsLevel : Fin 8
  aps  : Word
  deriving DecidableEq, Repr

/-- What stands at one bit offset of a frame period (R208): columns 2 to 5 of row 1 of each OTUC slice as a word,
column 2 first, and the MFAS byte. -/
structure HuntSite where
  off  : Nat
  cols : List Word
  mfas : Byte
  deriving DecidableEq, Repr

/-- What the framer of a line port sees in one OTUCn frame period (R208 to R213). -/
structure OtucFrame where
  /-- The offsets that a hunter may take for a frame's start (R208, R209). -/
  sites : List HuntSite
  /-- What stands at the frame offset of a port in IF: columns 2 to 5 of each slice, and the MFAS. -/
  cols  : List Word
  mfas  : Byte
  sm    : LayerOh
  odu   : LayerOh
  deriving DecidableEq, Repr

/-- What a tributary's framer sees in one low-order ODU frame (R228, R230, R280). `lag` says, for a copy
that comes after its release, how far it lies behind the earliest ACTIVE leg's, in 1/16 ns (R286); `ahead`, for
a leg, how far before its release the copy arrived, in 1/16 ns (R282). -/
structure LoFrame where
  fas   : Bool
  mfas  : Byte
  /-- The 32-bit value in row 4, columns 9 to 12 (R278). -/
  count : Word
  oh    : LayerOh
  /-- The overhead of each TCM level watched, by level. -/
  tcm   : List (Nat × LayerOh)
  lag   : Nat
  ahead : Int
  deriving DecidableEq, Repr

/-- A 66B block of a client's PCS stream; `idle` marks an idle control block between packets (R268). -/
structure PcsBlock where
  idle : Bool
  bits : BitVec 66
  deriving DecidableEq, Repr

/-- What reaches a mapper in one justification period (R256, R261, R268). -/
inductive MapIn where
  /-- Bits for the tributary's own stage: of its ODU, as they arrive. -/
  | carrier (bits : List Bool)
  /-- Bits of a client for the OPU4 stage (R270). -/
  | client (bits : List Bool)
  /-- Blocks of a client for IMP, and the number of blocks the ODUflex takes in that time (R268). -/
  | blocks (bs : List PcsBlock) (slots : Nat)
  deriving DecidableEq, Repr

/-- What one justification period brings: JC1 to JC6, and the payload in transmission order (R258, R260, R263). -/
inductive JcIn where
  | carrier (jc : List Byte) (payload : List Bool)
  /-- The OPU4 stage of a client (R270). -/
  | client (jc : List Byte) (payload : List Bool)
  /-- Blocks of an ODUflex for the IMP demapper, and the number the client's clock takes in that time (R268). -/
  | blocks (bs : List PcsBlock) (slots : Nat)
  deriving DecidableEq, Repr

/-- An FJC as received: three copies, bytes 12 to 14 and the CRC-8 (R259). -/
structure Fjc where
  a    : Word
  b    : Word
  c    : Word
  rest : List Byte
  crc  : Byte
  deriving DecidableEq, Repr

/-! ### What the part transmits (R191, R223, R230) -/

/-- Where a transmitted overhead field comes from. -/
inductive TxField where
  | value (v : Nat)
  /-- A check formed over the frame as it is sent: BIP-8 (R223) or CRC-16 (R191). -/
  | computed
  /-- The received field, unchanged (R230). -/
  | passed
  /-- The fill of ODU-AIS, ODU-LCK or ODU-OCI (R231, R238, R253). -/
  | fill
  deriving DecidableEq, Repr

/-- The overhead of one level: SM, PM or a TCM level. `beiBiae` stands once per slice. -/
structure LevelTx where
  tti  : TxField
  bip  : TxField
  beiBiae : List TxField
  bdi  : TxField
  stat : TxField
  deriving DecidableEq, Repr

/-- The payload of a transmitted ODU. -/
inductive TxPayload where
  /-- The received payload (R230). -/
  | passed
  /-- Tributary slots, those not allocated at 0 (R250). -/
  | slots
  /-- The client's signal, Ethernet idle in its place (R65), or Local Fault (R270). -/
  | client | idle | localFault
  /-- The pattern of ODU-LCK, ODU-OCI or ODU-AIS (R238). -/
  | lck | oci | ais
  deriving DecidableEq, Repr

/-- One ODU frame as the part sends it. -/
structure OduTx where
  pm   : LevelTx
  /-- TCM1 to TCM6. -/
  tcm  : List LevelTx
  /-- The APS/PCC level of the frame and its four bytes. -/
  aps  : TxField
  /-- GCC1, GCC2, FTFL and EXP. -/
  gcc  : TxField
  /-- Row 4, columns 9 to 12: the seam count (R278, R279). -/
  count : TxField
  /-- The other RES bytes. -/
  res  : TxField
  pt   : TxField
  /-- The TPN of each allocated slot, where the OPU has slots (R250). -/
  msi  : List (Option Nat)
  payload : TxPayload
  deriving DecidableEq, Repr

/-- One OTUCn frame as the part sends it (R223). -/
structure OtucTx where
  mfas : Byte
  sm   : LevelTx
  iae  : Bool
  /-- The two bytes of GCC0 in slice 1 (R227); GCC0 of slices 2 to n, and RES. -/
  gcc0 : List Byte
  res  : TxField
  odu  : OduTx
  deriving DecidableEq, Repr

/-- The FlexO overhead that a line lane sends (R191, R195). -/
structure FlexoTx where
  gid  : Nat
  pid  : Nat
  map  : List Nat
  /-- AVAIL as full rate. -/
  fullRate : Bool
  fcc  : Nat
  omfi : Nat
  crc  : TxField
  deriving DecidableEq, Repr

/-- A seam note body (R297) with the header fields its acceptance reads. -/
structure SeamNote where
  version : Byte
  srcNode : BitVec 16
  group   : Fin 512
  srcGroup : BitVec 9
  legs    : BitVec 3
  active  : BitVec 3
  serial  : Word
  deriving DecidableEq, Repr

/-- The kinds of a domain note (R432); `other` is a kind the part does not know. -/
inductive NoteKind where
  | general | seam | mapCap | fetchReq | fetchResp | other
  deriving DecidableEq, Repr

/-- A domain note as received or originated (R432). -/
structure Note where
  version : Byte
  kind    : NoteKind
  bcast   : Bool
  oneHop  : Bool
  auth    : Bool
  keyId   : Fin 4
  ttl     : Nat
  dst     : BitVec 16
  src     : BitVec 16
  serial  : Word
  body    : List Byte
  mac     : BitVec 128
  deriving DecidableEq, Repr

/-- What RENEW puts off (R70): a note with its link, or a seam note with its operation. -/
inductive HeldNote where
  | note (link : Nat) (n : Note)
  | seam (op : Nat) (n : SeamNote)
  deriving DecidableEq, Repr

/-- A link of the domain: a line port, a ring position, or the part itself (R430, R436). -/
inductive NoteLink where
  | port (p : Fin 24)
  | ring (r : Fin 8)
  | loc
  deriving DecidableEq, Repr

/-- A time-exchange message (R364), as far as its fields are read. -/
structure ExchMsg where
  version : Byte
  kind    : Byte
  node    : BitVec 16
  /-- Byte 4: [7] TIME_SET, [6] TIME_TRACE, [5] LOCKED, [4] FREE_RUN, [3] WARMING, [2] RX_VALID,
  [1] TX_VALID. -/
  flags   : Byte
  hops    : Byte
  keyId   : Fin 4
  seq     : Word
  /-- T_TX_PREV and T_RX, in units of 2^-16 ns. -/
  tTxPrev : Nat
  rxSeq   : Word
  tRx     : Nat
  asym    : Int
  acc     : Dword
  srcNode : BitVec 16
  mac     : BitVec 128
  /-- A stamp of the peer in this message was stale (R353, R366). -/
  stale   : Bool
  deriving DecidableEq, Repr

/-- What R356's table asks of a PTP message that arrives: its EtherType, destination address, tags before the
EtherType, messageType and domain. -/
structure PtpHead where
  etherType : BitVec 16
  dest      : BitVec 48
  tags      : Nat
  mtype     : BitVec 4
  domain    : Nat
  deriving DecidableEq, Repr

/-- What an Announce says of its grandmaster and of the port that sent it, beside the clockClass (R356, R358). -/
structure Announce where
  accuracy   : Byte
  variance   : BitVec 16
  priority1  : Byte
  priority2  : Byte
  gm         : Dword
  steps      : Nat
  timeSource : Byte
  sender     : Dword
  senderPort : BitVec 16
  deriving DecidableEq, Repr

/-- What an activity window of a clock reference saw (R314): lock throughout, of a recovered clock; the rising edges
counted, of a board clock. -/
structure ActSeen where
  held  : Bool
  edges : Nat
  deriving DecidableEq, Repr

/-- A PTP port of the T-BC: a client port, or the OSMC of a line port (R310, R356). -/
abbrev PtpPort := Fin 72

/-- A client frame, destination address first, FCS included (R384). -/
structure ClientFrame where
  bytes   : List Byte
  /-- How long before the row its event point passed the stamp unit, in 2^-16 ns (R350). -/
  age     : Nat := 0
  /-- The client's rate is beyond ±100 ppm and its blocks overflowed the mapper's store (R268). -/
  overflow : Bool := false
  deriving DecidableEq, Repr

/-- A run of idle blocks toward a client: its length, and how long before the row the event point of a frame put at its
start passed the stamp unit, in 2^-16 ns (R350, R402). -/
structure IdleRun where
  blocks : Nat
  age    : Nat
  deriving DecidableEq, Repr

/-- A client port, and the member of it that has lost its markers or drifted, counted from the first (R382). -/
structure PortMember where
  port   : Fin 48
  member : Fin 8
  deriving DecidableEq, Repr

/-- A transmit descriptor and what reading its frame gave (R400, R401). -/
structure TxDesc where
  words   : List Word
  /-- The bytes the buffer holds; `none` where a read of them returned an error or poison. -/
  frame   : Option (List Byte)
  deriving DecidableEq, Repr

/-- A received slot frame: its header and payload, and what the checks on both CRCs gave (R412). -/
structure SlotFrame where
  crcOk   : Bool
  slot    : Fin 64
  src     : Fin 8
  dst     : Fin 8
  bcast   : Bool
  cls     : Fin 16
  hops    : Nat
  cycle   : Word
  payload : List Byte
  deriving DecidableEq, Repr

/-- The payload of link slot 0 (R413). -/
structure Slot0 where
  /-- The sender's cycle, from the frame's header (R412). -/
  cycle   : Word
  txLevel : Fin 4
  mode    : BitVec 4
  req     : Fin 4
  ready   : Fin 4
  freeze  : Bool
  drain   : Bool
  drainAck : Bool
  prove   : Bool
  supplyLoss : Bool
  rxOk    : Bool
  twinEn  : Bool
  timeSet : Bool
  trace   : Bool
  /-- The peer's phase source type, 15 if none. -/
  phaseType : Fin 16
  node    : BitVec 16
  hops    : Nat
  acc     : Dword
  tTx     : Nat
  rxCycle : Word
  tRx     : Nat
  /-- Outbound words with their new-word bits (MB24, MB26, MB28, MB30 of the sender). -/
  words   : List (Option Word)
  /-- FULL and COLLISION reports for the sender's inbound mailboxes. -/
  fulls   : BitVec 4
  colls   : BitVec 4
  mirrorAck : Word
  /-- This part's arrival stamp of the frame, and the marker's arrival on each lane that the part holds or finds
  locked, in 2^-16 ns (R408). -/
  arrival : Nat
  lanes   : List (Option Nat)
  deriving DecidableEq, Repr

/-- The types of a mirror record (R424). -/
inductive MirrorKind where
  | config | timekeeper | rtag | pmSecond | route | checkpoint | resyncBegin | resyncEnd
  deriving DecidableEq, Repr

/-- A mirror record (R425). -/
structure MirrorRec where
  kind    : MirrorKind
  last    : Bool
  restore : Bool
  seq     : Word
  body    : List Word
  deriving DecidableEq, Repr

/-- What held an uncorrectable codeword that a scrub found (R470). -/
inductive DramHit where
  /-- A leg's buffered copy of a count. -/
  | seam (g : Fin 512) (leg : Fin 3) (count : Word)
  /-- A stamp record spilled by a client port: record `i` of its ring (R371). -/
  | spill (cp : Fin 48) (i : Nat)
  /-- Host scratch or another log window, at a DPA. -/
  | window (dpa : Nat)
  /-- Firmware and state, or the part reserve; `led` is the ledger of a counted quantity it held. -/
  | state (led : Option Nat)
  deriving DecidableEq, Repr

/-- The requests a control selvedge holds as it is fenced (R449, R450): those whose completion passes, those not
started, and those started and still open. -/
structure Held where
  complete : Nat := 0
  waiting  : Nat := 0
  started  : Nat := 0
  deriving DecidableEq, Repr

/-- The result of a self-test scope on one instance (R482). -/
inductive ScopeResult where
  | pass | fail | aborted | notRun
  deriving DecidableEq, Repr

/-- What DOMAIN.FETCH_PM does in one step: send the request, or reply after 2 s (R437). -/
inductive FetchPhase where
  | send | timeout
  deriving DecidableEq, Repr

/-- The consequent actions decided by steering function 1 (R233). -/
inductive ConseqAction where
  | aAIS | aLF | aBDI
  deriving DecidableEq, Repr

/-- Near end or far end of a PM point (R237). -/
inductive PmDir where
  | near | far
  deriving DecidableEq, Repr

end Sys2Proof.Machine
end

