-- ==== Sys2Proof/Syntax.lean ====
section
/-! DEFINITION. The commands the block takes: one constructor per row of spec/opcode_table.json, in the
table's order, with the row's operands. A command packet's row names the tag whose copied slot holds
its parameters; a register row carries the write access that reaches the register. -/

namespace Sys2Proof

open Sys2Proof.Machine

/-- A command or event of the part (spec/opcode_table.json, spec/95_what_each_step_holds.md). -/
inductive Instr where
  /-- VIN_RISE (R520). -/
  | vinRise
  /-- LIMITER_ON (R510). -/
  | limiterOn
  /-- PWRGOOD_RELEASE (R519). -/
  | pwrgoodRelease (strap : BitVec 3)
  /-- HOLDUP_READY (R520). -/
  | holdupReady
  /-- SUPPLY_LOSS (R514). -/
  | supplyLoss (overrange : Bool)
  /-- LAST_GASP_RECORD_WRITE (R518). -/
  | lastGaspRecordWrite
  /-- LAST_GASP_POWER_OFF (R514). -/
  | lastGaspPowerOff
  /-- INTERNAL_RAIL_FAULT (R484). -/
  | internalRailFault (detail : Word)
  /-- RST_N_LOW (R521). -/
  | rstNLow
  /-- RST_N_RISE (R55). -/
  | rstNRise (strap : BitVec 3)
  /-- PERST_N_ASSERT (R59). -/
  | perstNAssert
  /-- PERST_N_RELEASE (R55). -/
  | perstNRelease (strap : BitVec 3)
  /-- CIRUMLINK_WAKE_RX (R421). -/
  | cirumlinkWakeRx (port : Fin 2) (strap : BitVec 3)
  /-- WAKE_COMPLETE (R54). -/
  | wakeComplete (crc0 sig0 crc1 sig1 : Bool)
  /-- BOOT_FALLBACK (R498). -/
  | bootFallback
  /-- RESUME_START (R61). -/
  | resumeStart
  /-- CXL_LINK_UP (R83). -/
  | cxlLinkUp (width gts : Nat) (cxl : Bool)
  /-- CXL_LINK_DOWN (R101). -/
  | cxlLinkDown
  /-- CONFIG_REQUEST (R83). -/
  | configRequest (op : ConfigOp)
  /-- MSIX_ENABLE_SET (R555). -/
  | msixEnableSet (fmask : Bool)
  /-- D3HOT_ENTRY (R81). -/
  | d3hotEntry
  /-- HDM_COMMIT (R90). -/
  | hdmCommit (base size ways : Nat) (lock : Bool)
  /-- CXLMEM_READ (R91). -/
  | cxlmemRead (hpa : Nat) (ecc : EccResult)
  /-- CXLMEM_WRITE (R91). -/
  | cxlmemWrite (hpa : Nat) (line : BitVec 512)
  /-- IDE_INTEGRITY_FAIL (R98). -/
  | ideIntegrityFail (stream : IdeStream)
  /-- IDE_KM_KEY_INSTALL (R97). -/
  | ideKmKeyInstall (stream : IdeStream) (skid : Bool) (key : BitVec 256)
  /-- DOE_DISCOVERY (R95). -/
  | doeDiscovery (r : DoeRequest)
  /-- CDAT_TABLE_ACCESS (R96). -/
  | cdatTableAccess (entry : Nat)
  /-- SPDM_GET_CERTIFICATE (R491). -/
  | spdmGetCertificate (slot : Fin 8) (offset len : Nat)
  /-- SPDM_CHALLENGE (R492). -/
  | spdmChallenge (slot : Fin 8) (nonce : BitVec 256)
  /-- SPDM_GET_MEASUREMENTS (R493). -/
  | spdmGetMeasurements (index : Fin 9) (nonce : BitVec 256)
  /-- SPDM_KEY_EXCHANGE (R492). -/
  | spdmKeyExchange
  /-- GET_EVENT_RECORDS (R99). -/
  | getEventRecords
  /-- CLEAR_EVENT_RECORDS (R99). -/
  | clearEventRecords (all : Bool) (handles : List Nat)
  /-- GET_EVENT_INTERRUPT_POLICY (R99). -/
  | getEventInterruptPolicy
  /-- SET_EVENT_INTERRUPT_POLICY (R99). -/
  | setEventInterruptPolicy (msix : Bool) (vector : Nat)
  /-- GET_TIMESTAMP (R99). -/
  | getTimestamp
  /-- SET_TIMESTAMP (R100). -/
  | setTimestamp (value : Dword)
  /-- GET_SUPPORTED_LOGS (R99). -/
  | getSupportedLogs
  /-- GET_LOG (R99). -/
  | getLog (cel : Bool)
  /-- IDENTIFY_MEMORY_DEVICE (R99). -/
  | identifyMemoryDevice
  /-- GET_PARTITION_INFO (R99). -/
  | getPartitionInfo
  /-- GET_HEALTH_INFO (R99). -/
  | getHealthInfo
  /-- GET_POISON_LIST (R99). -/
  | getPoisonList
  /-- COMMAND_SLOT_WRITE (R149). -/
  | commandSlotWrite (a : SlotAccess)
  /-- DOORBELL (R152). -/
  | doorbell (a : Access)
  /-- SLOT_COPY (R154). -/
  | slotCopy (tag : Fin 1024)
  /-- COMMAND_TIMEOUT (R159). -/
  | commandTimeout (tag : Fin 1024)
  /-- REPLY_CONS_WRITE (R163). -/
  | replyConsWrite (a : Access)
  /-- RING_CFG_WRITE (R178). -/
  | ringCfgWrite (a : Access)
  /-- ABORT_REQ_WRITE (R177). -/
  | abortReqWrite (a : Access)
  /-- MODE_ENTER (R56). -/
  | modeEnter (tag : Fin 1024)
  /-- MODE_REACHED (R54). -/
  | modeReached
  /-- DRAIN_COMPLETE (R67). -/
  | drainComplete
  /-- DRAIN_TIMEOUT (R67). -/
  | drainTimeout
  /-- RENEW_IMAGE_RUNNING (R498). -/
  | renewImageRunning
  /-- RENEW_TIMEOUT (R71). -/
  | renewTimeout
  /-- FIRMWARE_FAULT (R71). -/
  | firmwareFault
  /-- MODE_STATE (R167). -/
  | modeState (tag : Fin 1024)
  /-- MODE_RESUME (R61). -/
  | modeResume (tag : Fin 1024)
  /-- MODE_HOLD (R485). -/
  | modeHold (tag : Fin 1024)
  /-- BASTE_FIELDS (R169). -/
  | basteFields (tag : Fin 1024)
  /-- BASTE_IMAGE (R168). -/
  | basteImage (tag : Fin 1024)
  /-- STITCH (R171). -/
  | stitch (tag : Fin 1024)
  /-- STITCH_BOUNDARY (R172). -/
  | stitchBoundary
  /-- STITCH_JOURNAL_WRITE (R172). -/
  | stitchJournalWrite
  /-- TRIB_REBUILD (R254). -/
  | tribRebuild (t : Fin 1024)
  /-- UNPICK (R174). -/
  | unpick (tag : Fin 1024)
  /-- QUERY_LATENCY (R36). -/
  | queryLatency (tag : Fin 1024)
  /-- QUERY_UNDELIVERED (R102). -/
  | queryUndelivered (tag : Fin 1024)
  /-- QUERY_RECORDS (R80). -/
  | queryRecords (tag : Fin 1024)
  /-- PLEAT_STEP (R332). -/
  | pleatStep (tag : Fin 1024)
  /-- PLEAT_SLEW (R333). -/
  | pleatSlew (tag : Fin 1024)
  /-- PLEAT_SUM (R167). -/
  | pleatSum (tag : Fin 1024)
  /-- SEAM_ADMIT (R296). -/
  | seamAdmit (tag : Fin 1024)
  /-- SEAM_RETIRE (R296). -/
  | seamRetire (tag : Fin 1024)
  /-- SEAM_STATUS (R296). -/
  | seamStatus (tag : Fin 1024)
  /-- REF_SELECT (R322). -/
  | refSelect (tag : Fin 1024)
  /-- REF_AUTO (R322). -/
  | refAuto (tag : Fin 1024)
  /-- REF_STATUS (R322). -/
  | refStatus (tag : Fin 1024)
  /-- TEST_RUN (R481). -/
  | testRun (tag : Fin 1024)
  /-- TEST_RESULT (R482). -/
  | testResult (tag : Fin 1024)
  /-- SCOPE_END (R481). -/
  | scopeEnd (scope : Fin 20) (inst : Nat) (res : ScopeResult) (errors first : Word)
  /-- CAL_RUN (R340). -/
  | calRun (tag : Fin 1024)
  /-- CAL_READ (R340). -/
  | calRead (tag : Fin 1024)
  /-- FW_STAGE (R497). -/
  | fwStage (tag : Fin 1024)
  /-- FW_STATUS (R499). -/
  | fwStatus (tag : Fin 1024)
  /-- KEY_INSTALL (R501). -/
  | keyInstall (tag : Fin 1024)
  /-- KEY_RETIRE (R502). -/
  | keyRetire (tag : Fin 1024)
  /-- KEY_SUBSYS (R503). -/
  | keySubsys (tag : Fin 1024)
  /-- KEY_ZEROISE (R504). -/
  | keyZeroise (tag : Fin 1024)
  /-- DOMAIN_SEND (R435). -/
  | domainSend (tag : Fin 1024)
  /-- DOMAIN_ROUTE (R430). -/
  | domainRoute (tag : Fin 1024)
  /-- DOMAIN_FETCH_PM (R437). -/
  | domainFetchPm (tag : Fin 1024) (phase : FetchPhase)
  /-- LEDGER_AUDIT (R458). -/
  | ledgerAudit (tag : Fin 1024)
  /-- LEDGER_READ (R463). -/
  | ledgerRead (tag : Fin 1024)
  /-- LEDGER_CHECKPOINT (R462). -/
  | ledgerCheckpoint (tag : Fin 1024)
  /-- ABORT (R175). -/
  | abort (tag : Fin 1024)
  /-- REGISTER_WRITE (R108): the accesses that meet on the bus matrix in one cycle (R551). -/
  | registerWrite (ops : BusCycle)
  /-- SH_FIELD_WRITE (R123). -/
  | shFieldWrite (a : Access)
  /-- BIT_ALIAS_WRITE (R119). -/
  | bitAliasWrite (a : Access)
  /-- MASK_WINDOW_WRITE (R120). -/
  | maskWindowWrite (a : Access)
  /-- BASTED_VIEW_WRITE (R125). -/
  | bastedViewWrite (a : Access)
  /-- MULTIWORD_CAPTURE_READ (R111). -/
  | multiwordCaptureRead (req : Req) (addr : BitVec 28)
  /-- MULTIWORD_APPLY_WRITE (R111). -/
  | multiwordApplyWrite (a : Access)
  /-- GUARD_VALUE_WRITE (R126). -/
  | guardValueWrite (a : Access)
  /-- GUARD_COMPLEMENT_WRITE (R126). -/
  | guardComplementWrite (a : Access)
  /-- GUARD_WINDOW_EXPIRE (R126). -/
  | guardWindowExpire (req : Req)
  /-- LK_REGISTER_WRITE (R129). -/
  | lkRegisterWrite (a : Access)
  /-- THIMBLE_READ (R132). -/
  | thimbleRead (req : Req) (addr : BitVec 28)
  /-- THIMBLE_WRITE (R134). -/
  | thimbleWrite (a : Access)
  /-- GROUP_EN_WRITE (R555). -/
  | groupEnWrite (a : Access)
  /-- MSIX_HOLDOFF_END (R557). -/
  | msixHoldoffEnd (v : Fin 64)
  /-- DEC_REC_POP (R146). -/
  | decRecPop
  /-- DECISION_ANSWER (R40). -/
  | decisionAnswer (a : Access)
  /-- DECISION_DEADLINE (R40). -/
  | decisionDeadline (serial : Word)
  /-- MAILBOX_WRITE (R182). -/
  | mailboxWrite (a : Access)
  /-- MAILBOX_READ (R182). -/
  | mailboxRead (req : Req) (n : Fin 32)
  /-- ADAPT_RESTART (R190). -/
  | adaptRestart (a : Access)
  /-- REACQUIRE (R330). -/
  | reacquire (a : Access)
  /-- LOCKOUT_WRITE (R320). -/
  | lockoutWrite (a : Access)
  /-- WAKE_WRITE (R421). -/
  | wakeWrite (a : Access)
  /-- CRC_START (R455). -/
  | crcStart (a : Access)
  /-- CRC_STOP (R455). -/
  | crcStop (a : Access)
  /-- CRC_INIT (R455). -/
  | crcInit (a : Access)
  /-- SNAP_SEL_WRITE (R248). -/
  | snapSelWrite (a : Access)
  /-- LEDGER_SEL_WRITE (R467). -/
  | ledgerSelWrite (a : Access)
  /-- ROUTE_SEL_WRITE (R430). -/
  | routeSelWrite (a : Access)
  /-- KEY_SEL_WRITE (R506). -/
  | keySelWrite (a : Access)
  /-- APS_TX_WRITE (R226). -/
  | apsTxWrite (a : Access)
  /-- APS_TX_INSERT (R226). -/
  | apsTxInsert (k : Fin 64)
  /-- SPILL_CONS_WRITE (R371). -/
  | spillConsWrite (a : Access)
  /-- STAMP_FIFO_POP (R372). -/
  | stampFifoPop (cp : Fin 48)
  /-- RX_CFG_ENABLE_SET (R399). -/
  | rxCfgEnableSet (a : Access)
  /-- RX_CFG_ENABLE_CLEAR (R399). -/
  | rxCfgEnableClear (a : Access)
  /-- RX_CONS_WRITE (R393). -/
  | rxConsWrite (a : Access)
  /-- TX_PROD_WRITE (R400). -/
  | txProdWrite (a : Access)
  /-- POOL_PROD_WRITE (R392). -/
  | poolProdWrite (a : Access)
  /-- POOL_ENABLE_CLEAR (R392). -/
  | poolEnableClear (a : Access)
  /-- NRX_CONS_WRITE (R436). -/
  | nrxConsWrite (a : Access)
  /-- PD_RESET_RELOAD (R528). -/
  | pdResetReload
  /-- DOMAIN_IDLE_RETURN (R525). -/
  | domainIdleReturn (d : Fin 148)
  /-- LANE_SIGNAL_DETECT (R189). -/
  | laneSignalDetect (l : Fin 96)
  /-- LANE_SIGNAL_LOSS (R189). -/
  | laneSignalLoss (l : Fin 96)
  /-- LANE_CDR_LOCK (R189). -/
  | laneCdrLock (l : Fin 96) (offset : Dword)
  /-- LANE_ADAPT_DONE (R189). -/
  | laneAdaptDone (l : Fin 96)
  /-- ADAPT_TRIM (R476). -/
  | adaptTrim (l : Fin 96) (step : Int)
  /-- FEC_CODEWORD (R201). -/
  | fecCodeword (l : Fin 96) (r : CodewordResult)
  /-- FEC_DEG_SECOND (R202). -/
  | fecDegSecond (l : Fin 96)
  /-- FLEXO_FRAME_RX (R203). -/
  | flexoFrameRx (l : Fin 48) (f : FlexoFrame)
  /-- FLEXO_MULTIFRAME_RX (R194). -/
  | flexoMultiframeRx (p : Fin 24)
  /-- OTUCN_FRAME_PERIOD (R211). -/
  | otucnFramePeriod (p : Fin 24) (f : OtucFrame)
  /-- DLOF_SET (R212). -/
  | dlofSet (p : Fin 24)
  /-- DLOF_CLEAR (R212). -/
  | dlofClear (p : Fin 24)
  /-- DLOM_SET (R213). -/
  | dlomSet (p : Fin 24)
  /-- DLOM_CLEAR (R213). -/
  | dlomClear (p : Fin 24)
  /-- LO_ODU_FRAME_RX (R280). -/
  | loOduFrameRx (t : Fin 1024) (f : LoFrame)
  /-- DLOFLOM_TIMER (R228). -/
  | dloflomTimer (t : Fin 1024)
  /-- CONSEQUENT_ACTION_APPLY (R232). -/
  | consequentActionApply (q : Fin 2048) (act : ConseqAction)
  /-- PM_SECOND_END (R236). -/
  | pmSecondEnd (second : Nat)
  /-- PM_CLASSIFY (R239). -/
  | pmClassify (q : Fin 2048)
  /-- PM_BIN_CLOSE (R243). -/
  | pmBinClose
  /-- MAPPER_PERIOD_END (R256). -/
  | mapperPeriodEnd (t : Fin 1024) (q : MapIn)
  /-- JC_RX (R263). -/
  | jcRx (t : Fin 1024) (j : JcIn)
  /-- MAP_CAP_SEND (R266). -/
  | mapCapSend (p : Fin 24)
  /-- CAP_SEEN_EXPIRE (R267). -/
  | capSeenExpire (t : Fin 1024)
  /-- METHOD_CHANGE (R267). -/
  | methodChange (t : Fin 1024)
  /-- SEAM_RELEASE (R283). -/
  | seamRelease (g : Fin 512) (c : Word) (bad : BitVec 3)
  /-- SEAM_COPY_RX (R289). -/
  | seamCopyRx (g : Fin 512) (leg : Fin 3) (c : Word)
  /-- SEAM_BUILD (R285). -/
  | seamBuild (g : Fin 512) (leads : List Nat)
  /-- SEAM_SLEW_END (R286). -/
  | seamSlewEnd (g : Fin 512) (leg : Fin 3)
  /-- SEAM_FALLBACK_EXIT (R287). -/
  | seamFallbackExit (g : Fin 512)
  /-- SEAM_WTR_EXPIRE (R293). -/
  | seamWtrExpire (g : Fin 512) (leg : Fin 3)
  /-- SEAM_ADMISSION (R294). -/
  | seamAdmission (g : Fin 512) (leg : Fin 3) (hold : Int)
  /-- SEAM_DEGRADE_TIMER (R293). -/
  | seamDegradeTimer (g : Fin 512) (leg : Fin 3)
  /-- SEAM_REFIT_TIMER (R293). -/
  | seamRefitTimer (g : Fin 512) (leg : Fin 3)
  /-- SEAM_STATUS_NOTE_SEND (R298). -/
  | seamStatusNoteSend (g : Fin 512)
  /-- SEAM_STATUS_NOTE_RX (R297). -/
  | seamStatusNoteRx (n : SeamNote)
  /-- SEAM_RETIRE_NOTE_RX (R299). -/
  | seamRetireNoteRx (n : SeamNote)
  /-- SEAM_RETIRE_ACK_RX (R299). -/
  | seamRetireAckRx (n : SeamNote)
  /-- SEAM_RETIRE_RESEND (R299). -/
  | seamRetireResend (g : Fin 512)
  /-- SEAM_RETIRE_GIVEUP (R299). -/
  | seamRetireGiveup (g : Fin 512)
  /-- NOTES_STALE_SET (R298). -/
  | notesStaleSet (g : Fin 512)
  /-- RTAG_RECOVERY_FRAME (R306). -/
  | rtagRecoveryFrame (cp : Fin 48) (leg : Fin 3) (seq : Option (BitVec 16))
  /-- RTAG_RECOVERY_RESET (R306). -/
  | rtagRecoveryReset (cp : Fin 48)
  /-- PPS_IN_EDGE (R312). -/
  | ppsInEdge (j : Fin 2) (at_ : Nat)
  /-- TOD_IN_MESSAGE (R343). -/
  | todInMessage (j : Fin 2) (bytes : List Byte)
  /-- ACT_WINDOW_END (R314). -/
  | actWindowEnd (r : Fin 16) (seen : ActSeen)
  /-- FREQ_GATE_END (R315). -/
  | freqGateEnd (r : Fin 16) (df : Int)
  /-- REF_MEASUREMENT (R316). -/
  | refMeasurement (r : Fin 16) (ferr : Int)
  /-- REF_WTR_EXPIRE (R319). -/
  | refWtrExpire (r : Fin 16)
  /-- DRIFT_WINDOW_END (R317). -/
  | driftWindowEnd (tails : List (Option Int)) (osc : Int) (temp : Int) (steady : Bool)
  /-- TK_LOCK (R326). -/
  | tkLock
  /-- TK_LOCK_LOSS (R326). -/
  | tkLockLoss
  /-- PULL_END (R329). -/
  | pullEnd
  /-- SLEW_END (R333). -/
  | slewEnd
  /-- WARMING_CLEAR (R53). -/
  | warmingClear
  /-- PPS_OUT_EDGE (R342). -/
  | ppsOutEdge (j : Fin 2)
  /-- TOD_OUT_SEND (R343). -/
  | todOutSend (j : Fin 2)
  /-- OUTPUT_REALIGN (R344). -/
  | outputRealign (k : Fin 6)
  /-- SEGMENT_REMEASURE (R352). -/
  | segmentRemeasure (seg : Fin 2247) (value : Dword)
  /-- SEGMENT_STALE (R353). -/
  | segmentStale (seg : Fin 2247)
  /-- PTP_SYNC_RX (R357). -/
  | ptpSyncRx (pt : PtpPort) (h : PtpHead) (oneStep : Bool) (t1 age corr : Int)
  /-- PTP_FOLLOW_UP_RX (R356). -/
  | ptpFollowUpRx (pt : PtpPort) (h : PtpHead) (t1 corr : Int)
  /-- PTP_DELAY_REQ_RX (R356). -/
  | ptpDelayReqRx (pt : PtpPort) (h : PtpHead) (age : Int)
  /-- PTP_DELAY_RESP_RX (R357). -/
  | ptpDelayRespRx (pt : PtpPort) (h : PtpHead) (seq : BitVec 16) (t4 : Int)
  /-- PTP_ANNOUNCE_RX (R357). -/
  | ptpAnnounceRx (pt : PtpPort) (h : PtpHead) (cls : Nat) (ann : Announce) (utc : Option Word)
  /-- PTP_ANNOUNCE_TIMEOUT (R356). -/
  | ptpAnnounceTimeout (pt : PtpPort)
  /-- PTP_SYNC_TX (R362). -/
  | ptpSyncTx (pt : PtpPort)
  /-- PTP_ANNOUNCE_TX (R358). -/
  | ptpAnnounceTx (pt : PtpPort)
  /-- PTP_DELAY_REQ_TX (R356). -/
  | ptpDelayReqTx (pt : PtpPort)
  /-- TX_MESSAGE_SEND (R363). -/
  | txMessageSend (p : Fin 24) (lead : Nat)
  /-- TX_MESSAGE_RX (R366). -/
  | txMessageRx (p : Fin 24) (m : ExchMsg) (age : Nat)
  /-- STAMP_RECORD (R370). -/
  | stampRecord (cp : Fin 48) (age : Nat) (ptp : Option (Fin 16 × BitVec 16))
  /-- STAMP_SPILL_MOVE (R372). -/
  | stampSpillMove (cp : Fin 48)
  /-- CLIENT_PORT_ALIGN (R382). -/
  | clientPortAlign (cp : Fin 48) (arrivals : List Nat)
  /-- CLIENT_FRAME_CLASSIFY (R388). -/
  | clientFrameClassify (cp : Fin 48) (f : ClientFrame)
  /-- CLIENT_FRAME_END (R384). -/
  | clientFrameEnd (cp : Fin 48) (toClient : Bool) (f : ClientFrame)
  /-- TAP_FRAME_COMPLETE (R395). -/
  | tapFrameComplete (cp : Fin 48)
  /-- RX_STARVE_TIMEOUT (R396). -/
  | rxStarveTimeout (cp : Fin 48)
  /-- POOL_ENTRY_READ (R391). -/
  | poolEntryRead (bp : Fin 16) (entry : Dword)
  /-- TX_DESCRIPTOR_READ (R400). -/
  | txDescriptorRead (cp : Fin 48) (d : TxDesc)
  /-- INJECT_PLACE (R402). -/
  | injectPlace (cp : Fin 48) (run : IdleRun)
  /-- INJECT_TIMEOUT (R403). -/
  | injectTimeout (cp : Fin 48)
  /-- CIRUMLINK_CYCLE (R410). -/
  | cirumlinkCycle
  /-- SLOT_FRAME_RX (R415). -/
  | slotFrameRx (k : Fin 2) (f : SlotFrame)
  /-- SLOT0_RX (R413). -/
  | slot0Rx (k : Fin 2) (f : Slot0)
  /-- TRAIN_TIMEOUT (R416). -/
  | trainTimeout (k : Fin 2)
  /-- RAISE_TIMEOUT (R416). -/
  | raiseTimeout (k : Fin 2)
  /-- DOWN_RETRY (R416). -/
  | downRetry (k : Fin 2)
  /-- LOWER_HOLD_EXPIRE (R418). -/
  | lowerHoldExpire (k : Fin 2)
  /-- AUTO_WAKE_SEND (R421). -/
  | autoWakeSend
  /-- MIRROR_RECORD_SEND (R424). -/
  | mirrorRecordSend (kind : MirrorKind)
  /-- MIRROR_RECORD_RX (R428). -/
  | mirrorRecordRx (r : MirrorRec)
  /-- MIRROR_RETRANSMIT (R427). -/
  | mirrorRetransmit
  /-- MIRROR_RESYNC_START (R427). -/
  | mirrorResyncStart
  /-- DOMAIN_NOTE_RX (R435). -/
  | domainNoteRx (link : NoteLink) (bytes : List Byte) (cut : Bool)
  /-- FETCH_REQ_RX (R437). -/
  | fetchReqRx (n : Note)
  /-- ROUTE_LINK_DOWN (R431). -/
  | routeLinkDown (link : NoteLink)
  /-- ROUTE_LINK_UP (R431). -/
  | routeLinkUp (link : NoteLink)
  /-- SELVEDGE_FENCE_REQUEST (R450). -/
  | selvedgeFenceRequest (i : Fin 29)
  /-- SELVEDGE_FENCED (R450). -/
  | selvedgeFenced (i : Fin 29) (r : Held)
  /-- SELVEDGE_FAULT_FENCE (R450). -/
  | selvedgeFaultFence (i : Fin 29) (r : Held)
  /-- SELVEDGE_RESUME (R450). -/
  | selvedgeResume (i : Fin 29)
  /-- SELVEDGE_ACTIVE (R450). -/
  | selvedgeActive (i : Fin 29)
  /-- LEDGER_AUDIT_PERIODIC (R458). -/
  | ledgerAuditPeriodic
  /-- LEDGER_CHECKPOINT_PERIODIC (R462). -/
  | ledgerCheckpointPeriodic
  /-- ROW_RETIRE_START (R471). -/
  | rowRetireStart (ch : Fin 64) (row : Nat) (hard : Bool)
  /-- ROW_RETIRE_COMPLETE (R472). -/
  | rowRetireComplete (ch : Fin 64) (row : Nat)
  /-- SCRUB_PASS_COMPLETE (R474). -/
  | scrubPassComplete (late : Bool) (corr : List (Fin 64 × Nat)) (hits : List DramHit)
  /-- SRAM_SCRUB_PASS (R475). -/
  | sramScrubPass (reloads : Nat) (state : List (Fin 29 × Option Nat))
  /-- JOURNAL_BLOCK_WRITE (R477). -/
  | journalBlockWrite (block : Fin 16384) (verified : Bool)
  /-- TELEMETRY_SAMPLE (R478). -/
  | telemetrySample (sensors : List Word)
  /-- SLICE_ISLAND_FAULT (R484). -/
  | sliceIslandFault (sl : Fin 24) (detail : Word)
  /-- WEFT_ISLAND_FAULT (R484). -/
  | weftIslandFault (detail : Word)
  /-- DRAM_CHANNEL_FAULT (R484). -/
  | dramChannelFault (ch : Fin 64) (lost : List (Fin 512 × Fin 3 × Nat))
  /-- MEM_ISLAND_FAULT (R484). -/
  | memIslandFault (detail : Word)
  /-- HOST_ISLAND_FAULT (R484). -/
  | hostIslandFault (detail : Word)
  /-- RING_ISLAND_FAULT (R484). -/
  | ringIslandFault (detail : Word)
  /-- CORE_FAULT (R484). -/
  | coreFault (detail : Word)
  /-- OVER_TEMPERATURE (R484). -/
  | overTemperature (detail : Word)
  /-- JOURNAL_FAULT (R484). -/
  | journalFault (block : Fin 16384)
  /-- OSCILLATOR_FAULT (R484). -/
  | oscillatorFault (detail : Word)
  /-- TIME_ISLAND_FAULT (R484). -/
  | timeIslandFault (detail : Word)
  /-- HUB_ISLAND_FAULT (R484). -/
  | hubIslandFault (detail : Word)
  /-- FAULT_RECORD_WRITE (R485). -/
  | faultRecordWrite
  /-- SMB_ADDR (R545). -/
  | smbAddr (target : BitVec 7) (offset : Word) (pec : Bool)
  /-- SMB_READ (R545). -/
  | smbRead (target : BitVec 7)
  /-- SMB_WRITE (R545). -/
  | smbWrite (target : BitVec 7) (value : Word) (pec : Bool)
  /-- SMB_REC_SEL (R545). -/
  | smbRecSel (target : BitVec 7) (sel : Byte) (pec : Bool)
  /-- SMB_REC_READ (R545). -/
  | smbRecRead (target : BitVec 7)
  /-- SMB_STATUS (R545). -/
  | smbStatus (target : BitVec 7)
  /-- SMB_SCL_TIMEOUT (R544). -/
  | smbSclTimeout
  /-- EXTEST (R548). -/
  | extest (pins : List Bool)
  /-- IDCODE (R547). -/
  | idcode
  /-- SAMPLE_PRELOAD (R546). -/
  | samplePreload (preload : Option (List Bool)) (pins : List Bool)
  /-- EXTEST_PULSE (R548). -/
  | extestPulse (pins : List Bool)
  /-- EXTEST_TRAIN (R548). -/
  | extestTrain (pins : List Bool)
  /-- CLAMP (R548). -/
  | clamp
  /-- HIGHZ (R548). -/
  | highz
  /-- BYPASS (R546). -/
  | bypass (opcode : Byte)
  /-- REG_ACCESS (R549). -/
  | regAccess (write : Bool) (offset : BitVec 28) (data : Word)
  /-- JTAG_TEST_LOGIC_RESET (R548). -/
  | jtagTestLogicReset
  /-- MSIX_VECTOR_MASK_WRITE (R43). -/
  | msixVectorMaskWrite (a : MsixAccess)
  /-- EXCH_VALID_EXPIRE (R378). -/
  | exchValidExpire (p : Fin 24)
  /-- CLIENT_ALIGN_LOSS (R382). -/
  | clientAlignLoss (m : PortMember)
  /-- FAULT_ORDERED_SETS_RX (R406). -/
  | faultOrderedSetsRx (cp : Fin 48) (remote on : Bool)
  /-- RESYNC_REOFFER (R427). -/
  | resyncReoffer
  deriving DecidableEq, Repr

end Sys2Proof
end

