-- ==== Sys2Proof/Decode.lean ====
section
/-! DEFINITION. The commands a bare word spells. The opcode table gives none of its rows a word: a command
packet is a slot of several words, a register row an access, an event no word at all. -/

namespace Sys2Proof

/-- The command a word of `nbits` bits spells by the table: none. -/
def decodeTableWord (_nbits _w : Nat) : Option Instr := none

end Sys2Proof
end

