-- ==== Sys2Proof/Config.lean ====
section
/-! DEFINITION. What one part fixes and the spec leaves to it, and the free values. Every entry is a
constant with no body, so nothing proved of the model rests on a particular value (log 2). -/

namespace Sys2Proof.Config

/-- A fresh value the spec leaves open, numbered by a counter in State (log 2). -/
opaque freeValue : Nat → Dword

/-- The ordering code: `true` is WH-9648-EA, `false` is WH-9648-CA (R1). -/
opaque isEA : Bool

/-- GLOBAL.SERIAL, the 64-bit module serial number (R141). -/
opaque serial : Dword

/-- The Heryth vendor ID of configuration space (R82), whose number the spec does not give. -/
opaque vendorId : BitVec 16

/-- The factory value of each oscillator table entry, in units of 2^-48 (R337). -/
opaque oscFactory : Nat → Dword

/-- The identity certificate chain's bytes, served as SPDM slot 0 (R491). -/
opaque certChain : List Byte

/-- The identity key's ECDSA P-384 signature over a byte string (R490, R492). -/
opaque identitySign : List Byte → BitVec 768

/-- Does an image's signature verify under Heryth's firmware key (R496)? -/
opaque signatureGood : List Byte → Bool

/-- The DWORDs of the boot ROM's measurement block 1 and block 8 contents (R493). -/
opaque bootRomBytes : List Byte

/-- The time from the phase source that a spec rule does not derive (fixed path delays of one part),
per segment, in units of 2^-16 ns (R216, R272, R300, R387). -/
opaque segmentDelay : Nat → Nat

/-- The bits that the ODUflex of each IMP_CLIENT has in one ODTUCn.ts period at its G.709 rate, rounded up (R251,
R255). -/
opaque impBits : Nat → Nat

/-- The JC bytes that G.709 gives a GMP stage of word length `m`, Pm `pm` and `n` of CnD: the new Cm and ΣCnD, with the
indications against the count sent before (R256). -/
opaque gmpForm : (m pm n prev c sum : Nat) → List Byte

/-- What the CRC and indication rules of G.709 read from JC bytes at a stage of word length `m`, Pm `pm` and `n` of CnD
with the Cm accepted last: the new Cm and ΣCnD, or `none` where they fail (R258). -/
opaque gmpRead : (m pm n prev : Nat) → List Byte → Option (Nat × Nat)

/-- AMP as G.709 (R258): the justification code for a store fill, 0 to 3 as its two JC bits spell it, and the data
positions of a period under a code, in transmission order. -/
opaque ampCode : Nat → Nat
opaque ampPositions : Nat → List Bool

/-- A 66B block of idle, or with `true` of the Local Fault ordered set (R65, R268, R270). -/
opaque fillBlock : Bool → BitVec 66

/-- The fixed fill of an IMP store, and the room above it, in blocks (R268). -/
opaque impFill : Nat
opaque impRoom : Nat

/-- Frames in a FlexO multiframe that OMFI counts (R191). -/
opaque omfiLength : Nat

/-- The payload type G.709 gives the OPU of a tributary that ends on a client port, by TYPE (R250, R268,
R270). -/
opaque clientPt : Nat → Byte

/-- The loop of R325 at a bandwidth in mHz: the frequency and its integral, in 2^-48, that an error gives it from the
integral before. -/
opaque loopStep : (bw : Nat) → (integral err : Int) → Int × Int

/-- The clockIdentity of the part's PTP clock (R356, R358). -/
opaque clockIdentity : Dword

/-- The credit total of an island's data selvedges, in words of their elastic stores (R37, R452). -/
opaque creditTotal : Nat → Nat

/-- In which of the eight channels of its domain a 64-byte line of LPDDR5X lies (R468, R524). -/
opaque lineChannel : Nat → Fin 8

/-- VERSION of the image the module was made with (R495). -/
opaque imageVersion : Word

/-- SVN of that image (R495). -/
opaque imageSvn : Nat

/-- SHA-384 digest of that image (R493). -/
opaque imageDigest : BitVec 384

end Sys2Proof.Config
end

