-- ==== Sys2Proof/Machine/Bits.lean ====
section
/-! DEFINITION. Bit fields, sign extension, saturation and byte order (R5 to R8, R18 to R20). -/

namespace Sys2Proof.Machine

/-- The mask of bits `[hi:lo]` (R6). -/
def bitsMask (hi lo : Nat) : Word := BitVec.ofNat 32 ((2 ^ (hi - lo + 1) - 1) * 2 ^ lo)

/-- The field `[hi:lo]` of a word, as a number (R6). -/
def fieldOf (w : Word) (hi lo : Nat) : Nat := w.toNat / 2 ^ lo % 2 ^ (hi - lo + 1)

/-- A word with its field `[hi:lo]` replaced; a value too wide is cut to the field. -/
def withField (w : Word) (hi lo v : Nat) : Word :=
  (w &&& ~~~(bitsMask hi lo)) |||
    BitVec.ofNat 32 (v % 2 ^ (hi - lo + 1) * 2 ^ lo)

/-- Bit `i` of a word. -/
def bitAt (w : Word) (i : Nat) : Bool := w.getLsbD i

/-- A word with bit `i` set to `b`. -/
def withBit (w : Word) (i : Nat) (b : Bool) : Word := withField w i i b.toNat

/-- The bits of `new` under `mask`, the bits of `old` elsewhere. -/
def mergeMask (old new mask : Word) : Word := (old &&& ~~~mask) ||| (new &&& mask)

/-- A 32-bit counter that saturates at 0xFFFF_FFFF. -/
def satAdd (w : Word) (n : Nat) : Word :=
  if w.toNat + n < 2 ^ 32 then BitVec.ofNat 32 (w.toNat + n) else BitVec.allOnes 32

/-- The two words of a 64-bit value, least significant first (R7). -/
def loWord (d : Dword) : Word := d.extractLsb' 0 32
/-- The higher word of a 64-bit value (R7). -/
def hiWord (d : Dword) : Word := d.extractLsb' 32 32
/-- A 64-bit value from its two words (R7). -/
def joinWords (lo hi : Word) : Dword := hi ++ lo

/-- Rounding of a quotient to the nearest unit, ties away from zero (R20). -/
def roundDiv (n : Int) (d : Nat) : Int :=
  if n ≥ 0 then (2 * n + d) / (2 * d) else - ((2 * (-n) + d) / (2 * d))

/-- Does an integer fit a signed 64-bit value (R18)? -/
def fits64 (i : Int) : Bool := (-(2 ^ 63 : Int) ≤ i) && (i < 2 ^ 63)

/-- The four bytes of a word, least significant first (R7). -/
def wordBytes (w : Word) : List Byte :=
  [w.extractLsb' 0 8, w.extractLsb' 8 8, w.extractLsb' 16 8, w.extractLsb' 24 8]

/-- The bytes of a sequence of words in ascending address order (R7, R453). -/
def bytesOfWords : List Word → List Byte
  | [] => []
  | w :: r => wordBytes w ++ bytesOfWords r

/-- The whole words of a byte sequence (R7). -/
def wordsOfBytes : List Byte → List Word
  | a :: b :: c :: d :: r => (d ++ c ++ b ++ a : Word) :: wordsOfBytes r
  | _ => []

/-- The bits of bytes in transmission order, most significant first (R260). -/
def bitsOfBytes (bs : List Byte) : List Bool := bs.flatMap fun b => (List.range 8).map fun i => b.getMsbD i

/-- The number that bits spell, most significant first. -/
def natOfBits (l : List Bool) : Nat := l.foldl (fun a b => 2 * a + b.toNat) 0

/-- `n` bytes from bits in transmission order (R260). -/
def bytesOfBits : Nat → List Bool → List Byte
  | 0, _ => []
  | n + 1, l => BitVec.ofNat 8 (natOfBits (l.take 8)) :: bytesOfBits n (l.drop 8)

/-- A word from four bytes in network order (R8). -/
def netWord (bs : List Byte) : Word := BitVec.ofNat 32 (natOfBits (bitsOfBytes (bs.take 4)))

/-- One step of the reflected CRC-32 family: a bit shifted out of the register. -/
def crcReflStep (poly : Word) : Nat → Word → Word
  | 0, c => c
  | n + 1, c =>
    crcReflStep poly n (if c.getLsbD 0 then (c >>> 1) ^^^ poly else c >>> 1)

/-- The running register of a reflected CRC over bytes taken in order (R453). -/
def crcReflRun (poly : Word) (c : Word) : List Byte → Word
  | [] => c
  | b :: r => crcReflRun poly (crcReflStep poly 8 (c ^^^ b.setWidth 32)) r

/-- CRC-32C: polynomial 0x1EDC_6F41, reflected, initial and final XOR all ones (R453, ALG 0). -/
def crc32c (bs : List Byte) : Word := ~~~(crcReflRun 0x82F63B78#32 (BitVec.allOnes 32) bs)

/-- CRC-32 of IEEE 802.3 (R453, ALG 1). -/
def crc32 (bs : List Byte) : Word := ~~~(crcReflRun 0xEDB88320#32 (BitVec.allOnes 32) bs)

/-- One byte into a 16-bit register, most significant bit first. -/
def crcMsbStep16 : Nat → BitVec 16 → BitVec 16
  | 0, c => c
  | n + 1, c =>
    crcMsbStep16 n (if c.getLsbD 15 then (c <<< 1) ^^^ 0x1021#16 else c <<< 1)

/-- The running register of the CRC-16 of R453 (ALG 2), used by time-of-day messages (R343). -/
def crc16Run (c : BitVec 16) : List Byte → BitVec 16
  | [] => c
  | b :: r => crc16Run (crcMsbStep16 8 (c ^^^ (b.setWidth 16 <<< 8))) r

/-- CRC-16 with initial value 0xFFFF, not inverted (R343, R453). -/
def crc16 (bs : List Byte) : BitVec 16 := crc16Run 0xFFFF#16 bs

/-- One byte into the CRC-8 register of the FJC, most significant bit first (R259). -/
def crcMsbStep8 : Nat → BitVec 8 → BitVec 8
  | 0, c => c
  | n + 1, c => crcMsbStep8 n (if c.getLsbD 7 then (c <<< 1) ^^^ 0x07#8 else c <<< 1)

/-- The CRC-8 of the FJC: generator x^8 + x^2 + x + 1, register from 0xFF, not inverted (R259). -/
def crc8Run (c : BitVec 8) : List Byte → BitVec 8
  | [] => c
  | b :: r => crc8Run (crcMsbStep8 8 (c ^^^ b)) r

/-- `later c b`: count `c` is later than count `b` in the serial order of R280. -/
def laterThan (c b : Word) : Bool := 1 ≤ (c - b).toNat && (c - b).toNat ≤ 2 ^ 31 - 1

end Sys2Proof.Machine
end

