-- ==== Sys2Proof/Machine/Store.lean ====
section
/-! DEFINITION. Sparse stores: registers, memories and per-instance state as lists of key and value
in one canonical form. Keys rise strictly and no entry equals what an unlisted key reads as, so
equal contents are equal lists. -/

namespace Sys2Proof.Machine

/-- A sparse store from keys to values. What an unlisted key reads as is given by each reader. -/
abbrev SMap (α : Type) := List (Nat × α)

/-- The value at key `k`; `d` says what an unlisted key reads as. -/
def SMap.get {α : Type} (d : Nat → α) : SMap α → Nat → α
  | [], k => d k
  | e :: r, k => if e.1 = k then e.2 else SMap.get d r k

/-- The store with every entry of key `k` taken out. -/
def SMap.del {α : Type} (k : Nat) : SMap α → SMap α
  | [] => []
  | e :: r => if e.1 = k then SMap.del k r else e :: SMap.del k r

/-- The store with an entry for key `k`, placed in rising order. -/
def SMap.put {α : Type} (k : Nat) (v : α) : SMap α → SMap α
  | [] => [(k, v)]
  | e :: r =>
    if k < e.1 then (k, v) :: e :: r
    else if k = e.1 then (k, v) :: r
    else e :: SMap.put k v r

/-- Writing key `k`: a value equal to what the key reads as unlisted removes the entry. -/
def SMap.set {α : Type} [DecidableEq α] (d : Nat → α) (m : SMap α) (k : Nat) (v : α) : SMap α :=
  if v = d k then SMap.del k m else SMap.put k v m

/-- Every key is at least `lo`, keys rise strictly, and no entry equals its default. -/
def SMap.wfFrom {α : Type} [DecidableEq α] (d : Nat → α) : Nat → SMap α → Bool
  | _, [] => true
  | lo, e :: r => decide (lo ≤ e.1) && decide (e.2 ≠ d e.1) && SMap.wfFrom d (e.1 + 1) r

/-- The canonical form of a store. -/
def SMap.wf {α : Type} [DecidableEq α] (d : Nat → α) (m : SMap α) : Bool := SMap.wfFrom d 0 m

/-- Byte memory: the LPDDR5X behind the CXL.mem windows, the command window, host memory. -/
abbrev Memory := List Host.Cell

/-- What a byte that nothing has written reads as: 0. DESIGN CHOICE (log 3) for scratch and the
command window; R91 states it for the log windows. -/
def Memory.blank (_ : Nat) : Byte := 0#8

/-- The byte at an address. -/
def Memory.byteAt (m : Memory) (a : Nat) : Byte := SMap.get Memory.blank m a

/-- Memory with one byte written. -/
def Memory.writeByte (m : Memory) (a : Nat) (b : Byte) : Memory := SMap.set Memory.blank m a b

/-- Memory with bytes written at rising addresses from `a`. -/
def Memory.writeBytes (m : Memory) (a : Nat) : List Byte → Memory
  | [] => m
  | b :: r => Memory.writeBytes (Memory.writeByte m a b) (a + 1) r

/-- `n` bytes read at rising addresses from `a`. -/
def Memory.readBytes (m : Memory) (a : Nat) : Nat → List Byte
  | 0 => []
  | n + 1 => Memory.byteAt m a :: Memory.readBytes m (a + 1) n

/-- The little-endian word at `a` (R7). -/
def Memory.readWord (m : Memory) (a : Nat) : Word :=
  Memory.byteAt m (a + 3) ++ Memory.byteAt m (a + 2) ++ Memory.byteAt m (a + 1) ++ Memory.byteAt m a

/-- Memory with a little-endian word written at `a` (R7). -/
def Memory.writeWord (m : Memory) (a : Nat) (w : Word) : Memory := Memory.writeBytes m a (wordBytes w)

/-- Memory with words written at rising addresses from `a` (R7). -/
def Memory.writeWords (m : Memory) (a : Nat) (ws : List Word) : Memory :=
  Memory.writeBytes m a (bytesOfWords ws)

/-- `n` words read at rising addresses from `a`. -/
def Memory.readWords (m : Memory) (a : Nat) : Nat → List Word
  | 0 => []
  | n + 1 => Memory.readWord m a :: Memory.readWords m (a + 4) n

/-- The addresses from `a` to `a + n - 1` set back to what an unlisted byte reads as. -/
def Memory.clearFrom (m : Memory) (a n : Nat) : Memory :=
  m.filter fun e => e.1 < a || a + n ≤ e.1

/-- The canonical form of a memory. -/
def Memory.wf (m : Memory) : Bool := SMap.wf Memory.blank m

end Sys2Proof.Machine
end

