-- ==== Sys2Proof/Machine/Regs.lean ====
section
/-! DEFINITION. The register space: block map, partial decoding and aliases (R105, R113 to R117,
R140) and the register tables of every block, written from the spec's own register tables. -/

namespace Sys2Proof.Machine

/-- How a register word behaves beyond its field access codes (R13). -/
inductive RegKind where
  /-- Fields act by their access codes; the value in force is stored. -/
  | plain
  /-- Reads are computed from other state; nothing is stored. -/
  | calc
  /-- The value word of a guarded register (R126). -/
  | guardVal
  /-- The complement word of a guarded register (R126). -/
  | guardCpl
  /-- A thimble (R132). -/
  | thimble
  deriving DecidableEq, Repr

/-- One register word: its reset value and the mask of its bits under each access code (R13). Bits
under no mask are RO or reserved. -/
structure RegInfo where
  nm    : String
  reset : Word
  rw    : Word
  w1c   : Word
  sh    : Word
  lk    : Word
  wo    : Word
  /-- Bits at which another SH field begins inside a run of SH bits (R12, R169). -/
  splits : Word
  kind  : RegKind
  /-- Words of the register this word belongs to, and this word's place in it (R111). -/
  words : Nat
  idx   : Nat
  deriving DecidableEq, Repr

/-- One row of a register table: `count` registers of `words` words each, `stride` bytes apart. -/
structure RegRow where
  nm     : String
  at_    : Nat
  words  : Nat := 1
  count  : Nat := 1
  stride : Nat := 4
  rst    : List Word := []
  rw     : Word := 0#32
  w1c    : Word := 0#32
  sh     : Word := 0#32
  lk     : Word := 0#32
  wo     : Word := 0#32
  splits : Word := 0#32
  /-- RW and SH masks of the words after the first, where they differ. -/
  upper  : Option (Word × Word) := none
  /-- The WO mask of the words after the first, where it differs. -/
  woUp   : Option Word := none
  kind   : RegKind := .plain
  deriving DecidableEq, Repr

/-- Every bit of a word. -/
def full : Word := BitVec.allOnes 32

/-- The word of a row at byte offset `o` of its table, if the row covers it. -/
def RegRow.find? (row : RegRow) (o : Nat) : Option RegInfo :=
  if o < row.at_ then none
  else
    let d := o - row.at_
    let k := d / row.stride
    let w := d % row.stride / 4
    if k < row.count ∧ w < row.words then
      let hi := row.upper.getD (row.rw, row.sh)
      some { nm := row.nm, reset := row.rst.getD w 0#32, rw := if w = 0 then row.rw else hi.1,
             w1c := row.w1c, sh := if w = 0 then row.sh else hi.2, lk := row.lk,
             wo := if w = 0 then row.wo else row.woUp.getD row.wo, splits := row.splits, kind := row.kind, words := row.words, idx := w }
    else none

/-- The first row of a table that covers offset `o`. -/
def findRow : List RegRow → Nat → Option RegInfo
  | [], _ => none
  | row :: r, o => (row.find? o).or (findRow r o)

/-- GLOBAL (R141). -/
def globalRows : List RegRow :=
  [ { nm := "DEVICE", at_ := 0x000,
      rst := [0x9648B000#32 ||| (if Config.isEA then 2#32 else 1#32)] },
    { nm := "IDENTITY", at_ := 0x004 },
    { nm := "SERIAL", at_ := 0x008, words := 2, stride := 8,
      rst := [loWord Config.serial, hiWord Config.serial] },
    { nm := "STRAPS", at_ := 0x010 },
    { nm := "MODE_STATUS", at_ := 0x020, rst := [0x110#32], kind := .calc },
    { nm := "MODE_TIME", at_ := 0x024, kind := .calc },
    { nm := "DRAIN_TIMEOUT", at_ := 0x028, rst := [0x03E8#32], sh := bitsMask 15 0 },
    { nm := "STITCH_STATUS", at_ := 0x030, kind := .calc },
    { nm := "STITCH_COUNT", at_ := 0x034 },
    { nm := "LOCKS", at_ := 0x038, lk := bitsMask 1 0 },
    { nm := "STEER", at_ := 0x040, rst := [1000#32], sh := bitsMask 31 31 ||| bitsMask 26 0, count := 2 },
    { nm := "STEER", at_ := 0x048, rst := [100000#32], sh := bitsMask 31 31 ||| bitsMask 26 0 },
    { nm := "STEER", at_ := 0x04C, rst := [2000#32], sh := bitsMask 31 31 ||| bitsMask 26 0 },
    { nm := "STEER", at_ := 0x050, rst := [50000#32], sh := bitsMask 31 31 ||| bitsMask 26 0 },
    { nm := "STEER", at_ := 0x054, rst := [10000000#32], sh := bitsMask 31 31 ||| bitsMask 26 0 },
    { nm := "STEER", at_ := 0x058, rst := [10000#32], sh := bitsMask 31 31 ||| bitsMask 26 0 },
    { nm := "STEER", at_ := 0x05C, rst := [100000#32], sh := bitsMask 31 31 ||| bitsMask 26 0 },
    { nm := "STEER", at_ := 0x060, rst := [1000000#32], sh := bitsMask 31 31 ||| bitsMask 26 0, count := 3 },
    { nm := "STEER", at_ := 0x06C, rst := [100000#32], sh := bitsMask 31 31 ||| bitsMask 26 0 },
    { nm := "STEER", at_ := 0x070, rst := [10000#32], sh := bitsMask 31 31 ||| bitsMask 26 0 },
    { nm := "STEER", at_ := 0x074, rst := [20#32], sh := bitsMask 31 31 ||| bitsMask 26 0 },
    { nm := "STEER", at_ := 0x078, rst := [10#32], sh := bitsMask 31 31 ||| bitsMask 26 0 },
    { nm := "STEER", at_ := 0x07C, rst := [1000#32], sh := bitsMask 31 31 ||| bitsMask 26 0 },
    { nm := "STEER_MISSED", at_ := 0x080, count := 16 },
    { nm := "SCRATCH", at_ := 0x100, count := 4, rw := full } ]

/-- GUARD (R142). -/
def guardRows : List RegRow :=
  [ { nm := "PENDING", at_ := 0x00, kind := .calc },
    { nm := "GFAIL_ADDR", at_ := 0x04 },
    { nm := "GFAIL_INFO", at_ := 0x08, w1c := bitsMask 31 31 },
    { nm := "GFAIL_COUNT", at_ := 0x0C },
    { nm := "LOCKV_ADDR", at_ := 0x10 },
    { nm := "LOCKV_INFO", at_ := 0x14, w1c := bitsMask 31 31 },
    { nm := "LOCKV_COUNT", at_ := 0x18 },
    { nm := "ACCESS_ADDR", at_ := 0x20 },
    { nm := "ACCESS_INFO", at_ := 0x24, w1c := bitsMask 31 31 },
    { nm := "ACCESS_COUNT", at_ := 0x28 },
    { nm := "CAUSE", at_ := 0x30, w1c := bitsMask 2 0 },
    { nm := "CAUSE_EN", at_ := 0x34, rw := bitsMask 2 0 } ]

/-- THIMBLE (R143). -/
def thimbleRows : List RegRow :=
  [ { nm := "THIMBLE", at_ := 0x000, count := 64, rst := [0x10#32], kind := .thimble },
    { nm := "PEEK", at_ := 0x100, count := 64, rst := [0x10#32], kind := .calc },
    { nm := "BREAK", at_ := 0x200, kind := .guardVal },
    { nm := "BREAK_CPL", at_ := 0x204, rst := [full], kind := .guardCpl },
    { nm := "ACQ_COUNT", at_ := 0x210 },
    { nm := "REL_COUNT", at_ := 0x214 },
    { nm := "BREAK_COUNT", at_ := 0x218 },
    { nm := "RESET_COUNT", at_ := 0x21C } ]

/-- MAILBOX, 16 bytes a mailbox (R181). -/
def mailboxRows : List RegRow :=
  [ { nm := "DATA", at_ := 0x0, rw := full },
    { nm := "STAT", at_ := 0x4, w1c := bitsMask 2 1 },
    { nm := "PEEK", at_ := 0x8, kind := .calc },
    { nm := "CTRL", at_ := 0xC, rw := bitsMask 0 0 } ]

/-- CMDQ (R178). -/
def cmdqRows : List RegRow :=
  [ { nm := "DOORBELL", at_ := 0x000, wo := bitsMask 25 16 ||| bitsMask 9 0 },
    { nm := "RING_BASE", at_ := 0x008, words := 2, stride := 8, rw := full },
    { nm := "RING_CFG", at_ := 0x010, rst := [10#32], rw := bitsMask 31 31 ||| bitsMask 4 0 },
    { nm := "REPLY_PROD", at_ := 0x014 },
    { nm := "REPLY_CONS", at_ := 0x018, rw := full },
    { nm := "INFLIGHT", at_ := 0x020, kind := .calc },
    { nm := "HELD", at_ := 0x024, kind := .calc },
    { nm := "UNDELIVERED", at_ := 0x028, kind := .calc },
    { nm := "DUP_DOORBELL", at_ := 0x030 },
    { nm := "DOORBELL_DROP", at_ := 0x034 },
    { nm := "SLOT_WRITE_DROP", at_ := 0x038 },
    { nm := "EARLY_WRITE", at_ := 0x03C },
    { nm := "ABORT_REQ", at_ := 0x040, wo := bitsMask 9 0 },
    { nm := "ABORT_LAST", at_ := 0x044 },
    { nm := "TAG_MAP", at_ := 0x080, count := 32, kind := .calc } ]

/-- EVENT (R144, R146). -/
def eventRows : List RegRow :=
  [ { nm := "GROUP_PEND", at_ := 0x000, kind := .calc },
    { nm := "GROUP_EN", at_ := 0x004, rw := bitsMask 11 0 },
    { nm := "HOLDOFF", at_ := 0x040, count := 12, rw := bitsMask 9 0 },
    { nm := "DEC_REC", at_ := 0x100, words := 4, stride := 16, kind := .calc },
    { nm := "DEC_ANSWER", at_ := 0x110, words := 2, stride := 8, wo := full,
      woUp := some (bitsMask 31 31 ||| bitsMask 4 0) },
    { nm := "DEC_OPEN", at_ := 0x118, kind := .calc },
    { nm := "DEC_QUEUED", at_ := 0x11C, kind := .calc },
    { nm := "DEC_LOST", at_ := 0x120 },
    { nm := "LATE_ANSWER", at_ := 0x124 },
    { nm := "INVALID_ANSWER", at_ := 0x128 } ]

/-- CLASS and GROUP of POWER.PD[n] (R522), as the register's reset word (R529). -/
def pdReset (n : Nat) : Word :=
  let cg : Nat × Nat :=
    if n < 48 then (1, 0) else if n < 54 then (0, 0) else if n < 102 then (1, 1)
    else if n < 108 then (0, 1) else if n < 114 then (0, 2) else if n < 115 then (0, 3)
    else if n < 121 then (0, 4) else if n < 129 then (2, 5) else if n < 137 then (0, 5)
    else if n < 145 then (1, 6) else (0, 7)
  BitVec.ofNat 32 (cg.1 * 2 ^ 28 + cg.2 * 2 ^ 24)

/-- POWER, but for PD[n] (R529). -/
def powerRows : List RegRow :=
  [ { nm := "STATUS", at_ := 0x000, kind := .calc },
    { nm := "P_IN", at_ := 0x004 },
    { nm := "HOLDUP", at_ := 0x008 },
    { nm := "WAKE_TOL", at_ := 0x010, count := 8, sh := bitsMask 17 0 },
    { nm := "PD_RESET", at_ := 0x040, kind := .guardVal },
    { nm := "PD_RESET_CPL", at_ := 0x044, rst := [full], kind := .guardCpl },
    { nm := "RESET_LAST", at_ := 0x048 },
    { nm := "HIST", at_ := 0x050, w1c := bitsMask 2 0, rw := bitsMask 31 31 },
    { nm := "LOSS_COUNT", at_ := 0x054, kind := .calc },
    { nm := "LAST_GASP", at_ := 0x060, count := 8, kind := .calc } ]

/-- FABRIC, but for SELV[i] (R465). -/
def fabricRows : List RegRow :=
  [ { nm := "NO_PATH", at_ := 0x000 },
    { nm := "ORPHAN", at_ := 0x004 },
    { nm := "SIDE_WAIT", at_ := 0x008 },
    { nm := "HIST", at_ := 0x00C, w1c := bitsMask 1 0, rw := bitsMask 31 31 },
    { nm := "SELV_STATE", at_ := 0x040, count := 29, stride := 32 },
    { nm := "SELV_REQ", at_ := 0x044, count := 29, stride := 32 },
    { nm := "SELV_REPLY", at_ := 0x048, count := 29, stride := 32 },
    { nm := "SELV_ABORT_CLEAN", at_ := 0x04C, count := 29, stride := 32 },
    { nm := "SELV_ABORT_FAULT", at_ := 0x050, count := 29, stride := 32 },
    { nm := "SELV_FENCES", at_ := 0x054, count := 29, stride := 32 },
    { nm := "SELV_CREDIT_RECLAIM", at_ := 0x058, count := 29, stride := 32 } ]

/-- CRC, 32 bytes a unit (R466). -/
def crcRows : List RegRow :=
  [ { nm := "CFG", at_ := 0x00, rw := bitsMask 31 31 ||| bitsMask 5 4 ||| bitsMask 1 0,
      wo := bitsMask 30 30 },
    { nm := "SEL", at_ := 0x04, rw := bitsMask 15 0 },
    { nm := "WIN_BASE", at_ := 0x08, rw := full },
    { nm := "WIN_LIMIT", at_ := 0x0C, rw := full, rst := [full] },
    { nm := "VALUE", at_ := 0x10, rw := full, rst := [full] },
    { nm := "RESULT", at_ := 0x14 },
    { nm := "COUNT", at_ := 0x18, rw := full },
    { nm := "STATUS", at_ := 0x1C } ]

/-- LEDGER (R467). -/
def ledgerRows : List RegRow :=
  [ { nm := "CFG", at_ := 0x000, rst := [0x00A#32], sh := bitsMask 11 0 },
    { nm := "CKPT", at_ := 0x004, rst := [0x384#32], sh := bitsMask 16 0 },
    { nm := "STATUS", at_ := 0x008 },
    { nm := "AUDIT_SERIAL", at_ := 0x00C },
    { nm := "CKPT_SERIAL", at_ := 0x010, kind := .calc },
    { nm := "IMBALANCES", at_ := 0x014 },
    { nm := "LAST_IMBAL", at_ := 0x018 },
    { nm := "FAULT_LOSSES", at_ := 0x01C },
    { nm := "HIST", at_ := 0x020, w1c := bitsMask 2 0, rw := bitsMask 31 31 },
    { nm := "SEL", at_ := 0x040, rw := bitsMask 15 0 },
    { nm := "SEL_INFO", at_ := 0x044, kind := .calc },
    { nm := "TERM", at_ := 0x080, words := 2, count := 32, stride := 8, kind := .calc },
    { nm := "TERM_TAG", at_ := 0x200, count := 32, kind := .calc } ]

/-- MEMCTL (R94, R489). -/
def memctlRows : List RegRow :=
  [ { nm := "STATUS", at_ := 0x000, kind := .calc },
    { nm := "CORR_COUNT", at_ := 0x004 },
    { nm := "UNCORR_COUNT", at_ := 0x008 },
    { nm := "SPARE_USED", at_ := 0x00C },
    { nm := "HIST", at_ := 0x010, w1c := bitsMask 3 0, rw := bitsMask 31 31 },
    { nm := "CXLMEM_CFG", at_ := 0x100, sh := bitsMask 7 0 },
    { nm := "CXLMEM_DISCARD", at_ := 0x104 },
    { nm := "CH", at_ := 0x200, count := 64, rst := [0x10000000#32] } ]

/-- BACKGROUND (R488). -/
def backgroundRows : List RegRow :=
  [ { nm := "SCRUB_PASS", at_ := 0x000 },
    { nm := "SCRUB_POS", at_ := 0x004 },
    { nm := "SRAM_SCRUB", at_ := 0x008 },
    { nm := "JOURNAL", at_ := 0x010, kind := .calc },
    { nm := "JWEAR_MAX", at_ := 0x014, kind := .calc },
    { nm := "JWEAR_MIN", at_ := 0x018, kind := .calc },
    { nm := "TEMP_THR", at_ := 0x020, sh := full,
      rst := [if Config.isEA then 0x064005A0#32 else 0x05A00500#32] },
    { nm := "VIN_THR", at_ := 0x024, sh := full, rst := [0x9C401964#32] },
    { nm := "ALERT_EN", at_ := 0x028, rw := bitsMask 15 0 },
    { nm := "CROSSING", at_ := 0x02C },
    { nm := "HIST", at_ := 0x030, w1c := bitsMask 4 0, rw := bitsMask 31 31 },
    { nm := "FAULT_LAST", at_ := 0x040 },
    { nm := "FAULT_COUNT", at_ := 0x044 },
    { nm := "FAULT_DETAIL", at_ := 0x048 },
    { nm := "TEST_STATUS", at_ := 0x050 },
    { nm := "TRACE_MASK", at_ := 0x060, sh := bitsMask 18 16 ||| bitsMask 11 0 },
    { nm := "TRACE_PROD", at_ := 0x064 },
    { nm := "TRACE_DROP", at_ := 0x068 },
    { nm := "SENSOR", at_ := 0x080, count := 16 } ]

/-- SECURITY (R506). -/
def securityRows : List RegRow :=
  [ { nm := "FW_STATUS", at_ := 0x000, kind := .calc },
    { nm := "FW_RUNNING", at_ := 0x004, kind := .calc },
    { nm := "FW_OTHER", at_ := 0x008, kind := .calc },
    { nm := "SVN", at_ := 0x00C, kind := .calc },
    { nm := "LOCKS", at_ := 0x010, lk := bitsMask 3 0 },
    { nm := "SLOT_LOCK", at_ := 0x040, count := 16, lk := bitsMask 15 0 },
    { nm := "SLOT_MAP", at_ := 0x080, count := 8, kind := .calc },
    { nm := "KEY_SEL", at_ := 0x0A0, rw := bitsMask 7 0 },
    { nm := "KEY_INFO", at_ := 0x0A4, kind := .calc },
    { nm := "KEY_TAG", at_ := 0x0A8, kind := .calc },
    { nm := "HIST", at_ := 0x0B0, w1c := bitsMask 3 0, rw := bitsMask 31 31 },
    { nm := "COUNTS", at_ := 0x0B4 } ]

/-- CIRUMLINK (R439). -/
def cirumlinkRows : List RegRow :=
  [ { nm := "CFG", at_ := 0x00, count := 2, stride := 0x80, rst := [0x40000000#32],
      sh := bitsMask 31 30 ||| bitsMask 3 0 },
    { nm := "STATUS", at_ := 0x04, count := 2, stride := 0x80 },
    { nm := "CTRL", at_ := 0x08, count := 2, stride := 0x80, wo := bitsMask 0 0 },
    { nm := "SLOT_BAD", at_ := 0x0C, count := 2, stride := 0x80 },
    { nm := "SLOT_MISMATCH", at_ := 0x10, count := 2, stride := 0x80 },
    { nm := "LEVEL_CHG", at_ := 0x14, count := 2, stride := 0x80 },
    { nm := "RING", at_ := 0x100, sh := bitsMask 2 0 },
    { nm := "TWIN", at_ := 0x104, sh := bitsMask 31 28 ||| bitsMask 15 0 },
    { nm := "TWIN_ASYM", at_ := 0x108, words := 2, stride := 8, sh := full },
    { nm := "TWIN_STATUS", at_ := 0x110 },
    { nm := "MIRROR_SEQ", at_ := 0x114 },
    { nm := "MIRROR_ACK", at_ := 0x118 },
    { nm := "HIST", at_ := 0x11C, w1c := bitsMask 1 0, rw := bitsMask 31 31 },
    { nm := "SPEED", at_ := 0x120, rst := [0x02810000#32], sh := bitsMask 31 22 ||| bitsMask 17 0 },
    { nm := "SLOT", at_ := 0x204, count := 63,
      sh := bitsMask 31 31 ||| bitsMask 17 16 ||| bitsMask 2 0 } ]

/-- DOMAIN (R440). -/
def domainRows : List RegRow :=
  [ { nm := "NODE_ID", at_ := 0x000, sh := bitsMask 15 0 },
    { nm := "CFG", at_ := 0x004, rst := [0xC0000020#32],
      sh := bitsMask 31 30 ||| bitsMask 25 16 ||| bitsMask 7 0 },
    { nm := "ROUTE_SEL", at_ := 0x008, rw := bitsMask 15 0 },
    { nm := "ROUTE_VAL", at_ := 0x00C, kind := .calc },
    { nm := "SERIAL", at_ := 0x010 },
    { nm := "DROPS", at_ := 0x020, count := 8 } ]

/-- TIMEKEEPER (R347). -/
def timekeeperRows : List RegRow :=
  [ { nm := "CFG", at_ := 0x000, rst := [0x10000032#32], sh := bitsMask 31 28 ||| bitsMask 13 0 },
    { nm := "PULL_LIMIT", at_ := 0x004, rst := [0x64#32], sh := bitsMask 19 0 },
    { nm := "SELECT", at_ := 0x008, rst := [0x50000000#32] },
    { nm := "DRIFT_THR", at_ := 0x00C, rst := [0xC8#32], sh := bitsMask 15 0 },
    { nm := "STATUS", at_ := 0x010, rst := [0x10#32] },
    { nm := "HIST", at_ := 0x014, w1c := bitsMask 8 0, rw := bitsMask 31 31 },
    { nm := "CTRL", at_ := 0x018, wo := bitsMask 0 0 },
    { nm := "TIME", at_ := 0x020, words := 3, stride := 12, kind := .calc },
    { nm := "FREQ", at_ := 0x030, words := 2, stride := 8 },
    { nm := "CAL", at_ := 0x038, words := 2, stride := 8 },
    { nm := "PLEAT_SUM", at_ := 0x040, words := 2, stride := 8 },
    { nm := "SLEW_LEFT", at_ := 0x048, words := 2, stride := 8 },
    { nm := "PULL_LEFT", at_ := 0x050, words := 2, stride := 8 },
    { nm := "TE", at_ := 0x058, words := 2, stride := 8 },
    { nm := "UTC", at_ := 0x060, rw := bitsMask 31 31 ||| bitsMask 18 17 ||| bitsMask 15 0 },
    { nm := "TEMP", at_ := 0x064 },
    { nm := "COUNTS", at_ := 0x070 },
    { nm := "STEPS", at_ := 0x074 },
    { nm := "LEARN", at_ := 0x078 } ]

/-- REFMON, 128 bytes a reference (R348). -/
def refmonRows : List RegRow :=
  [ { nm := "CFG", at_ := 0x00, rst := [0x0F00400A#32],
      sh := bitsMask 31 24 ||| bitsMask 22 16 ||| bitsMask 15 0 },
    { nm := "BW", at_ := 0x04, sh := bitsMask 13 0 },
    { nm := "FREQ_LIM", at_ := 0x08, rst := [0x039801CC#32], sh := full },
    { nm := "ACT", at_ := 0x0C, rst := [0x304#32], sh := bitsMask 11 8 ||| bitsMask 5 0 },
    { nm := "NOMINAL", at_ := 0x10, words := 2, stride := 8, rst := [0x96800000#32, 0x98#32], sh := full },
    { nm := "DELAY", at_ := 0x18, words := 2, stride := 8, sh := full },
    { nm := "STATE", at_ := 0x20 },
    { nm := "HIST", at_ := 0x24, w1c := bitsMask 6 0, rw := bitsMask 31 31 },
    { nm := "CTRL", at_ := 0x28, rw := bitsMask 0 0 },
    { nm := "FREQ", at_ := 0x30, words := 2, stride := 8 },
    { nm := "DRIFT", at_ := 0x38, words := 2, stride := 8 },
    { nm := "PHASE", at_ := 0x40, words := 2, stride := 8 },
    { nm := "COUNTS", at_ := 0x48 },
    { nm := "WINDOWS", at_ := 0x4C } ]

/-- TSTAMP, 64 bytes a client port, below 0xC00 (R377). -/
def tstampRows : List RegRow :=
  [ { nm := "CFG", at_ := 0x00, rst := [0x80#32], sh := bitsMask 31 26 ||| bitsMask 7 0 },
    { nm := "SPILL", at_ := 0x04, rst := [0x00400180#32], sh := bitsMask 24 16 ||| bitsMask 8 0 },
    { nm := "ASYM", at_ := 0x08, words := 2, stride := 8, sh := full },
    { nm := "STATUS", at_ := 0x10 },
    { nm := "SERIAL", at_ := 0x14 },
    { nm := "SPILL_PROD", at_ := 0x18 },
    { nm := "SPILL_CONS", at_ := 0x1C, rw := full },
    { nm := "FIFO_POP", at_ := 0x20, words := 8, stride := 32, kind := .calc } ]

/-- TSTAMP common registers (R377). -/
def tstampCommonRows : List RegRow :=
  [ { nm := "LOST", at_ := 0xC00, count := 48 },
    { nm := "PTP_DROP", at_ := 0xCC0, count := 48 },
    { nm := "PTP_CFG", at_ := 0xD80, rst := [0x8018#32], sh := bitsMask 31 31 ||| bitsMask 15 0 },
    { nm := "SRC_UNC", at_ := 0xD88, words := 2, stride := 8, sh := full },
    { nm := "HIST", at_ := 0xD90, w1c := bitsMask 3 0, rw := bitsMask 31 31 } ]

/-- OUTCLK (R349). -/
def outclkRows : List RegRow :=
  [ { nm := "OCK_CFG", at_ := 0x000, count := 4, stride := 64, sh := bitsMask 31 29 },
    { nm := "OCK_FREQ", at_ := 0x008, count := 4, stride := 64, words := 2,
      rst := [0x96800000#32, 0x98#32], sh := full },
    { nm := "OCK_PHASE", at_ := 0x010, count := 4, stride := 64, words := 2, sh := full },
    { nm := "OCK_STATUS", at_ := 0x018, count := 4, stride := 64 },
    { nm := "PPS_CFG", at_ := 0x100, count := 2, stride := 64, rst := [0x100186A0#32],
      sh := bitsMask 31 25 ||| bitsMask 19 0 },
    { nm := "PPS_PHASE", at_ := 0x110, count := 2, stride := 64, words := 2, sh := full },
    { nm := "PPS_STATUS", at_ := 0x118, count := 2, stride := 64 },
    { nm := "TOD_COUNT", at_ := 0x11C, count := 2, stride := 64 } ]

/-- LINE, one block a port (R219). -/
def lineRows : List RegRow :=
  [ { nm := "CFG", at_ := 0x000, rst := [0x01000A00#32],
      sh := bitsMask 31 31 ||| bitsMask 27 24 ||| bitsMask 21 16 ||| bitsMask 11 9 },
    { nm := "RX_GID", at_ := 0x004, sh := bitsMask 19 0 },
    { nm := "TX_GID", at_ := 0x008, sh := bitsMask 19 0 },
    { nm := "TX_PID", at_ := 0x00C, rst := [1#32], sh := bitsMask 7 0 },
    { nm := "ALIGN", at_ := 0x010, rst := [8#32] },
    { nm := "ALIGN_OFFSET", at_ := 0x014 },
    { nm := "RX_GID_SEEN", at_ := 0x018 },
    { nm := "DEFECT", at_ := 0x020 },
    { nm := "DEFECT_HIST", at_ := 0x024, w1c := bitsMask 7 0 },
    { nm := "DEFECT_EN", at_ := 0x028, rw := bitsMask 7 0 },
    { nm := "OOF_COUNT", at_ := 0x030 },
    { nm := "AMBIG_COUNT", at_ := 0x034 },
    { nm := "CAND_OVERFLOW", at_ := 0x038 },
    { nm := "OH_CRC_ERR", at_ := 0x03C },
    { nm := "RX_LAT", at_ := 0x040, words := 2, stride := 8 },
    { nm := "TX_LAT", at_ := 0x048, words := 2, stride := 8 },
    { nm := "LAT_SEQ", at_ := 0x050 },
    { nm := "SKEW", at_ := 0x060, count := 8 },
    { nm := "MEMBER", at_ := 0x080, count := 8 },
    { nm := "CAND", at_ := 0x100, count := 16 } ]

/-- A lane's registers, 512 bytes a lane; `client` adds SKEW (R220, R405). -/
def laneRows (client : Bool) : List RegRow :=
  [ { nm := "CFG", at_ := 0x000, sh := bitsMask 31 31 ||| bitsMask 1 0 },
    { nm := "TX_EQ", at_ := 0x004, rst := [0x003C3000#32],
      sh := bitsMask 29 24 ||| bitsMask 21 16 ||| bitsMask 13 8 ||| bitsMask 5 0 },
    { nm := "CTRL", at_ := 0x008, wo := bitsMask 0 0 },
    { nm := "STATUS", at_ := 0x010 },
    { nm := "STATUS_HIST", at_ := 0x014, w1c := bitsMask 5 0 },
    { nm := "CW_TOTAL", at_ := 0x020, words := 2, stride := 8 },
    { nm := "CW_CORR", at_ := 0x028, words := 2, stride := 8 },
    { nm := "CW_UNCORR", at_ := 0x030, words := 2, stride := 8 },
    { nm := "SYM_CORR", at_ := 0x038, words := 2, stride := 8 },
    { nm := "BIT_CORR", at_ := 0x040, words := 2, stride := 8 },
    { nm := "FEC_DEG_THR", at_ := 0x048, sh := full },
    { nm := "RX_LAT", at_ := 0x050, words := 2, stride := 8 },
    { nm := "TX_LAT", at_ := 0x058, words := 2, stride := 8 },
    { nm := "FREQ_OFFSET", at_ := 0x060, words := 2, stride := 8 },
    { nm := "SKEW", at_ := 0x068, words := 2, stride := 8, count := client.toNat } ]

/-- A tributary context, 64 bytes (R274). -/
def tribRows : List RegRow :=
  [ { nm := "CFG", at_ := 0x00, sh := bitsMask 31 23 ||| bitsMask 9 0 },
    { nm := "RUNS_A", at_ := 0x04, sh := full },
    { nm := "RUNS_B", at_ := 0x08, sh := full },
    { nm := "TPN", at_ := 0x0C, sh := bitsMask 15 0 },
    { nm := "DEST", at_ := 0x10, sh := bitsMask 31 30 ||| bitsMask 9 0 },
    { nm := "STATUS", at_ := 0x14 },
    { nm := "STATUS_HIST", at_ := 0x18, w1c := bitsMask 2 0, rw := bitsMask 31 31 },
    { nm := "RX_C", at_ := 0x1C },
    { nm := "TX_C", at_ := 0x20 },
    { nm := "JC_BAD", at_ := 0x24 },
    { nm := "FJC_MAJ", at_ := 0x28 },
    { nm := "COUNTS", at_ := 0x2C },
    { nm := "MAP_LAT", at_ := 0x30, words := 2, stride := 8 },
    { nm := "DEMAP_LAT", at_ := 0x38, words := 2, stride := 8 } ]

/-- A seam group, 64 bytes (R308). -/
def seamRows : List RegRow :=
  [ { nm := "CFG", at_ := 0x00, rst := [0x20002710#32], sh := bitsMask 31 25 ||| bitsMask 15 0 },
    { nm := "END", at_ := 0x04, sh := bitsMask 31 30 ||| bitsMask 9 0 },
    { nm := "LEGS", at_ := 0x08, sh := bitsMask 29 0 },
    { nm := "PEER", at_ := 0x0C, sh := bitsMask 24 0 },
    { nm := "TIMERS", at_ := 0x10, rst := [0x00050000#32], sh := bitsMask 25 16 ||| bitsMask 11 0 },
    { nm := "STATUS", at_ := 0x14 },
    { nm := "HIST", at_ := 0x18, w1c := bitsMask 6 0, rw := bitsMask 31 31 },
    { nm := "MATCHED", at_ := 0x1C },
    { nm := "HOLD", at_ := 0x20, count := 3 },
    { nm := "TX_COUNT", at_ := 0x2C },
    { nm := "RX_COUNT", at_ := 0x30 },
    { nm := "SAVED", at_ := 0x34 },
    { nm := "LAT_SEQ", at_ := 0x38 },
    { nm := "GAPS", at_ := 0x3C } ]

/-- A client MAC, 256 bytes, with the R-TAG registers at 0x0C0 (R309, R406). -/
def macRows : List RegRow :=
  [ { nm := "CFG", at_ := 0x000, rst := [0x2580#32], sh := bitsMask 31 28 ||| bitsMask 13 0 },
    { nm := "FILTER", at_ := 0x004, sh := bitsMask 31 28 },
    { nm := "STATUS", at_ := 0x008 },
    { nm := "HIST", at_ := 0x00C, w1c := bitsMask 4 0, rw := bitsMask 31 31 },
    { nm := "UCAST_LO", at_ := 0x010, count := 4, stride := 8, sh := full },
    { nm := "UCAST_HI", at_ := 0x014, count := 4, stride := 8, sh := bitsMask 31 31 ||| bitsMask 15 0 },
    { nm := "RULE", at_ := 0x030, count := 8, sh := bitsMask 31 27 ||| bitsMask 15 0 },
    { nm := "RX_LAT", at_ := 0x050, words := 2, stride := 8 },
    { nm := "TX_LAT", at_ := 0x058, words := 2, stride := 8 },
    { nm := "RX_FRAMES", at_ := 0x060, words := 2, stride := 8 },
    { nm := "RX_OCTETS", at_ := 0x068, words := 2, stride := 8 },
    { nm := "RX_FCS_ERR", at_ := 0x070 },
    { nm := "RX_UNDERSIZE", at_ := 0x074 },
    { nm := "RX_OVERSIZE", at_ := 0x078 },
    { nm := "RX_CONTROL", at_ := 0x07C },
    { nm := "TX_FRAMES", at_ := 0x080, words := 2, stride := 8 },
    { nm := "TX_OCTETS", at_ := 0x088, words := 2, stride := 8 },
    { nm := "FCS_STOMP", at_ := 0x090 },
    { nm := "MAP_OVERFLOW", at_ := 0x094 },
    { nm := "TAP_REMOVED", at_ := 0x098 },
    { nm := "TAP_PTP", at_ := 0x09C },
    { nm := "TAP_DELIVERED", at_ := 0x0A0 },
    { nm := "DROP_NO_BOBBIN", at_ := 0x0A4 },
    { nm := "DROP_NO_DESC", at_ := 0x0A8 },
    { nm := "DROP_STAGE_FULL", at_ := 0x0AC },
    { nm := "DROP_BAD", at_ := 0x0B0 },
    { nm := "DROP_DECLINED", at_ := 0x0B4 },
    { nm := "UNDECIDED", at_ := 0x0B8 },
    { nm := "LAT_SEQ", at_ := 0x0BC },
    { nm := "RTAG_CFG", at_ := 0x0C0, rst := [0x00020064#32],
      sh := bitsMask 31 25 ||| bitsMask 20 0 },
    { nm := "RTAG_GEN", at_ := 0x0C4 },
    { nm := "RTAG_PASSED", at_ := 0x0C8 },
    { nm := "RTAG_DISCARD", at_ := 0x0CC },
    { nm := "RTAG_LOST", at_ := 0x0D0 },
    { nm := "RTAG_MISC", at_ := 0x0D4 },
    { nm := "INJ_SENT", at_ := 0x0D8 },
    { nm := "INJ_TIMEOUT", at_ := 0x0DC },
    { nm := "INJ_INVALID", at_ := 0x0E0 } ]

/-- A client tap ring, 256 bytes (R407). -/
def tapRows : List RegRow :=
  [ { nm := "RX_BASE", at_ := 0x00, words := 2, stride := 8, rw := full },
    { nm := "RX_CFG", at_ := 0x08, rst := [10#32], rw := bitsMask 31 31 ||| bitsMask 11 8 ||| bitsMask 4 0 },
    { nm := "RX_PROD", at_ := 0x0C },
    { nm := "RX_CONS", at_ := 0x10, rw := full },
    { nm := "RX_IRQ", at_ := 0x14, rw := bitsMask 31 31 ||| bitsMask 9 0 },
    { nm := "STARVE", at_ := 0x18, rst := [0x32#32], rw := bitsMask 13 0 },
    { nm := "STAGE", at_ := 0x1C },
    { nm := "TX_BASE", at_ := 0x20, words := 2, stride := 8, rw := full },
    { nm := "TX_CFG", at_ := 0x28, rst := [10#32], rw := bitsMask 31 31 ||| bitsMask 4 0 },
    { nm := "TX_PROD", at_ := 0x2C, rw := full },
    { nm := "TX_CONS", at_ := 0x30 },
    { nm := "INJ_WAIT", at_ := 0x34, rst := [0x3E8#32], rw := bitsMask 19 0 },
    { nm := "RX_SEQ", at_ := 0x38 } ]

/-- A bobbin pool, 256 bytes from 0xC00 (R407). -/
def poolRows : List RegRow :=
  [ { nm := "BASE", at_ := 0x00, words := 2, stride := 8, rw := full },
    { nm := "CFG", at_ := 0x08, rst := [0x000B000A#32],
      rw := bitsMask 31 31 ||| bitsMask 19 16 ||| bitsMask 4 0 },
    { nm := "PROD", at_ := 0x0C, rw := full },
    { nm := "CONS", at_ := 0x10 },
    { nm := "ON_DIE", at_ := 0x14 },
    { nm := "EMPTY", at_ := 0x18 },
    { nm := "BAD_ENTRY", at_ := 0x1C },
    { nm := "FORFEIT", at_ := 0x20 } ]

/-- PM block 0x70, the common registers (R248). -/
def pmCommonRows : List RegRow :=
  [ { nm := "PM_CFG", at_ := 0x000, sh := bitsMask 31 31 ||| bitsMask 22 16 ||| bitsMask 9 0 },
    { nm := "DEG", at_ := 0x004, count := 2, rst := [0x07000000#32], sh := bitsMask 27 0 },
    { nm := "TTI_TX", at_ := 0x010, sh := bitsMask 30 0 },
    { nm := "HIST_LAST", at_ := 0x020, words := 2, stride := 8 },
    { nm := "BIN_SEQ", at_ := 0x028 },
    { nm := "PM_EVENT", at_ := 0x02C, w1c := bitsMask 0 0 },
    { nm := "SNAP_SEL", at_ := 0x030, rw := bitsMask 26 24 ||| bitsMask 22 16 ||| bitsMask 10 0 },
    { nm := "SNAP_REC", at_ := 0x040, count := 16 },
    { nm := "SNAP_TTI", at_ := 0x080, count := 16 },
    { nm := "SNAP_STAT", at_ := 0x0C0 },
    { nm := "SNAP_APS", at_ := 0x0D0, count := 8 },
    { nm := "APS_TX", at_ := 0x100, count := 64, stride := 8, words := 2,
      rw := bitsMask 31 31 ||| bitsMask 18 16 ||| bitsMask 10 0, upper := some (full, 0#32) },
    { nm := "SEC_LOST", at_ := 0x300 },
    { nm := "HOST_CLASS", at_ := 0x304 } ]

/-- POINT[q].CFG, 8 bytes a point in blocks 0x71 to 0x74 (R248). TCM fields act on TCM points only;
elsewhere they are reserved. -/
def pointCfgRows (tcm : Bool) : List RegRow :=
  [ { nm := "POINT_CFG", at_ := 0x0, words := 2, stride := 8, rst := [0x08000000#32],
      rw := bitsMask 26 26,
      sh := bitsMask 31 27 ||| bitsMask 25 22 |||
        (if tcm then bitsMask 21 21 ||| bitsMask 19 16 ||| bitsMask 9 0 else 0#32),
      splits := bitsMask 28 27 ||| bitsMask 24 24 ||| bitsMask 22 22, upper := some (0#32, full) } ]

/-- PM block 0x77, the summaries (R248). -/
def pmSumRows : List RegRow :=
  [ { nm := "DEF_SUM", at_ := 0x000, count := 64, kind := .calc },
    { nm := "TTI_CHG", at_ := 0x100, count := 64, w1c := full },
    { nm := "APS_CHG", at_ := 0x200, count := 64, w1c := full },
    { nm := "CHG_EN", at_ := 0x300, rw := bitsMask 1 0 } ]

/-- Block 0x78, 64 bytes a line port: OSMC and time exchange (R378). -/
def exchRows : List RegRow :=
  [ { nm := "CFG", at_ := 0x00, rst := [0x20000000#32],
      sh := bitsMask 31 29 ||| bitsMask 27 26 ||| bitsMask 23 0 },
    { nm := "PEER", at_ := 0x04, rst := [0x10000#32], sh := bitsMask 16 0 },
    { nm := "ASYM", at_ := 0x08, words := 2, stride := 8, sh := full },
    { nm := "STATUS", at_ := 0x10, rst := [0x00FF0000#32] },
    { nm := "HIST", at_ := 0x14, w1c := bitsMask 2 0, rw := bitsMask 31 31 },
    { nm := "OFFSET", at_ := 0x18, words := 2, stride := 8 },
    { nm := "MPD", at_ := 0x20, words := 2, stride := 8 },
    { nm := "PEER_ACC", at_ := 0x28, words := 2, stride := 8 },
    { nm := "AUTH_FAIL", at_ := 0x30 },
    { nm := "REPLAY", at_ := 0x34 },
    { nm := "RX_DROP", at_ := 0x38 },
    { nm := "TX_DROP", at_ := 0x3C } ]

/-- Block 0x79, 32 bytes a line port: GCC0 (R440). -/
def gccRows : List RegRow :=
  [ { nm := "CFG", at_ := 0x00, sh := bitsMask 31 31 },
    { nm := "RX_NOTES", at_ := 0x04 },
    { nm := "TX_NOTES", at_ := 0x08 },
    { nm := "RX_BAD", at_ := 0x0C } ]

/-- Block 0x79 common registers: the host note ring (R440). -/
def noteRingRows : List RegRow :=
  [ { nm := "NRX_BASE", at_ := 0x400, words := 2, stride := 8, rw := full },
    { nm := "NRX_CFG", at_ := 0x408, rst := [8#32], rw := bitsMask 31 31 ||| bitsMask 4 0 },
    { nm := "NRX_PROD", at_ := 0x40C },
    { nm := "NRX_CONS", at_ := 0x410, rw := full },
    { nm := "NRX_FULL", at_ := 0x414 } ]

/-- A register whose every field is RO or W1C as the POINT[q].DEFECT template says (R248). -/
def pointDefectInfo : RegInfo :=
  { nm := "POINT_DEFECT", reset := 0#32, rw := 0#32, w1c := bitsMask 31 16, sh := 0#32, lk := 0#32,
    wo := 0#32, splits := 0#32, kind := .plain, words := 1, idx := 0 }

/-- POWER.PD[n] (R529). -/
def pdInfo (n : Nat) : RegInfo :=
  { nm := "PD", reset := pdReset n, rw := 0#32, w1c := 0#32, sh := 0#32, lk := 0#32, wo := 0#32,
    splits := 0#32, kind := .plain, words := 1, idx := 0 }

/-- The word at offset `o` of an assigned block, `none` where no register occupies it (R114, R140). -/
def blockReg (b o : Nat) : Option RegInfo :=
  if b = 0x00 then findRow globalRows o
  else if b = 0x01 then findRow guardRows o
  else if b = 0x02 then findRow thimbleRows o
  else if b = 0x03 then findRow mailboxRows (o % 16)
  else if b = 0x04 then findRow cmdqRows o
  else if b = 0x05 then findRow eventRows o
  else if b = 0x06 then
    if 0x100 ≤ o ∧ o < 0x100 + 4 * 148 then some (pdInfo ((o - 0x100) / 4)) else findRow powerRows o
  else if b = 0x07 then findRow fabricRows o
  else if b = 0x08 then findRow crcRows (o % 32)
  else if b = 0x09 then findRow ledgerRows o
  else if b = 0x0A then findRow memctlRows o
  else if b = 0x0B then findRow backgroundRows o
  else if b = 0x0C then findRow securityRows o
  else if b = 0x0D then findRow cirumlinkRows o
  else if b = 0x0E then findRow domainRows o
  else if b = 0x0F then findRow timekeeperRows o
  else if b = 0x10 then findRow refmonRows (o % 128)
  else if b = 0x11 then
    if o < 0xC00 then findRow tstampRows (o % 64) else findRow tstampCommonRows o
  else if b = 0x12 then findRow outclkRows o
  else if 0x20 ≤ b ∧ b ≤ 0x37 then findRow lineRows o
  else if 0x40 ≤ b ∧ b ≤ 0x45 then findRow (laneRows false) (o % 512)
  else if 0x46 ≤ b ∧ b ≤ 0x4B then findRow (laneRows true) (o % 512)
  else if 0x50 ≤ b ∧ b ≤ 0x5F then findRow tribRows (o % 64)
  else if 0x60 ≤ b ∧ b ≤ 0x67 then findRow seamRows (o % 64)
  else if 0x68 ≤ b ∧ b ≤ 0x6A then findRow macRows (o % 256)
  else if 0x6C ≤ b ∧ b ≤ 0x6F then
    if o < 0xC00 then findRow tapRows (o % 256) else findRow poolRows (o % 256)
  else if b = 0x70 then findRow pmCommonRows o
  else if 0x71 ≤ b ∧ b ≤ 0x74 then
    findRow (pointCfgRows (decide (1072 ≤ (b - 0x71) * 512 + o / 8))) (o % 8)
  else if 0x75 ≤ b ∧ b ≤ 0x76 then some pointDefectInfo
  else if b = 0x77 then findRow pmSumRows o
  else if b = 0x78 then
    if o < 0x600 then findRow exchRows (o % 64) else none
  else if b = 0x79 then
    if o < 0x300 then findRow gccRows (o % 32) else findRow noteRingRows o
  else none

/-- The word at a canonical register-space offset. -/
def regInfo (off : Nat) : Option RegInfo := blockReg (off / 0x1000) (off % 0x1000)

/-- What a stored register reads as before anything has changed it: its reset value. -/
def regReset (off : Nat) : Word :=
  match regInfo off with
  | some i => i.reset
  | none => 0#32

/-- The decode width of an assigned block (R140). -/
def decodeWidth (b : Nat) : Nat :=
  if b = 0x01 ∨ b = 0x08 then 8
  else if b = 0x03 ∨ b = 0x0B ∨ b = 0x12 then 9
  else if b = 0x06 ∨ b = 0x10 ∨ b = 0x78 ∨ b = 0x79 ∨ (0x20 ≤ b ∧ b ≤ 0x37) then 11
  else if b = 0x09 ∨ b = 0x11 ∨ 0x40 ≤ b then 12
  else 10

/-- One step of the alias table of R115; an assigned block stays itself. -/
def aliasStep (b : Nat) : Nat :=
  if 0x13 ≤ b ∧ b ≤ 0x1F then b - 0x10
  else if 0x38 ≤ b ∧ b ≤ 0x3F then b - 0x10
  else if 0x4C ≤ b ∧ b ≤ 0x4F then b - 0x0C
  else if b = 0x6B then 0x68
  else if 0x7A ≤ b ∧ b ≤ 0x7F then 0x78 + b % 2
  else if 0x80 ≤ b then b - 0x80
  else b

/-- The assigned block a block number reaches: an alias of an alias is resolved again (R115). -/
def resolveBlock (b : Nat) : Nat := aliasStep (aliasStep b)

/-- The canonical offset of a register-space offset below 0x10_0000 (R113, R115). -/
def resolveOffset (o : Nat) : Nat :=
  let b := resolveBlock (o / 0x1000)
  b * 0x1000 + o % 0x1000 % 2 ^ decodeWidth b

/-- Where a BAR0 offset leads, with the register space's offsets resolved (R105, R117). -/
inductive Target where
  /-- The native register space or an image of it. -/
  | native (off : Nat)
  /-- A mask window; `high` selects register bits [31:16] (R120). -/
  | mask (high : Bool) (off : Nat)
  /-- The basted view (R125). -/
  | basted (off : Nat)
  /-- The bit alias of one bit (R117). -/
  | bit (b off : Nat)
  /-- The CXL component and memory-device registers (R86). -/
  | cxl (off : Nat)
  /-- No backing: reads return 0 and writes are discarded (R105). -/
  | unbacked
  deriving DecidableEq, Repr

/-- Decoding of a BAR0 offset (R105, R113, R115, R117). -/
def decodeAddr (a : Nat) : Target :=
  if a < 0x08000000 then
    let x := a % 0x400000
    let off := resolveOffset (x % 0x100000 / 4 * 4)
    if x / 0x100000 = 0 then .native off
    else if x / 0x100000 = 1 then .mask false off
    else if x / 0x100000 = 2 then .mask true off
    else .basted off
  else if a < 0x0C000000 then
    let x := (a - 0x08000000) % 0x2000000
    .bit (x / 0x100000) (resolveOffset (x % 0x100000 / 4 * 4))
  else if a < 0x0C020000 then .cxl (a - 0x0C000000)
  else .unbacked

end Sys2Proof.Machine
end

