-- ==== Sys2Proof/Machine/State.lean ====
section
/-! DEFINITION. The state of the part as plain data: every register (one sparse register file), every
memory, queue, mode, pin and piece of held state the spec names, and the queue of waiting commands. -/

namespace Sys2Proof.Machine

/-- The stop reasons of a step with a fault. No command of the spec stops the part for good, so no
meaning answers one; the type is closed and empty of uses (safe). -/
inductive Fault where
  /-- Raised by no command; kept so that the type of reasons is inhabited (safe). -/
  | none
  deriving DecidableEq, Repr

/-- The reasons a step refuses a command. -/
inductive Refusal where
  /-- Answered by `exec` for a command that has no meaning yet (safe: the step stops). -/
  | notModelled (mnemonic : String)
  deriving DecidableEq, Repr

/-- The twelve modes (R49). -/
inductive Mode where
  | dormant | inert | attest | fit | listen | carry | trim | doze | drain | prove | renew | freeze
  deriving DecidableEq, Repr

/-- The mode code of R49. -/
def Mode.code : Mode → Nat
  | .dormant => 0 | .inert => 1 | .attest => 2 | .fit => 3 | .listen => 4 | .carry => 5
  | .trim => 6 | .doze => 7 | .drain => 8 | .prove => 9 | .renew => 10 | .freeze => 11

/-- The mode a code names; 0xC to 0xF name none (R49). -/
def Mode.ofCode (n : Nat) : Option Mode :=
  [Mode.dormant, .inert, .attest, .fit, .listen, .carry, .trim, .doze, .drain, .prove, .renew,
    .freeze][n]?

/-- Something that left the part: a message, a response, a word, a pin action. The list of them is the
model's record of outputs (DESIGN CHOICE, log 5). -/
inductive Out where
  /-- An MSI-X message on a vector (R88). -/
  | msix (v : Nat)
  /-- The word a register read returned. -/
  | data (req : Req) (w : Word)
  /-- A named event with its instance and value. -/
  | event (nm : String) (inst : Nat) (val : Dword)
  /-- A response or message with its words, named by what carries it. -/
  | words (nm : String) (inst : Nat) (ws : List Word)
  /-- A response in bytes. -/
  | bytes (nm : String) (bs : List Byte)
  /-- A frame sent: to the line, to the client, or to the PTP engine (R383, R388), or a slot frame on Cirumlink
  (R412). -/
  | frame (nm : String) (port : Nat) (bs : List Byte)
  /-- A domain note given to a link (R432). -/
  | note (link : NoteLink) (n : Note)
  /-- A justification period sent by a tributary's own stage, or by its client's OPU4 stage: JC1 to JC6 and the
  payload (R256, R260). -/
  | period (trib : Nat) (client : Bool) (jc : List Byte) (payload : List Bool)
  /-- The data that a demapper takes from a period (R257, R261). -/
  | taken (trib : Nat) (client : Bool) (bits : List Bool)
  /-- Blocks that leave IMP, toward the ODUflex or, with `down`, the client (R268). -/
  | blocks (trib : Nat) (down : Bool) (bs : List PcsBlock)
  /-- An OTUCn frame, an ODU of a tributary with its MFAS, and FlexO overhead, as sent (R191, R223, R230). -/
  | line (port : Nat) (f : OtucTx)
  | odu (trib : Nat) (mfas : Byte) (f : OduTx)
  | flexo (lane : Nat) (f : FlexoTx)
  deriving DecidableEq, Repr

/-- The last-gasp sequence in progress (R514). -/
structure LossSeq where
  /-- 1 undervoltage, 2 overvoltage (R518). -/
  cause   : Nat
  mode    : Mode
  time    : Nat
  stitch  : Word
  /-- Slot 0 frames with SUPPLY_LOSS sent so far. -/
  notices : Nat
  /-- A record will be written: HOLDUP_READY was 1 (R517). -/
  record  : Bool
  setPending : Bool
  deriving DecidableEq, Repr

/-- The input, the power-on sequence, the reset pins and the conditions of ALERT_N. -/
structure Supply where
  vin      : Bool := false
  limiter  : Bool := false
  pwrgood  : Bool := false
  holdup   : Bool := false
  /-- RST_N and PERST_N levels: `true` is high, released. Both have pull-downs (R535). -/
  rstN     : Bool := false
  perstN   : Bool := false
  /-- A wake event that waits for PWRGOOD or for the TAP (R520, R548). -/
  wakeHeld : Bool := false
  loss     : Option LossSeq := none
  /-- The oscillator has been powered for 30 minutes (R53). -/
  warm     : Bool := false
  /-- NODE_STRAP as sampled last (R541). -/
  strap    : BitVec 3 := 0#3
  /-- Conditions of R52: no image passed, and sensors whose crossing was decided for assertion. -/
  noImage  : Bool := false
  alertSensors : BitVec 16 := 0#16
  hostFenced : Bool := false
  /-- The boot ROM's checks of the banks at the last wake: CRC and signature good (R545). -/
  bootCrc  : BitVec 2 := 0#2
  bootSig  : BitVec 2 := 0#2
  deriving DecidableEq, Repr

/-- A transition under way (R54). -/
structure Trans where
  /-- The mode entered next. -/
  target : Mode
  /-- The destination, TARGET of MODE_STATUS. -/
  dest   : Mode
  /-- The MODE.ENTER that waits for it. -/
  tag    : Option Nat := none
  deriving DecidableEq, Repr

/-- The mode and its transitions. -/
structure ModeSt where
  cur    : Mode := .dormant
  trans  : Option Trans := none
  /-- The register-clock edge at entry into the current mode. -/
  since  : Nat := 0
  /-- The final mode of a DRAIN (R56). -/
  final  : Mode := .inert
  /-- Notices of the drain not acknowledged yet: seam legs as group * 4 + leg, 0xFFFF the twin. -/
  unacked : List Nat := []
  /-- The mode RENEW returns to, when it was entered, and whether the previous image is being
  restored (R71). -/
  source : Mode := .carry
  renewAt : Nat := 0
  restoring : Bool := false
  /-- The cores are restarting: in RENEW, or after fault 0x07. -/
  coresOut : Bool := false
  /-- A resume that is under way (R61), and INERT was reached by a wake whose resume has not begun. -/
  resuming : Bool := false
  woken    : Bool := false
  deriving DecidableEq, Repr

/-- One IDE stream (R97, R98). -/
structure IdeSt where
  keyed    : Bool := false
  insecure : Bool := true
  /-- An integrity failure: requests are discarded until the stream is keyed again (R98). -/
  failed   : Bool := false
  skid     : Bool := false
  key      : BitVec 256 := 0#256
  deriving DecidableEq, Repr

/-- The HDM decoder (R90). -/
structure Hdm where
  committed : Bool := false
  locked    : Bool := false
  err       : Bool := false
  base      : Nat := 0
  size      : Nat := 0
  deriving DecidableEq, Repr

/-- A CXL event record: its handle, whether it is a DRAM event, its DPA and its time stamp (R99). -/
structure EventRec where
  handle : Nat
  dram   : Bool
  dpa    : Nat
  stamp  : Dword
  deriving DecidableEq, Repr

/-- The HOST island's CXL side (R78 to R104). -/
structure HostIf where
  linkUp   : Bool := false
  width    : Nat := 0
  gts      : Nat := 0
  cxl      : Bool := false
  d3hot    : Bool := false
  /-- The configuration space is loaded; until then CRS (R83). -/
  cfgLoaded : Bool := false
  /-- MSI-X Enable, vector mask bits, programmed entries and the PBA (R88). -/
  msixEn   : Bool := false
  masked   : BitVec 64 := BitVec.allOnes 64
  programmed : BitVec 64 := 0#64
  /-- The Function Mask of MSI-X (R88). -/
  fmask    : Bool := false
  pba      : BitVec 64 := 0#64
  /-- The address and data of each MSI-X table entry written (R88). -/
  table    : SMap (Dword × Word) := []
  /-- The addresses assigned to BAR0, BAR2 and BAR4 (R85, R101). -/
  bar0     : Option Nat := none
  bar2     : Option Nat := none
  bar4     : Option Nat := none
  /-- The writable CXL component and memory-device registers, by offset in their range (R86). -/
  cxlRegs  : SMap Word := []
  /-- Open hold-off intervals per vector and messages formed in them (R557, R393). -/
  holdOpen : BitVec 64 := 0#64
  holdFormed : BitVec 64 := 0#64
  hdm      : Hdm := {}
  ideIo    : IdeSt := {}
  ideMem   : IdeSt := {}
  sessions : Nat := 0
  doeBusy  : Bool := false
  /-- The request that DOE Busy holds until the cores return (R103, R494). -/
  doeHeld  : Option DoeCall := none
  /-- The CDAT entry-change indication (R96). -/
  cdatChange : Bool := false
  deriving DecidableEq, Repr

/-- The CXL memory-device mailbox and media records (R99, R100). -/
structure MediaSt where
  events   : List EventRec := []
  nextHandle : Nat := 1
  policyMsix : Bool := false
  /-- SET_TIMESTAMP's value and the register-clock edge it was set at. -/
  stampBase : Dword := 0#64
  stampAt  : Nat := 0
  poison   : List Nat := []
  poisonOver : Bool := false
  deriving DecidableEq, Repr

/-- A guard state that is OPEN (R126). -/
structure GuardOpen where
  /-- The value word's register-space offset and the address as issued. -/
  off   : Nat
  addr  : BitVec 28
  value : Word
  /-- The register-clock edge at which the value word was applied. -/
  at_   : Nat
  deriving DecidableEq, Repr

/-- Per-requester access state: captures, held words, guards, thimble owners. -/
structure AccessSt where
  /-- Captured words by requester code * 2^20 + register offset (R111). -/
  captured : SMap (List Word) := []
  /-- Held lower words by requester code * 2^20 + word offset (R111). -/
  heldLow  : SMap (Option Word) := []
  /-- Guard states by requester code. -/
  guards   : SMap (Option GuardOpen) := []
  /-- Owner of each thimble (R132). -/
  owners   : SMap (Option Req) := []
  deriving DecidableEq, Repr

/-- The arbiter, and what has met the registers at one edge (R110, R139, R551). -/
structure BusSt where
  /-- The rotation's last-granted master: its end, the HOST engines (6), after a HUB reset (R139, R445). -/
  lastGrant : Nat := 6
  /-- The register-clock edge of the two fields below. -/
  at_   : Nat := 0
  /-- W1C bits that the part set at that edge, by register offset (R110). -/
  sets  : SMap Word := []
  /-- RW bits that requesters wrote at that edge in registers the part also updates (R110). -/
  wrote : SMap Word := []
  deriving DecidableEq, Repr

/-- An open steering decision (R39). -/
structure Decision where
  serial : Word
  func   : Nat
  inst   : Nat
  cand   : Nat
  alts   : Word
  /-- The register-clock edge of its deadline; `held` at FREEZE (R554). -/
  deadline : Nat
  deriving DecidableEq, Repr

/-- A record of the decision queue (R146). -/
structure DecRec where
  serial : Word
  superseded : Bool
  func   : Nat
  inst   : Nat
  cand   : Nat
  alts   : Word
  deadline : Nat
  deriving DecidableEq, Repr

/-- The steering state (R38 to R46). -/
structure SteerSt where
  openDecs : List Decision := []
  queue    : List DecRec := []
  nextSerial : Word := 1#32
  /-- Newer candidates that arose for open decisions: counted apart from the balance (R40, R44). -/
  superseded : Nat := 0
  deriving DecidableEq, Repr

/-- The states of a tag (R159). -/
inductive TagState where
  | free | queued | running | committed | held
  deriving DecidableEq, Repr

/-- A tag and its copied slot (R149, R154). -/
structure Tag where
  st     : TagState := .free
  /-- Place in doorbell order. -/
  order  : Nat := 0
  hdr    : List Word := []
  params : List Word := []
  /-- The checks of R154 passed; the tag waits for the ordering of R157. -/
  checked : Bool := false
  /-- It was past its commit point as the HOST island was reset: its record goes undelivered (R102, R159). -/
  late    : Bool := false
  deriving DecidableEq, Repr

/-- A reply formed and not yet written, without PHASE (R165). -/
structure HeldReply where
  tag   : Nat
  words : List Word
  deriving DecidableEq, Repr

/-- The command path (R148 to R179). -/
structure CmdSt where
  tags   : SMap Tag := []
  nextOrder : Nat := 0
  /-- Replies that wait for ring space, oldest first (R163). -/
  held   : List HeldReply := []
  /-- Undelivered replies, oldest first, at most 1,024 (R102). -/
  undelivered : List (List Word) := []
  deriving DecidableEq, Repr

/-- The boundary a waiting STITCH names (R170). -/
structure Waiting where
  tag   : Nat
  kind  : Nat
  port  : Nat
  /-- Seconds * 2^n form: the boundary time in units of 2^-16 ns, for kind 3. -/
  time  : Nat
  /-- The stitch set: mask and value per register offset. -/
  set_  : SMap (Word × Word)
  /-- The TTI table copied during validation, where the set includes TTI_TX (R224). -/
  tti   : Option Memory := none
  /-- The cycle in which validation ended (R170). -/
  since : Nat
  deriving DecidableEq, Repr

/-- Baste and stitch (R168 to R174). -/
structure StitchSt where
  /-- The basted set: mask of changed bits and their values, by register offset. -/
  basted  : SMap (Word × Word) := []
  waiting : Option Waiting := none
  /-- A stitched set is in force (R54). -/
  inForce : Bool := false
  /-- The stitched set whose journal write has not finished (R172). -/
  unwritten : Bool := false
  deriving DecidableEq, Repr

/-- An image bank's use (R495, R506). -/
inductive BankUse where
  | empty | active | previous | staged | failed
  deriving DecidableEq, Repr

/-- An image bank (R495). -/
structure Bank where
  use     : BankUse := .empty
  version : Word := 0#32
  svn     : Nat := 0
  digest  : BitVec 384 := 0#384
  /-- The digest of the whole image, signature included, as staged (R493, block 3). -/
  whole   : BitVec 384 := 0#384
  deriving DecidableEq, Repr

/-- A symmetric key slot (R500); KIND 0 is an empty slot. -/
structure KeySlot where
  kind : Nat := 0
  tag  : Word := 0#32
  key  : BitVec 256 := 0#256
  deriving DecidableEq, Repr

/-- An entry of the oscillator table that learning has changed: its value in 2^-48, its adoptions and the
day of the last (R337). -/
structure CalEntry where
  value : Int
  count : Word
  day   : Word
  deriving DecidableEq, Repr

/-- The journal: what outlives supply loss (R172, R477, R485, R462, R495, R500). -/
structure Journal where
  hasSet    : Bool := false
  /-- The last stitched set: the SH words in force, by offset. -/
  set_      : SMap Word := []
  resume    : Bool := false
  resumeCarry : Bool := false
  faultRec  : List Word := []
  faultSerial : Word := 0#32
  gasp      : List Word := []
  gaspNew   : Bool := false
  lossCount : Word := 0#32
  ckptSerial : Word := 0#32
  ckptImage : List Word := []
  subsys    : Word := 0#32
  bank0     : Bank := {}
  bank1     : Bank := {}
  /-- The ACTIVE bank is bank 1. -/
  activeOne : Bool := false
  floor     : Nat := 0
  fallback  : Bool := false
  keys      : SMap KeySlot := []
  /-- Write counts by block, relocations and spare blocks left (R477). -/
  wear      : SMap Nat := []
  relocs    : Nat := 0
  spares    : Nat := 512
  /-- The block writes of the last 60 s: the register-clock edge at which each lot began, and its number (R477). -/
  writes    : List (Nat × Nat) := []
  /-- The learned oscillator table entries, where they differ from the factory's (R337). -/
  learned   : SMap (Option CalEntry) := []
  /-- The LPDDR5X spare-row map: rows retired, by channel * 2^24 + row (R471, R505). -/
  retiredRows : List Nat := []
  deriving DecidableEq, Repr

/-- One audited term: side (true is output), cause, code and value (R463). -/
structure Term where
  out   : Bool
  cause : Nat
  code  : Nat
  value : Dword
  deriving DecidableEq, Repr

/-- A ledger's image at an audit (R463). -/
structure AuditImg where
  balanced : Bool := true
  faulted  : Bool := false
  terms    : List Term := []
  deriving DecidableEq, Repr

/-- The ledgers (R457 to R464): term counters by ledger * 0x400 + code, and the last audits. -/
structure LedgerSt where
  terms  : SMap Dword := []
  audits : SMap AuditImg := []
  /-- The ledger whose image SEL captured. -/
  shown  : AuditImg := {}
  /-- The register-clock edge at which the journal write of the last checkpoint ends (R462). -/
  ckptEnd : Nat := 0
  deriving DecidableEq, Repr

/-- The latched setting of a check unit (R455). -/
structure CrcLatch where
  alg   : Nat := 0
  sel   : Word := 0#32
  phase : Nat := 0
  base  : Word := 0#32
  limit : Word := BitVec.allOnes 32
  deriving DecidableEq, Repr

/-- A test result record (R482). -/
structure TestRec where
  result   : Nat
  errors   : Word
  first    : Word
  started  : Nat
  ended    : Nat
  endTime  : Nat
  deriving DecidableEq, Repr

/-- What the fault record of R485 says of the fault. -/
structure FaultInfo where
  code   : Nat
  island : Nat
  /-- 0 contained, 1 uncontained, 2 software. -/
  cls    : Nat
  detail : Word
  decision : Word
  mode   : Mode
  time   : Nat
  deriving DecidableEq, Repr

/-- A CAL command answered ACCEPTED, whose work waits for the cores (R75, R166): CAL.READ or CAL.RUN, its kind, and
the result buffer. -/
structure CalWork where
  read : Bool
  kind : Nat
  addr : Nat
  len  : Nat
  deriving DecidableEq, Repr

/-- Background work, faults and tests (R468 to R489). -/
structure BackSt where
  /-- Register-clock edge of the last fault of a code on an island, by code * 256 + island. -/
  lastFault : SMap Nat := []
  /-- Islands held fenced (R484), by island code. -/
  heldFenced : List Nat := []
  /-- Channels out of service. -/
  badChannels : List Nat := []
  /-- Rows being retired, by channel * 2^24 + row (R472). -/
  retiring  : List Nat := []
  /-- The row of each channel that function 8 was offered last (R471). -/
  offered   : SMap (Option Nat) := []
  /-- Results by scope * 2^16 + instance (R482). -/
  tests     : SMap (Option TestRec) := []
  /-- The tag of a TEST.RUN with intrusive scopes. -/
  intrusive : Bool := false
  /-- Contained faults offered to function 15, by its instance (R483). -/
  contained : SMap (Option FaultInfo) := []
  /-- The fault record of the last entry into FREEZE, while its journal write is due (R72, R516). -/
  record    : List Word := []
  /-- Lanes that the running EXTPATTERN scope names: line lanes 0 to 47, client lanes 48 to 95 (R68, R480). -/
  extLanes  : BitVec 96 := 0#96
  /-- CAL work that runs when the cores return (R75). -/
  calLater  : List CalWork := []
  deriving DecidableEq, Repr

/-- SMBus target state (R544, R545). -/
structure SmbSt where
  pointer : Word := 0#32
  snapshot : List Byte := []
  cursor  : Nat := 0
  deriving DecidableEq, Repr

/-- The instructions the TAP holds (R546). -/
inductive TapInstr where
  | bypass | idcode | sample | extest | extestPulse | extestTrain | clamp | highz | regAccess
  deriving DecidableEq, Repr

/-- Test access state (R546 to R549). -/
structure JtagSt where
  instr    : TapInstr := .idcode
  boundary : List Bool := List.replicate 250 false
  captured : List Bool := List.replicate 250 false
  /-- REG_ACCESS: done, status and data of the last access. -/
  done     : Bool := false
  status   : Nat := 0
  data     : Word := 0#32
  deriving DecidableEq, Repr

/-- A reference slot's running state behind its registers (R312 to R330). -/
structure RefSt where
  /-- Consecutive usable measurements, expected ones missed, and whether one arrived since the last
  expected instant (R314). -/
  run  : Nat := 0
  miss : Nat := 0
  hit  : Bool := false
  /-- PPS: the second a message named since the last edge, and the last usable edge (R312). -/
  tod  : Option Nat := none
  edge : Option Int := none
  /-- The time error of the last measurement, while it has not reached the loop (R316). -/
  meas : Option Int := none
  /-- The phase measurements of the gate, newest first: the instant by the calibrated nominal, and by how much the
  reference's time is ahead of it (R315). -/
  phases : List (Int × Int) := []
  /-- The Δf of the gates that have ended in the drift window, summed, and their number (R317). -/
  sumDf : Int := 0
  gates : Nat := 0
  /-- Monitors have passed since the gate began; a whole gate has passed while QUALIFYING (R319). -/
  gate : Bool := false
  passed : Bool := false
  /-- Monitors have passed since the drift window began (R317). -/
  window : Bool := false
  /-- Consecutive measurements beyond PULL_LIMIT (R330). -/
  far  : Nat := 0
  /-- The host kept the reference QUALIFIED; no new decision until DRIFT clears (R318). -/
  keep : Bool := false
  deriving DecidableEq, Repr

/-- The time scale and the timekeeper's loop (R310 to R346). -/
structure TimeSt where
  /-- Local time in units of 2^-16 ns since the PTP epoch (R14, R15). -/
  now     : Int := 0
  running : Bool := false
  refs    : SMap RefSt := []
  /-- The loop (R325), in 2^-48: the frequency from its frequency source and the correction from its phase source, each
  with its integral; the last frequency error; and what the frequency has moved local time short of a unit. -/
  loop    : Int := 0
  integ   : Int := 0
  phase   : Int := 0
  phaseInteg : Int := 0
  ferr    : Int := 0
  loopAcc : Int := 0
  /-- The phase source's first measurement has not been used yet (R329). -/
  fresh   : Bool := false
  /-- Slope of the slew under way in 0.1 ns/s, and what slew and pull have moved short of a unit, in
  10^-10 units (R329, R333). -/
  slope   : Nat := 0
  slewAcc : Nat := 0
  pullAcc : Nat := 0
  /-- The register-clock edge of the last entry into FREE_RUN (R358). -/
  freeAt  : Nat := 0
  /-- The timekeeper was LOCKED as RENEW began (R326). -/
  wasLocked : Bool := false
  /-- The frequency source it has been LOCKED to since the drift window began; a step fell in the
  window; no step, REACQUIRE, pull or slew did (R317, R338). -/
  learn   : Option Nat := none
  stepped : Bool := false
  calm    : Bool := true
  /-- The measurement of each learning step offered, by entry (R339). -/
  offers  : SMap Int := []
  /-- Last second marked by each PPS_OUT; a ToD message for the next edge has been sent (R331, R343). -/
  pps0    : Nat := 0
  pps1    : Nat := 0
  sent0   : Bool := false
  sent1   : Bool := false
  /-- Outputs that re-align: OCK0 to OCK3, PPS_OUT0, PPS_OUT1, and the register-clock edge at which the last high pulse of
  each ends (R344). -/
  realign : BitVec 6 := 0#6
  high    : SMap Nat := []
  deriving DecidableEq, Repr

/-- A lane's running counts behind its registers (R202, R203, R206). -/
structure LaneSt where
  /-- Consecutive frames with and without the marker at the locked position. -/
  amRun    : Nat := 0
  amMiss   : Nat := 0
  /-- Consecutive frames in and out of OMFI sequence. -/
  omfiRun  : Nat := 0
  omfiMiss : Nat := 0
  /-- Overhead last received in a good frame: GID and MAP (the PID is in STATUS); one came in this multiframe
  (R192, R194). -/
  gid      : BitVec 20 := 0#20
  map_     : List Byte := []
  ohGood   : Bool := false
  /-- A good frame has brought overhead since the lane's state began: it has a received PID (R193). -/
  ohSeen   : Bool := false
  /-- Arrival of the last marker, and at the measurement the deskew holds (R204, R206). -/
  arrival  : Nat := 0
  measured : Nat := 0
  /-- The hold of R204. -/
  hold     : Nat := 0
  /-- SYM_CORR at the last interval's end, and intervals at or below the threshold (R202). -/
  lastSym  : Dword := 0#64
  degClear : Nat := 0
  /-- Equaliser steps trimmed since ADAPT_DONE, and the edge after the last of them, 0 with none (R476). -/
  trim     : Int := 0
  trimAt   : Nat := 0
  /-- The lane's transmitter is driven; else it is electrically idle (R50, R51, R188). -/
  tx       : Bool := false
  deriving DecidableEq, Repr

/-- A line port's running counts behind its registers (R194, R211, R213). -/
structure PortSt where
  gidBad  : Nat := 0
  gidGood : Nat := 0
  pidBad  : Nat := 0
  pidGood : Nat := 0
  /-- Consecutive frames without the FAS at the frame offset. -/
  ifMiss  : Nat := 0
  /-- MFAS of the previous frame, and frames in and out of sequence. -/
  mfas    : Byte := 0#8
  mfasGood : Nat := 0
  mfasBad : Nat := 0
  /-- A deskew measurement has been made (R204, R218). -/
  measured : Bool := false
  /-- MFAS_CONF as it stood at the last entry into OOF (R197). -/
  conf    : Bool := true
  /-- MFAS of the OTUCn frames sent, and OMFI of the FlexO multiframes sent (R191, R223). -/
  txMfas  : Byte := 0#8
  txOmfi  : Nat := 0
  deriving DecidableEq, Repr

/-- A tributary's running state behind its registers (R254, R264, R280). -/
structure TribSt where
  /-- Built: its first justification period since the teardown has started (R254). -/
  built : Bool := false
  /-- Consecutive periods that counted JC_BAD (R264). -/
  jcRun : Nat := 0
  /-- The seam count of the previous frame, as received. -/
  raw   : Option Word := none
  /-- The count is acquired; `pred` is the count of the last frame merged (R280). -/
  acq   : Bool := false
  pred  : Word := 0#32
  errs  : Nat := 0
  /-- The mapper's store above its fill depth, oldest first (R256, R261), and that of the client's OPU4 stage with
  the count that governs its running period (R270). -/
  store : List Bool := []
  clientStore : List Bool := []
  clientCm : Nat := 0
  /-- The count by which the client's OPU4 stage demaps, and the ΣCnD last accepted (R258, R270). -/
  clientRx : Nat := 0
  cnd   : Nat := 0
  /-- The block stores of IMP, toward the ODUflex and toward the client (R268). -/
  impUp : List PcsBlock := []
  impDown : List PcsBlock := []
  /-- The last block that left each store was idle; the mapper's store lost blocks since the last frame (R268). -/
  gapUp   : Bool := true
  gapDown : Bool := true
  impLost : Bool := false
  /-- MFAS of the ODU the part sources (R223). -/
  txMfas : Byte := 0#8
  deriving DecidableEq, Repr

/-- The counts of one direction of a PM bin (R239, R247). -/
structure BinDir where
  es  : Int := 0
  ses : Int := 0
  uas : Int := 0
  bbe : Int := 0
  deriving DecidableEq, Repr

/-- A PM bin of a point (R243, R247). -/
structure Bin where
  seconds : Nat := 0
  suspect : Bool := false
  host    : Bool := false
  closed  : Bool := false
  near    : BinDir := {}
  far     : BinDir := {}
  seen    : BitVec 16 := 0#16
  deriving DecidableEq, Repr

/-- The raw counts of one second of a point (R236). -/
structure RawSec where
  sec : Nat
  n   : Nat
  e   : Nat
  f   : Nat
  tsf : Bool
  bdi : Bool
  /-- Directions already classified (R240). -/
  nearDone : Bool := false
  farDone  : Bool := false
  deriving DecidableEq, Repr

/-- The availability state of one direction (R239): the seconds of the current run with what each would
add, newest first. -/
structure Avail where
  unavail : Bool := false
  run     : List (Nat × Nat × Nat) := []
  deriving DecidableEq, Repr

/-- What one level of APS/PCC has shown (R226). -/
structure ApsSt where
  last : Word := 0#32
  run  : Nat := 0
  acc  : Word := 0#32
  deriving DecidableEq, Repr

/-- What one slot has shown in the MSI (R228); the inner `none` is a slot not allocated. -/
structure MsiSt where
  last : Option Nat := none
  run  : Nat := 0
  acc  : Option (Option Nat) := none
  deriving DecidableEq, Repr

/-- A PM point's running counts behind its registers (R224 to R243). -/
structure PointSt where
  ttiLast : List Byte := []
  ttiRun  : Nat := 0
  tti     : Option (List Byte) := none
  statLast : BitVec 3 := 0#3
  statRun : Nat := 0
  stat    : Option (BitVec 3) := none
  ptLast  : Byte := 0#8
  ptRun   : Nat := 0
  pt      : Option Byte := none
  bdiOn   : Nat := 0
  bdiOff  : Nat := 0
  iaeOn   : Nat := 0
  iaeOff  : Nat := 0
  /-- Per slice: consecutive frames with and without 0b1011. -/
  biaeOn  : List Nat := []
  biaeOff : List Nat := []
  /-- Per slot, the MSI last received, its run and the accepted one (R228). -/
  msi     : List MsiSt := []
  /-- Slots in use whose accepted MSI does not match. -/
  msiBad  : List Nat := []
  /-- BIP-8 violations of the last frame received, slice by slice: what aBEI sends back (R231). -/
  bipLast : List Nat := []
  aps     : SMap ApsSt := []
  /-- Frame state of a LO ODU in its slots (R228). -/
  outOfFrame : Bool := true
  fasMiss : Nat := 0
  fasRun  : Nat := 0
  mfas    : Byte := 0#8
  degBad  : Nat := 0
  degGood : Nat := 0
  /-- The running second: blocks, errored blocks of each end, aTSF or dBDI seen. -/
  n       : Nat := 0
  e       : Nat := 0
  f       : Nat := 0
  tsf     : Bool := false
  bdi     : Bool := false
  raws    : List RawSec := []
  /-- The counts of the last second that ended, classified or not: what the twin is told (R424). -/
  lastSec : Option RawSec := none
  availNear : Avail := {}
  availFar : Avail := {}
  /-- Bins by (day + 1) * 97 + bin, 96 the 24-hour bin, with the last closed ones kept apart. -/
  bins    : SMap Bin := []
  prev15  : Option (Nat × Bin) := none
  prev24  : Option (Nat × Bin) := none
  deriving DecidableEq, Repr

/-- A seam leg's running state (R280 to R299). -/
structure LegSt where
  /-- Hold in 1/16 ns, measured or carried (R282), and R(c) - A(c) of its last copy. -/
  hold   : Int := 0
  ahead  : Int := 0
  /-- Consecutive late copies; EXCLUDED for lateness; its lag behind the earliest ACTIVE leg (R286). -/
  late   : Nat := 0
  byLate : Bool := false
  lag    : Nat := 0
  /-- The count its next copy will bear, of a READY leg under first-arrival merging (R290). -/
  next   : Option Word := none
  /-- Copies that wait for release: count and BIP-8 violations once known (R283). -/
  buf    : List (Word × Option Nat) := []
  /-- The host kept the leg ACTIVE; no new degrade decision until its aTSD clears (R295). -/
  keep   : Bool := false
  /-- Named by a RETIRE while the group's last ACTIVE leg (R299). -/
  retireDue : Bool := false
  deriving DecidableEq, Repr

/-- A seam group's running state behind its registers. -/
structure SeamSt where
  built   : Bool := false
  leg0    : LegSt := {}
  leg1    : LegSt := {}
  leg2    : LegSt := {}
  fallback : Bool := false
  /-- The legs R slews for, each with the matched delay it needs; the time up to which R has moved, and D as the
  slew started (R286). -/
  slew    : List (Fin 3 × Nat) := []
  slewAt  : Nat := 0
  slewFrom : Int := 0
  /-- The last count released, or forwarded first-arrival (R283, R289). -/
  last    : Option Word := none
  /-- The head's next count and, for a client END, bits of the frame being sent (R278). -/
  txNext  : Word := 0#32
  txBits  : Nat := 0
  /-- The legs the peer's last STATUS shows in service (R294). -/
  peerIn  : BitVec 3 := 0#3
  /-- The outstanding RETIRE: its legs and serial (R299). -/
  retire  : Option (BitVec 3 × Word) := none
  serial  : Word := 0#32
  deriving DecidableEq, Repr

/-- Sequence recovery of a client port (R306). -/
structure RecovSt where
  takeAny : Bool := true
  seq     : BitVec 16 := 0xFFFF#16
  history : BitVec 32 := 0#32
  deriving DecidableEq, Repr

/-- A PTP port of the T-BC (R356, R357). -/
structure PtpSt where
  /-- PORT_STATE: 0 DISABLED, 1 LISTENING, 2 UNCALIBRATED, 3 SLAVE, 4 MASTER, 5 PASSIVE, 6 FAULTY. -/
  st      : Nat := 0
  /-- A two-step Sync that waits for its Follow_Up: t2 less its correction, and whether it is stale. -/
  sync    : Option (Int × Bool) := none
  /-- The last Delay_Resp: t4 - t3, the register-clock edge it came at, and whether t3 was stale. -/
  delay   : Option (Int × Nat × Bool) := none
  /-- The last Delay_Req sent: its sequenceId, its transmit stamp, and whether that was stale. -/
  asked   : Option (BitVec 16 × Int × Bool) := none
  reqSeq  : BitVec 16 := 0#16
  /-- The best master announced on the port: its clockClass and the rest (R356, R358). -/
  master  : Option (Nat × Announce) := none
  deriving DecidableEq, Repr

/-- The time exchange of a line port (R363 to R368). -/
structure ExchSt where
  /-- SEQ of the next message, and the stamp of the last one sent. -/
  seq     : Word := 0#32
  prev    : Option Int := none
  /-- The last messages sent, with their stamps and whether a stamp was stale, newest first. -/
  sent    : List (Word × Int × Bool) := []
  /-- The last message accepted, its arrival stamp and whether it was stale, and the register-clock edge it
  came at. -/
  rx      : Option (Word × Int × Bool) := none
  rxAt    : Nat := 0
  /-- SRC_NODE of the peer's last message. -/
  srcNode : BitVec 16 := 0#16
  deriving DecidableEq, Repr

/-- A stamp request that has taken its serial and whose frame has not left yet (R370, R403). -/
structure StampReq where
  serial  : Nat
  cookie  : Word
  oneStep : Bool
  len     : Nat
  deriving DecidableEq, Repr

/-- A client port's stamp queue (R370 to R374). -/
structure StampSt where
  waiting : List StampReq := []
  fifo    : List (List Word) := []
  /-- A decision of function 13 closed with 0; none is offered until the fill is below SPILL_LW. -/
  keep    : Bool := false
  deriving DecidableEq, Repr

/-- A segment's calibration record (R352 to R355). -/
structure SegRec where
  /-- The register-clock edge of the last adoption. -/
  adopted : Option Nat := none
  stale   : Bool := false
  /-- The value offered to function 9. -/
  offer   : Dword := 0#64
  deriving DecidableEq, Repr

/-- A bobbin claimed for a tap frame (R394). -/
structure Claim where
  addr  : Dword
  pool  : Nat
  slot  : Word
  bytes : Nat
  deriving DecidableEq, Repr

/-- A frame offered to the tap of a client port and not yet delivered or discarded (R388 to R397). -/
structure TapFrame where
  seq    : Word
  step   : Nat
  rule   : Nat
  copy   : Bool
  stamp  : Nat
  stale  : Bool
  /-- Bytes that have arrived and are not in a bobbin yet, and the frame's bytes. -/
  left   : Nat
  bytes  : List Byte
  claims : List Claim
  /-- It has ended as a good frame. -/
  ended  : Bool
  /-- It waits for function 14: the serial of its decision (R390). -/
  dec    : Option Word
  /-- The register-clock edge from which its wait runs: its end, or its decision's close (R396). -/
  since  : Nat := 0
  /-- It will not be delivered; its bobbins are to be recycled (R397). -/
  dead   : Bool
  deriving DecidableEq, Repr

/-- A frame read for injection, until TX_CONS passes it (R400, R402, R403). -/
structure TxFrame where
  /-- Discarded, and waiting for the frames before it (R400). -/
  dead    : Bool
  /-- The frame as it is to be sent, FCS included. -/
  bytes   : List Byte
  stamp   : Bool
  oneStep : Bool
  cookie  : Word
  /-- Placed in the look-ahead: the register-clock edge at which it has left the contact (R400, R402). -/
  leaves  : Option Nat := none
  deriving DecidableEq, Repr

/-- A classifier outcome (R388). -/
structure Verdict where
  step    : Nat
  rule    : Nat
  removed : Bool
  offered : Bool
  deriving DecidableEq, Repr

/-- A client port's running state (R382, R388 to R404, R426). -/
structure ClientSt where
  /-- Holds measured at the last alignment, by member. -/
  holds  : List Nat := []
  /-- The fate of the frame under way, fixed at its 64th byte (R388). -/
  fate   : Option Verdict := none
  frames : List TapFrame := []
  /-- The last claim found the pool empty. -/
  empty  : Bool := false
  tx     : List TxFrame := []
  /-- The hashes h of the last four frames numbered, newest first; the number and the rolling hash of the
  last; the last 4,096 pairs; and whether the generator advanced since the last RTAG record (R304, R426). -/
  hashes : List Word := []
  pairs  : List (Word × BitVec 16) := []
  moved  : Bool := false
  deriving DecidableEq, Repr

/-- One port of Cirumlink (R413, R416). -/
structure LinkSt where
  /-- A good slot 0 came in this cycle; cycles in a row with and without one; cycles in a row in which the
  peer reported RX_OK = 0. -/
  got     : Bool := false
  good    : Nat := 0
  missed  : Nat := 0
  noOk    : Nat := 0
  /-- REQ sent, and the level that takes effect at SWITCH_CYCLE (R416). -/
  req     : Nat := 3
  switch  : Option (Nat × Nat) := none
  peer    : Option Slot0 := none
  /-- Lanes that hold AM lock: each one's arrival against the others' as it locked, in 2^-16 ns (R206, R408). -/
  holds   : SMap (Option Int) := []
  /-- The peer's direction has reached RUN since this one last started (R419). -/
  peerRun : Bool := false
  /-- Cycles in a row in which the lowering test's conditions held (R418). -/
  quiet   : Nat := 0
  /-- Slot 0 frames sent last: cycle and time, newest first (R423). -/
  sent    : List (Word × Nat) := []
  /-- NOTE frames to forward in the next cycle (R415). -/
  relay   : List SlotFrame := []
  deriving DecidableEq, Repr

/-- Twin mailboxes, mirroring and the cycle count (R410 to R428). -/
structure TwinSt where
  cycle   : Nat := 0
  /-- Cycles since a slot frame came from a ring position. -/
  silent  : SMap Nat := []
  /-- NOTE frames kept: source, slot and origin cycle (R415). -/
  kept    : List (Nat × Nat × Word) := []
  /-- New-word bits of MB24, MB26, MB28, MB30, and COLLISION to report of MB25, MB27, MB29, MB31. -/
  mbNew   : BitVec 4 := 0#4
  mbColl  : BitVec 4 := 0#4
  /-- FULL of MB24, MB26, MB28, MB30 as the twin last reported it (R184, R185). -/
  mbFulls : BitVec 4 := 0#4
  /-- The cycle in which an outbound mailbox's word went, by mailbox (R184). -/
  mbSent  : SMap (Option Word) := []
  /-- The twin sent SUPPLY_LOSS or entered DORMANT (R421, R428). -/
  lost    : Bool := false
  /-- Records made and not acknowledged, oldest first, with the edge each was made at; records that wait to be
  sent; and the last sequence made (R425). -/
  outst   : List (MirrorRec × Nat) := []
  toSend  : List MirrorRec := []
  made    : Word := 0#32
  /-- Bytes of what waits that the producers have fed into the queues of the MIRROR and the NOTE slot (R417). -/
  mirrorFed : Nat := 0
  noteFed : Nat := 0
  /-- Cycles in which MIRROR_ACK has not moved while records are outstanding. -/
  stuck   : Nat := 0
  /-- A full resynchronisation is due, was deferred by the host; mirroring paused since (R427). -/
  due     : Bool := false
  deferred : Bool := false
  /-- Sequence of the last record received in order, and the copies held (R428). -/
  inSeq   : Word := 0#32
  copies  : SMap (List Word) := []
  seconds : List (List Word) := []
  /-- Fields changed by the last stitch, and node ranges of the routes changed (R424). -/
  config  : List Word := []
  routes  : List (Nat × Nat) := []
  /-- A configuration to baste at the next entry into FIT (R428). -/
  adopt   : List Word := []
  /-- The last record taken was a ROUTE of a restore that the own empty table admits (R428). -/
  adoptingRoutes : Bool := false
  deriving DecidableEq, Repr

/-- Domain notes (R430 to R437). -/
structure DomainSt where
  /-- The next-hop table. -/
  routes  : SMap Word := []
  /-- Ring positions from which slot frames arrive (R431). -/
  ringUp  : BitVec 8 := 0#8
  /-- Broadcast pairs remembered: source and serial, and the edge at which (R435). -/
  seen    : List (Nat × Word × Nat) := []
  /-- Last serial delivered by source, and the edge at which (R434). -/
  replay  : SMap (Option (Word × Nat)) := []
  /-- Outbound queues by link: 0 to 23 line ports, 32 to 39 ring positions (R435). -/
  queues  : SMap (List Note) := []
  /-- GCC0 bytes of a port's first note that are still to go (R227, R433). -/
  left    : SMap (List Byte) := []
  /-- Notes that wait for the end of RENEW (R70). -/
  waiting : List HeldNote := []
  /-- Notes this part sent to itself, oldest first, that have not been taken yet. -/
  self_   : List Note := []
  /-- Notes of kept NOTE frames that have not been taken yet, each with its ring position (R415). -/
  inbox   : List (Nat × Note) := []
  /-- FETCH_REQ notes delivered and not answered yet (R437). -/
  reqs    : List Note := []
  /-- Outstanding DOMAIN.FETCH_PM requests by tag: serial and node (R437). -/
  fetches : SMap (Option Word) := []
  fetchSerial : Word := 0#32
  deriving DecidableEq, Repr

/-- The part's common PM state. -/
structure PmSt where
  /-- The last second that ended, and the number of the oldest 15-minute bin not closed, counted from a
  day before day 0. -/
  last    : Option Nat := none
  toClose : Option Nat := none
  /-- The TTI table copied at a stitch, by entry * 64 + byte (R224). -/
  ttiTx   : Memory := []
  /-- APS/PCC bytes going out, by channel, with the word 0 they went out under (R226). -/
  apsOut  : SMap (Option (Word × Word)) := []
  /-- Conditions of consequent actions, and the actions in force, by point * 4 + action (R231). -/
  cond    : SMap Bool := []
  conseq  : SMap Bool := []
  deriving DecidableEq, Repr

/-! ### The whole part -/

/-- Everything inside the lid and at its contacts, but for the queue of waiting commands, the command
window and the SMBus target. -/
@[ext] structure Part where
  /-- Register-clock edges counted by the model's ticks (log 6). -/
  clk     : Nat := 0
  /-- Free values used so far (log 2). The model's own field. -/
  free    : Nat := 0
  regs    : SMap Word := []
  out     : List Out := []
  supply  : Supply := {}
  md      : ModeSt := {}
  host    : HostIf := {}
  media   : MediaSt := {}
  access  : AccessSt := {}
  bus     : BusSt := {}
  steer   : SteerSt := {}
  cmd     : CmdSt := {}
  stitch  : StitchSt := {}
  journal : Journal := {}
  ledger  : LedgerSt := {}
  crc     : SMap CrcLatch := []
  back    : BackSt := {}
  jtag    : JtagSt := {}
  /-- Host memory as the part wrote it: the reply ring, bulk results, rings of records. -/
  hostMem : Memory := []
  /-- LPDDR5X behind the CXL.mem windows, by DPA (R89). -/
  dram    : Memory := []
  time    : TimeSt := {}
  /-- Measured segment delays that differ from the part's own (R37, R216); see `segDelay`. -/
  segs    : SMap (Option Dword) := []
  lanes   : SMap LaneSt := []
  ports   : SMap PortSt := []
  tribs   : SMap TribSt := []
  points  : SMap PointSt := []
  pm      : PmSt := {}
  seams   : SMap SeamSt := []
  recov   : SMap RecovSt := []
  /-- PTP ports: 0 to 47 client ports, 48 to 71 the OSMC of line ports. -/
  ptp     : SMap PtpSt := []
  exch    : SMap ExchSt := []
  stamps  : SMap StampSt := []
  /-- Calibration records by segment (R354). -/
  segRecs : SMap SegRec := []
  clients : SMap ClientSt := []
  /-- Bobbins a pool holds on die, oldest first (R391). -/
  bobbins : SMap (List Dword) := []
  links   : SMap LinkSt := []
  twin    : TwinSt := {}
  domain  : DomainSt := {}
  deriving DecidableEq, Repr

/-- The machine: the queue of waiting commands, first in, first out, the command window (R87, R148),
the SMBus target (R544) and the part. -/
@[ext]
structure State where
  pending : List Instr
  window  : Memory
  smb     : SmbSt
  part    : Part
  deriving DecidableEq, Repr

/-- The ledger of power-off: a module before VIN is applied (R60, R536). Banks hold the image the
module was made with (log 4). -/
def Part.unpowered : Part :=
  { journal := { bank0 := { use := .active, version := Config.imageVersion,
                            svn := Config.imageSvn, digest := Config.imageDigest } } }

/-- The machine right after reset: unpowered, RST_N and PERST_N low, an empty queue (R55, R60). -/
def State.reset : State := { pending := [], window := [], smb := {}, part := Part.unpowered }

end Sys2Proof.Machine
end

