-- ==== Sys2Proof/Machine/Ops.lean ====
section
/-! DEFINITION. The named operations every command uses: registers, time words, event groups and MSI-X
messages, ledger terms, trace records, replies and bulk results, and steering decisions. -/

namespace Sys2Proof.Machine

/-- The outcome of a step. -/
abbrev Result := Host.Outcome State Fault Refusal

/-- A command that acts on the part alone: the queue, the command window and the SMBus target stay. -/
def onPart (f : Part → Part) (s : State) : Result := .next { s with part := f s.part }

/-! ### Registers -/

/-- The word in force at a canonical register-space offset (R13). -/
def Part.reg (p : Part) (o : Nat) : Word := SMap.get regReset p.regs o

/-- The word at an offset replaced. -/
def Part.setReg (p : Part) (o : Nat) (w : Word) : Part :=
  { p with regs := SMap.set regReset p.regs o w }

/-- Field `[hi:lo]` of a register (R6). -/
def Part.field (p : Part) (o hi lo : Nat) : Nat := fieldOf (p.reg o) hi lo

/-- A register with one field replaced. -/
def Part.setField (p : Part) (o hi lo v : Nat) : Part :=
  p.setReg o (withField (p.reg o) hi lo v)

/-- One bit of a register. -/
def Part.bit (p : Part) (o i : Nat) : Bool := bitAt (p.reg o) i

/-- A register with one bit set or cleared. -/
def Part.setBit (p : Part) (o i : Nat) (b : Bool) : Part := p.setReg o (withBit (p.reg o) i b)

/-- A saturating 32-bit counter raised. -/
def Part.addSat (p : Part) (o n : Nat) : Part := p.setReg o (satAdd (p.reg o) n)

/-- A wrapping 32-bit counter raised. -/
def Part.addWrap (p : Part) (o n : Nat) : Part := p.setReg o (p.reg o + BitVec.ofNat 32 n)

/-- A wrapping counter in a field raised. -/
def Part.addWrapField (p : Part) (o hi lo n : Nat) : Part :=
  p.setField o hi lo (p.field o hi lo + n)

/-- A saturating counter in a field raised. -/
def Part.addSatField (p : Part) (o hi lo n : Nat) : Part :=
  p.setField o hi lo (min (p.field o hi lo + n) (2 ^ (hi - lo + 1) - 1))

/-- The 64-bit value of a two-word register (R7, R111). -/
def Part.reg64 (p : Part) (o : Nat) : Dword := joinWords (p.reg o) (p.reg (o + 4))

/-- A two-word register replaced. -/
def Part.setReg64 (p : Part) (o : Nat) (d : Dword) : Part :=
  (p.setReg o (loWord d)).setReg (o + 4) (hiWord d)

/-- A 64-bit counter raised, modulo 2^64. -/
def Part.addReg64 (p : Part) (o n : Nat) : Part := p.setReg64 o (p.reg64 o + BitVec.ofNat 64 n)

/-- The signed value of a two-word register (R18, R19). -/
def Part.int64 (p : Part) (o : Nat) : Int := (p.reg64 o).toInt

/-- A two-word register set to a signed value, modulo 2^64. -/
def Part.setInt64 (p : Part) (o : Nat) (i : Int) : Part := p.setReg64 o (BitVec.ofInt 64 i)

/-- The registers of a range of offsets back at reset. -/
def Part.clearRegs (p : Part) (lo hi : Nat) : Part :=
  { p with regs := p.regs.filter fun e => e.1 < lo || hi ≤ e.1 }

/-- A fresh free value (log 2): an uninterpreted constant of Config applied to the model's counter. -/
def Part.freshValue (p : Part) : Dword := Config.freeValue p.free

/-- The counter of free values advanced. -/
def Part.useFree (p : Part) : Part := { p with free := p.free + 1 }

/-- Something leaves the part. -/
def Part.emit (p : Part) (o : Out) : Part := { p with out := p.out ++ [o] }

/-! ### Check units (R453 to R455) -/

/-- A register of check unit `i` (R466). -/
def crcReg (i o : Nat) : Nat := 0x8000 + 32 * i + o
/-- The latched setting of a unit (R455). -/
def Part.crcLatch (p : Part) (i : Nat) : CrcLatch := SMap.get (fun _ => {}) p.crc i
/-- RUN. -/
def Part.crcRuns (p : Part) (i : Nat) : Bool := p.bit (crcReg i 0) 31

/-- The running register after bytes, before the final XOR (R453). -/
def crcAdvance (alg : Nat) (v : Word) (bs : List Byte) : Word :=
  if alg = 0 then crcReflRun 0x82F63B78#32 v bs
  else if alg = 1 then crcReflRun 0xEDB88320#32 v bs
  else (crc16Run (v.setWidth 16) bs).setWidth 32

/-- The finished value of a running register (R453, R455). -/
def crcFinish (alg : Nat) (v : Word) : Word := if alg = 0 ∨ alg = 1 then ~~~v else v &&& 0xFFFF#32

/-- The initial value of an algorithm (R453). -/
def crcInitial (alg : Nat) : Word := if alg = 2 then 0xFFFF#32 else full

/-- The algorithm a unit works by: the latched one while it runs, else CFG.ALG (R455). -/
def Part.crcAlg (p : Part) (i : Nat) : Nat :=
  if p.crcRuns i then (p.crcLatch i).alg else p.field (crcReg i 0) 1 0

/-- RESULT follows VALUE (R455). -/
def Part.crcSync (p : Part) (i : Nat) : Part :=
  p.setReg (crcReg i 0x14) (crcFinish (p.crcAlg i) (p.reg (crcReg i 0x10)))

/-- A unit takes bytes. -/
def Part.crcTake (p : Part) (i : Nat) (bs : List Byte) : Part :=
  ((p.setReg (crcReg i 0x10) (crcAdvance (p.crcLatch i).alg (p.reg (crcReg i 0x10)) bs)).addWrap
    (crcReg i 0x18) bs.length).crcSync i

/-- The units that snoop a stream source (R454). -/
def Part.crcOn (p : Part) (code inst : Nat) : List Nat :=
  (List.range 8).filter fun i =>
    p.crcRuns i && fieldOf (p.crcLatch i).sel 7 0 == code && fieldOf (p.crcLatch i).sel 15 8 == inst

/-- Bytes of a stream source pass (R454). -/
def Part.snoop (p : Part) (code inst : Nat) (bs : List Byte) : Part :=
  (p.crcOn code inst).foldl (fun (x : Part) i => x.crcTake i bs) p

/-- Bytes of a stream source pass that no operand of the model names: VALUE becomes a free value (log 18),
and COUNT rises by their number. -/
def Part.snoopOpen (p : Part) (code inst n : Nat) : Part :=
  (p.crcOn code inst).foldl (fun (x : Part) i =>
    (((x.setReg (crcReg i 0x10) (loWord x.freshValue)).useFree).addWrap (crcReg i 0x18) n).crcSync i) p

/-- Data of requests at a port pass, 0x06 the HUB DMA engine, 0x12 LPDDR5X or 0x13 host memory: the units that snoop it,
in whose window the address lies and whose direction it is (R454). -/
def Part.snoopTarget (p : Part) (code addr : Nat) (write : Bool) (bs : List Byte) : Part :=
  ((List.range 8).filter fun i =>
    let l := p.crcLatch i
    p.crcRuns i && fieldOf l.sel 7 0 == code && decide (l.base.toNat ≤ addr) && decide (addr ≤ l.limit.toNat)
      && (l.phase == (if write then 0 else 1) || decide (2 ≤ l.phase))).foldl (fun (x : Part) i => x.crcTake i bs) p

/-! ### The bus matrix and what meets at one edge (R110, R139, R441, R445) -/

/-- A rotation master becomes the last granted (R139, R445, R446). -/
def Part.grantTo (p : Part) (m : Master) : Part :=
  if m.sideband then p else { p with bus := { p.bus with lastGrant := m.code } }

/-- What has met the registers at this edge: nothing, where the last was at an earlier one. -/
def Part.busNow (p : Part) : BusSt :=
  if p.bus.at_ = p.clk then p.bus else { lastGrant := p.bus.lastGrant, at_ := p.clk, sets := [], wrote := [] }

/-- The part sets a W1C bit at this edge (R110). -/
def Part.noteSet (p : Part) (o b : Nat) : Part :=
  let n := p.busNow
  { p with bus := { n with
      sets := SMap.set (fun _ => 0#32) n.sets o (SMap.get (fun _ => 0#32) n.sets o ||| (1#32 <<< b)) } }

/-- Requesters write RW bits at this edge (R110). -/
def Part.noteWrite (p : Part) (o : Nat) (m : Word) : Part :=
  let n := p.busNow
  { p with bus := { n with
      wrote := SMap.set (fun _ => 0#32) n.wrote o (SMap.get (fun _ => 0#32) n.wrote o ||| m) } }

/-- The W1C bits of a register that the part has set at this edge: a clear there loses to them (R110). -/
def Part.justSet (p : Part) (o : Nat) : Word := SMap.get (fun _ => 0#32) p.busNow.sets o

/-- The RW bits of a register that requesters have written at this edge: an update of the part loses to them
(R110). -/
def Part.justWrote (p : Part) (o : Nat) : Word := SMap.get (fun _ => 0#32) p.busNow.wrote o

/-- The part sets a W1C bit (R110). -/
def Part.raise (p : Part) (o b : Nat) : Part := (p.noteSet o b).setBit o b true

/-- Bytes are written to host memory by the HOST island's engines (R441, R454). -/
def Part.hostWrite (p : Part) (a : Nat) (bs : List Byte) : Part :=
  let q := (p.grantTo .engines).snoopTarget 0x13 a true bs
  { q with hostMem := q.hostMem.writeBytes a bs }

/-! ### Register offsets shared by several chapters -/

/-- GLOBAL.STEER[f] (R141). -/
def steerReg (f : Nat) : Nat := 0x040 + 4 * f
/-- GLOBAL.STEER_MISSED[f] (R141). -/
def missedReg (f : Nat) : Nat := 0x080 + 4 * f
/-- GLOBAL.STITCH_COUNT (R141). -/
def stitchCountReg : Nat := 0x034
/-- EVENT.GROUP_EN (R144). -/
def groupEnReg : Nat := 0x5004
/-- EVENT.HOLDOFF[g] (R144). -/
def holdoffReg (g : Nat) : Nat := 0x5040 + 4 * g
/-- MEMCTL.HIST, its history register (R489). -/
def memHistReg : Nat := 0xA010
/-- BACKGROUND.HIST (R488). -/
def backHistReg : Nat := 0xB030
/-- SECURITY.HIST (R506). -/
def secHistReg : Nat := 0xC0B0
/-- POWER.HIST (R529). -/
def powerHistReg : Nat := 0x6050
/-- FABRIC.HIST (R465). -/
def fabricHistReg : Nat := 0x700C
/-- LEDGER.HIST (R467). -/
def ledgerHistReg : Nat := 0x9020

/-! ### Modes and time -/

/-- The current mode. -/
def Part.mode (p : Part) : Mode := p.md.cur

/-- Seconds, nanoseconds and fraction of an instant in units of 2^-16 ns, as a time word (R14). -/
def timeWords (t : Nat) : List Word :=
  let ns := t / 65536
  let sec := ns / 1000000000
  [BitVec.ofNat 32 (ns % 1000000000), BitVec.ofNat 32 sec,
    BitVec.ofNat 32 (sec / 2 ^ 32 % 2 ^ 16 + t % 65536 * 2 ^ 16)]

/-- The instant a time word names; none where its nanoseconds are 1,000,000,000 or more (R14, R16). -/
def timeOfWords (w0 w1 w2 : Word) : Option Nat :=
  if w0.toNat < 1000000000 then
    some (((w1.toNat + fieldOf w2 15 0 * 2 ^ 32) * 1000000000 + w0.toNat) * 65536 + fieldOf w2 31 16)
  else none

/-- Register-clock edges in a microsecond (R551). -/
def edgesPerUs : Nat := 250

/-- MODE_STATUS (R49, R141). -/
def Part.modeStatus (p : Part) : Word :=
  let t := match p.md.trans with
    | some tr => tr.dest.code + 16
    | none => p.md.cur.code
  BitVec.ofNat 32 (p.md.cur.code + t % 16 * 16 + t / 16 * 256
    + p.journal.resume.toNat * 512 + p.journal.resumeCarry.toNat * 1024)

/-- Whole seconds in the current mode, saturating (R141). -/
def Part.modeSeconds (p : Part) : Word := satAdd 0#32 ((p.clk - p.md.since) / 250000000)

/-- The cores are restarting: in RENEW, or after fault 0x07 as in RENEW (R69, R70, R484). -/
def Part.coresAway (p : Part) : Bool := p.md.coresOut || p.md.cur == .renew

/-- The modes in which BASTE is accepted (R75, R124). -/
def Mode.bastes : Mode → Bool
  | .fit | .listen | .carry | .trim | .doze => true
  | _ => false

/-- The modes in which the slices, WEFT and TIME are powered (R50). -/
def Mode.slicesOn : Mode → Bool
  | .dormant | .inert | .attest => false
  | _ => true

/-- A mode that carries line traffic (R50). -/
def Mode.carries : Mode → Bool
  | .carry | .trim | .doze | .drain | .renew => true
  | _ => false

/-- A mode in which receivers and monitors run (R50). -/
def Mode.receives : Mode → Bool
  | .listen => true
  | m => m.carries

/-- The datapath islands are powered and their clocks run: FREEZE stops them, and what they hold stays (R50, R72). -/
def Part.clocked (p : Part) : Bool := p.mode.slicesOn && p.mode != .freeze

/-- A command or event of an island whose clocks FREEZE stops: in FREEZE it changes nothing (R72). -/
def onClock (f : Part → Part) (s : State) : Result :=
  onPart (fun p => if p.md.cur = .freeze then p else f p) s

/-- The LPDDR5X is out of self-refresh and its island not fenced (R72, R487). -/
def Part.memUp (p : Part) : Bool :=
  (match p.mode with | .dormant | .freeze => false | _ => true) && p.field (0x7040 + 32 * 25) 1 0 == 0

/-! ### Ledger terms (R457 to R461) -/

/-- A term of a ledger: code is its place in the balance, 0x100 + k a fault loss, 0x200 + k a
discard. -/
def Part.term (p : Part) (led code : Nat) : Dword :=
  SMap.get (fun _ => 0#64) p.ledger.terms (led * 0x400 + code)

/-- A term raised, modulo 2^64. -/
def Part.count (p : Part) (led code n : Nat) : Part :=
  { p with ledger := { p.ledger with
      terms := SMap.set (fun _ => 0#64) p.ledger.terms (led * 0x400 + code)
        (p.term led code + BitVec.ofNat 64 n) } }

/-! ### Selvedges (R450) -/

/-- FABRIC.SELV[i] register at byte `o` (R465). -/
def selvReg (i o : Nat) : Nat := 0x7040 + 32 * i + o

/-- The state of a control selvedge: 0 ACTIVE, 1 FENCING, 2 FENCED, 3 RESUMING. -/
def Part.selvState (p : Part) (i : Nat) : Nat := p.field (selvReg i 0) 1 0

/-- A control selvedge passes requests on: ACTIVE, or, after the wait, RESUMING (R450). -/
def Part.selvOpen (p : Part) (i : Nat) : Bool := p.selvState i == 0 || p.selvState i == 3

/-- The WEFT island carries traffic: it is not fenced, and not yet refilling its credits (R34, R450, R452). -/
def Part.weftRuns (p : Part) : Bool := decide (p.selvState 24 < 2)

/-- `n` requests over a control selvedge are answered, each once: completed where it passes requests on, else
ABORT_CLEAN (R30, R450). -/
def Part.selvRequests (p : Part) (i n : Nat) : Part :=
  if p.selvOpen i then
    (((p.addWrap (selvReg i 4) n).addWrap (selvReg i 8) n).count (0xB000 + i) 0 n).count (0xB000 + i) 1 n
  else
    (((p.addWrap (selvReg i 4) n).addWrap (selvReg i 0xC) n).count (0xB000 + i) 0 n).count (0xB000 + i) 2 n

/-- One request over a control selvedge. -/
def Part.selvRequest (p : Part) (i : Nat) : Part := p.selvRequests i 1

/-- A command reads bytes of the LPDDR5X through the MEM selvedge, a request for each 64 bytes (R30). DESIGN CHOICE
(log 78): a read answered ABORT gives 0, as a register read does (R451). -/
def Part.memRead (p : Part) (a n : Nat) : Part × List Byte :=
  let bs := if p.selvOpen 25 then p.dram.readBytes a n else List.replicate n 0#8
  ((((p.grantTo .dma).selvRequests 25 ((n + 63) / 64)).snoopTarget 0x06 a false bs).snoopTarget 0x12 a false bs, bs)

/-- Bytes of the part's own are written to the LPDDR5X through the MEM selvedge, a request for each 64 bytes; a request
answered ABORT_CLEAN has no effect (R30, R441, R450, R451, R454). DESIGN CHOICE (log 86): the part's own reads and
writes of memory are those of the HUB DMA engine. -/
def Part.dramWrite (p : Part) (a : Nat) (bs : List Byte) : Part :=
  let q := (p.grantTo .dma).selvRequests 25 ((bs.length + 63) / 64)
  if p.selvOpen 25 then
    let r := (q.snoopTarget 0x06 a true bs).snoopTarget 0x12 a true bs
    { r with dram := r.dram.writeBytes a bs }
  else q

/-! ### Trace records (R487) -/

/-- MEMCTL.CXLMEM_CFG.TRACE_GIB (R94). -/
def Part.traceGib (p : Part) : Nat := p.field 0xA100 6 0

/-- One trace record, where TRACE_EN and TRACE_MASK select its source (R487). -/
def Part.trace (p : Part) (maskBit source code inst : Nat) (time : Nat) (data : Dword) : Part :=
  if p.bit 0xA100 7 && p.bit 0xB060 maskBit then
    if p.memUp && p.traceGib != 0 then
      let i := p.reg 0xB064
      let ws := [i, BitVec.ofNat 32 (inst % 2 ^ 16 + code % 256 * 2 ^ 16 + source * 2 ^ 24)]
        ++ timeWords time ++ [loWord data, hiWord data]
      let a := 0x600000000 + 32 * (i.toNat % (p.traceGib * 2 ^ 25))
      (p.dramWrite a (bytesOfWords (ws ++ [crc32c (bytesOfWords ws)]))).addWrap 0xB064 1
    else p.addSat 0xB068 1
  else p

/-! ### Event groups and messages (R88, R555, R557) -/

/-- Is a vector masked or unprogrammed (R88)? -/
def Part.vectorShut (p : Part) (v : Nat) : Bool :=
  p.host.masked.getLsbD v || p.host.fmask || !p.host.programmed.getLsbD v

/-- A bit of a 64-bit set. -/
def setBit64 (d : Dword) (i : Nat) (b : Bool) : Dword :=
  if b then d ||| (1#64 <<< i) else d &&& ~~~(1#64 <<< i)

/-- HOLDOFF_US of a vector: of its group (R144), or of its tap's receive ring for vector 16+n (R407). -/
def Part.holdoff (p : Part) (v : Nat) : Nat :=
  if v < 12 then p.field (holdoffReg v) 9 0
  else if v < 16 then 0
  else p.field ((0x6C + (v - 16) / 12) * 0x1000 + 256 * ((v - 16) % 12) + 0x14) 9 0

/-- A message is sent on a vector; a hold-off above 0 opens its interval (R557). -/
def Part.sendVector (p : Part) (v holdoff : Nat) : Part :=
  { p.emit (.msix v) with
    host := { p.host with holdOpen := setBit64 p.host.holdOpen v (decide (0 < holdoff)),
                          holdFormed := setBit64 p.host.holdFormed v false } }

/-- A message is formed for a vector (R88, R557). While the link is down it is neither sent nor held; a masked or
unprogrammed vector sets its PBA bit. DESIGN CHOICE (log 71): one formed for an open vector while MSI-X Enable is
clear is dropped. -/
def Part.formVector (p : Part) (v holdoff : Nat) : Part :=
  if !p.host.linkUp then p
  else if p.vectorShut v then { p with host := { p.host with pba := setBit64 p.host.pba v true } }
  else if !p.host.msixEn then p
  else if p.host.holdOpen.getLsbD v then
    { p with host := { p.host with holdFormed := setBit64 p.host.holdFormed v true } }
  else p.sendVector v holdoff

/-- A new cause of group `g`: one message for vector `g` while GROUP_EN lets it (R555, R145). -/
def Part.message (p : Part) (g : Nat) : Part :=
  if p.bit groupEnReg g then p.formVector g (p.field (holdoffReg g) 9 0) else p

/-- The part's local time, in units of 2^-16 ns; 0 before the timekeeper starts (R14, R326). -/
def Part.now (p : Part) : Nat := p.time.now.toNat

/-- The instance whose event a register's bit is, by the placement of R140 and, for the change summaries of the PM
points, by the bit (R21, R221); 0 in a block of one instance. -/
def eventInst (o b : Nat) : Nat :=
  let k := o / 0x1000
  let r := o % 0x1000
  if k = 0x10 then r / 128
  else if k = 0x11 ∧ r < 0xC00 then r / 64
  else if 0x20 ≤ k ∧ k ≤ 0x37 then k - 0x20
  else if 0x40 ≤ k ∧ k ≤ 0x4B then 8 * (k - 0x40) + r / 512
  else if 0x50 ≤ k ∧ k ≤ 0x67 then o / 64 % 0x400
  else if 0x68 ≤ k ∧ k ≤ 0x6A then (o - 0x68000) / 256
  else if 0x6C ≤ k ∧ k ≤ 0x6F then
    if r < 0xC00 then 12 * (k - 0x6C) + r / 256 else 4 * (k - 0x6C) + (r - 0xC00) / 256
  else if k = 0x75 ∨ k = 0x76 then (o - 0x75000) / 4
  else if k = 0x77 then 32 * (r % 0x100 / 4) + b
  else if k = 0x78 then r / 64
  else 0

/-- Sets bit `b` of a history register; where `lets` holds, its 0 to 1 change is a new cause of group
`g` (R555). -/
def Part.setEvent (p : Part) (o b g : Nat) (lets : Bool) : Part :=
  let p := p.noteSet o b
  if p.bit o b then p
  else
    let q := (p.setBit o b true).trace g g b (eventInst o b) p.now 0#64
    if lets then q.message g else q

/-- Sets bit `b` of a HIST register whose bit 31 is its IRQ_EN. -/
def Part.hist (p : Part) (o b g : Nat) : Part := p.setEvent o b g (p.bit o 31)

/-- An event for which the spec names a vector but no register bit: a message and a record (log 7). -/
def Part.announce (p : Part) (g : Nat) (nm : String) (inst : Nat) (val : Dword) : Part :=
  ((p.emit (.event nm inst val)).trace g g 0xFF inst p.now val).message g

/-! ### Fault losses and discards (R460, R461) -/

/-- A fault loss with a cause of 0x01 to 0x04, at detection (R460). -/
def Part.faultLoss (p : Part) (led cause n : Nat) : Part :=
  if n = 0 then p
  else ((p.count led (0x100 + (cause - 1)) n).addSat 0x901C 1).hist ledgerHistReg 1 9

/-- A deliberate discard with a cause of 0x20 to 0x22 (R461). -/
def Part.discardTerm (p : Part) (led cause n : Nat) : Part :=
  if n = 0 then p else p.count led (0x200 + (cause - 0x20)) n

/-! ### Access records (R142, R552) -/

/-- A GUARD record at `base` (0x04 guard failure, 0x10 lock violation, 0x20 access fault): the first
since VALID was cleared is kept, every one is counted, and its CAUSE bit sets (R142). -/
def Part.guardRecord (p : Part) (base causeBit cause : Nat) (req : Req) (addr : BitVec 28) : Part :=
  let o := 0x1000 + base
  let q := (p.addSat (o + 8) 1).noteSet (o + 4) 31
  let q := if q.bit (o + 4) 31 then q
    else (q.setReg o (addr.setWidth 32)).setReg (o + 4)
      (BitVec.ofNat 32 (2 ^ 31 + q.mode.code * 2 ^ 12 + cause * 2 ^ 8 + req.code))
  q.setEvent 0x1030 causeBit 9 (q.bit 0x1034 causeBit)

/-- A guard failure (R126). -/
def Part.guardFail (p : Part) (cause : Nat) (req : Req) (addr : BitVec 28) : Part :=
  p.guardRecord 0x04 0 cause req addr

/-- A lock violation (R129, R134, R121). -/
def Part.lockViolation (p : Part) (cause : Nat) (req : Req) (addr : BitVec 28) : Part :=
  p.guardRecord 0x10 1 cause req addr

/-- An access fault (R552). -/
def Part.accessFault (p : Part) (cause : Nat) (req : Req) (addr : BitVec 28) : Part :=
  p.guardRecord 0x20 2 cause req addr

/-! ### Guard states (R126) -/

/-- A requester's guard state. -/
def Part.guardOf (p : Part) (q : Req) : Option GuardOpen := SMap.get (fun _ => none) p.access.guards q.code

/-- A requester's guard state replaced. -/
def Part.setGuard (p : Part) (q : Req) (g : Option GuardOpen) : Part :=
  { p with access := { p.access with guards := SMap.set (fun _ => none) p.access.guards q.code g } }

/-- A requester's window of `n` edges or more ends: IDLE, with a guard failure of cause 0x2 for X (R126). -/
def Part.endGuard (p : Part) (n : Nat) (q : Req) : Part :=
  match p.guardOf q with
  | some g => if g.at_ + n ≤ p.clk then (p.setGuard q none).guardFail 2 q g.addr else p
  | none => p

/-! ### Tags, replies and bulk results (R149 to R166) -/

/-- A tag's state and copied slot. -/
def Part.tag (p : Part) (t : Nat) : Tag := SMap.get (fun _ => {}) p.cmd.tags t

/-- A tag replaced; a tag back at FREE is unlisted. -/
def Part.setTag (p : Part) (t : Nat) (v : Tag) : Part :=
  { p with cmd := { p.cmd with tags := SMap.set (fun _ => {}) p.cmd.tags t v } }

/-- A tag's state replaced. -/
def Part.setTagState (p : Part) (t : Nat) (st : TagState) : Part :=
  p.setTag t { p.tag t with st := st }

/-- Header word `k` of a tag's copied slot (R150). -/
def Part.hdr (p : Part) (t k : Nat) : Word := (p.tag t).hdr.getD k 0#32

/-- Parameter word `k` of a tag's copied slot (R167). -/
def Part.par (p : Part) (t k : Nat) : Word := (p.tag t).params.getD k 0#32

/-- The 64-bit value of parameter words `k` and `k + 1`. -/
def Part.par64 (p : Part) (t k : Nat) : Dword := joinWords (p.par t k) (p.par t (k + 1))

/-- The opcode of a tag's copied slot (R150). -/
def Part.opcode (p : Part) (t : Nat) : Nat := fieldOf (p.hdr t 0) 15 0

/-- Does a tag run this opcode (R159)? A row of the command table acts on such a tag only. -/
def Part.runs (p : Part) (t op : Nat) : Bool :=
  decide ((p.tag t).st = .running) && p.opcode t == op

/-- Status codes (R166). -/
def stDone : Nat := 0x00
/-- ACCEPTED (R166). -/
def stAccepted : Nat := 0x01
/-- REJECTED_MODE (R166). -/
def stMode : Nat := 0x10
/-- REJECTED_PARAM (R166). -/
def stParam : Nat := 0x11
/-- BUSY (R166). -/
def stBusy : Nat := 0x12
/-- ABORTED (R166). -/
def stAborted : Nat := 0x13
/-- ALREADY_DONE (R166). -/
def stAlready : Nat := 0x14
/-- TIMEOUT (R166). -/
def stTimeout : Nat := 0x15
/-- GUARD_FAIL (R166). -/
def stGuard : Nat := 0x16
/-- LOCKED (R166). -/
def stLocked : Nat := 0x17
/-- NO_RESOURCE (R166). -/
def stNoRes : Nat := 0x18
/-- INTEGRITY (R166). -/
def stIntegrity : Nat := 0x19
/-- UNKNOWN_OPCODE (R166). -/
def stUnknown : Nat := 0x1A
/-- TAG_MISMATCH (R166). -/
def stTagMismatch : Nat := 0x1B

/-- The eight words of a reply, with PHASE 0 (R165). DONE_NS is the nanoseconds field of the time. -/
def Part.replyWords (p : Part) (t status detail : Nat) (r0 : Dword) (r1 : Word) : List Word :=
  [BitVec.ofNat 32 (p.opcode t + t % 1024 * 2 ^ 16), BitVec.ofNat 32 (status + detail % 256 * 2 ^ 8),
    p.hdr t 2, p.hdr t 3, loWord r0, hiWord r0, r1,
    BitVec.ofNat 32 (p.now / 65536 % 1000000000)]

/-- A reply record with PHASE set as given (R164). -/
def withPhase (b : Bool) : List Word → List Word
  | [] => []
  | w :: r => withBit w 31 b :: r

/-- Entries of the reply ring (R162). -/
def Part.ringSize (p : Part) : Nat := 2 ^ p.field 0x4010 4 0

/-- Can a reply be written into the ring now (R163, R178)? -/
def Part.ringRoom (p : Part) : Bool :=
  p.host.linkUp && p.bit 0x4010 31 && (p.reg 0x4014 - p.reg 0x4018).toNat < p.ringSize

/-- A record is written to the ring at REPLY_PROD, which then advances; group 0 has a new cause
(R162, R164). DESIGN CHOICE (log 72): a RING_BASE that is not aligned to the ring's size is used as programmed. -/
def Part.ringWrite (p : Part) (ws : List Word) : Part :=
  let i := (p.reg 0x4014).toNat
  let n := p.ringSize
  let a := (p.reg64 0x4008).toNat + 32 * (i % n)
  ((p.hostWrite a (bytesOfWords (withPhase (i / n % 2 == 0) ws))).addWrap 0x4014 1).message 0

/-- A reply waits in the HELD state (R159, R163). -/
def Part.holdReply (p : Part) (t : Nat) (ws : List Word) : Part :=
  { p.setTagState t .held with cmd := { (p.setTagState t .held).cmd with
      held := (p.setTagState t .held).cmd.held ++ [{ tag := t, words := ws }] } }

/-- The undelivered list holds up to 1,024 records (R102). -/
def undeliveredMax : Nat := 1024

/-- A tag's reply joins the undelivered list with PHASE 1, and the tag is free (R102, R159). Ledger 0x0 counts it
as delivered late. DESIGN CHOICE (log 8): while the list holds 1,024 records the reply stays HELD. -/
def Part.undeliver (p : Part) (t : Nat) (ws : List Word) : Part :=
  if p.cmd.undelivered.length < undeliveredMax then
    (({ p with cmd := { p.cmd with undelivered := p.cmd.undelivered ++ [withPhase true ws] } }.count 0 3 1).setTag
      t {})
  else p.holdReply t ws

/-- A reply is formed: written to the ring, or HELD, or, while the link is down, undelivered (R159,
R162, R102). Ledger 0x0 counts it. -/
def Part.reply (p : Part) (t status detail : Nat) (r0 : Dword) (r1 : Word) : Part :=
  let ws := p.replyWords t status detail r0 r1
  let q := p.trace 16 0xF0 (p.opcode t / 256) t p.now (BitVec.ofNat 64 (status + detail % 256 * 256))
  if !q.host.linkUp || (q.tag t).late then q.undeliver t ws
  else if q.ringRoom && q.cmd.held.isEmpty then ((q.ringWrite ws).setTag t {}).count 0 1 1
  else q.holdReply t ws

/-- HELD replies are written, oldest first, while the ring has room (R159, R163). -/
def Part.flushHeld : Nat → Part → Part
  | 0, p => p
  | n + 1, p =>
    match p.cmd.held with
    | [] => p
    | h :: r =>
      if p.ringRoom then
        Part.flushHeld n
          ((({ p with cmd := { p.cmd with held := r } }.ringWrite h.words).setTag h.tag {}).count 0 1 1)
      else p

/-- A command that a check fails: its reply and no other effect (R159). -/
def Part.reject (p : Part) (t status detail : Nat) : Part := p.reply t status detail 0#64 0#32

/-- A command that finishes DONE. -/
def Part.done (p : Part) (t : Nat) (r0 : Dword) (r1 : Word) : Part := p.reply t stDone 0 r0 r1

/-- RESULT_ADDR and RESULT_LEN of a tag (R150). -/
def Part.resultAddr (p : Part) (t : Nat) : Nat := (joinWords (p.hdr t 6) (p.hdr t 7)).toNat
/-- RESULT_LEN of a tag (R150). -/
def Part.resultLen (p : Part) (t : Nat) : Nat := fieldOf (p.hdr t 8) 24 0

/-- Leading bytes of a bulk result are written to host memory (R151). -/
def Part.writeBulk (p : Part) (t : Nat) (bs : List Byte) : Part :=
  if p.host.linkUp then p.hostWrite (p.resultAddr t) (bs.take (p.resultLen t)) else p

/-- A bulk result of `full` bytes, of which `bs` leads, and its DONE reply: a longer result sets DETAIL[0] and
RESULT1 gives the full length (R151). -/
def Part.doneBulkOf (p : Part) (t : Nat) (bs : List Byte) (full : Nat) (r0 : Dword) (r1 : Word) : Part :=
  let q := p.writeBulk t bs
  if p.resultLen t < full then q.reply t stDone 1 r0 (BitVec.ofNat 32 full)
  else q.reply t stDone 0 r0 r1

/-- A whole bulk result and its DONE reply (R151). -/
def Part.doneBulk (p : Part) (t : Nat) (bs : List Byte) (r0 : Dword) (r1 : Word) : Part :=
  p.doneBulkOf t bs bs.length r0 r1

/-- Is a tag in flight (R149)? -/
def Part.inFlight (p : Part) (t : Nat) : Bool := decide ((p.tag t).st ≠ .free)

/-! ### Steering (R38 to R46, R554) -/

/-- A condition of R43 holds: every candidate is decided in hardware at once. -/
def Part.steerForced (p : Part) : Bool :=
  !p.host.linkUp || p.host.masked.getLsbD 1 || p.host.fmask || !p.bit groupEnReg 1 ||
    (match p.mode with | .dormant | .attest | .freeze => true | _ => false)

/-- A record joins the decision queue; past 512 the oldest is overwritten and counted (R146). -/
def Part.postRecord (p : Part) (d : Decision) (superseded : Bool) : Part :=
  let r : DecRec := { serial := d.serial, superseded := superseded, func := d.func, inst := d.inst,
                      cand := d.cand, alts := d.alts, deadline := d.deadline }
  let l := p.steer.queue ++ [r]
  let q := if 512 < l.length then
      ({ p with steer := { p.steer with queue := l.drop 1 } }.addSat 0x5120 1).count 0xD000 2 1
    else { p with steer := { p.steer with queue := l } }
  ((q.count 0xD000 0 1).trace 17 0xF1 d.func d.inst q.now (BitVec.ofNat 64 d.cand)).message 1

/-- A missed deadline of function `f` (R40, R43). -/
def Part.countMissed (p : Part) (f : Nat) : Part := (p.addSat (missedReg f) 1).count 0x1000 3 1

/-- The open decision of a function and instance. -/
def Part.openFor (p : Part) (f inst : Nat) : Option Decision :=
  p.steer.openDecs.find? fun d => d.func == f && d.inst == inst

/-- A decision leaves the open list. -/
def Part.dropDecision (p : Part) (serial : Word) : Part :=
  { p with steer := { p.steer with openDecs := p.steer.openDecs.filter fun d => d.serial != serial } }

/-- The serial after one, which skips 0 (R146). -/
def nextSerialOf (w : Word) : Word := if w + 1#32 = 0#32 then 1#32 else w + 1#32

/-- An open decision takes a newer candidate and keeps its deadline; the candidate is counted (R40, R42, R44). -/
def Part.supersede (p : Part) (d : Decision) : Part :=
  { p with steer := { p.steer with
      openDecs := p.steer.openDecs.map fun (e : Decision) => if e.serial = d.serial then d else e,
      superseded := p.steer.superseded + 1 } }.postRecord d true

/-- An open decision closes because what it was about is gone: superseded with an empty ALT_MASK, and under a condition
of R43 missed (R399, R554). The ledger counts such a close as a discard (R44, log 93). -/
def Part.closeGone (p : Part) (serial : Word) : Part :=
  match p.steer.openDecs.find? (fun d => d.serial == serial) with
  | some d =>
    if p.steerForced then (p.dropDecision serial).countMissed d.func
    else ((p.supersede { d with alts := 0#32 }).dropDecision serial).discardTerm 0x1000 0x20 1
  | none => p

/-- Is a function's candidate for an instance offered: in host-assisted mode, or while a decision raised in it is
still open (R46)? -/
def Part.steered (p : Part) (f inst : Nat) : Bool := p.bit (steerReg f) 31 || (p.openFor f inst).isSome

/-- A function's hardware candidate: applied at once, or posted as a decision (R39, R40, R43, R46,
R554). `apply` gives the decided value its effect. -/
def Part.offer (p : Part) (f inst cand : Nat) (alts : Word) (apply : Nat → Part → Part) : Part :=
  match p.openFor f inst with
  | some d =>
    if p.steerForced then apply cand ((p.dropDecision d.serial).countMissed f)
    else if d.cand = cand ∧ d.alts = alts then p
    else p.supersede { d with cand := cand, alts := alts }
  | none =>
    if !p.bit (steerReg f) 31 then apply cand p
    else if p.steerForced then apply cand ((p.count 0x1000 0 1).countMissed f)
    else if 256 ≤ p.steer.openDecs.length then apply cand ((p.count 0x1000 0 1).count 0x1000 4 1)
    else
      let d : Decision :=
        { serial := p.steer.nextSerial, func := f, inst := inst, cand := cand, alts := alts,
          deadline := p.clk + p.field (steerReg f) 26 0 * edgesPerUs }
      { p.count 0x1000 0 1 with steer := { p.steer with
          openDecs := p.steer.openDecs ++ [d], nextSerial := nextSerialOf d.serial } }.postRecord d false

/-! ### The journal's allowance (R477) -/

/-- Block writes begin (R477); check units see their bytes (R454, log 18). -/
def Part.journalWrites (p : Part) (n : Nat) : Part :=
  { p with journal := { p.journal with
      writes := (p.journal.writes.filter fun (e : Nat × Nat) => decide (p.clk - e.1 < 15000000000)) ++
        [(p.clk, n)] } }.snoopOpen
    0x28 0 (4096 * n)

/-- The block writes begun in the last `edges` (R477). -/
def Part.journalRecent (p : Part) (edges : Nat) : Nat :=
  ((p.journal.writes.filter fun (e : Nat × Nat) => decide (p.clk - e.1 < edges)).map (·.2)).sum

/-- Would `n` more block writes exceed the allowance of R477, 4,000 in any 1 s and 15,360 in any 60 s? -/
def Part.journalFull (p : Part) (n : Nat) : Bool :=
  decide (4000 < p.journalRecent 250000000 + n) || decide (15360 < p.journalRecent 15000000000 + n)

/-- Block writes of a stitched set in the journal: 12 bytes a register (log 21). -/
def stitchBlocks (n : Nat) : Nat := max 1 ((12 * n + 4095) / 4096)

/-! ### Segments of the fixed latency (R36, R37, R216, R272, R300, R387) -/

/-- A segment's delay without holds: 0-47 line receive, 48-95 line transmit, 96-143 client receive,
144-191 client transmit, 192-1215 DEMAP, 1216-2239 MAP, 2240 weft, 2241-2246 outputs. The weft adds
248.0 ns (R300, log 24). -/
def Part.segDelay (p : Part) (i : Nat) : Dword :=
  match SMap.get (fun _ => none) p.segs i with
  | some d => d
  | none => if i = 2240 then 16252928#64 else BitVec.ofNat 64 (Config.segmentDelay i)

/-! ### Validation at STITCH (R171, R556) -/

/-- A failure of validation: the status, the offset of the faulty field and the DETAIL. -/
structure StitchFault where
  status : Nat
  offset : Nat
  detail : Nat
  deriving DecidableEq, Repr

/-- A REJECTED_PARAM failure. -/
def paramFail (off : Nat) : StitchFault := { status := stParam, offset := off, detail := 0 }

/-- The failure, where a condition holds. -/
def failIf (b : Bool) (f : StitchFault) : List StitchFault := if b then [f] else []

/-- The register file after a stitch set: the changed bits replaced. -/
def afterSet (p : Part) (set : SMap (Word × Word)) (o : Nat) : Word :=
  let c := SMap.get (fun _ => (0#32, 0#32)) set o
  mergeMask (p.reg o) c.2 c.1

end Sys2Proof.Machine
end

