-- ==== Sys2Proof/Machine/Check.lean ====
section
/-! DEFINITION. The check units CRC0 to CRC7: register accesses they snoop, sources, starts and stops (R453 to R456,
R466). The bytes of streams and memories join them in Ops. -/

namespace Sys2Proof.Machine

/-- The master port of a requester (R454). -/
def Req.port : Req → Nat
  | .host => 0 | .mc0 => 1 | .mc1 => 2 | .mc2 => 3 | .mc3 => 4 | .smb => 5 | .jtag => 5

/-- The bytes of a word that a request enables, in address order (R454). -/
def enabledBytes (be : BitVec 4) (w : Word) : List Byte :=
  ((wordBytes w).zipIdx.filter fun e => be.getLsbD e.2).map (·.1)

/-- A word of a register access passes a master port and the register-space port (R454). -/
def Part.snoopBus (p : Part) (req : Req) (addr : Nat) (write : Bool) (w : Word) (be : BitVec 4 := 0xF#4) : Part :=
  (List.range 8).foldl (fun (x : Part) i =>
    let l := x.crcLatch i
    let code := fieldOf l.sel 7 0
    if x.crcRuns i && (code == req.port || code == 0x10) && decide (l.base.toNat ≤ addr)
        && decide (addr ≤ l.limit.toNat) && (l.phase == (if write then 0 else 1) || decide (2 ≤ l.phase)) then
      x.crcTake i (enabledBytes be w)
    else x) p

/-- A source code of R454. -/
def crcSource (c : Nat) : Bool := decide (c ≤ 6) || (decide (0x10 ≤ c) && decide (c ≤ 0x14)) ||
  (decide (0x20 ≤ c) && decide (c ≤ 0x28))

/-- The island behind a source, 29 for the HUB island (R456): a line port's is that of its first lane. -/
def Part.crcIsland (p : Part) (sel : Word) : Nat :=
  let c := fieldOf sel 7 0
  let n := fieldOf sel 15 8
  if c = 0 ∨ c = 0x13 then 27
  else if c = 0x12 then 25
  else if c = 0x20 ∨ c = 0x21 then n / 2
  else if 0x22 ≤ c ∧ c ≤ 0x25 then p.field (0x20000 + 0x1000 * n) 21 16 / 2
  else if c = 0x26 ∨ c = 0x27 then 28
  else 29

/-- A unit starts: the setting is latched, or BAD_SEL sets and RUN stays 0 (R454, R455, R466). -/
def Part.crcBegin (p : Part) (i : Nat) : Part :=
  let cfg := p.reg (crcReg i 0)
  let sel := p.reg (crcReg i 4)
  let q := p.setReg (crcReg i 0x1C) 0#32
  if fieldOf cfg 1 0 = 3 ∨ crcSource (fieldOf sel 7 0) = false then q.setReg (crcReg i 0x1C) 1#32
  else
    let l : CrcLatch := { alg := fieldOf cfg 1 0, sel := sel, phase := fieldOf cfg 5 4,
                          base := p.reg (crcReg i 8), limit := p.reg (crcReg i 0xC) }
    let q : Part := { q with crc := SMap.set (fun _ => {}) q.crc i l }
    ((q.setBit (crcReg i 0) 31 true).setReg (crcReg i 0x1C) 0x80000000#32).crcSync i

/-- A unit stops at a byte boundary (R455). -/
def Part.crcEnd (p : Part) (i : Nat) : Part :=
  ((p.setBit (crcReg i 0) 31 false).setBit (crcReg i 0x1C) 31 false).crcSync i

/-- INIT (R455): VALUE at the initial value of the algorithm, COUNT 0. -/
def Part.crcClear (p : Part) (i : Nat) : Part :=
  ((p.setReg (crcReg i 0x10) (crcInitial (p.crcAlg i))).setReg (crcReg i 0x18) 0#32).crcSync i

/-- A write of CRC[i].CFG (R455, R466): ALG and PHASE are stored, INIT loads, RUN starts or stops. -/
def crcCfgEffect (i : Nat) (w : Word) (p : Part) : Part :=
  let on := p.crcRuns i
  let q := p.setReg (crcReg i 0) (withBit (withBit w 30 false) 31 on)
  let q := if w.getLsbD 30 then q.crcClear i else q.crcSync i
  match on, w.getLsbD 31 with
  | false, true => q.crcBegin i
  | true, false => q.crcEnd i
  | _, _ => q

/-- A write of VALUE or COUNT: discarded as an access fault while RUN = 1 (R455). -/
def crcValueEffect (i o : Nat) (req : Req) (addr : BitVec 28) (w : Word) (p : Part) : Part :=
  if p.crcRuns i then p.accessFault 5 req addr else (p.setReg (crcReg i o) w).crcSync i

/-- An island is fenced: units whose source lies behind it stop with SRC_LOST (R456). -/
def Part.crcLost (p : Part) (island : Nat) : Part :=
  (List.range 8).foldl (fun (x : Part) i =>
    if x.crcRuns i && !bitAt (x.justWrote (crcReg i 0)) 31 && x.crcIsland (x.crcLatch i).sel == island then (x.crcEnd i).setBit (crcReg i 0x1C) 1 true
    else x) p

end Sys2Proof.Machine
end

