-- ==== Sys2Proof/Machine/Hash.lean ====
section
/-! DEFINITION. The digests that R364, R434 and R493 name by their standards: HMAC-SHA-256 and SHA-384
(FIPS 180-4 and RFC 2104, PRESUMED: the spec gives none of their steps, log 22). -/

namespace Sys2Proof.Machine

/-- Round constants 0 to 19. -/
def shaK0 : List (BitVec 64) := [
  0x428a2f98d728ae22#64, 0x7137449123ef65cd#64, 0xb5c0fbcfec4d3b2f#64, 0xe9b5dba58189dbbc#64,
  0x3956c25bf348b538#64, 0x59f111f1b605d019#64, 0x923f82a4af194f9b#64, 0xab1c5ed5da6d8118#64,
  0xd807aa98a3030242#64, 0x12835b0145706fbe#64, 0x243185be4ee4b28c#64, 0x550c7dc3d5ffb4e2#64,
  0x72be5d74f27b896f#64, 0x80deb1fe3b1696b1#64, 0x9bdc06a725c71235#64, 0xc19bf174cf692694#64,
  0xe49b69c19ef14ad2#64, 0xefbe4786384f25e3#64, 0x0fc19dc68b8cd5b5#64, 0x240ca1cc77ac9c65#64]

/-- Round constants 20 to 39. -/
def shaK1 : List (BitVec 64) := [
  0x2de92c6f592b0275#64, 0x4a7484aa6ea6e483#64, 0x5cb0a9dcbd41fbd4#64, 0x76f988da831153b5#64,
  0x983e5152ee66dfab#64, 0xa831c66d2db43210#64, 0xb00327c898fb213f#64, 0xbf597fc7beef0ee4#64,
  0xc6e00bf33da88fc2#64, 0xd5a79147930aa725#64, 0x06ca6351e003826f#64, 0x142929670a0e6e70#64,
  0x27b70a8546d22ffc#64, 0x2e1b21385c26c926#64, 0x4d2c6dfc5ac42aed#64, 0x53380d139d95b3df#64,
  0x650a73548baf63de#64, 0x766a0abb3c77b2a8#64, 0x81c2c92e47edaee6#64, 0x92722c851482353b#64]

/-- Round constants 40 to 59. -/
def shaK2 : List (BitVec 64) := [
  0xa2bfe8a14cf10364#64, 0xa81a664bbc423001#64, 0xc24b8b70d0f89791#64, 0xc76c51a30654be30#64,
  0xd192e819d6ef5218#64, 0xd69906245565a910#64, 0xf40e35855771202a#64, 0x106aa07032bbd1b8#64,
  0x19a4c116b8d2d0c8#64, 0x1e376c085141ab53#64, 0x2748774cdf8eeb99#64, 0x34b0bcb5e19b48a8#64,
  0x391c0cb3c5c95a63#64, 0x4ed8aa4ae3418acb#64, 0x5b9cca4f7763e373#64, 0x682e6ff3d6b2b8a3#64,
  0x748f82ee5defb2fc#64, 0x78a5636f43172f60#64, 0x84c87814a1f0ab72#64, 0x8cc702081a6439ec#64]

/-- Round constants 60 to 79. -/
def shaK3 : List (BitVec 64) := [
  0x90befffa23631e28#64, 0xa4506cebde82bde9#64, 0xbef9a3f7b2c67915#64, 0xc67178f2e372532b#64,
  0xca273eceea26619c#64, 0xd186b8c721c0c207#64, 0xeada7dd6cde0eb1e#64, 0xf57d4f7fee6ed178#64,
  0x06f067aa72176fba#64, 0x0a637dc5a2c898a6#64, 0x113f9804bef90dae#64, 0x1b710b35131c471b#64,
  0x28db77f523047d84#64, 0x32caab7b40c72493#64, 0x3c9ebe0a15c9bebc#64, 0x431d67c49c100d4c#64,
  0x4cc5d4becb3e42b6#64, 0x597f299cfc657e2a#64, 0x5fcb6fab3ad6faec#64, 0x6c44198c4a475817#64]

/-- The round constants of the 64-bit form; the 32-bit form takes the upper halves of the first 64. -/
def shaK : List (BitVec 64) := shaK0 ++ shaK1 ++ shaK2 ++ shaK3

/-- The initial value of the 64-bit form with 512 bits, whose upper halves start SHA-256. -/
def shaIv : List (BitVec 64) := [
  0x6a09e667f3bcc908#64, 0xbb67ae8584caa73b#64, 0x3c6ef372fe94f82b#64, 0xa54ff53a5f1d36f1#64,
  0x510e527fade682d1#64, 0x9b05688c2b3e6c1f#64, 0x1f83d9abfb41bd6b#64, 0x5be0cd19137e2179#64]

/-- The initial value of SHA-384. -/
def shaIv384 : List (BitVec 64) := [
  0xcbbb9d5dc1059ed8#64, 0x629a292a367cd507#64, 0x9159015a3070dd17#64, 0x152fecd8f70e5939#64,
  0x67332667ffc00b31#64, 0x8eb44a8768581511#64, 0xdb0c2e0d64f98fa7#64, 0x47b5481dbefa4fa4#64]

/-- The six amounts of one form: the two sums of the rounds, then the two of the schedule. -/
structure ShaForm where
  sum0 : Nat × Nat × Nat
  sum1 : Nat × Nat × Nat
  mix0 : Nat × Nat × Nat
  mix1 : Nat × Nat × Nat
  deriving DecidableEq, Repr

/-- Three rotations added bit by bit. -/
def shaSum {w : Nat} (r : Nat × Nat × Nat) (x : BitVec w) : BitVec w :=
  x.rotateRight r.1 ^^^ x.rotateRight r.2.1 ^^^ x.rotateRight r.2.2

/-- Two rotations and a shift added bit by bit. -/
def shaMix {w : Nat} (r : Nat × Nat × Nat) (x : BitVec w) : BitVec w :=
  x.rotateRight r.1 ^^^ x.rotateRight r.2.1 ^^^ (x >>> r.2.2)

/-- The rounds of one block: constants to come, the sixteen words of the schedule in view, the registers. -/
def shaRounds {w : Nat} (f : ShaForm) : List (BitVec w) → List (BitVec w) → List (BitVec w) → List (BitVec w)
  | [], _, v => v
  | k :: ks, win, v =>
    let at_ := fun i => v.getD i 0#w
    let wd := fun i => win.getD i 0#w
    let ch := (at_ 4 &&& at_ 5) ^^^ (~~~ at_ 4 &&& at_ 6)
    let maj := (at_ 0 &&& at_ 1) ^^^ (at_ 0 &&& at_ 2) ^^^ (at_ 1 &&& at_ 2)
    let t := at_ 7 + shaSum f.sum1 (at_ 4) + ch + k + wd 0
    let next := wd 0 + shaMix f.mix0 (wd 1) + wd 9 + shaMix f.mix1 (wd 14)
    shaRounds f ks (win.drop 1 ++ [next])
      [t + shaSum f.sum0 (at_ 0) + maj, at_ 0, at_ 1, at_ 2, at_ 3 + t, at_ 4, at_ 5, at_ 6]

/-- `n` bytes as one word, the first most significant. -/
def shaWord (w : Nat) (bs : List Byte) : BitVec w :=
  bs.foldl (fun x b => (x <<< 8) ||| b.setWidth w) 0#w

/-- A message with its padding: a one bit, zeros, and its length in bits in an eighth of a block. -/
def shaPad (block : Nat) (bs : List Byte) : List Byte :=
  let tail := block / 8
  let zeros := (2 * block - 1 - tail - bs.length % block) % block
  bs ++ (0x80#8 :: List.replicate zeros 0#8) ++
    ((List.range tail).map fun i => BitVec.ofNat 8 (8 * bs.length / 256 ^ (tail - 1 - i)))

/-- The registers after a whole message. -/
def shaRun {w : Nat} (f : ShaForm) (ks iv : List (BitVec w)) (bs : List Byte) : List (BitVec w) :=
  let size := w / 8
  let m := shaPad (16 * size) bs
  (List.range (m.length / (16 * size))).foldl (fun v b =>
    let win := (List.range 16).map fun i => shaWord w ((m.drop (size * (16 * b + i))).take size)
    (shaRounds f ks win v).zipWith (· + ·) v) iv

/-- The bytes of words, each most significant first. -/
def shaBytes {w : Nat} (ws : List (BitVec w)) : List Byte :=
  ws.flatMap fun x : BitVec w => (List.range (w / 8)).map fun i => (x >>> (w - 8 - 8 * i)).setWidth 8

/-- The amounts of SHA-256. -/
def shaForm256 : ShaForm := ⟨(2, 13, 22), (6, 11, 25), (7, 18, 3), (17, 19, 10)⟩
/-- The amounts of SHA-384. -/
def shaForm384 : ShaForm := ⟨(28, 34, 39), (14, 18, 41), (1, 8, 7), (19, 61, 6)⟩

/-- SHA-256 as 32 bytes. -/
def sha256 (bs : List Byte) : List Byte :=
  shaBytes (shaRun (w := 32) shaForm256 ((shaK.take 64).map fun k => k.extractLsb' 32 32)
    (shaIv.map fun k => k.extractLsb' 32 32) bs)

/-- The SHA-384 digest of a byte string (R493), its first byte most significant. -/
@[irreducible] def sha384 (bs : List Byte) : BitVec 384 :=
  shaWord 384 (shaBytes ((shaRun (w := 64) shaForm384 shaK shaIv384 bs).take 6))

/-- The first 16 bytes of HMAC-SHA-256 over bytes (R364, R434), the first byte most significant. Byte 0 of the key
is bits 7 to 0 (R501). -/
@[irreducible] def hmac128 (key : BitVec 256) (bs : List Byte) : BitVec 128 :=
  let kb := (List.range 64).map fun i => (key >>> (8 * i)).setWidth 8
  let inner := sha256 (kb.map (· ^^^ 0x36#8) ++ bs)
  shaWord 128 ((sha256 (kb.map (· ^^^ 0x5C#8) ++ inner)).take 16)

end Sys2Proof.Machine
end

