-- ==== Sys2Proof/Machine/Security.lean ====
section
/-! DEFINITION. Identity, attestation and firmware (R490 to R506): image banks, key slots, the FW and KEY
classes, and the SPDM services. -/

namespace Sys2Proof.Machine

/-! ### Image banks (R495 to R499) -/

/-- A bank by number. -/
def Part.bank (p : Part) (one : Bool) : Bank := if one then p.journal.bank1 else p.journal.bank0

/-- A bank replaced. -/
def Part.setBank (p : Part) (one : Bool) (b : Bank) : Part :=
  if one then { p with journal := { p.journal with bank1 := b } }
  else { p with journal := { p.journal with bank0 := b } }

/-- The bank that holds the ACTIVE image. -/
def Part.activeBank (p : Part) : Bank := p.bank p.journal.activeOne
/-- The other bank. -/
def Part.otherBank (p : Part) : Bank := p.bank (!p.journal.activeOne)

/-- An image was staged, adopted or marked FAILED: FW_H (R506). -/
def Part.fwHist (p : Part) : Part := p.hist secHistReg 0 10

/-- The other bank's image becomes ACTIVE, the former ACTIVE becomes `old`, and the floor rises to the
SVN of an image that becomes PREVIOUS (R498, R499). -/
def Part.adoptOther (p : Part) (old : BankUse) : Part :=
  let a := p.journal.activeOne
  let was := p.activeBank
  let q := (p.setBank (!a) { p.otherBank with use := .active }).setBank a { was with use := old }
  let fl := if old = .previous then max q.journal.floor was.svn else q.journal.floor
  { q with journal := { q.journal with activeOne := !a, floor := fl } }.fwHist

/-- The staged bank becomes FAILED (R498). -/
def Part.failStaged (p : Part) : Part :=
  if p.otherBank.use = .staged then
    (p.setBank (!p.journal.activeOne) { p.otherBank with use := .failed }).fwHist
  else p

/-- SECURITY.SVN (R506). -/
def Part.svnWord (p : Part) : Word :=
  BitVec.ofNat 32 (p.journal.floor % 64 + p.activeBank.svn % 64 * 2 ^ 8
    + (if p.otherBank.use = .empty then 0 else p.otherBank.svn % 64 * 2 ^ 16))

/-- SECURITY.FW_STATUS (R506). -/
def Part.fwStatusWord (p : Part) : Word :=
  let o : Nat := match p.otherBank.use with
    | .previous => 1 | .staged => 2 | .failed => 3 | _ => 0
  BitVec.ofNat 32 (o + p.journal.activeOne.toNat * 4 + p.journal.fallback.toNat * 8)

/-- The first DPA of host scratch (R89, R94). -/
def Part.scratchBase (p : Part) : Nat := 0x600000000 + p.traceGib * 2 ^ 30

/-- Does a range of `n` bytes at a DPA lie in host scratch (R89)? -/
def Part.inScratch (p : Part) (a n : Nat) : Bool :=
  decide (p.scratchBase ≤ a) && decide (a + n ≤ 0x2000000000)

/-- The sections of an image lie in it and do not overlap (R496, R497). -/
def sectionsFit (len : Nat) : List (Nat × Nat) → Bool
  | [] => true
  | (o, n) :: r =>
    (n == 0 || (decide (64 ≤ o) && decide (o + n ≤ len - 100))) &&
      r.all (fun (o', n') => n == 0 || n' == 0 || decide (o + n ≤ o') || decide (o' + n' ≤ o)) &&
      sectionsFit len r

/-- The header checks of an image: MAGIC, FORMAT, STEPPING, LENGTH, reserved fields and sections (R496). -/
def imageHeaderGood (m : Memory) (a len : Nat) : Bool :=
  let w := fun k => m.readWord (a + 4 * k)
  w 0 == 0x4D425759#32 && fieldOf (w 1) 15 0 == 1 && fieldOf (w 1) 31 22 == 0 &&
    w 4 == 0xB0#32 && w 13 == 0#32 && w 14 == 0#32 && w 15 == 0#32 &&
    len % 4 == 0 && decide (4096 ≤ len) && decide (len ≤ 33554432) &&
    sectionsFit len [((w 5).toNat, (w 9).toNat), ((w 6).toNat, (w 10).toNat),
      ((w 7).toNat, (w 11).toNat), ((w 8).toNat, (w 12).toNat)]

/-- FW.STAGE (R497): the image is read through the MEM selvedge (R30, log 78) and checked in the order of its table; then the bank that is not ACTIVE is written,
verified, and holds the STAGED image. -/
def fwStage (t : Fin 1024) (p : Part) : Part :=
  if !p.runs t 0x0B01 then p
  else
    let a := (p.par64 t 0).toNat
    let len := (p.par t 2).toNat
    let ok := p.inScratch a len
    let q := if ok then (p.memRead a len).1 else p
    let m : Memory := if p.selvOpen 25 then p.dram else []
    let svn := fieldOf (m.readWord (a + 4)) 21 16
    let ver := m.readWord (a + 8)
    if !ok || m.readWord (a + 12) != p.par t 2 then q.reject t stParam 2
    else if !imageHeaderGood m a len then q.reject t stParam 0
    else if crc32c (m.readBytes a (len - 100)) ≠ m.readWord (a + len - 100) then
      q.reject t stIntegrity 2
    else if !Config.signatureGood (m.readBytes a len) then q.reject t stIntegrity 3
    else if svn < q.journal.floor then q.reject t stParam 0
    else if q.bit 0xC010 0 then q.reject t stLocked 0
    else
      let b : Bank := { use := .staged, version := ver, svn := svn,
                        digest := sha384 (m.readBytes a (len - 96)), whole := sha384 (m.readBytes a len) }
      ((q.setTagState t .committed).setBank (!q.journal.activeOne) b).fwHist.done t
        (BitVec.ofNat 64 (ver.toNat + svn * 2 ^ 32)) 0#32

/-- FW.STATUS (R499). -/
def fwStatus (t : Fin 1024) (p : Part) : Part :=
  if !p.runs t 0x0B02 then p
  else
    let staged := if p.otherBank.use = .staged then p.otherBank.version else 0#32
    p.done t (joinWords p.activeBank.version staged) p.svnWord

/-! ### Key slots (R500 to R503) -/

/-- A key slot. -/
def Part.keySlot (p : Part) (n : Nat) : KeySlot := SMap.get (fun _ => {}) p.journal.keys n

/-- A key slot replaced; a changed slot is written to the journal and sets KEY_H (R477, R500, R506). -/
def Part.setKeySlot (p : Part) (n : Nat) (k : KeySlot) : Part :=
  let q : Part := { p with journal := { p.journal with
    keys := SMap.set (fun _ => {}) p.journal.keys n k } }
  if p.keySlot n = k then q else (q.journalWrites 1).hist secHistReg 2 10

/-- The key a slot holds for a use, none where it is empty or of the other kind (R500). -/
def Part.keyFor (p : Part) (n kind : Nat) : Option (BitVec 256) :=
  let k := p.keySlot n
  if k.kind = kind then some k.key else none

/-- Is a slot locked against KEY.INSTALL and KEY.RETIRE (R503)? -/
def Part.slotLocked (p : Part) (n : Nat) : Bool :=
  p.bit 0xC010 1 || p.bit (0xC040 + 4 * (n / 16)) (n % 16)

/-- A KEY command was applied (R506). -/
def Part.countKeyCommand (p : Part) : Part := p.addWrapField 0xC0B4 15 0 1

/-- The 256-bit value of eight words, the first least significant (R501). -/
def wordsToKey (ws : List Word) : BitVec 256 :=
  BitVec.ofNat 256 (ws.foldr (fun w n => w.toNat + n * 2 ^ 32) 0)

/-- KEY.INSTALL (R501, R502, R503). P1 to P11 are the key object. -/
def keyInstall (t : Fin 1024) (p : Part) : Part :=
  if !p.runs t 0x0C01 then p
  else
    let n := fieldOf (p.par t 0) 7 0
    let kind := fieldOf (p.par t 1) 7 0
    let ob := ((p.tag t).params.drop 1).take 11
    if (kind ≠ 1 ∧ kind ≠ 2) ∨ fieldOf (p.par t 1) 15 8 ≠ 8 ∨ fieldOf (p.par t 1) 31 16 ≠ 0 then
      p.reject t stParam 1
    else if crc32c (bytesOfWords (ob.take 10)) ≠ p.par t 11 then p.reject t stIntegrity 2
    else if p.slotLocked n then p.reject t stLocked 0
    else if p.bit 0xC010 3 && (p.host.ideIo.insecure || !p.host.ideIo.keyed) then p.reject t stLocked 0
    else
      (((p.setTagState t .committed).setKeySlot n
        { kind := kind, tag := p.par t 2, key := wordsToKey ((ob.drop 2).take 8) }).countKeyCommand).done
        t 0#64 0#32

/-- KEY.RETIRE (R502, R503). -/
def keyRetire (t : Fin 1024) (p : Part) : Part :=
  if !p.runs t 0x0C02 then p
  else
    let n := fieldOf (p.par t 0) 7 0
    if p.slotLocked n then p.reject t stLocked 0
    else (((p.setTagState t .committed).setKeySlot n {}).countKeyCommand).done t 0#64 0#32

/-- KEY.SUBSYS (R503): the subsystem IDs go to the journal. -/
def keySubsys (t : Fin 1024) (p : Part) : Part :=
  if !p.runs t 0x0C03 then p
  else if p.bit 0xC010 2 then p.reject t stLocked 0
  else
    let q := p.setTagState t .committed
    (({ q with journal := { q.journal with subsys := p.par t 0 } }.journalWrites 1).countKeyCommand).done t 0#64
      0#32

/-- Both IDE streams lose their keys and are insecure (R98, R101, R504). -/
def Part.dropIde (p : Part) : Part := { p with host := { p.host with ideIo := {}, ideMem := {} } }

/-- KEY.ZEROISE (R504, R505). -/
def keyZeroise (t : Fin 1024) (p : Part) : Part :=
  if !p.runs t 0x0C04 then p
  else if p.par t 0 ≠ 0x5A45524F#32 then p.reject t stParam 0
  else
    let had := !p.journal.keys.isEmpty
    let q := ((p.setTagState t .committed).dropIde).journalWrites (2 + stitchBlocks p.journal.set_.length)
    let q : Part := { q with
      host := { q.host with sessions := 0 },
      journal := { q.journal with keys := [], subsys := 0#32, hasSet := false, set_ := [],
                                  resume := false } }
    let q := if had then q.hist secHistReg 2 10 else q
    (((q.hist secHistReg 3 10).addWrapField 0xC0B4 31 16 1).countKeyCommand).done t 0#64 0#32

/-! ### SPDM (R491 to R494) -/

/-- SPDM requests run in the cores: busy while the cores are out (R103, R494), and need the link. -/
def Part.spdmReady (p : Part) : Bool := p.host.linkUp && decide (p.md.cur ≠ .dormant)

/-- The SPDM error of a request that is not served. -/
def spdmError (nm : String) : List Byte := nm.toUTF8.toList.map fun c => BitVec.ofNat 8 c.toNat

/-- GET_CERTIFICATE: slot 0 serves the chain; slots 1 to 7 are unprovisioned (R491). -/
def certificateBytes (slot : Fin 8) (offset len : Nat) : List Byte :=
  if slot.val = 0 then (Config.certChain.drop offset).take len else spdmError "InvalidRequest"

/-- A 384-bit value as 48 bytes, most significant first. -/
def bytesBE (n : Nat) : Nat → List Byte
  | 0 => []
  | k + 1 => BitVec.ofNat 8 (n / 2 ^ (8 * k)) :: bytesBE n k

/-- CHALLENGE: the identity key signs over the certificate chain's digest and the nonce (R492). -/
def challengeBytes (slot : Fin 8) (nonce : BitVec 256) : List Byte :=
  if slot.val = 0 then
    let body := bytesBE (sha384 Config.certChain).toNat 48 ++ bytesBE nonce.toNat 32
    body ++ bytesBE (Config.identitySign body).toNat 96
  else spdmError "InvalidRequest"

/-- The slots' inventory bytes of measurement 6: number, KIND and TAG (R493). -/
def keyInventory (p : Part) : Nat → List Byte
  | 0 => []
  | n + 1 => keyInventory p n ++
      [BitVec.ofNat 8 n, BitVec.ofNat 8 (p.keySlot n).kind] ++ wordBytes (p.keySlot n).tag

/-- SH registers in force as BASTE triples in ascending offset, for measurement 7 (R493). -/
def setTriples : SMap Word → List Word
  | [] => []
  | (o, w) :: r =>
    match regInfo o with
    | some i => if i.sh = 0#32 then setTriples r
        else [BitVec.ofNat 32 o, i.sh, w &&& i.sh] ++ setTriples r
    | none => setTriples r

/-- The digest of a measurement block (R493). -/
def Part.measurement (p : Part) : Nat → BitVec 384
  | 1 => sha384 Config.bootRomBytes
  | 2 => p.activeBank.digest
  | 3 => if p.otherBank.use = .staged then p.otherBank.whole else 0#384
  | 4 => sha384 (wordBytes (p.svnWord &&& 0x3F3F#32))
  | 5 => sha384 (bytesOfWords (p.reg 0x038 :: p.reg 0xC010 ::
      (List.range 16).map fun k => p.reg (0xC040 + 4 * k)))
  | 6 => sha384 (keyInventory p 256)
  | 7 => sha384 (bytesOfWords (setTriples p.regs))
  | _ => sha384 (bytesOfWords [p.reg 0x000, p.reg 0x008, p.reg 0x00C,
      BitVec.ofNat 32 (p.field 0x000 15 8)])

/-- A measurement block (R493): its header in the DMTF form (PRESUMED, log 22), marked immutable for blocks 1 and 8 and
mutable for the others, and the digest. -/
def Part.measurementBlock (p : Part) (k : Nat) : List Byte :=
  [BitVec.ofNat 8 k, 1#8, 51#8, 0#8, if k = 1 ∨ k = 8 then 0#8 else 1#8, 48#8, 0#8] ++
    bytesBE (p.measurement k).toNat 48

/-- GET_MEASUREMENTS: one block, or every block for index 0, signed (R493). -/
def Part.measurementBytes (p : Part) (index : Fin 9) (nonce : BitVec 256) : List Byte :=
  let ix := if index.val = 0 then [1, 2, 3, 4, 5, 6, 7, 8] else [index.val]
  let body := ix.foldr (fun k r => p.measurementBlock k ++ r) (bytesBE nonce.toNat 32)
  body ++ bytesBE (Config.identitySign body).toNat 96

/-- KEY_EXCHANGE: at most two sessions; a third gets SessionLimitExceeded (R492). -/
def Part.keyExchange (p : Part) : Part :=
  if p.host.sessions < 2 then
    { p with host := { p.host with sessions := p.host.sessions + 1 } }.emit (.bytes "KEY_EXCHANGE_RSP" [])
  else p.emit (.bytes "ERROR" (spdmError "SessionLimitExceeded"))

/-! ### Meanings -/

/-- FW_STAGE. -/
def execFwStage (t : Fin 1024) (s : State) : Result := onPart (fwStage t) s
/-- FW_STATUS. -/
def execFwStatus (t : Fin 1024) (s : State) : Result := onPart (fwStatus t) s
/-- KEY_INSTALL. -/
def execKeyInstall (t : Fin 1024) (s : State) : Result := onPart (keyInstall t) s
/-- KEY_RETIRE. -/
def execKeyRetire (t : Fin 1024) (s : State) : Result := onPart (keyRetire t) s
/-- KEY_SUBSYS. -/
def execKeySubsys (t : Fin 1024) (s : State) : Result := onPart (keySubsys t) s
/-- KEY_ZEROISE. -/
def execKeyZeroise (t : Fin 1024) (s : State) : Result := onPart (keyZeroise t) s

end Sys2Proof.Machine
end

