-- ==== Sys2Proof/Machine/Cxl.lean ====
section
/-! DEFINITION. The CXL attachment (R78 to R104): link, configuration, CXL.mem, DOE, IDE and the
memory-device mailbox. -/

namespace Sys2Proof.Machine

/-! ### Link and configuration space -/

/-- The HOST island is powered: in every mode but DORMANT, and while a wake runs (R50, R84). -/
def Part.hostPowered (p : Part) : Bool := p.md.cur != .dormant || p.md.trans.isSome

/-- CXL_LINK_UP (R78 to R80, R83): the link reaches L0 at a supported width and rate. Less than x8 at
32 GT/s, or PCIe, raises the link-degraded event; a trained link ends the fenced-HOST alert (R52). -/
def cxlLinkUp (width gts : Nat) (cxl : Bool) (p : Part) : Part :=
  if !p.hostPowered || !p.supply.perstN || p.host.linkUp || p.selvState 27 != 0 ||
      !([1, 2, 4, 8].contains width) || !([8, 16, 32].contains gts) then p
  else
    let q : Part := { p with host := { p.host with linkUp := true, width := width, gts := gts,
                                                   cxl := cxl },
                             supply := { p.supply with hostFenced := false } }
    if width = 8 ∧ gts = 32 ∧ cxl = true then q
    else q.announce 10 "LINK_DEGRADED" 0 (BitVec.ofNat 64 (width + gts * 256 + cxl.toNat * 65536))

/-- Memory_Active: set when the part reaches INERT (R83). -/
def Part.memActive (p : Part) : Bool := p.md.cur != .dormant

/-- A configuration read's answer: identity, class, subsystem IDs, the DVSEC range registers with their memory
flags and 128 GiB, the Register Locator's two entries, the 64-bit BARs, BAR2 prefetchable, and MSI-X Enable (R82, R83,
R85, R86, R88, R89).
The fields of the two DVSECs are PRESUMED from the CXL 2.0 standard (log 30). -/
def Part.configWords (p : Part) : List Word :=
  let bar : Option Nat → Nat → List Word := fun b flags =>
    let d := BitVec.ofNat 64 (b.getD 0 + flags)
    [loWord d, hiWord d]
  [BitVec.ofNat 32 (Config.vendorId.toNat + 0x9648 * 2 ^ 16), 0x050210B0#32, p.reg 0x004,
    BitVec.ofNat 32 (p.memActive.toNat * 3), 0x20#32, 0x0C000100#32, 0x0C010300#32] ++
    bar p.host.bar0 4 ++ bar p.host.bar2 0xC ++ bar p.host.bar4 4 ++ [BitVec.ofNat 32 (p.host.msixEn.toNat * 2 ^ 31)]

/-- A base as its BAR holds it: the address bits below the BAR's size read 0 (R85). -/
def barBase (size : Nat) (b : Option Nat) : Option Nat := b.map fun a => a % 2 ^ 64 / size * size

/-- What an answered configuration request changes: a BAR, the power state, or MSI-X Enable (R78, R81, R85, R88). -/
def HostIf.config (h : HostIf) : ConfigOp → HostIf
  | .read => h
  | .bar k b => match k with
    | 0 => { h with bar0 := barBase 0x10000000 b }
    | 1 => { h with bar2 := barBase 0x800000 b }
    | 2 => { h with bar4 := barBase 0x10000 b }
  | .toD0 => { h with d3hot := false }
  | .msixOff => { h with msixEn := false }

/-- A configuration request that is answered: its effect, and the answer. -/
def Part.configDo (p : Part) (op : ConfigOp) : Part :=
  let q : Part := { p with host := p.host.config op }
  q.emit (.words "CFG" 0 (if op = .read then q.configWords else []))

/-- CONFIG_REQUEST (R82, R83): answered with CRS until the configuration space is loaded; when that
happens is open (a free value), within the bound of R83. -/
def configRequest (op : ConfigOp) (p : Part) : Part :=
  if !p.hostPowered || !p.host.linkUp then p
  else if p.host.cfgLoaded then p.configDo op
  else if p.freshValue.getLsbD 0 then { p.useFree with host := { p.host with cfgLoaded := true } }.configDo op
  else p.useFree.emit (.words "CRS" 0 [])

/-- Do memory requests of the host reach the BARs: the link is up in D0 and its IDE stream has not failed (R81,
R98)? -/
def Part.hostIo (p : Part) : Bool := p.hostPowered && p.host.linkUp && !p.host.d3hot && !p.host.ideIo.failed

/-- Do they reach BAR0 (R85)? -/
def Part.bar0Up (p : Part) : Bool := p.hostIo && p.host.bar0.isSome
/-- Do they reach BAR2 (R85)? -/
def Part.bar2Up (p : Part) : Bool := p.hostIo && p.host.bar2.isSome
/-- Do they reach BAR4 (R85)? -/
def Part.bar4Up (p : Part) : Bool := p.hostIo && p.host.bar4.isSome

/-- D3HOT_ENTRY (R81): the BAR decoders and CXL.mem are disabled; nothing else changes. -/
def d3hotEntry (p : Part) : Part :=
  if p.hostPowered && p.host.linkUp then { p with host := { p.host with d3hot := true } } else p

/-- MSIX_HOLDOFF_END (R557): messages formed in the interval are sent as one, which opens a new one. DESIGN CHOICE
(log 71): where MSI-X Enable has been cleared meanwhile, the message held is dropped. -/
def msixHoldoffEnd (v : Fin 64) (p : Part) : Part :=
  if !p.host.holdOpen.getLsbD v then p
  else
    let formed := p.host.holdFormed.getLsbD v
    let q : Part := { p with host := { p.host with
      holdOpen := setBit64 p.host.holdOpen v false, holdFormed := setBit64 p.host.holdFormed v false } }
    if formed then q.formVector v (q.holdoff v) else q

/-! ### CXL.mem (R89 to R94) -/

/-- The memory-device mailbox's clock (R99, R100), in ns. -/
def Part.stampClock (p : Part) : Dword :=
  p.media.stampBase + BitVec.ofNat 64 (4 * (p.clk - p.media.stampAt))

/-- A General Media or DRAM event is logged (R91, R99, R472). -/
def Part.logMedia (p : Part) (dram : Bool) (dpa : Nat) : Part :=
  let r : EventRec := { handle := p.media.nextHandle, dram := dram, dpa := dpa, stamp := p.stampClock }
  let q : Part := { p with media := { p.media with
    events := p.media.events ++ [r], nextHandle := p.media.nextHandle + 1 } }
  if p.media.policyMsix then q.announce 10 "MEDIA_EVENT" r.handle (BitVec.ofNat 64 dpa)
  else q.emit (.event "MEDIA_EVENT" r.handle (BitVec.ofNat 64 dpa))

/-- A DPA line joins the poison list of 256 entries; past it the overflow is flagged (R91, R99). -/
def Part.poisonLine (p : Part) (line : Nat) : Part :=
  if p.media.poison.contains line then p
  else if p.media.poison.length < 256 then
    { p with media := { p.media with poison := p.media.poison ++ [line] } }
  else { p with media := { p.media with poisonOver := true } }

/-- An uncorrectable codeword is found: counted, UNCORR_H and its event on group 10 (R470). -/
def Part.uncorrectable (p : Part) : Part := (p.addSat 0xA008 1).hist memHistReg 1 10

/-- Does the decoder take an HPA, and the CXL.mem path serve it (R80, R81, R90, R98)? -/
def Part.memServes (p : Part) (hpa : Nat) : Bool :=
  p.hostPowered && p.host.linkUp && p.host.cxl && !p.host.d3hot && !p.host.ideMem.failed &&
    p.host.hdm.committed && decide (p.host.hdm.base ≤ hpa) &&
    decide (hpa < p.host.hdm.base + p.host.hdm.size)

/-- The DPA of an HPA (R90). -/
def Part.dpaOf (p : Part) (hpa : Nat) : Nat := hpa - p.host.hdm.base

/-- MEMMARCH is running: reads return 0 and writes are discarded (R481). -/
def Part.marching (p : Part) : Bool := p.bit 0xB050 16

/-- A read answer of one line. -/
def Part.memAnswer (p : Part) (poison : Bool) (dpa : Nat) (bs : List Byte) : Part :=
  (p.emit (.event "MEM_DATA" poison.toNat (BitVec.ofNat 64 dpa))).emit (.bytes "MEM_DATA" bs)


/-- The 64 bytes at a DPA's line. -/
def Part.lineBytes (p : Part) (dpa : Nat) : List Byte := p.dram.readBytes (dpa / 64 * 64) 64

/-- CXLMEM_READ (R91, R469, R470): the line, or poison where it is uncorrectable; 0 before
Memory_Active and during MEMMARCH; served in FREEZE. -/
def cxlmemRead (hpa : Nat) (ecc : EccResult) (p : Part) : Part :=
  if !p.memServes hpa then p
  else
    let dpa := p.dpaOf hpa
    let line := dpa / 64
    if !p.memActive || p.marching then p.memAnswer false dpa (List.replicate 64 0#8)
    else if !p.selvOpen 25 then (p.selvRequest 25).memAnswer false dpa (List.replicate 64 0#8)
    else
      let q := p.selvRequest 25
      match ecc with
      | .clean => q.memAnswer (p.media.poison.contains line) dpa (p.lineBytes dpa)
      | .corrected => (q.addSat 0xA004 1).memAnswer (p.media.poison.contains line) dpa (p.lineBytes dpa)
      | .uncorrectable =>
        let q := ((q.uncorrectable).poisonLine line).logMedia false dpa
        let q := if dpa < 48 * 0x200000 then q.faultLoss (0x6000 + dpa / 0x200000) 4 1 else q
        q.memAnswer true dpa (p.lineBytes dpa)

/-- The 64 bytes of a line value, byte 0 first. -/
def lineToBytes (l : BitVec 512) : Nat → List Byte
  | 0 => []
  | n + 1 => l.extractLsb' (8 * (64 - (n + 1))) 8 :: lineToBytes l n

/-- CXLMEM_WRITE (R84, R91, R73, R481): host scratch is stored and leaves the poison list; a read-only
window, FREEZE and MEMMARCH discard and count; before Memory_Active it is an early write. -/
def cxlmemWrite (hpa : Nat) (line : BitVec 512) (p : Part) : Part :=
  if !p.memServes hpa then p
  else
    let dpa := p.dpaOf hpa / 64 * 64
    if !p.memActive then p.addSat 0x403C 1
    else if decide (p.md.cur = .freeze) || p.marching || !p.inScratch dpa 64 then p.addSat 0xA104 1
    else if !p.selvOpen 25 then p.selvRequest 25
    else
      let q := p.selvRequest 25
      { q with dram := q.dram.writeBytes dpa (lineToBytes line 64),
               media := { q.media with poison := q.media.poison.filter (· != dpa / 64) } }

/-- HDM_COMMIT (R90): the ways, size and lock checks; a failed commit shows Error Not Committed. DESIGN CHOICE
(log 79): a size that is no multiple of 256 MiB fails too, and a failed commit leaves no decoder committed. -/
def hdmSet (base size ways : Nat) (lock : Bool) (p : Part) : Part :=
  if !p.bar0Up || (p.host.hdm.committed && p.host.hdm.locked) then p
  else if ways ≠ 1 ∨ 128 * 2 ^ 30 < size ∨ size % (256 * 2 ^ 20) ≠ 0 then
    { p with host := { p.host with hdm := { err := true } } }
  else
    { p with host := { p.host with hdm := { committed := true, locked := lock, base := base,
                                            size := size } } }

/-! ### IDE, DOE and CDAT (R95 to R98) -/

/-- IDE_INTEGRITY_FAIL (R98). -/
def ideIntegrityFail (st : IdeStream) (p : Part) : Part :=
  let old := match st with | .io => p.host.ideIo | .mem => p.host.ideMem
  if !old.keyed then p
  else
    let bad : IdeSt := { old with insecure := true, failed := true }
    let q : Part := match st with
      | .io => { p with host := { p.host with ideIo := bad } }
      | .mem => { p with host := { p.host with ideMem := bad } }
    q.announce 10 "INTEGRITY" (match st with | .io => 0 | .mem => 1) 0#64

/-- IDE_KM_KEY_INSTALL (R97): over a Secured session the stream is keyed and secure. -/
def ideKmKeyInstall (st : IdeStream) (skid : Bool) (key : BitVec 256) (p : Part) : Part :=
  if p.host.sessions = 0 ∨ p.coresAway = true ∨ p.spdmReady = false then p
  else
    let new : IdeSt := { keyed := true, insecure := false, failed := false, skid := skid, key := key }
    match st with
    | .io => { p with host := { p.host with ideIo := { new with skid := false } } }
    | .mem => { p with host := { p.host with ideMem := new } }

/-- The object types of the DOE mailbox, in order (R95). Vendor and object numbers are PRESUMED from the PCIe and
CXL standards (log 9). -/
def doeObjects : List Word := [0x00000001#32, 0x00010001#32, 0x00020001#32, 0x00021E98#32]

/-- A discovery request: the objects in order. An index past them, and an object type that is not supported, is a
DOE error; an object of a supported type is a request of its own row (R95). -/
def Part.discover (p : Part) : DoeRequest → Part
  | .discovery k => match doeObjects[k]? with
    | some w => p.emit (.words "DOE_DISCOVERY" k [w])
    | none => p.emit (.words "DOE_ERROR" k [])
  | .object w => if doeObjects.contains w then p else p.emit (.words "DOE_ERROR" 0 [w])

/-- The DPA base and length of a DSMAS entry (R89, R96). -/
def Part.cdatRange (p : Part) : Nat → Nat × Nat
  | 0 => (0, 0x400000000)
  | 1 => (0x400000000, 0x200000000)
  | 2 => (0x600000000, p.traceGib * 2 ^ 30)
  | _ => (p.scratchBase, 0x2000000000 - p.scratchBase)

/-- A CDAT table access (R96): a DSMAS entry with its latency and bandwidth figures. DESIGN CHOICE (log 80): a read
of any entry clears the entry-change indication. -/
def Part.cdatEntry (p : Part) (entry : Nat) : Part :=
  if 4 ≤ entry then p.emit (.words "DOE_ERROR" entry [])
  else
    let r := p.cdatRange entry
    let b := BitVec.ofNat 64 r.1
    let n := BitVec.ofNat 64 r.2
    let wr : List Word := if entry = 3 then [300#32, 28#32] else [0#32, 0#32]
    { p with host := { p.host with cdatChange := false } }.emit
      (.words "CDAT" entry ([BitVec.ofNat 32 entry, loWord b, hiWord b, loWord n, hiWord n, 400#32,
        28#32] ++ wr))

/-- The answer to a DOE request (R95, R96, R491 to R493). -/
def Part.doeServe (p : Part) : DoeCall → Part
  | .plain r => p.discover r
  | .cdat n => p.cdatEntry n
  | .certificate slot o n => p.emit (.bytes "CERTIFICATE" (certificateBytes slot o n))
  | .challenge slot nonce => p.emit (.bytes "CHALLENGE_AUTH" (challengeBytes slot nonce))
  | .measurements k nonce => p.emit (.bytes "MEASUREMENTS" (p.measurementBytes k nonce))
  | .keyExchange => p.keyExchange

/-- A DOE request: answered, or, while the cores are away, held with DOE Busy; a second one meanwhile finds the
mailbox busy (R103, R494). -/
def Part.doe (p : Part) (c : DoeCall) : Part :=
  if !p.spdmReady then p
  else if !p.coresAway then p.doeServe c
  else
    let q := p.emit (.words "DOE Busy" 0 [])
    if p.host.doeHeld.isSome then q
    else { q with host := { q.host with doeBusy := true, doeHeld := some c } }

/-- The cores are back: DOE Busy ends, and the request it held is answered (R103, R494). -/
def Part.doeReturn (p : Part) : Part :=
  let q : Part := { p with host := { p.host with doeBusy := false, doeHeld := none } }
  match p.host.doeHeld with
  | some c => q.doeServe c
  | none => q

/-! ### The memory-device mailbox (R99, R100) -/

/-- The mailbox answers the host through BAR0, before INERT too (R84, R86); Busy while the cores are away (R103). -/
def Part.mailboxDo (p : Part) (f : Part → Part) : Part :=
  if !p.bar0Up then p
  else if p.coresAway then p.emit (.words "MB_BUSY" 0 [])
  else f p

/-- GET_EVENT_RECORDS (R99). -/
def getEventRecords : Part → Part := fun p => p.mailboxDo fun p =>
  p.emit (.words "EVENT_RECORDS" p.media.events.length (p.media.events.foldr
    (fun r l => [BitVec.ofNat 32 r.handle, BitVec.ofNat 32 r.dram.toNat,
      loWord (BitVec.ofNat 64 r.dpa), hiWord (BitVec.ofNat 64 r.dpa), loWord r.stamp,
      hiWord r.stamp] ++ l) []))

/-- CLEAR_EVENT_RECORDS (R99). -/
def clearEventRecords (all : Bool) (handles : List Nat) : Part → Part := fun p => p.mailboxDo fun p =>
  { p with media := { p.media with
      events := if all then [] else p.media.events.filter fun r => !handles.contains r.handle } }.emit
    (.words "MB_OK" 0x101 [])

/-- GET_EVENT_INTERRUPT_POLICY (R99). -/
def getEventInterruptPolicy : Part → Part := fun p => p.mailboxDo fun p =>
  p.emit (.words "INT_POLICY" 0x102 [BitVec.ofNat 32 (p.media.policyMsix.toNat + 10 * 16)])

/-- SET_EVENT_INTERRUPT_POLICY (R99): MSI-X only, on vector 10. DESIGN CHOICE (log 81): one that names another
vector is an invalid input. -/
def setEventInterruptPolicy (msix : Bool) (vector : Nat) : Part → Part := fun p => p.mailboxDo fun p =>
  if msix && vector != 10 then p.emit (.words "MB_INVALID" 0x103 [])
  else { p with media := { p.media with policyMsix := msix } }.emit (.words "MB_OK" 0x103 [])

/-- GET_TIMESTAMP (R99, R100). -/
def getTimestamp : Part → Part := fun p => p.mailboxDo fun p =>
  p.emit (.words "TIMESTAMP" 0x300 [loWord p.stampClock, hiWord p.stampClock])

/-- SET_TIMESTAMP (R100): only the mailbox's own clock. -/
def setTimestamp (v : Dword) : Part → Part := fun p => p.mailboxDo fun p =>
  { p with media := { p.media with stampBase := v, stampAt := p.clk } }.emit (.words "MB_OK" 0x301 [])

/-- GET_SUPPORTED_LOGS (R99): the Command Effects Log only. -/
def getSupportedLogs : Part → Part := fun p => p.mailboxDo fun p =>
  p.emit (.words "SUPPORTED_LOGS" 0x400 [1#32])

/-- The opcodes the mailbox answers (R99). -/
def mailboxOpcodes : List Word :=
  [0x100#32, 0x101#32, 0x102#32, 0x103#32, 0x300#32, 0x301#32, 0x400#32, 0x401#32, 0x4000#32, 0x4100#32,
    0x4200#32, 0x4300#32]

/-- GET_LOG (R99). -/
def getLog (cel : Bool) : Part → Part := fun p => p.mailboxDo fun p =>
  if cel then p.emit (.words "LOG" 0x401 mailboxOpcodes) else p.emit (.words "MB_INVALID" 0x401 [])

/-- IDENTIFY_MEMORY_DEVICE (R99): capacity, volatile, persistent, LSA, poison list, injection. -/
def identifyMemoryDevice : Part → Part := fun p => p.mailboxDo fun p =>
  p.emit (.words "IDENTIFY" 0x4000 [512#32, 512#32, 0#32, 0#32, 256#32, 0#32])

/-- GET_PARTITION_INFO (R99). -/
def getPartitionInfo : Part → Part := fun p => p.mailboxDo fun p =>
  p.emit (.words "PARTITION" 0x4100 [512#32, 0#32, 0#32, 0#32])

/-- GET_HEALTH_INFO (R99): health, case temperature, corrected count. The health word is MEM_OK (R489). -/
def getHealthInfo : Part → Part := fun p => p.mailboxDo fun p =>
  p.emit (.words "HEALTH" 0x4200 [BitVec.ofNat 32 (p.selvState 25 == 0).toNat, p.reg 0xB080, p.reg 0xA004])

/-- GET_POISON_LIST (R99). -/
def getPoisonList : Part → Part := fun p => p.mailboxDo fun p =>
  p.emit (.words "POISON_LIST" p.media.poisonOver.toNat (p.media.poison.foldr
    (fun l r => [loWord (BitVec.ofNat 64 (64 * l)), hiWord (BitVec.ofNat 64 (64 * l))] ++ r) []))

/-! ### The registers of R86

Their layouts within the two ranges are PRESUMED from the CXL 2.0 standard (log 30). -/

/-- The CXL capability headers: RAS at 0x10, link at 0x80, HDM decoder at 0x100 of the cache-memory registers. -/
def cxlCaps : List Word := [0x03110001#32, 0x01020002#32, 0x08020004#32, 0x10010005#32]

/-- The device capability array: device status, primary mailbox and memory-device status. -/
def deviceCaps : List Word :=
  [0x00010000#32, 3#32, 0#32, 0#32, 0x00010001#32, 0x100#32, 8#32, 0#32, 0x00010002#32, 0x200#32, 0x220#32, 0#32,
    0x00014000#32, 0x500#32, 8#32, 0#32]

/-- The writable words: RAS masks and severity, HDM global control, base, size and control, and the mailbox's
command and payload. -/
def cxlWritable (o : Nat) : Bool :=
  [0x1014, 0x1018, 0x1020, 0x1104, 0x1110, 0x1114, 0x1118, 0x111C, 0x1120, 0x10208, 0x1020C].contains o ||
    (decide (0x10220 ≤ o) && decide (o < 0x10420))

/-- A writable word as written. -/
def Part.cxlReg (p : Part) (o : Nat) : Word := SMap.get (fun _ => 0#32) p.host.cxlRegs o

/-- A writable word replaced. -/
def Part.setCxlReg (p : Part) (o : Nat) (w : Word) : Part :=
  { p with host := { p.host with cxlRegs := SMap.set (fun _ => 0#32) p.host.cxlRegs o w } }

/-- A word of the CXL component and memory-device registers (R86, R90, R99). -/
def Part.cxlWord (p : Part) (o : Nat) : Word :=
  let h := p.host.hdm
  let b := BitVec.ofNat 64 h.base
  let n := BitVec.ofNat 64 h.size
  if 0x1000 ≤ o ∧ o < 0x1010 then cxlCaps.getD ((o - 0x1000) / 4) 0#32
  else if o = 0x1080 then BitVec.ofNat 32 (2 + (p.host.linkUp && p.host.cxl).toNat * 0x20)
  else if h.committed = true ∧ o = 0x1110 then loWord b
  else if h.committed = true ∧ o = 0x1114 then hiWord b
  else if h.committed = true ∧ o = 0x1118 then loWord n
  else if h.committed = true ∧ o = 0x111C then hiWord n
  else if o = 0x1120 then
    withField (withField (p.cxlReg o) 11 8 (h.committed.toNat * 6 + h.err.toNat * 8)) 8 8 h.locked.toNat
  else if 0x10000 ≤ o ∧ o < 0x10040 then deviceCaps.getD ((o - 0x10000) / 4) 0#32
  else if o = 0x10100 then BitVec.ofNat 32 (!p.media.events.isEmpty).toNat
  else if o = 0x10200 then 9#32
  else if o = 0x10500 then 0x14#32
  else p.cxlReg o

/-- The UUID of the Command Effects Log, as four words of the payload (PRESUMED from CXL 2.0, log 30). -/
def celUuid : List Word := [0xB5C0A90D#32, 0x784B41BF#32, 0xB196798F#32, 0x173F3B62#32]

/-- Does a Get Log payload name the Command Effects Log (R99)? -/
def logIsCel (w : Nat → Word) : Bool := (List.range 4).map w == celUuid

/-- The effects of a command in the Command Effects Log: 8 a policy change, 16 a log change (PRESUMED, log 30). -/
def commandEffect (op : Nat) : Nat := if op = 0x101 then 16 else if op = 0x103 ∨ op = 0x301 then 8 else 0

/-- The command of an opcode in the mailbox registers, with its input payload (R99). Every other opcode is
unsupported. -/
def mailboxCommand (op : Nat) (w : Nat → Word) (p : Part) : Part :=
  match op with
  | 0x100 => getEventRecords p
  | 0x101 => clearEventRecords ((w 0).getLsbD 8)
      ((List.range (fieldOf (w 0) 23 16)).map fun k =>
        fieldOf (w ((k + 3) / 2)) ((k + 3) % 2 * 16 + 15) ((k + 3) % 2 * 16)) p
  | 0x102 => getEventInterruptPolicy p
  | 0x103 => setEventInterruptPolicy (fieldOf (w 0) 1 0 == 1) (fieldOf (w 0) 7 4) p
  | 0x300 => getTimestamp p
  | 0x301 => setTimestamp (joinWords (w 0) (w 1)) p
  | 0x400 => getSupportedLogs p
  | 0x401 => getLog (logIsCel w) p
  | 0x4000 => identifyMemoryDevice p
  | 0x4100 => getPartitionInfo p
  | 0x4200 => getHealthInfo p
  | 0x4300 => getPoisonList p
  | _ => p.mailboxDo fun p => p.emit (.words "MB_UNSUPPORTED" op [])

/-- The return code of a mailbox command: Success, Invalid Input, Unsupported or Busy. -/
def Part.mailboxCode (p : Part) (op : Nat) (w : Nat → Word) : Nat :=
  if p.coresAway then 6
  else if !mailboxOpcodes.contains (BitVec.ofNat 32 op) then 3
  else if op = 0x103 ∧ fieldOf (w 0) 1 0 = 1 ∧ fieldOf (w 0) 7 4 ≠ 10 then 2
  else if op = 0x401 ∧ logIsCel w = false then 2
  else 0

/-- `n` bytes of a number, least significant first. -/
def leBytes (n v : Nat) : List Byte := (List.range n).map fun i => BitVec.ofNat 8 (v / 256 ^ i)

/-- An event record in its 128 bytes: length, handle, time stamp and DPA, the fields the spec gives. -/
def EventRec.bytes (r : EventRec) : List Byte :=
  List.replicate 16 0#8 ++ [0x80#8, 0#8, 0#8, 0#8] ++ leBytes 2 r.handle ++ [0#8, 0#8] ++ leBytes 8 r.stamp.toNat ++
    List.replicate 16 0#8 ++ leBytes 8 r.dpa ++ List.replicate 72 0#8

/-- A list cut to what the 512 bytes of payload hold, and whether more follow. -/
def payloadCut {α : Type} (n : Nat) (l : List α) : List α × Nat := (l.take n, (decide (n < l.length)).toNat)

/-- The output payload of a mailbox command, in the layouts of CXL 2.0 (PRESUMED, log 30). -/
def Part.mailboxOut (p : Part) (op : Nat) (w : Nat → Word) : List Byte :=
  let z := fun n => List.replicate n 0#8
  match op with
  | 0x100 =>
    let c := payloadCut 3 p.media.events
    leBytes 1 (2 * c.2) ++ z 19 ++ leBytes 2 c.1.length ++ z 10 ++ c.1.flatMap EventRec.bytes
  | 0x102 => (List.replicate 4 (BitVec.ofNat 8 (if p.media.policyMsix then 0xA1 else 0)) : List Byte)
  | 0x300 => leBytes 8 p.stampClock.toNat
  | 0x400 => leBytes 2 1 ++ z 6 ++ celUuid.flatMap wordBytes ++ leBytes 4 (4 * mailboxOpcodes.length)
  | 0x401 =>
    let cel := mailboxOpcodes.flatMap fun o => leBytes 2 o.toNat ++ leBytes 2 (commandEffect o.toNat)
    (cel.drop (w 4).toNat).take (w 5).toNat
  | 0x4000 => z 16 ++ leBytes 8 512 ++ leBytes 8 512 ++ z 16 ++ z 8 ++ z 4 ++ leBytes 3 256 ++ z 4
  | 0x4100 => leBytes 8 512 ++ z 24
  | 0x4200 => leBytes 1 (p.selvState 25 != 0).toNat ++ z 3 ++ leBytes 2 ((p.reg 0xB080).toInt / 16 % 65536).toNat ++
      z 4 ++ leBytes 4 (p.reg 0xA004).toNat ++ z 4
  | 0x4300 =>
    let lo := (joinWords (w 0) (w 1)).toNat / 64
    let c := payloadCut 30 (p.media.poison.filter fun l => decide (lo ≤ l) && decide (l < lo + (joinWords (w 2) (w 3)).toNat))
    leBytes 1 (c.2 + 2 * p.media.poisonOver.toNat) ++ z 9 ++ leBytes 2 c.1.length ++ z 20 ++
      c.1.flatMap fun l => leBytes 8 (64 * l) ++ leBytes 4 1 ++ z 4
  | _ => []

/-- Bytes as the mailbox's payload registers. -/
def Part.setPayload (p : Part) (bs : List Byte) : Part :=
  ((wordsOfBytes (bs ++ List.replicate 3 0#8)).zipIdx).foldl (fun (x : Part) e =>
    x.setCxlReg (0x10220 + 4 * e.2) e.1) p

/-- The mailbox's doorbell is written: the command in its registers runs; its return code, the length of its output and
the output itself show (R86, R99). -/
def Part.mailboxBell (p : Part) : Part :=
  let op := fieldOf (p.cxlReg 0x10208) 15 0
  let w := fun k => p.cxlReg (0x10220 + 4 * k)
  let code := p.mailboxCode op w
  let out := if code = 0 then p.mailboxOut op w else []
  let len := BitVec.ofNat 64 (op + out.length * 2 ^ 16)
  let q := ((mailboxCommand op w p).setPayload out).setCxlReg 0x10214 (BitVec.ofNat 32 code)
  (q.setCxlReg 0x10208 (loWord len)).setCxlReg 0x1020C (hiWord len)

/-- A commit through the decoder's registers (R90): the ways are 2 to the power of IW. -/
def Part.hdmControl (p : Part) (w : Word) : Part :=
  let q := p.setCxlReg 0x1120 w
  if w.getLsbD 9 then
    hdmSet (joinWords (p.cxlReg 0x1110) (p.cxlReg 0x1114)).toNat (joinWords (p.cxlReg 0x1118) (p.cxlReg 0x111C)).toNat
      (2 ^ fieldOf w 7 4) (w.getLsbD 8) q
  else if p.host.hdm.locked then p
  else { q with host := { q.host with hdm := {} } }

/-- A write to the CXL component and memory-device registers (R86). -/
def Part.cxlWrite (p : Part) (o : Nat) (w : Word) : Part :=
  if o = 0x10204 then if w.getLsbD 0 then p.mailboxBell else p
  else if o = 0x1120 then p.hdmControl w
  else if cxlWritable o then p.setCxlReg o w
  else p

/-! ### Meanings -/

/-- CXL_LINK_UP. -/
def execCxlLinkUp (w g : Nat) (c : Bool) (s : State) : Result := onPart (cxlLinkUp w g c) s
/-- CONFIG_REQUEST. -/
def execConfigRequest (op : ConfigOp) (s : State) : Result := onPart (configRequest op) s
/-- D3HOT_ENTRY. -/
def execD3hotEntry (s : State) : Result := onPart d3hotEntry s
/-- MSIX_HOLDOFF_END. -/
def execMsixHoldoffEnd (v : Fin 64) (s : State) : Result := onPart (msixHoldoffEnd v) s
/-- IDE_INTEGRITY_FAIL. -/
def execIdeIntegrityFail (st : IdeStream) (s : State) : Result := onPart (ideIntegrityFail st) s
/-- IDE_KM_KEY_INSTALL. -/
def execIdeKmKeyInstall (st : IdeStream) (skid : Bool) (key : BitVec 256) (s : State) : Result :=
  onPart (ideKmKeyInstall st skid key) s
/-- DOE_DISCOVERY. -/
def execDoeDiscovery (r : DoeRequest) (s : State) : Result := onPart (fun p => p.doe (.plain r)) s
/-- CDAT_TABLE_ACCESS. -/
def execCdatTableAccess (entry : Nat) (s : State) : Result := onPart (fun p => p.doe (.cdat entry)) s
/-- SPDM_GET_CERTIFICATE. -/
def execSpdmGetCertificate (slot : Fin 8) (offset len : Nat) (s : State) : Result :=
  onPart (fun p => p.doe (.certificate slot offset len)) s
/-- SPDM_CHALLENGE. -/
def execSpdmChallenge (slot : Fin 8) (nonce : BitVec 256) (s : State) : Result :=
  onPart (fun p => p.doe (.challenge slot nonce)) s
/-- SPDM_GET_MEASUREMENTS. -/
def execSpdmGetMeasurements (index : Fin 9) (nonce : BitVec 256) (s : State) : Result :=
  onPart (fun p => p.doe (.measurements index nonce)) s
/-- SPDM_KEY_EXCHANGE. -/
def execSpdmKeyExchange (s : State) : Result := onPart (fun p => p.doe .keyExchange) s
/-- GET_EVENT_RECORDS. -/
def execGetEventRecords (s : State) : Result := onPart getEventRecords s
/-- CLEAR_EVENT_RECORDS. -/
def execClearEventRecords (all : Bool) (handles : List Nat) (s : State) : Result :=
  onPart (clearEventRecords all handles) s
/-- GET_EVENT_INTERRUPT_POLICY. -/
def execGetEventInterruptPolicy (s : State) : Result := onPart getEventInterruptPolicy s
/-- SET_EVENT_INTERRUPT_POLICY. -/
def execSetEventInterruptPolicy (msix : Bool) (vector : Nat) (s : State) : Result :=
  onPart (setEventInterruptPolicy msix vector) s
/-- GET_TIMESTAMP. -/
def execGetTimestamp (s : State) : Result := onPart getTimestamp s
/-- SET_TIMESTAMP. -/
def execSetTimestamp (v : Dword) (s : State) : Result := onPart (setTimestamp v) s
/-- GET_SUPPORTED_LOGS. -/
def execGetSupportedLogs (s : State) : Result := onPart getSupportedLogs s
/-- GET_LOG. -/
def execGetLog (cel : Bool) (s : State) : Result := onPart (getLog cel) s
/-- IDENTIFY_MEMORY_DEVICE. -/
def execIdentifyMemoryDevice (s : State) : Result := onPart identifyMemoryDevice s
/-- GET_PARTITION_INFO. -/
def execGetPartitionInfo (s : State) : Result := onPart getPartitionInfo s
/-- GET_HEALTH_INFO. -/
def execGetHealthInfo (s : State) : Result := onPart getHealthInfo s
/-- GET_POISON_LIST. -/
def execGetPoisonList (s : State) : Result := onPart getPoisonList s

end Sys2Proof.Machine
end

