-- ==== Sys2Proof/Machine/Command.lean ====
section
/-! DEFINITION. Command packets (R148 to R178): slots, doorbells, the acceptance checks, ordering, the tag
life cycle, the reply ring, ABORT, and the baste and unpick classes. -/

namespace Sys2Proof.Machine

/-! ### Slots and doorbells -/

/-- Slot offset of a tag in the command window (R148). -/
def slotBase (t : Nat) : Nat := t * 0x2000

/-- The words of a BAR2 write whose slots are not in flight are stored; others are dropped (R149). -/
def storeWords (p : Part) (m : Memory) (o : Nat) : List Word → Memory
  | [] => m
  | w :: r => storeWords p (if p.inFlight (o / 0x2000) then m else m.writeWord o w) (o + 4) r

/-- Does a BAR2 write touch a slot in flight (R149)? -/
def touchesFlight (p : Part) (o : Nat) : List Word → Bool
  | [] => false
  | _ :: r => p.inFlight (o / 0x2000) || touchesFlight p (o + 4) r

/-- A write to BAR2 (R84, R87, R149): early writes are discarded and counted; a write to a slot in flight is
discarded and counted; any other is stored. -/
def State.slotWrite (s : State) (o : Nat) (ws : List Word) : State :=
  if !s.part.bar2Up then s
  else if !s.part.memActive then { s with part := s.part.addSat 0x403C 1 }
  else
    { s with window := storeWords s.part s.window o ws,
             part := if touchesFlight s.part o ws then s.part.addSat 0x4038 1 else s.part }

/-- A read of BAR2: what was stored last, in flight or not (R87, R149). -/
def State.slotRead (s : State) (o n : Nat) : State :=
  if s.part.bar2Up then { s with part := s.part.emit (.words "BAR2" o (s.window.readWords o n)) } else s

/-- COMMAND_SLOT_WRITE. -/
def execCommandSlotWrite (a : SlotAccess) (s : State) : Result :=
  match a with
  | .write o ws => .next (s.slotWrite o ws)
  | .read o n => .next (s.slotRead o n)

/-- A tag is submitted: QUEUED, last in doorbell order; a tag in flight is skipped and counted (R152,
R153, R159). -/
def Part.submit (p : Part) (t : Nat) : Part :=
  if p.inFlight t then p.addSat 0x4030 1
  else
    let q := (p.setTag t { st := .queued, order := p.cmd.nextOrder }).count 0 0 1
    { q with cmd := { q.cmd with nextOrder := q.cmd.nextOrder + 1 } }

/-- The tags `t`, `t + 1`, … modulo 1,024 are submitted in that order (R152). -/
def Part.submitRun (p : Part) (t : Nat) : Nat → Part
  | 0 => p
  | n + 1 => Part.submitRun (p.submit (t % 1024)) (t + 1) n

/-- A write of CMDQ.DOORBELL (R152, R153). -/
def doorbellEffect (w : Word) (p : Part) : Part :=
  if !p.bit 0x4010 31 then p.addSat 0x4034 1
  else p.submitRun (fieldOf w 9 0) (fieldOf w 25 16 + 1)

/-- The copied slot of a tag: sixteen header words and PARAM_LEN bytes of parameters (R148, R150). -/
def Part.copySlot (m : Memory) (p : Part) (t : Nat) : Part :=
  let hdr := m.readWords (slotBase t) 16
  let n := min ((fieldOf (hdr.getD 1 0#32) 12 0 + 3) / 4) 1024
  p.setTag t { p.tag t with hdr := hdr, params := m.readWords (slotBase t + 0x40) n }

/-- Every submitted slot not copied yet is copied (R154, R159). -/
def Part.copyQueued (m : Memory) (p : Part) : Part :=
  p.cmd.tags.foldl (fun q e => if e.2.hdr.isEmpty then q.copySlot m e.1 else q) p

/-- A command that may submit tags: the slots are copied at once, as the doorbell takes effect (R159). -/
def onBus (f : Part → Part) (s : State) : Result :=
  .next { s with part := (f s.part).copyQueued s.window }

/-! ### Acceptance (R154 to R158, R75, R76) -/

/-- The opcodes of R167. -/
def opcodes : List Nat :=
  [0x0101, 0x0102, 0x0103, 0x0104, 0x0201, 0x0202, 0x0301, 0x0401, 0x0501, 0x0502, 0x0503, 0x0601,
    0x0602, 0x0603, 0x0701, 0x0702, 0x0703, 0x0801, 0x0802, 0x0803, 0x0901, 0x0902, 0x0A01, 0x0A02,
    0x0B01, 0x0B02, 0x0C01, 0x0C02, 0x0C03, 0x0C04, 0x0D01, 0x0D02, 0x0D03, 0x0E01, 0x0E02, 0x0E03,
    0x0F01]

/-- The entries of the table of R75. -/
inductive Entry where
  | yes | no | busy | online | query | accepted
  deriving DecidableEq, Repr

/-- The entry of an opcode class in a mode (R75). While the cores restart after fault 0x07 the column of
RENEW holds (R484). -/
def classEntry (cls : Nat) (m : Mode) : Entry :=
  match m with
  | .dormant => .no
  | .renew => if cls = 0x06 ∨ cls = 0x0F then .yes else if cls = 0x0A then .accepted else .busy
  | .freeze => if cls = 0x01 ∨ cls = 0x05 ∨ cls = 0x0E ∨ cls = 0x0F then .yes else .no
  | .attest =>
    if cls = 0x01 ∨ cls = 0x0C ∨ cls = 0x0F then .yes else if cls = 0x05 then .query else .no
  | .inert =>
    if cls = 0x09 then .online
    else if [0x01, 0x04, 0x05, 0x0A, 0x0B, 0x0C, 0x0E, 0x0F].contains cls then .yes else .no
  | .prove =>
    if [0x01, 0x05, 0x09, 0x0A, 0x0E, 0x0F].contains cls then .yes else .no
  | .drain =>
    if [0x01, 0x04, 0x05, 0x06, 0x08, 0x0A, 0x0D, 0x0E, 0x0F].contains cls then .yes else .no
  | .fit => if cls = 0x07 then .no else if cls = 0x09 then .online else .yes
  | _ => if cls = 0x09 then .online else .yes

/-- The mode whose column of R75 applies. -/
def Part.column (p : Part) : Mode :=
  if p.md.coresOut ∧ p.md.cur ≠ .freeze ∧ p.md.cur ≠ .dormant then .renew else p.md.cur

/-- Is a guarded opcode (R167)? MODE.ENTER is, for targets 0x0 and 0xB. -/
def Part.guarded (p : Part) (t : Nat) : Bool :=
  let op := p.opcode t
  op == 0x0B01 || op == 0x0C02 || op == 0x0C04 ||
    (op == 0x0101 && (fieldOf (p.par t 0) 3 0 == 0 || fieldOf (p.par t 0) 3 0 == 11))

/-- MODE.ENTER with target FREEZE (R56, R156, R157). -/
def Part.isFreezeEnter (p : Part) (t : Nat) : Bool :=
  p.opcode t == 0x0101 && fieldOf (p.par t 0) 3 0 == 11

/-- Is P0 of a MODE.ENTER a valid pair of target and final code (R49, R56)? -/
def validEnter (w : Word) : Bool :=
  let tg := fieldOf w 3 0
  let fin := fieldOf w 7 4
  fieldOf w 31 8 == 0 && decide (tg < 12) &&
    (if tg = 8 then fin == 1 || fin == 3 || fin == 9 || fin == 0 else fin == 0)

/-- A MODE.ENTER that names the current mode while no transition is under way: DONE in every mode (R56). -/
def Part.staysPut (p : Part) (t : Nat) : Bool :=
  p.opcode t == 0x0101 && validEnter (p.par t 0) && fieldOf (p.par t 0) 3 0 == p.md.cur.code && p.md.trans.isNone

/-- Check 5: the class in the current mode, with the limits of R76; `none` passes. A MODE.ENTER whose
P0 is not valid fails check 6 before the limits of R76 (R56, log 10). -/
def Part.modeCheck (p : Part) (t : Nat) : Option (Nat × Nat) :=
  let op := p.opcode t
  let code := p.md.cur.code
  let rejectMode := some (stMode, code)
  match classEntry (op / 256) p.column with
  | .no => rejectMode
  | .query => rejectMode
  | .busy => if p.isFreezeEnter t || p.staysPut t then none else some (stBusy, 0)
  | .online =>
    if op = 0x0901 ∧ fieldOf (p.par t 0) 19 16 ≠ 0 then rejectMode else none
  | .accepted => none
  | .yes =>
    if op / 256 = 1 ∧ p.md.cur = .freeze then
      if op = 0x0103 then rejectMode
      else if op = 0x0101 ∧ validEnter (p.par t 0) then
        if fieldOf (p.par t 0) 3 0 = 1 ∨ fieldOf (p.par t 0) 3 0 = 11 then none else rejectMode
      else none
    else if op = 0x0101 ∧ p.md.cur = .drain ∧ validEnter (p.par t 0) ∧ p.isFreezeEnter t = false ∧
        p.staysPut t = false then some (stBusy, 0)
    else none

/-- The parameter words an opcode needs (R167). -/
def paramWords (op : Nat) (p0 : Word) (p1 : Word) : Nat :=
  match op with
  | 0x0101 => 1 | 0x0103 => 1 | 0x0201 => (if p0.toNat ≤ 341 then 1 + 3 * p0.toNat else 1) | 0x0202 => 4
  | 0x0301 => if fieldOf p0 2 0 = 3 then 4 else 1
  | 0x0501 => 2 | 0x0503 => 4 | 0x0601 => 2 | 0x0602 => 3 | 0x0701 => 1 | 0x0702 => 1 | 0x0703 => 1
  | 0x0801 => 1 | 0x0803 => 1 | 0x0901 => if p0.getLsbD 19 then 6 else 1
  | 0x0A01 => 1 | 0x0A02 => 1 | 0x0B01 => 3 | 0x0C01 => 12 | 0x0C02 => 1 | 0x0C03 => 1 | 0x0C04 => 1
  | 0x0D01 => 1 | 0x0D02 => (if p1.toNat ≤ 1000 then 2 + p1.toNat else 2) | 0x0D03 => 2 | 0x0E01 => 1 | 0x0E02 => 1 | 0x0F01 => 1
  | _ => 0

/-- The bits of P0 an opcode defines; the others are reserved (R155, R167). -/
def paramMask (op : Nat) : Word :=
  match op with
  | 0x0103 => 0x3#32 | 0x0301 => 0x1F07#32 | 0x0501 => 0xFFFF#32 | 0x0503 => 0x3#32
  | 0x0701 => 0x301FF#32 | 0x0702 => 0x301FF#32 | 0x0703 => 0x1FF#32
  | 0x0801 => 0xF#32 | 0x0803 => 0xF#32 | 0x0901 => 0xF007F#32 | 0x0A01 => 0xF#32 | 0x0A02 => 0xF#32
  | 0x0C01 => 0xFF#32 | 0x0C02 => 0xFF#32 | 0x0D01 => 0x1FFFF#32 | 0x0D03 => 0xFFFF#32
  | 0x0E01 => 0xFFFF#32 | 0x0E02 => 0xFFFF#32 | 0x0F01 => 0x3FF#32
  | _ => BitVec.allOnes 32

/-- The least RESULT_LEN of an opcode that requires a result buffer; `none` where it needs none (R155). -/
def resultNeed (op : Nat) : Option Nat :=
  match op with
  | 0x0104 => some 4096
  | 0x0502 => some 0 | 0x0503 => some 0 | 0x0902 => some 0 | 0x0A02 => some 0 | 0x0D03 => some 0
  | 0x0E02 => some 0
  | _ => none

/-- Does the header fail check 6, with DETAIL 0xFF (R154, R155, R166)? DESIGN CHOICE (log 76): a PARAM_LEN above what
the opcode's parameters need is accepted, and the words beyond them are not read. -/
def headerFault (op : Nat) (h : List Word) (np : Nat) (p0 p1 : Word) : Bool :=
  let w := fun k => h.getD k 0#32
  let addr := (joinWords (w 6) (w 7)).toNat
  fieldOf (w 0) 31 28 != 0 || fieldOf (w 1) 31 13 != 0 || fieldOf (w 4) 31 24 != 0 || w 5 != 0#32 ||
    fieldOf (w 8) 31 25 != 0 || [10, 11, 12, 13, 14].any (fun k => w k != 0#32) ||
    fieldOf (w 1) 1 0 != 0 || decide (4096 < fieldOf (w 1) 12 0) || addr % 64 != 0 ||
    decide (16777216 < fieldOf (w 8) 24 0) || decide (np < paramWords op p0 p1) ||
    (match resultNeed op with
     | some n => addr == 0 || decide (fieldOf (w 8) 24 0 < n)
     | none => false)

/-- Is an ID one of R457's? -/
def ledgerIs (id : Nat) : Bool :=
  let n := id % 0x1000
  match id / 0x1000 with
  | 0 | 1 | 3 | 4 | 0xA => n == 0
  | 2 => decide (n < 32)
  | 5 => decide (n < 512)
  | 6 | 7 | 9 => decide (n < 48)
  | 8 => decide (n < 16)
  | 0xB | 0xC => decide (n < 29)
  | 0xD => decide (n < 3)
  | 0xE => decide (1 ≤ n) && decide (n < 64)
  | _ => false

/-- The index of the first faulty parameter word that needs no execution to find (R154 check 6). A DOMAIN.SEND whose
body is above 1,024 bytes (R432) fails by its PARAM_LEN, with DETAIL 0xFF (R166). -/
def Part.paramFault (p : Part) (t : Nat) : Option Nat :=
  let op := p.opcode t
  let w := p.par t
  if op = 0x0101 then if validEnter (w 0) then none else some 0
  else if w 0 &&& ~~~(paramMask op) ≠ 0#32 then some 0
  else match op with
    | 0x0201 => if (w 0).toNat = 0 ∨ 341 < (w 0).toNat then some 0 else none
    | 0x0202 => if (w 2).toNat % 12 ≠ 0 ∨ 786432 < (w 2).toNat then some 2
        else if p.inScratch (p.par64 t 0).toNat (w 2).toNat then none else some 0
    | 0x0301 => if 4 < fieldOf (w 0) 2 0 then some 0
        else if (fieldOf (w 0) 2 0 = 1 ∨ fieldOf (w 0) 2 0 = 2) ∧ 23 < fieldOf (w 0) 12 8 then some 0
        else if fieldOf (w 0) 2 0 = 3 then
          match timeOfWords (w 1) (w 2) (w 3) with
          | some x => if x < p.now ∨ p.now + 60 * 1000000000 * 65536 < x then some 1 else none
          | none => some 1
        else none
    | 0x0501 => if fieldOf (w 1) 31 16 ≠ 0 then some 1 else none
    | 0x0503 => if (w 0).toNat = 3 then some 0 else none
    | 0x0602 => if (w 2).toNat = 0 ∨ 10000 < (w 2).toNat then some 2 else none
    | 0x0701 => if fieldOf (w 0) 17 16 = 3 then some 0 else none
    | 0x0702 => if fieldOf (w 0) 17 16 = 3 then some 0 else none
    | 0x0901 =>
      if (w 0).getLsbD 19 then
        if fieldOf (w 2) 31 16 ≠ 0 then some 2 else if fieldOf (w 4) 31 16 ≠ 0 then some 4
        else if (w 5).toNat = 0 ∨ 3600 < (w 5).toNat then some 5 else none
      else none
    | 0x0A01 => if 2 ≤ (w 0).toNat then some 0 else none
    | 0x0A02 => if 3 ≤ (w 0).toNat then some 0 else none
    | 0x0B01 => if 33554432 < (w 2).toNat then some 2 else none
    | 0x0D01 => if 256 < (p.tag t).params.length - 1 then some 0xFF else none
    | 0x0D02 => if (w 1).toNat = 0 ∨ 1000 < (w 1).toNat then some 1 else none
    | 0x0E01 | 0x0E02 =>
      if ledgerIs (fieldOf (w 0) 15 0) || fieldOf (w 0) 15 0 == 0xFFFF then none else some 0
    | _ => none

/-- The checks of R154 in order: the status and DETAIL of the first that fails. -/
def Part.acceptance (p : Part) (t : Nat) : Option (Nat × Nat) :=
  let h := (p.tag t).hdr
  let w0 := p.hdr t 0
  if w0.getLsbD 27 && p.hdr t 15 != crc32c (bytesOfWords (h.take 15)
      ++ (bytesOfWords (p.tag t).params).take (fieldOf (p.hdr t 1) 12 0)) then
    some (stIntegrity, 1)
  else if fieldOf w0 25 16 ≠ t then some (stTagMismatch, 0)
  else if !opcodes.contains (p.opcode t) then some (stUnknown, 0)
  else if p.guarded t && p.hdr t 9 != ~~~w0 then some (stGuard, 0)
  else match p.modeCheck t with
    | some r => some r
    | none =>
      if headerFault (p.opcode t) h (p.tag t).params.length (p.par t 0) (p.par t 1) then
        some (stParam, 0xFF)
      else (p.paramFault t).map fun d => (stParam, d)

/-- The serial classes (R157). -/
def serialClass (cls : Nat) : Bool := [0x01, 0x02, 0x03, 0x04, 0x0B, 0x0C].contains cls

/-- A STITCH that waits for its boundary leaves the order (R157). -/
def Part.waits (p : Part) (t : Nat) : Bool :=
  match p.stitch.waiting with
  | some w => w.tag == t
  | none => false

/-- Has a tag no reply formed yet (R157)? -/
def Tag.unreplied (g : Tag) : Bool :=
  match g.st with
  | .queued | .running | .committed => true
  | _ => false

/-- Commands Mbowyn runs now (R158). -/
def Part.running (p : Part) : Nat :=
  (p.cmd.tags.filter fun e => (match e.2.st with | .running | .committed => true | _ => false) &&
    (let cls := fieldOf (e.2.hdr.getD 0 0#32) 15 8; cls != 6 && cls != 15)).length

/-- ABORT and MODE.ENTER with target FREEZE run on acceptance, whatever the order (R157). -/
def Part.runsAtOnce (p : Part) (t : Nat) : Bool := p.opcode t / 256 == 0x0F || p.isFreezeEnter t

/-- No earlier command holds a tag back: by FENCE, or as a serial command before it (R157). -/
def Part.unheld (p : Part) (t : Nat) : Bool :=
  let g := p.tag t
  !(p.cmd.tags.any fun e =>
    decide (e.2.order < g.order) && e.2.unreplied && !p.waits e.1 &&
      ((p.hdr t 0).getLsbD 26 ||
        (serialClass (p.opcode t / 256) && serialClass (p.opcode e.1 / 256))))

/-- An earlier command of the same engine waits that no rule holds back: it starts first (R156 to R158). -/
def Part.outOfTurn (p : Part) (t : Nat) : Bool :=
  let g := p.tag t
  p.cmd.tags.any fun e =>
    decide (e.2.order < g.order) && decide (e.2.st = .queued) && !p.runsAtOnce e.1 &&
      (p.opcode e.1 / 256 == 0x06) == (p.opcode t / 256 == 0x06) && p.unheld e.1

/-- Does the ordering of R157 and R158 let a tag start? Mbowyn runs up to 64 commands, and tags beyond them wait in
doorbell order. -/
def Part.mayStart (p : Part) (t : Nat) : Bool :=
  p.runsAtOnce t ||
    (p.unheld t && !p.outOfTurn t && (p.opcode t / 256 == 0x06 || decide (p.running < 64)))

/-- A checked command is RUNNING once the ordering lets it start (R157, R159). An ABORT is past its commit point from
its acceptance on (R160). -/
def Part.startTag (p : Part) (t : Nat) : Part :=
  if p.mayStart t then p.setTagState t (if p.opcode t / 256 = 0x0F then .committed else .running) else p

/-- SLOT_COPY (R154): the checks, in order, once; a command that passes is RUNNING once the ordering lets
it start. For a tag that waits for the ordering the row comes again (log 11). -/
def slotCopy (t : Fin 1024) (p : Part) : Part :=
  if (p.tag t).st ≠ .queued then p
  else if (p.tag t).checked then p.startTag t
  else match p.acceptance t with
    | some (st, d) => p.reject t st d
    | none => (p.setTag t { p.tag t with checked := true }).startTag t

/-! ### Abort, timeout and mode change (R159, R174 to R177) -/

/-- A stitch set goes back beneath the basted set: newer changes of a bit stand (R171). -/
def mergeBack (set : SMap (Word × Word)) (basted : SMap (Word × Word)) : SMap (Word × Word) :=
  set.foldl (fun b e =>
    let cur := SMap.get (fun _ => (0#32, 0#32)) b e.1
    SMap.set (fun _ => (0#32, 0#32)) b e.1
      (cur.1 ||| e.2.1, mergeMask e.2.2 cur.2 cur.1)) basted

/-- A waiting STITCH gives its set back (R174). -/
def Part.returnSet (p : Part) : Part :=
  match p.stitch.waiting with
  | some w => { p with stitch := { p.stitch with basted := mergeBack w.set_ p.stitch.basted,
                                                 waiting := none } }
  | none => p

/-- A tag before its commit point ends with a status and no effect (R159). -/
def Part.stopTag (p : Part) (t status detail : Nat) : Part :=
  ((if p.waits t then p.returnSet else p).reject t status detail)

/-- A tag is QUEUED or RUNNING: before its commit point (R159). -/
def Part.abortable (p : Part) (t : Nat) : Bool :=
  match (p.tag t).st with
  | .queued | .running => true
  | _ => false

/-- COMMAND_TIMEOUT (R159): TIMEOUT_MS passed before the commit point. -/
def commandTimeout (t : Fin 1024) (p : Part) : Part :=
  if p.abortable t && fieldOf (p.hdr t 4) 23 0 != 0 then p.stopTag t stTimeout 0 else p

/-- ABORT (R175, R176). -/
def abortCmd (t : Fin 1024) (p : Part) : Part :=
  if (p.tag t).st ≠ .committed ∨ p.opcode t ≠ 0x0F01 then p
  else
    let u := fieldOf (p.par t 0) 9 0
    if u = t.val ∨ (p.tag u).st = .free then p.reject t stParam 0
    else if p.abortable u then (p.stopTag u stAborted 1).done t 0#64 0#32
    else p.reject t stAlready 0

/-- A write of CMDQ.ABORT_REQ (R177, R178). -/
def abortReqEffect (w : Word) (p : Part) : Part :=
  let u := fieldOf w 9 0
  let r : Nat × Part :=
    if p.abortable u then (0x00, p.stopTag u stAborted 1)
    else if (p.tag u).st = .free then (0x11, p) else (0x14, p)
  r.2.setReg 0x4044 (BitVec.ofNat 32 (2 ^ 31 + u * 2 ^ 16 + r.1))

/-- Tags before their commit point that check 5 no longer lets pass are ABORTED (R76, R77, R159). DESIGN CHOICE (log
77): a BUSY entry of the new mode makes a command not legal there as well. -/
def Part.abortIllegal (p : Part) : Part :=
  p.cmd.tags.foldl (fun q e =>
    if q.abortable e.1 && (q.modeCheck e.1).isSome then q.stopTag e.1 stAborted 2 else q) p

/-! ### The reply ring (R163, R178) -/

/-- A write of REPLY_CONS: discarded with an access fault where it would leave a negative or too large
distance; else ring entries are free and HELD replies are written (R163, R159). -/
def replyConsEffect (req : Req) (addr : BitVec 28) (w : Word) (p : Part) : Part :=
  if (p.reg 0x4014 - w).toNat ≤ p.ringSize then
    let q := p.setReg 0x4018 w
    q.flushHeld q.cmd.held.length
  else p.accessFault 5 req addr

/-- A write of RING_CFG: size limits, no change of the size while enabled, and indices at 0 when ENABLE
rises (R178). -/
def ringCfgEffect (req : Req) (addr : BitVec 28) (w : Word) (p : Part) : Part :=
  let old := p.reg 0x4010
  let sz := fieldOf w 4 0
  if sz < 10 ∨ 16 < sz ∨ (bitAt old 31 = true ∧ sz ≠ fieldOf old 4 0) then p.accessFault 5 req addr
  else
    let q := p.setReg 0x4010 w
    if bitAt w 31 && !bitAt old 31 then
      let q := (q.setReg 0x4014 0#32).setReg 0x4018 0#32
      q.flushHeld q.cmd.held.length
    else q

/-! ### Baste and unpick (R168, R169, R174) -/

/-- The bits of SH fields at a canonical offset; none where no register is (R169). -/
def shMask (off : Nat) : Word :=
  match regInfo off with
  | some i => i.sh
  | none => 0#32

/-- The number of SH fields a mask of a register selects (R167). -/
def fieldsIn (off : Nat) (mask : Word) : Nat :=
  match regInfo off with
  | some i => ((List.range 32).foldl (fun (a : Nat × Bool × Bool) b =>
      let start := bitAt i.sh b && (b == 0 || !bitAt i.sh (b - 1) || bitAt i.splits b)
      let sel := bitAt mask b && bitAt i.sh b
      let seen := if start then false else a.2.1
      (if sel && !seen then a.1 + 1 else a.1, seen || sel, true)) (0, false, true)).1
  | none => 0

/-- One change of a basted set: the selected bits are held until the next stitch or unpick (R169). -/
def basteOne (b : SMap (Word × Word)) (off : Nat) (mask val : Word) : SMap (Word × Word) :=
  let cur := SMap.get (fun _ => (0#32, 0#32)) b off
  SMap.set (fun _ => (0#32, 0#32)) b off (cur.1 ||| mask, mergeMask cur.2 val mask)

/-- The number of fields a set selects. -/
def fieldCount (b : SMap (Word × Word)) : Nat := b.foldl (fun n e => n + fieldsIn e.1 e.2.1) 0

/-- Checks and stages triples in order: the new set and the set of the selected bits, or the index of the
first bad triple and the place in it (R168, R169). -/
def basteTriples (k : Nat) (b sel : SMap (Word × Word)) :
    List Word → Except (Nat × Nat) (SMap (Word × Word) × SMap (Word × Word))
  | o :: m :: v :: r =>
    if fieldOf o 31 20 ≠ 0 ∨ fieldOf o 1 0 ≠ 0 then .error (k, 0)
    else
      let off := resolveOffset o.toNat
      if m &&& ~~~(shMask off) ≠ 0#32 then .error (k, 1)
      else if m = 0#32 then basteTriples (k + 1) b sel r
      else basteTriples (k + 1) (basteOne b off m v) (basteOne sel off m v) r
  | _ => .ok (b, sel)

/-- The limit of changed registers (R169). -/
def basteLimit : Nat := 65536

/-- The basted set replaced. -/
def Part.setBasted (p : Part) (b : SMap (Word × Word)) : Part :=
  { p with stitch := { p.stitch with basted := b } }

/-- A list of triples is basted, all or none (R169). `first` is the parameter word of triple 0, where
the triples are parameters. DESIGN CHOICE (log 102): an index above 0xFE, which DETAIL cannot hold, is given as 0xFE
(R166); a bad triple of an image, which is no parameter word, has DETAIL 0; and so has NO_RESOURCE, for which no
chapter gives a code. -/
def Part.baste (p : Part) (t : Nat) (first : Option Nat) (ws : List Word) : Part :=
  match basteTriples 0 p.stitch.basted [] ws with
  | .error (k, j) =>
    p.reply t stParam (match first with | some f => min (f + 3 * k + j) 0xFE | none => 0)
      (BitVec.ofNat 64 k) 0#32
  | .ok (b, sel) =>
    if basteLimit < b.length then p.reject t stNoRes 0
    else ((p.setTagState t .committed).setBasted b).done t (BitVec.ofNat 64 (fieldCount sel)) 0#32

/-- BASTE.FIELDS (R168, R169). -/
def basteFields (t : Fin 1024) (p : Part) : Part :=
  if !p.runs t 0x0201 then p
  else p.baste t (some 1) (((p.tag t).params.drop 1).take (3 * (p.par t 0).toNat))

/-- BASTE.IMAGE (R168): the image in host scratch, under its CRC-32C. -/
def basteImage (t : Fin 1024) (p : Part) : Part :=
  if !p.runs t 0x0202 then p
  else
    let a := (p.par64 t 0).toNat
    let n := (p.par t 2).toNat
    if !p.inScratch a n then p.reject t stParam 0
    else
      let r := p.memRead a n
      if crc32c r.2 ≠ p.par t 3 then r.1.reject t stIntegrity 2 else r.1.baste t none (wordsOfBytes r.2)

/-- UNPICK (R174): the basted set is emptied; a waiting set stays. -/
def unpick (t : Fin 1024) (p : Part) : Part :=
  if !p.runs t 0x0401 then p
  else ((p.setTagState t .committed).setBasted []).done t
    (BitVec.ofNat 64 (fieldCount p.stitch.basted)) 0#32

/-! ### QUERY.UNDELIVERED and QUERY.RECORDS (R80, R102, R151) -/

/-- QUERY.UNDELIVERED (R102): the leading RESULT_LEN bytes are written, and the records written whole leave the list
(R151). DESIGN CHOICE (log 101): DETAIL[0] is set where records remain, and RESULT1 is their number (R167), not the
full length in bytes of R151. -/
def queryUndelivered (t : Fin 1024) (p : Part) : Part :=
  if !p.runs t 0x0502 then p
  else
    let n := min p.cmd.undelivered.length (p.resultLen t / 32)
    let q := p.writeBulk t (bytesOfWords p.cmd.undelivered.flatten)
    let q : Part := { q with cmd := { q.cmd with undelivered := q.cmd.undelivered.drop n } }
    let short := decide (n < p.cmd.undelivered.length)
    q.reply t stDone short.toNat (BitVec.ofNat 64 n) (BitVec.ofNat 32 (p.cmd.undelivered.length - n))

/-- The base and size of a window of QUERY.RECORDS (R89, R167). -/
def Part.recordWindow (p : Part) (k : Nat) : Nat × Nat := p.cdatRange k

/-- Bytes of a log window's records of `size` bytes, from DPA `a`: a record in a line that holds an uncorrectable
codeword has its CRC word, its last, inverted (R470). -/
def Part.recordBytes (p : Part) (size a : Nat) (bs : List Byte) : List Byte :=
  bs.zipIdx.map fun e =>
    let d := a + e.2
    if size - 4 ≤ d % size ∧ p.media.poison.contains (d / 64) = true then ~~~e.1 else e.1

/-- QUERY.RECORDS (R80): a copy of a log window's bytes. The records of the PM history have 64 bytes, those of spill
and trace 32 (R247, R371, R487). -/
def queryRecords (t : Fin 1024) (p : Part) : Part :=
  if !p.runs t 0x0503 then p
  else
    let w := p.recordWindow (p.par t 0).toNat
    let o := (p.par64 t 1).toNat
    let n := (p.par t 3).toNat
    if w.2 ≤ o then p.reject t stParam 1
    else if w.2 < o + n then p.reject t stParam 3
    else
      let r := p.memRead (w.1 + o) (min n (p.resultLen t))
      let size := if p.par t 0 = 1#32 then 64 else 32
      r.1.doneBulkOf t (p.recordBytes size (w.1 + o) r.2) n 0#64 0#32

/-! ### Meanings -/

/-- SLOT_COPY. -/
def execSlotCopy (t : Fin 1024) (s : State) : Result := onPart (slotCopy t) s
/-- COMMAND_TIMEOUT. -/
def execCommandTimeout (t : Fin 1024) (s : State) : Result := onPart (commandTimeout t) s
/-- ABORT. -/
def execAbort (t : Fin 1024) (s : State) : Result := onPart (abortCmd t) s
/-- BASTE_FIELDS. -/
def execBasteFields (t : Fin 1024) (s : State) : Result := onPart (basteFields t) s
/-- BASTE_IMAGE. -/
def execBasteImage (t : Fin 1024) (s : State) : Result := onPart (basteImage t) s
/-- UNPICK. -/
def execUnpick (t : Fin 1024) (s : State) : Result := onPart (unpick t) s
/-- QUERY_UNDELIVERED. -/
def execQueryUndelivered (t : Fin 1024) (s : State) : Result := onPart (queryUndelivered t) s
/-- QUERY_RECORDS. -/
def execQueryRecords (t : Fin 1024) (s : State) : Result := onPart (queryRecords t) s

end Sys2Proof.Machine
end

