-- ==== Sys2Proof/Machine/Tap.lean ====
section
/-! DEFINITION. The tap of a client port: its receive ring, bobbin pools and staging store (R391 to R398), and the
frames offered to it. -/

namespace Sys2Proof.Machine

/-! ### Registers and per-port state -/

/-- A register of client port CPn (R406). -/
def macReg (n o : Nat) : Nat := 0x68000 + 256 * n + o
/-- A ring register of CPn (R407). -/
def tapReg (n o : Nat) : Nat := (0x6C + n / 12) * 0x1000 + 256 * (n % 12) + o
/-- A register of pool BPb (R407). -/
def poolReg (b o : Nat) : Nat := (0x6C + b / 4) * 0x1000 + 0xC00 + 256 * (b % 4) + o
/-- A client port's running state. -/
def Part.client (p : Part) (n : Nat) : ClientSt := SMap.get (fun _ => {}) p.clients n
/-- A client port's running state replaced. -/
def Part.setClient (p : Part) (n : Nat) (v : ClientSt) : Part :=
  { p with clients := SMap.set (fun _ => {}) p.clients n v }
/-- Bobbins of a pool on die (R391). -/
def Part.onDie (p : Part) (b : Nat) : List Dword := SMap.get (fun _ => []) p.bobbins b
/-- Bobbins of a pool on die replaced; ON_DIE follows. -/
def Part.setOnDie (p : Part) (b : Nat) (l : List Dword) : Part :=
  { p with bobbins := SMap.set (fun _ => []) p.bobbins b l }.setReg (poolReg b 0x14) (BitVec.ofNat 32 l.length)

/-- A frame of `len` bytes is sent toward the client (R384). -/
def Part.clientSent (p : Part) (n len : Nat) : Part :=
  (p.addReg64 (macReg n 0x80) 1).addReg64 (macReg n 0x88) len

/-- A CLIENT history bit (R406). -/
def Part.clientHist (p : Part) (n b : Nat) : Part := p.hist (macReg n 0xC) b 6

/-- A tap drop or an injection discard (R406). -/
def Part.dropHist (p : Part) (n : Nat) : Part := p.clientHist n 0

/-! ### Receive rings and bobbins (R391 to R398) -/

/-- Entries of a receive ring (R393). -/
def Part.rxSize (p : Part) (n : Nat) : Nat := 2 ^ p.field (tapReg n 8) 4 0
/-- The pool a port draws from (R391). -/
def Part.rxPool (p : Part) (n : Nat) : Nat := p.field (tapReg n 8) 11 8
/-- Bytes of a bobbin of a pool (R391). -/
def Part.bufBytes (p : Part) (b : Nat) : Nat := 2 ^ p.field (poolReg b 8) 19 16
/-- Bobbins claimed and not returned by a port. -/
def Part.claimed (p : Part) (n : Nat) : Nat :=
  (p.client n).frames.foldl (fun k f => k + f.claims.length) 0
/-- Bytes in a port's staging store (R394). -/
def Part.staged (p : Part) (n : Nat) : Nat :=
  (p.client n).frames.foldl (fun k f => k + (if f.dead then 0 else f.left)) 0
/-- Decisions of function 14 open for a port (R390). -/
def Part.tapOpen (p : Part) (n : Nat) : Nat := ((p.client n).frames.filter fun f => f.dec.isSome).length

/-- STAGE follows (R407). -/
def Part.syncStage (p : Part) (n : Nat) : Part :=
  p.setReg (tapReg n 0x1C) (BitVec.ofNat 32 (p.staged n % 2 ^ 15 + p.tapOpen n * 2 ^ 16))

/-- A frame's list with the first frame that satisfies a test changed. -/
def updFrame (test : TapFrame → Bool) (g : TapFrame → TapFrame) : List TapFrame → List TapFrame
  | [] => []
  | f :: l => if test f then g f :: l else f :: updFrame test g l

/-- A frame's claims and remaining bytes replaced. -/
def Part.setTapFrame (p : Part) (n : Nat) (q : Word) (g : TapFrame → TapFrame) : Part :=
  let c := p.client n
  p.setClient n { c with frames := updFrame (fun x => x.seq == q) g c.frames }

/-- Bytes of a frame that fit in its last bobbin are written into it (R394). -/
def Part.fillStep (p : Part) (n : Nat) (f : TapFrame) (cl : Claim) : Part :=
  let m := min f.left (p.bufBytes cl.pool - cl.bytes)
  let from_ := f.bytes.length - f.left
  let q := p.setTapFrame n f.seq fun (x : TapFrame) =>
    { x with left := x.left - m, claims := x.claims.dropLast ++ [{ cl with bytes := cl.bytes + m }] }
  q.hostWrite (cl.addr.toNat + cl.bytes) ((f.bytes.drop from_).take m)

/-- A bobbin and its slot are claimed, where the pool has one on die and the slot is free; a claim that
finds the pool empty is counted in EMPTY, once (R394, R407). `none`: nothing more can move. -/
def Part.claimStep (p : Part) (n : Nat) (f : TapFrame) : Part × Bool :=
  let c := p.client n
  let b := p.rxPool n
  let slot := p.reg (tapReg n 0xC) + BitVec.ofNat 32 (p.claimed n)
  if !p.bit (tapReg n 8) 31 || !p.host.linkUp then (p, false)
  else match p.onDie b with
  | [] => if c.empty then (p, false)
    else ((p.setClient n { c with empty := true }).addSat (poolReg b 0x18) 1, false)
  | a :: r =>
    if (slot - p.reg (tapReg n 0x10)).toNat < p.rxSize n then
      let cl : Claim := { addr := a, pool := b, slot := slot, bytes := 0 }
      let q := p.setTapFrame n f.seq fun (x : TapFrame) => { x with claims := x.claims ++ [cl] }
      ((q.setClient n { q.client n with empty := false }).setOnDie b r, true)
    else (p, false)

/-- Bytes move from the staging store into bobbins, oldest frame first, claiming bobbins in order (R394). -/
def Part.feed (p : Part) (n : Nat) : Nat → Part
  | 0 => p.syncStage n
  | k + 1 =>
    match (p.client n).frames.find? (fun f => !f.dead && decide (0 < f.left)) with
    | none => p.syncStage n
    | some f =>
      match f.claims.getLast? with
      | some cl =>
        if cl.bytes < p.bufBytes cl.pool then (p.fillStep n f cl).feed n k
        else match p.claimStep n f with
          | (q, true) => q.feed n k
          | (q, false) => q.syncStage n
      | none => match p.claimStep n f with
          | (q, true) => q.feed n k
          | (q, false) => q.syncStage n

/-- Steps of `feed` that suffice: a full store in the smallest bobbins, each claimed and filled. -/
def feedSteps : Nat := 512

/-! ### Descriptors (R395 to R398) -/

/-- A receive descriptor (R398): the time for FIRST, the length for LAST; `rec` marks RECYCLED, with LENGTH 0
(R397). -/
def rxDescriptor (f : TapFrame) (cl : Claim) (first last rec : Bool) : List Word :=
  let w0 := first.toNat * 2 ^ 30 + last.toNat * 2 ^ 29 + rec.toNat * 2 ^ 28
    + f.stale.toNat * 2 ^ 27 + f.copy.toNat * 2 ^ 26 + cl.pool * 2 ^ 20
    + (if rec then 0 else cl.bytes)
  let time := if first then timeWords f.stamp else [0#32, 0#32, 0#32]
  [BitVec.ofNat 32 w0, loWord cl.addr, hiWord cl.addr] ++ time ++
    [BitVec.ofNat 32 ((if last then f.bytes.length * 2 ^ 16 else 0) + f.step * 16 + f.rule), f.seq]

/-- A descriptor is written into its reserved slot (R393, R395). -/
def Part.rxWrite (p : Part) (n : Nat) (cl : Claim) (ws : List Word) : Part :=
  let i := cl.slot.toNat
  let size := p.rxSize n
  let a := (p.reg64 (tapReg n 0)).toNat + 32 * (i % size)
  p.hostWrite a (bytesOfWords (withPhase (i / size % 2 == 0) ws))

/-- The descriptors of a frame's claims, then RX_PROD, then vector 16 + n (R395, R397). -/
def Part.rxFinish (p : Part) (n : Nat) (f : TapFrame) (rec : Bool) : Part :=
  let l := f.claims.length
  if l = 0 then p
  else
    let q := (f.claims.zipIdx).foldl (fun (x : Part) (e : Claim × Nat) =>
      let w := x.rxWrite n e.1 (rxDescriptor f e.1 (e.2 == 0) (e.2 + 1 == l) rec)
      w.count (0x8000 + e.1.pool) (if rec then 5 else 4) 1) p
    let q := q.addWrap (tapReg n 0xC) l
    if q.bit (tapReg n 0x14) 31 then q.formVector (16 + n) (q.field (tapReg n 0x14) 9 0) else q

/-- Discarded frames at the head of the ring's order return their bobbins (R395, R397). -/
def Part.drainTap (p : Part) (n : Nat) : Nat → Part
  | 0 => p
  | k + 1 =>
    let c := p.client n
    match c.frames with
    | f :: r => if f.dead then ((p.rxFinish n f true).setClient n { c with frames := r }).drainTap n k else p
    | [] => p

/-- Every discarded frame at the head, then what waits for slots and bobbins. -/
def Part.settleTap (p : Part) (n : Nat) : Part :=
  let q := p.feed n feedSteps
  (q.drainTap n ((q.client n).frames.length + 1)).feed n feedSteps

/-- A frame offered to the tap will not be delivered: it is counted at MAC offset `o` and in the tap ledger,
and its bobbins wait for their slots (R389, R390, R394, R396, R397). -/
def Part.tapDiscard (p : Part) (n : Nat) (q : Word) (o code : Nat) : Part :=
  let r := p.setTapFrame n q fun (x : TapFrame) => { x with dead := true, dec := none, left := 0 }
  (((r.addSat (macReg n o) 1).count (0x7000 + n) code 1).dropHist n).settleTap n

/-- A frame that overflows the staging store is discarded whole (R394). -/
def Part.tapOverflow (p : Part) (n : Nat) (q : Word) : Part :=
  if 16384 < p.staged n then p.tapDiscard n q 0xAC 6 else p

/-- The frame under way is cut off as its port loses alignment: its tap copy does not end as a good frame, and its fate is
gone (R389). -/
def Part.tapCut (p : Part) (n : Nat) : Part :=
  let c := p.client n
  let q := if c.fate.isNone then p else p.setClient n { c with fate := none }
  match (q.client n).frames.find? (fun x => !x.ended && !x.dead) with
  | some t => (q.setTapFrame n t.seq fun (x : TapFrame) => { x with ended := true }).tapDiscard n t.seq 0xB0 2
  | none => q

end Sys2Proof.Machine
end

