-- ==== Sys2Proof/Machine/Line.lean ====
section
/-! DEFINITION. Line lanes, FlexO and frame alignment (R187 to R220). -/

namespace Sys2Proof.Machine

/-! ### Lanes -/

/-- A register of lane `l`: 0 to 47 line, 48 to 95 client (R220, R405). -/
def laneReg (l o : Nat) : Nat := (0x40 + l / 8) * 0x1000 + l % 8 * 512 + o
/-- A register of line port `q` (R219). -/
def lineReg (q o : Nat) : Nat := (0x20 + q) * 0x1000 + o

/-- A lane's running counts. -/
def Part.lane (p : Part) (l : Nat) : LaneSt := SMap.get (fun _ => {}) p.lanes l
/-- A lane's running counts replaced. -/
def Part.setLane (p : Part) (l : Nat) (v : LaneSt) : Part :=
  { p with lanes := SMap.set (fun _ => {}) p.lanes l v }
/-- A port's running counts. -/
def Part.port (p : Part) (q : Nat) : PortSt := SMap.get (fun _ => {}) p.ports q
/-- A port's running counts replaced. -/
def Part.setPort (p : Part) (q : Nat) (v : PortSt) : Part :=
  { p with ports := SMap.set (fun _ => {}) p.ports q v }

/-- The mode whose column of R50 applies: RENEW runs as its source mode, and a drain that has ended drives
no transmitter (R67). -/
def Part.runMode (p : Part) : Mode :=
  if p.md.cur = .renew then p.md.source
  else if p.md.cur = .drain ∧ p.md.trans.isSome = true then .listen
  else p.md.cur

/-- Does a lane run its receiver (R50, R65, R188)? Client receivers stop in DOZE, and PROVE tests those of the lanes
an EXTPATTERN scope names. -/
def Part.laneOn (p : Part) (l : Nat) : Bool :=
  p.selvState (l % 48 / 2) == 0 &&
    (match p.runMode with
     | .listen | .carry | .trim | .drain => p.bit (laneReg l 0) 31
     | .doze => p.bit (laneReg l 0) 31 && decide (l < 48)
     | .prove => p.back.extLanes.getLsbD l
     | _ => false)

/-- A step bit of STATUS set. -/
def Part.setLaneStep (p : Part) (l b : Nat) : Part := p.setBit (laneReg l 0x10) b true

/-- STATUS bits `k` to 4 cleared; each 1 to 0 change sets its STATUS_HIST bit (R189, R220). -/
def Part.dropSteps (p : Part) (l : Nat) : Nat → Nat → Part
  | _, 0 => p
  | k, n + 1 =>
    let q := if p.bit (laneReg l 0x10) k then
        (p.setBit (laneReg l 0x10) k false).raise (laneReg l 0x14) k
      else p
    Part.dropSteps q l (k + 1) n

/-- A lane falls back to step `k` (R189): 0 signal, 1 CDR, 2 adaptation, 3 AM lock, 4 OMFI lock. -/
def Part.fallLane (p : Part) (l k : Nat) : Part :=
  let q := p.dropSteps l k (5 - k)
  let q := if k ≤ 1 then q.setReg64 (laneReg l 0x60) 0#64 else q
  let c := q.lane l
  q.setLane l (if k ≤ 3 then { c with amRun := 0, amMiss := 0, omfiRun := 0, omfiMiss := 0 }
    else { c with omfiRun := 0, omfiMiss := 0 })

/-! ### Ports -/

/-- Members of a port in force: N and FIRST_LANE (R196). -/
def Part.portN (p : Part) (q : Nat) : Nat := p.field (lineReg q 0) 27 24
/-- FIRST_LANE of a port (R219). -/
def Part.portFirst (p : Part) (q : Nat) : Nat := p.field (lineReg q 0) 21 16
/-- The member lanes of a port. -/
def Part.portLanes (p : Part) (q : Nat) : List Nat :=
  (List.range (p.portN q)).map fun j => p.portFirst q + j
/-- The slices a line port spans (R29). -/
def Part.portSlices (p : Part) (q : Nat) : List Nat := (p.portLanes q).map (· / 2)
/-- ENABLE of a port (R219). -/
def Part.portOn (p : Part) (q : Nat) : Bool := p.bit (lineReg q 0) 31
/-- ALIGN.STATE of a port: 0 LANE_WAIT, 1 OOF, 2 IF (R211). -/
def Part.portState (p : Part) (q : Nat) : Nat := p.field (lineReg q 0x10) 1 0
/-- DEFECT bit of a port. -/
def Part.lineDefect (p : Part) (q b : Nat) : Bool := p.bit (lineReg q 0x20) b

/-- The enabled port a line lane is a member of (R196). -/
def Part.portOf (p : Part) (l : Nat) : Option Nat :=
  (List.range 24).find? fun q => p.portOn q && (p.portLanes q).contains l

/-- RX_PID of a lane (R220). -/
def Part.rxPid (p : Part) (l : Nat) : Nat := p.field (laneReg l 0x10) 15 8

/-- The key by which the members of a port are ordered: the received PID, after all of them where none has come
(R193). -/
def Part.pidKey (p : Part) (l : Nat) : Nat := if (p.lane l).ohSeen then p.rxPid l else 256

/-- The OTUC slice of a member, from 0: its rank by received PID (R193). -/
def Part.sliceRank (p : Part) (q l : Nat) : Nat :=
  ((p.portLanes q).filter fun m =>
    decide (p.pidKey m < p.pidKey l) || (p.pidKey m == p.pidKey l && decide (m < l))).length

/-- The reference lane of a port: the lowest received PID (R193). -/
def Part.refLane (p : Part) (q : Nat) : Nat :=
  ((p.portLanes q).find? fun l => p.sliceRank q l == 0).getD (p.portFirst q)

/-- A DEFECT bit takes a value; a 0 to 1 change sets DEFECT_HIST, which raises vector 6 where DEFECT_EN
lets it (R219). -/
def Part.setDefect (p : Part) (q b : Nat) (v : Bool) : Part :=
  if p.lineDefect q b = v then p
  else
    let r := p.setBit (lineReg q 0x20) b v
    if v then r.setEvent (lineReg q 0x24) b 6 (r.bit (lineReg q 0x28) b) else r

/-- The candidate slots in a state (R209, R219). -/
def Part.candsIn (p : Part) (q st : Nat) : List Nat :=
  (List.range 16).filter fun k => p.field (lineReg q (0x100 + 4 * k)) 31 30 == st

/-- ALIGN recomputed from the candidate table, the defects and the open decision (R219). -/
def Part.syncAlign (p : Part) (q st : Nat) (oom : Bool) : Part :=
  p.setReg (lineReg q 0x10) (BitVec.ofNat 32 (st + (p.lineDefect q 3).toNat * 4 + oom.toNat * 8
    + (p.openFor 0 q).isSome.toNat * 16 + (p.candsIn q 2).length * 256
    + ((p.candsIn q 1).length + (p.candsIn q 2).length) * 65536))

/-- The candidate table cleared (R211). -/
def Part.clearCands (p : Part) (q : Nat) : Part := p.clearRegs (lineReg q 0x100) (lineReg q 0x140)

/-- The port enters LANE_WAIT: the table is cleared, hunters stop, an open decision is superseded by 31
with no alternatives (R211, R214). -/
def Part.toLaneWait (p : Part) (q : Nat) : Part :=
  let r := (p.clearCands q).setDefect q 3 false
  let r := if (r.openFor 0 q).isSome then r.offer 0 q 31 0#32 fun _ x => x else r
  (r.setPort q { r.port q with ifMiss := 0, mfasGood := 0, mfasBad := 0 }).syncAlign q 0 true

/-- The port enters OOF on an empty table (R211). -/
def Part.toOof (p : Part) (q : Nat) : Part :=
  let r := (p.clearCands q).setDefect q 3 false
  (r.setPort q { r.port q with ifMiss := 0, mfasGood := 0, mfasBad := 0,
                               conf := r.bit (lineReg q 0) 11 }).syncAlign q 1 true

/-- The port enters IF on a candidate's offset (R211). -/
def Part.toIf (p : Part) (q k : Nat) : Part :=
  let w := p.reg (lineReg q (0x100 + 4 * k))
  let r := ((p.setReg (lineReg q 0x14) (BitVec.ofNat 32 (fieldOf w 16 0))).clearCands q).setDefect q 3 false
  (r.setPort q { r.port q with ifMiss := 0, mfasGood := 0, mfasBad := 0,
                               mfas := BitVec.ofNat 8 (fieldOf w 29 22) }).syncAlign q 2 true

/-- Steering function 0 decided: a SURVIVING slot takes the port into IF, 31 leaves it in OOF (R214). -/
def applyAlign (q v : Nat) (p : Part) : Part :=
  let r := if p.portState q = 1 ∧ p.field (lineReg q (0x100 + 4 * v)) 31 30 = 2 ∧ v < 16 then p.toIf q v
    else p
  r.syncAlign q (r.portState q) (r.bit (lineReg q 0x10) 3)

/-- SKEW of the places of a port without a member reads 0 (R219). -/
def Part.clearSkews (p : Part) (q : Nat) : Part :=
  (List.range 8).foldl (fun r j =>
    if r.portOn q && decide (j < r.portN q) then r else r.setReg (lineReg q (0x60 + 4 * j)) 0#32) p

/-- MEMBER[j] of a port (R219). -/
def Part.memberWord (p : Part) (q j : Nat) : Word :=
  let l := p.portFirst q + j
  if j < p.portN q then BitVec.ofNat 32 (l % 64 + p.rxPid l * 256 + p.sliceRank q l * 65536 + 2 ^ 31) else 0#32

/-- The PID a line lane transmits; 0 if the lane is in no port (R195, R220). -/
def Part.txPid (p : Part) (l : Nat) : Nat :=
  match p.portOf l with
  | some q => p.field (lineReg q 0xC) 7 0 + (l - p.portFirst q)
  | none => 0

/-- 12.8 ns, the store's least hold (R204), in 2^-16 ns. -/
def leastHold : Nat := 838861
/-- 300 ns (R205). -/
def skewLimit : Nat := 19660800
/-- 2 ns (R206). -/
def driftLimit : Nat := 131072

/-- RX_LAT and TX_LAT of a line lane (R216): the segment's delay and the hold. -/
def Part.syncLaneLat (p : Part) (l : Nat) : Part :=
  let k := if l < 48 then l else 48 + l
  (p.setReg64 (laneReg l 0x50) (p.segDelay k + BitVec.ofNat 64 (p.lane l).hold)).setReg64
    (laneReg l 0x58) (p.segDelay (48 + k))

/-- RX_LAT and TX_LAT of a port: those of its reference lane (R216). -/
def Part.syncPortLat (p : Part) (q : Nat) : Part :=
  let l := p.refLane q
  (p.setReg64 (lineReg q 0x40) (p.reg64 (laneReg l 0x50))).setReg64 (lineReg q 0x48)
    (p.reg64 (laneReg l 0x58))

/-- RX_LAT and TX_LAT of a client port: those of its first lane (R387). -/
def Part.syncClientLat (p : Part) (n : Nat) : Part :=
  (p.setReg64 (macReg n 0x50) (p.reg64 (laneReg (48 + n) 0x50))).setReg64 (macReg n 0x58)
    (p.reg64 (laneReg (48 + n) 0x58))

/-- The port is formed (R406). -/
def Part.clientOn (p : Part) (n : Nat) : Bool := p.bit (macReg n 0) 31

/-- The latency registers of every enabled lane and port show their segments (R216, R387). -/
def Part.syncLats (p : Part) : Part :=
  let r := (List.range 96).foldl (fun (x : Part) l => if x.bit (laneReg l 0) 31 then x.syncLaneLat l else x) p
  let r := (List.range 24).foldl (fun (x : Part) q => if x.portOn q then x.syncPortLat q else x) r
  (List.range 48).foldl (fun (x : Part) n => if x.clientOn n then x.syncClientLat n else x) r

/-- A latency change of a port: LAT_SEQ, LAT_CHANGE and the event with the old and new RX_LAT (R218). -/
def Part.lineLatChange (p : Part) (q : Nat) (old : Dword) : Part :=
  let r := p.addSat (lineReg q 0x50) 1
  (r.emit (.words "LATENCY_CHANGE" q [loWord old, hiWord old, r.reg (lineReg q 0x40),
    r.reg (lineReg q 0x44)])).setEvent (lineReg q 0x24) 7 6 (r.bit (lineReg q 0x28) 7)

/-- The deskew of a port on its members' last arrivals (R204), with its latency change (R218). DESIGN CHOICE (log 106):
the first deskew of a newly formed port is a change as well. -/
def Part.deskew (p : Part) (q : Nat) : Part :=
  let ls := p.portLanes q
  let latest := ls.foldl (fun a l => max a (p.lane l).arrival) 0
  let old := p.reg64 (lineReg q 0x40)
  let same := (p.port q).measured && ls.all fun l =>
    (p.lane l).hold == latest - (p.lane l).arrival + leastHold
  let r := ls.foldl (fun (r : Part) l =>
    let c := r.lane l
    let r := (r.setLane l { c with measured := c.arrival,
                                   hold := latest - c.arrival + leastHold }).syncLaneLat l
    r.setReg (lineReg q (0x60 + 4 * (l - r.portFirst q))) (BitVec.ofNat 32 (latest - c.arrival))) p
  let r := (r.setPort q { r.port q with measured := true }).syncPortLat q
  if same then r else r.lineLatChange q old

/-- The skew of a port's members on their last arrivals (R205). -/
def Part.portSkew (p : Part) (q : Nat) : Nat :=
  let ls := p.portLanes q
  let latest := ls.foldl (fun a l => max a (p.lane l).arrival) 0
  ls.foldl (fun a l => max a (latest - (p.lane l).arrival)) 0

/-- Is every member AM- and OMFI-locked (R204, R207)? -/
def Part.portLocked (p : Part) (q : Nat) : Bool :=
  (p.portLanes q).all fun l => p.bit (laneReg l 0x10) 3 && p.bit (laneReg l 0x10) 4

/-- Do the hunters run (R215)? -/
def Part.huntMode (p : Part) : Bool :=
  match p.runMode with
  | .listen | .carry | .trim | .doze | .drain => true
  | _ => false

/-- A port is evaluated: skew in LANE_WAIT, dLOL, and the moves to and from LANE_WAIT (R205, R207,
R211). -/
def Part.evalPort (p : Part) (q : Nat) : Part :=
  if !p.portOn q then p
  else
    let locked := p.portLocked q
    let r := if p.portState q = 0 ∧ locked = true then
        p.setDefect q 6 (decide (skewLimit < p.portSkew q)) else p
    let lol := !locked || r.lineDefect q 6 || r.lineDefect q 5 || r.lineDefect q 4
    let r := r.setDefect q 0 lol
    if lol then (if r.portState q = 0 then r else r.toLaneWait q)
    else if r.portState q = 0 ∧ r.huntMode = true then (r.deskew q).toOof q
    else r

/-- Every enabled port is evaluated as its lanes may start to run, or no longer run (R207, R215). -/
def Part.evalPorts (p : Part) : Part :=
  if p.mode.slicesOn then (List.range 24).foldl (fun (x : Part) q => x.evalPort q) p else p

/-! ### Client ports (R379 to R382, R406) -/

/-- Lanes of a client port (R379). -/
def Part.clientW (p : Part) (n : Nat) : Nat := 2 ^ p.field (macReg n 0) 30 29
/-- The member lanes of a client port, as lanes 48 to 95 (R380). -/
def Part.clientLanes (p : Part) (n : Nat) : List Nat := (List.range (p.clientW n)).map fun j => 48 + n + j
/-- The enabled client port that holds client lane `i` (R380). -/
def Part.clientOf (p : Part) (i : Nat) : Option Nat :=
  (List.range 48).find? fun n => p.clientOn n && decide (n ≤ i) && decide (i < n + p.clientW n)
/-- Is a lane's transmitter driven (R50, R65, R67, R188)? In PROVE it is while an EXTPATTERN scope names the lane
(R68); without an enabled port it is inert in every mode. -/
def Part.laneTx (p : Part) (l : Nat) : Bool :=
  let line := decide (l < 48) && p.bit (laneReg l 0) 31 && (p.portOf l).isSome
  let client := decide (48 ≤ l) && p.bit (laneReg l 0) 31 && (p.clientOf (l - 48)).isSome
  p.selvState (l % 48 / 2) == 0 &&
    (match p.runMode with
     | .carry | .trim | .drain => line || client
     | .doze => line
     | .prove => (line || client) && p.back.extLanes.getLsbD l
     | _ => false)

/-- Every lane's transmitter is driven or electrically idle as the mode, the set in force and the islands say (R50,
R51, R188). -/
def Part.syncTx (p : Part) : Part :=
  (List.range 96).foldl (fun (x : Part) l =>
    if (x.lane l).tx == x.laneTx l then x
    else (x.setLane l { x.lane l with tx := x.laneTx l }).emit
      (.event "LANE_TX" l (BitVec.ofNat 64 (x.laneTx l).toNat))) p
/-- ALIGNED (R406). -/
def Part.clientAligned (p : Part) (n : Nat) : Bool := p.bit (macReg n 8) 1
/-- A fault bit of CLIENT.STATUS sets, 2 RX_LF or 3 RX_RF, with its history bit (R406). -/
def Part.clientFault (p : Part) (n b : Nat) : Part :=
  if p.bit (macReg n 8) b then p else (p.setBit (macReg n 8) b true).clientHist n b

/-- A client port's alignment ends over the lanes it had (R381, R389, R406): ALIGN_LOCK clears on every one, and a frame
under way is cut off. -/
def Part.clientUnalign (p : Part) (n : Nat) (lanes : List Nat) : Part :=
  let q := lanes.foldl (fun (x : Part) l => x.fallLane l 4) p
  let q := if q.clientAligned n then (q.setBit (macReg n 8) 1 false).clientHist n 1 else q
  q.tapCut n

/-- A client port loses alignment (R381, R382, R406). -/
def Part.clientLose (p : Part) (n : Nat) : Part := (p.clientUnalign n (p.clientLanes n)).clientFault n 2

/-- The port of a lane, if any, is evaluated. -/
def Part.evalLane (p : Part) (l : Nat) : Part :=
  if l < 48 then
    match p.portOf l with
    | some q => p.evalPort q
    | none => p
  else match p.clientOf (l - 48) with
    | some n => if p.clientAligned n && !p.bit (laneReg l 0x10) 3 then p.clientLose n else p
    | none => p

/-! ### Lane events (R189, R190) -/

/-- LANE_SIGNAL_DETECT (R189). -/
def laneSignalDetect (l : Fin 96) (p : Part) : Part :=
  if p.laneOn l then p.setLaneStep l 0 else p

/-- LANE_SIGNAL_LOSS (R189): the lane falls back to signal detect. -/
def laneSignalLoss (l : Fin 96) (p : Part) : Part :=
  if p.laneOn l && p.bit (laneReg l 0x10) 0 then (p.fallLane l 0).evalLane l else p

/-- 20 ppm for line lanes (R187) and 100 ppm for client lanes (R381), in 2^-48 (R20). -/
def cdrLimit (l : Nat) : Int := if l < 48 then 5629499534 else 28147497671

/-- LANE_CDR_LOCK (R187, R189): within the limit, the offset is recovered; beyond it the lane has no lock, and falls
back to that step. -/
def laneCdrLock (l : Fin 96) (offset : Dword) (p : Part) : Part :=
  if !p.laneOn l || !p.bit (laneReg l 0x10) 0 then p
  else if |offset.toInt| ≤ cdrLimit l then (p.setLaneStep l 1).setReg64 (laneReg l 0x60) offset
  else if p.bit (laneReg l 0x10) 1 then (p.fallLane l 1).evalLane l
  else p

/-- LANE_ADAPT_DONE (R189). -/
def laneAdaptDone (l : Fin 96) (p : Part) : Part :=
  if p.laneOn l && p.bit (laneReg l 0x10) 1 then p.setLaneStep l 2 else p

/-- A write of LANE[i].CTRL (R190): ADAPT_RESTART in LISTEN, CARRY, TRIM and DOZE, else an access fault. -/
def adaptRestartEffect (l : Nat) (req : Req) (addr : BitVec 28) (w : Word) (p : Part) : Part :=
  if !bitAt w 0 then p
  else match p.md.cur with
    | .listen | .carry | .trim | .doze => (p.fallLane l 2).evalLane l
    | _ => p.accessFault 5 req addr

/-- The receivers of lanes stop (R50): every lane falls back to signal detect. -/
def Part.stopReceivers (p : Part) (lanes : List Nat) : Part :=
  lanes.foldl (fun r l => if r.bit (laneReg l 0x10) 0 then (r.fallLane l 0).evalLane l else r) p

/-! ### FEC (R198 to R202) -/

/-- The lane on which a lane's codewords count: those of a client port of more than one lane count on its first
(R405). -/
def Part.fecLane (p : Part) (l : Nat) : Nat :=
  if l < 48 then l
  else match p.clientOf (l - 48) with
    | some n => 48 + n
    | none => l

/-- FEC_CODEWORD (R199, R201, R405). -/
def fecCodeword (l : Fin 96) (c : CodewordResult) (p : Part) : Part :=
  if !p.laneOn l then p
  else
    let k := p.fecLane l
    let q := p.addReg64 (laneReg k 0x20) 1
    match c with
    | .clean => q
    | .corrected sy bi =>
      ((q.addReg64 (laneReg k 0x28) 1).addReg64 (laneReg k 0x38) sy).addReg64 (laneReg k 0x40) bi
    | .uncorrectable => q.addReg64 (laneReg k 0x30) 1

/-- FEC_DEG_SECOND (R202): a second of the time scale ends, which runs with the datapath. -/
def fecDegSecond (l : Fin 96) (p : Part) : Part :=
  if !p.clocked then p
  else
  let now := p.reg64 (laneReg l 0x38)
  let thr := (p.reg (laneReg l 0x48)).toNat
  let c := p.lane l
  let rise := (now - c.lastSym).toNat
  if thr = 0 then
    (p.setLane l { c with lastSym := now, degClear := 0 }).setBit (laneReg l 0x10) 5 false
  else if thr < rise then
    let q := p.setLane l { c with lastSym := now, degClear := 0 }
    if q.bit (laneReg l 0x10) 5 then q
    else (q.setBit (laneReg l 0x10) 5 true).raise (laneReg l 0x14) 5
  else
    let q := p.setLane l { c with lastSym := now, degClear := c.degClear + 1 }
    if 3 ≤ c.degClear + 1 then q.setBit (laneReg l 0x10) 5 false else q

/-! ### FlexO frames and multiframes (R191 to R194, R203 to R207) -/

/-- AM lock on one frame (R203, R206): two frames with the marker lock, five without it, or a drift past
2 ns in service, lose it. -/
def Part.amStep (p : Part) (l : Nat) (f : FlexoFrame) : Part :=
  let c := p.lane l
  let inService := match p.portOf l with | some q => p.portState q != 0 | none => false
  let drift := if c.measured < f.arrival then f.arrival - c.measured else c.measured - f.arrival
  if f.marker then
    if p.bit (laneReg l 0x10) 3 && inService && decide (driftLimit < drift) then p.fallLane l 3
    else
      let q := p.setLane l { c with amRun := c.amRun + 1, amMiss := 0, arrival := f.arrival }
      if 2 ≤ c.amRun + 1 then q.setLaneStep l 3 else q
  else if 5 ≤ c.amMiss + 1 then p.fallLane l 3
  else p.setLane l { c with amRun := 0, amMiss := c.amMiss + 1 }

/-- OMFI lock on one frame of an AM-locked lane (R203). -/
def Part.omfiStep (p : Part) (l : Nat) (f : FlexoFrame) : Part :=
  if !p.bit (laneReg l 0x10) 3 then p
  else
    let c := p.lane l
    if f.omfiRun then
      let q := p.setLane l { c with omfiRun := c.omfiRun + 1, omfiMiss := 0 }
      if 2 ≤ c.omfiRun + 1 then q.setLaneStep l 4 else q
    else if 5 ≤ c.omfiMiss + 1 then p.fallLane l 4
    else p.setLane l { c with omfiRun := 0, omfiMiss := c.omfiMiss + 1 }

/-- The FlexO overhead of one frame: a failed CRC-16 is counted and its content ignored (R192, R219). A received PID that
makes another lane the reference gives the port that lane's latencies (R193, R216). -/
def Part.ohStep (p : Part) (l : Nat) (f : FlexoFrame) : Part :=
  if !p.bit (laneReg l 0x10) 3 then p
  else if !f.crcOk then
    match p.portOf l with
    | some q => p.addSat (lineReg q 0x3C) 1
    | none => p
  else
    let c := p.lane l
    let q := (p.setLane l { c with gid := f.gid, map_ := f.map, ohGood := true, ohSeen := true }).setField
      (laneReg l 0x10) 15 8 f.pid.toNat
    match q.portOf l with
    | some n =>
      let q := if q.refLane n = p.refLane n then q else q.syncPortLat n
      if q.refLane n = l then q.setReg (lineReg n 0x18) (f.gid.setWidth 32) else q
    | none => q

/-- FLEXO_FRAME_RX (R203 to R207). -/
def flexoFrameRx (l : Fin 48) (f : FlexoFrame) (p : Part) : Part :=
  if p.laneOn l && p.bit (laneReg l 0x10) 2 then
    (((p.amStep l f).omfiStep l f).ohStep l f).evalLane l
  else p

/-- Does the PID of a lane occur twice in a list? -/
def hasDup : List Nat → Bool
  | [] => false
  | a :: r => r.contains a || hasDup r

/-- A run of multiframes one longer, ended, or as it was. -/
def runStep (n : Nat) (grow stop : Bool) : Nat := if grow then n + 1 else if stop then 0 else n

/-- FLEXO_MULTIFRAME_RX (R192, R194): dGIDM and dPIDM over three consecutive multiframes. Each member that brought
good overhead in the multiframe is compared. DESIGN CHOICE (log 88): a multiframe without a mismatch in which some
member brought none counts neither way. -/
def flexoMultiframeRx (q : Fin 24) (p : Part) : Part :=
  if !p.portOn q || !p.clocked || !p.runMode.receives then p
  else
    let ls := (p.portLanes q).filter fun l => (p.lane l).ohGood
    let all := ls.length == p.portN q
    let c := p.port q
    let gidMis := ls.any fun l => (p.lane l).gid.toNat != p.field (lineReg q 4) 19 0
    let pidMis := hasDup (ls.map p.rxPid) || ls.any fun l =>
      !((p.lane (p.refLane q)).map_.contains (BitVec.ofNat 8 (p.rxPid l)))
    let c' : PortSt :=
      { c with gidBad := runStep c.gidBad gidMis (all && !gidMis)
               gidGood := runStep c.gidGood (all && !gidMis) gidMis
               pidBad := runStep c.pidBad pidMis (all && !pidMis)
               pidGood := runStep c.pidGood (all && !pidMis) pidMis }
    let r := (p.portLanes q).foldl (fun (x : Part) l => x.setLane l { x.lane l with ohGood := false }) (p.setPort q c')
    let r := if !r.bit (lineReg q 0) 9 then r.setDefect q 4 false
      else if 3 ≤ c'.gidBad then r.setDefect q 4 true
      else if 3 ≤ c'.gidGood then r.setDefect q 4 false else r
    let r := if 3 ≤ c'.pidBad then r.setDefect q 5 true
      else if 3 ≤ c'.pidGood then r.setDefect q 5 false else r
    r.evalPort q

/-! ### Frame alignment (R208 to R215) -/

/-- Is the FAS found in `n` slices: in each the hunt subset, columns 2 to 5 in OOF and 3 to 5 in IF (R208)? -/
def fasFound (n : Nat) (oof : Bool) (cols : List Word) : Bool :=
  cols.length == n && cols.all fun w =>
    if oof then w == 0xF6F62828#32 else w &&& 0xFFFFFF#32 == 0xF62828#32

/-- The FAS finds of a frame period in OOF, each with its MFAS (R208, R209). -/
def findsOf (n : Nat) (l : List HuntSite) : List (Nat × Byte) :=
  (l.filter fun x => decide (x.off < 122368) && fasFound n true x.cols).map fun x => (x.off, x.mfas)

/-- A candidate word (R219). -/
def candWord (st : Nat) (mfas : Byte) (miss off : Nat) : Word :=
  BitVec.ofNat 32 (off % 2 ^ 17 + miss % 8 * 2 ^ 19 + mfas.toNat * 2 ^ 22 + st * 2 ^ 30)

/-- One candidate's move in a frame period (R210); `none` frees the slot. -/
def candStep (conf : Bool) (w : Word) (find : Option Byte) : Word :=
  let st := fieldOf w 31 30
  let old := fieldOf w 29 22
  let off := fieldOf w 16 0
  let miss := fieldOf w 21 19
  if st = 0 then w
  else match find with
    | some m =>
      if st = 2 then candWord 2 m 0 off
      else if !conf || m.toNat == (old + 1) % 256 then candWord 2 m 0 off
      else candWord 1 m 0 off
    | none =>
      if st = 1 then 0#32
      else if miss < 4 then candWord 2 (BitVec.ofNat 8 old) (miss + 1) off
      else 0#32

/-- Every candidate of a port moves once (R210). -/
def Part.stepCands (p : Part) (q : Nat) (finds : List (Nat × Byte)) : Part :=
  (List.range 16).foldl (fun r k =>
    let o := lineReg q (0x100 + 4 * k)
    let w := r.reg o
    r.setReg o (candStep (r.port q).conf w
      ((finds.find? fun f => f.1 == fieldOf w 16 0).map (·.2)))) p

/-- Is an offset in the table? -/
def Part.tracked (p : Part) (q off : Nat) : Bool :=
  (List.range 16).any fun k =>
    let w := p.reg (lineReg q (0x100 + 4 * k))
    fieldOf w 31 30 != 0 && fieldOf w 16 0 == off

/-- New finds open candidates in the lowest free slots, or raise CAND_OVERFLOW (R209). -/
def Part.openCands (p : Part) (q : Nat) (finds : List (Nat × Byte)) : Part :=
  finds.foldl (fun r f =>
    match (List.range 16).find? fun k => r.field (lineReg q (0x100 + 4 * k)) 31 30 == 0 with
    | some k => r.setReg (lineReg q (0x100 + 4 * k)) (candWord 1 f.2 0 f.1)
    | none => r.addSat (lineReg q 0x38) 1) p

/-- The port in OOF is evaluated once its candidates have moved (R211, R214). DESIGN CHOICE (log 106): with no candidate
SURVIVING an open decision is coded with CANDIDATE 31 and an empty ALT_MASK, for which R214's table has no row. -/
def Part.evalOof (p : Part) (q : Nat) : Part :=
  match p.candsIn q 2 with
  | [] =>
    let r := (p.setDefect q 3 false).syncAlign q 1 true
    if (r.openFor 0 q).isSome then
      let r := r.offer 0 q 31 0#32 (applyAlign q)
      r.syncAlign q (r.portState q) true
    else r
  | [k] => (((p.setDefect q 3 false).syncAlign q 1 true).offer 0 q k 0x80000000#32 (applyAlign q))
      |> fun r => if r.portState q = 1 then r.syncAlign q 1 true else r
  | ks =>
    let r := if p.lineDefect q 3 then p else (p.setDefect q 3 true).addSat (lineReg q 0x34) 1
    let alts := ks.foldl (fun (a : Word) k => a ||| (1#32 <<< k)) 0#32
    let r := r.offer 0 q 31 alts (applyAlign q)
    if r.portState q = 1 then r.syncAlign q 1 true else r

/-- The hunters of a port in OOF on one frame period (R209 to R211). -/
def Part.oofFrame (p : Part) (q : Nat) (finds : List (Nat × Byte)) : Part :=
  let new := finds.filter fun f => !p.tracked q f.1
  ((p.stepCands q finds).openCands q new).evalOof q

/-- The MFAS check of a port in IF (R213). -/
def Part.mfasStep (p : Part) (q : Nat) (mfas : Byte) : Part :=
  let c := p.port q
  let follows := mfas == c.mfas + 1#8
  let c' : PortSt := { c with mfas := mfas
                              mfasGood := if follows then c.mfasGood + 1 else 0
                              mfasBad := if follows then 0 else c.mfasBad + 1 }
  let oom := p.bit (lineReg q 0x10) 3
  let oom' := if oom then !decide (2 ≤ c'.mfasGood) else decide (5 ≤ c'.mfasBad)
  (p.setPort q c').syncAlign q 2 oom'

/-- A port in IF on one frame period: five frames without the FAS end it (R211, R213). -/
def Part.ifFrame (p : Part) (q : Nat) (fas : Bool) (mfas : Byte) : Part :=
  let c := p.port q
  if fas then (p.setPort q { c with ifMiss := 0 }).mfasStep q mfas
  else if 5 ≤ c.ifMiss + 1 then (p.addSat (lineReg q 0x30) 1).toOof q
  else (p.setPort q { c with ifMiss := c.ifMiss + 1 }).mfasStep q mfas

/-- The framer's part of OTUCN_FRAME_PERIOD (R211, R215). -/
def Part.frameAlign (p : Part) (q : Nat) (f : OtucFrame) : Part :=
  if !p.portOn q || !p.huntMode then p
  else if p.portState q = 1 then p.oofFrame q (findsOf (p.portN q) f.sites)
  else if p.portState q = 2 then p.ifFrame q (fasFound (p.portN q) false f.cols) f.mfas
  else p

/-- DLOF_SET (R212): 3 ms outside IF. -/
def dlofSet (q : Fin 24) (p : Part) : Part :=
  if p.portOn q && p.clocked && p.portState q != 2 then p.setDefect q 1 true else p
/-- DLOF_CLEAR (R212): 3 ms in IF. -/
def dlofClear (q : Fin 24) (p : Part) : Part :=
  if p.clocked && p.portState q == 2 then p.setDefect q 1 false else p
/-- DLOM_SET (R213): 3 ms in OOM. -/
def dlomSet (q : Fin 24) (p : Part) : Part :=
  if p.portOn q && p.clocked && p.bit (lineReg q 0x10) 3 then p.setDefect q 2 true else p
/-- DLOM_CLEAR (R213): 3 ms in IM. -/
def dlomClear (q : Fin 24) (p : Part) : Part :=
  if p.clocked && p.portState q == 2 && !p.bit (lineReg q 0x10) 3 then p.setDefect q 2 false else p

/-! ### Stitches (R195 to R197, R220) -/

/-- A signed tap of six bits, as its magnitude. -/
def tapAbs (n : Nat) : Nat := if n < 32 then n else 64 - n

/-- The rules of R196 and R220 on a resulting set. -/
def validateLine (a : Nat → Word) : List StitchFault :=
  let on := fun q => bitAt (a (lineReg q 0)) 31
  let n := fun q => fieldOf (a (lineReg q 0)) 27 24
  let first := fun q => fieldOf (a (lineReg q 0)) 21 16
  ((List.range 24).flatMap fun q =>
    failIf (on q && (n q == 0 || decide (8 < n q) ||
        decide (first q / 8 ≠ (first q + n q - 1) / 8) || decide (48 < first q + n q) ||
        (List.range (n q)).any (fun j => !bitAt (a (laneReg (first q + j) 0)) 31) ||
        decide (255 < fieldOf (a (lineReg q 0xC)) 7 0 + n q - 1) ||
        (List.range 24).any (fun r => decide (q < r) && on r && decide (first q < first r + n r) &&
          decide (first r < first q + n q))))
      (paramFail (lineReg q 0))) ++
  ((List.range 96).flatMap fun l =>
    let w := a (laneReg l 4)
    failIf (decide (63 < tapAbs (fieldOf w 29 24) + tapAbs (fieldOf w 21 16) + fieldOf w 13 8
        + tapAbs (fieldOf w 5 0)))
      (paramFail (laneReg l 4)))

/-- Does a stitch put a port into LANE_WAIT (R197)? `before` and `after` read the set in force. -/
def portReforms (before after : Nat → Word) (q : Nat) : Bool :=
  let ch := fun o m => (before o &&& m) != (after o &&& m)
  let lanes := fun (f : Nat → Word) =>
    (List.range (fieldOf (f (lineReg q 0)) 27 24)).map fun j => fieldOf (f (lineReg q 0)) 21 16 + j
  ch (lineReg q 0) (bitsMask 31 31 ||| bitsMask 27 24 ||| bitsMask 21 16 ||| bitsMask 10 9) ||
    ch (lineReg q 4) (bitsMask 19 0) ||
    (bitAt (after (lineReg q 0)) 31 && (lanes after).any fun l => ch (laneReg l 0) (bitsMask 31 31 |||
      bitsMask 1 0))

/-- Does a stitch change the lanes of a port that stays formed (R218)? DESIGN CHOICE (log 106): a change of N alone
counts, since it changes which lanes are members. -/
def lanesMoved (before after : Nat → Word) (q : Nat) : Bool :=
  let m := bitsMask 27 24 ||| bitsMask 21 16
  bitAt (before (lineReg q 0)) 31 && bitAt (after (lineReg q 0)) 31 &&
    before (lineReg q 0) &&& m != after (lineReg q 0) &&& m

/-- The line side of a stitch: changed ports fall to LANE_WAIT, lanes that are switched off stop, a port on other
lanes has another latency (R197, R218), dGIDM stays clear where it is not checked (R194), and FEC_DEG where its threshold
is 0 (R202). `before` reads the set in force before it. -/
def Part.lineStitched (p : Part) (before : Nat → Word) : Part :=
  let p := (List.range 96).foldl (fun (r : Part) l =>
    let r := if bitAt (before (laneReg l 0)) 31 && !r.bit (laneReg l 0) 31 then r.fallLane l 0 else r
    if r.reg (laneReg l 0x48) = 0#32 && r.bit (laneReg l 0x10) 5 then
      (r.setLane l { r.lane l with degClear := 0 }).setBit (laneReg l 0x10) 5 false
    else r) p
  let old := fun q => p.reg64 (lineReg q 0x40)
  let p := p.syncLats
  (List.range 24).foldl (fun (r : Part) q =>
    let r := r.clearSkews q
    let r := if lanesMoved before r.reg q then r.lineLatChange q (old q) else r
    if portReforms before r.reg q then
      let r := r.toLaneWait q
      let r := if r.bit (lineReg q 0) 9 then r else r.setDefect q 4 false
      if r.portOn q then r.evalPort q
      else (r.setReg (lineReg q 0x20) 0#32).setPort q {}
    else r) p

end Sys2Proof.Machine
end

