-- ==== Sys2Proof/Machine/Mapping.lean ====
section
/-! DEFINITION. Tributary contexts: slots, carriers, GMP and FJM justification, method negotiation and the
latency of the mapping segments (R249 to R274). -/

namespace Sys2Proof.Machine

/-! ### Fields of a tributary context (R274) -/

/-- A register of tributary context `t`. -/
def tribReg (t o : Nat) : Nat := 0x50000 + 64 * t + o

/-- A tributary's running state. -/
def Part.trib (p : Part) (t : Nat) : TribSt := SMap.get (fun _ => {}) p.tribs t
/-- A tributary's running state replaced. -/
def Part.setTrib (p : Part) (t : Nat) (v : TribSt) : Part :=
  { p with tribs := SMap.set (fun _ => {}) p.tribs t v }

/-- ENABLE. -/
def Part.tribOn (p : Part) (t : Nat) : Bool := p.bit (tribReg t 0) 31
/-- TYPE (R251). -/
def Part.tribType (p : Part) (t : Nat) : Nat := p.field (tribReg t 0) 30 28
/-- METHOD (R267). -/
def Part.tribMethod (p : Part) (t : Nat) : Nat := p.field (tribReg t 0) 27 26
/-- CARRIER_KIND: `true` names a carrier tributary (R252). -/
def Part.tribSecond (p : Part) (t : Nat) : Bool := p.bit (tribReg t 0) 25
/-- IMP_CLIENT. -/
def Part.tribImp (p : Part) (t : Nat) : Nat := p.field (tribReg t 0) 24 23
/-- CARRIER. -/
def Part.tribCarrier (p : Part) (t : Nat) : Nat := p.field (tribReg t 0) 9 0
/-- TPN. -/
def Part.tribTpn (p : Part) (t : Nat) : Nat := p.field (tribReg t 0xC) 15 0
/-- DEST KIND (R253). -/
def Part.destKind (p : Part) (t : Nat) : Nat := p.field (tribReg t 0x10) 31 30
/-- DEST INDEX (R253). -/
def Part.destIndex (p : Part) (t : Nat) : Nat := p.field (tribReg t 0x10) 9 0

/-- The tributaries enabled in the set in force. -/
def Part.tribsOn (p : Part) : List Nat :=
  p.regs.filterMap fun e =>
    if 0x50000 ≤ e.1 ∧ e.1 < 0x60000 ∧ e.1 % 64 = 0 ∧ bitAt e.2 31 = true then some ((e.1 - 0x50000) / 64)
    else none

/-- The runs of a tributary: first slot and count (R249, R252). -/
def Part.tribRuns (p : Part) (t : Nat) : List (Nat × Nat) :=
  [(p.field (tribReg t 4) 7 0, p.field (tribReg t 4) 15 8),
    (p.field (tribReg t 4) 23 16, p.field (tribReg t 4) 31 24),
    (p.field (tribReg t 8) 7 0, p.field (tribReg t 8) 15 8),
    (p.field (tribReg t 8) 23 16, p.field (tribReg t 8) 31 24)]

/-- The slots of a tributary on its carrier. -/
def Part.tribSlots (p : Part) (t : Nat) : List Nat :=
  (p.tribRuns t).flatMap fun r => (List.range r.2).map fun j => r.1 + j

/-- The sum of a tributary's run counts. -/
def Part.tribCount (p : Part) (t : Nat) : Nat := ((p.tribRuns t).map (·.2)).foldl (· + ·) 0

/-- Bits of server capacity of one slot in an ODTUCn.ts period (R255). -/
def slotBits : Nat := 121856

/-- The least ts whose ODTUCn.ts carries the ODUflex of an IMP client: its server rate is ts slots' bits in a period
(R251, R255). -/
def impSlots (k : Nat) : Nat := (Config.impBits k + slotBits - 1) / slotBits

/-- TS_REQ: the slots the type needs; for TYPE 5 the stitched count (R251, R274). -/
def Part.tsReq (p : Part) (t : Nat) : Nat :=
  match p.tribType t with
  | 0 => 1 | 1 => 2 | 2 => 2 | 3 => 2 | 4 => 20
  | 5 => p.tribCount t
  | 6 => impSlots (p.tribImp t)
  | _ => 0

/-- Does an enabled second-stage tributary name `t` as its carrier (R252)? -/
def Part.isCarrier (p : Part) (t : Nat) : Bool :=
  p.tribsOn.any fun j => p.tribSecond j && p.tribCarrier j == t

/-- The line port whose ODUCn carries a tributary, through its carrier where there is one (R229). -/
def Part.tribPort (p : Part) (t : Nat) : Nat :=
  if p.tribSecond t then p.tribCarrier (p.tribCarrier t) else p.tribCarrier t

/-- The client port at the end of a tributary's ODU: its own DEST, or the END of the group it is a leg of (R253,
R275). -/
def Part.tribClient (p : Part) (t : Nat) : Option Nat :=
  if p.destKind t = 1 then some (p.destIndex t)
  else if p.destKind t = 3 then
    let e := 0x60004 + 64 * p.destIndex t
    if p.field e 31 30 = 1 then some (p.field e 9 0) else none
  else none

/-- The client port whose signal a tributary's mapper maps: the head of a group builds its ODU once, for leg 0
(R270, R277). -/
def Part.mapsClient (p : Part) (t : Nat) : Option Nat :=
  if p.destKind t = 3 ∧ p.field (0x60008 + 64 * p.destIndex t) 9 0 ≠ t then none else p.tribClient t

/-- The payload type set for the OPU of a tributary: 0x21 for a carrier, the client mapping's where it
ends on a client port, none where the OPU passes through (R250). -/
def Part.tribPt (p : Part) (t : Nat) : Option Byte :=
  if p.isCarrier t then some 0x21#8
  else if (p.tribClient t).isSome then some (Config.clientPt (p.tribType t))
  else none

/-- STATUS.TX_FJM (R274). -/
def Part.txFjm (p : Part) (t : Nat) : Bool := p.bit (tribReg t 0x14) 30
/-- STATUS.RX_FJM (R274). -/
def Part.rxFjm (p : Part) (t : Nat) : Bool := p.bit (tribReg t 0x14) 31
/-- STATUS.CAP_SEEN (R274). -/
def Part.capSeen (p : Part) (t : Nat) : Bool := p.bit (tribReg t 0x14) 29

/-- A bit of STATUS_HIST sets and raises vector 6 (R274). -/
def Part.tribHist (p : Part) (t b : Nat) : Part := p.hist (tribReg t 0x18) b 6

/-! ### Justification (R255 to R262) -/

/-- A GMP stage: word m in bits, Pm, and the CnD unit n in bits (R255). -/
structure Stage where
  m  : Nat
  pm : Nat
  n  : Nat
  deriving DecidableEq, Repr

/-- The GMP stage a tributary's own mapping runs; none for ODTU12, which runs AMP (R255). -/
def Part.stage (p : Part) (t : Nat) : Option Stage :=
  if !p.tribSecond t then some { m := 128 * p.tsReq t, pm := 952, n := 8 }
  else if p.tribType (p.tribCarrier t) = 4 then some { m := 8 * p.tsReq t, pm := 15200, n := 8 }
  else if p.tribType t = 0 then some { m := 8, pm := 15232, n := 8 }
  else none

/-- The stage of 100GBASE-R into OPU4 (R255). -/
def opu4Stage : Stage := { m := 640, pm := 190, n := 1 }

/-- FJM positions of an ODTUCn.ts period (R255, R260). -/
def Part.pbit (p : Part) (t : Nat) : Nat := slotBits * p.tsReq t - 80

/-- The count and ΣCnD a GMP mapper sends for `q` client bits above its fill depth (R256). -/
def gmpCount (g : Stage) (q : Nat) : Nat × Nat :=
  let c := min (q / g.m) g.pm
  (c, (q - g.m * c) / g.n)

/-- The Cbit an FJM mapper sends (R261). -/
def fjmCount (pbit q : Nat) : Nat := min q pbit

/-- Does position `j` of `pos` carry data under count `c` (R257, R261)? -/
def carriesData (c pos j : Nat) : Bool := decide (j * c % pos < c)

/-- `n` positions from number `j` on, of `pos` in a period with count `c`: each takes the next data unit where it
carries data, and stuff elsewhere (R257, R261). -/
def placeData {α : Type} (c pos : Nat) (stuff : α) : Nat → Nat → List α → List α
  | 0, _, _ => []
  | n + 1, j, xs =>
    if carriesData c pos j then xs.headD stuff :: placeData c pos stuff n (j + 1) xs.tail
    else stuff :: placeData c pos stuff n (j + 1) xs

/-- The data units among the positions of a period, from position `j` on (R257, R261). -/
def takeData {α : Type} (c pos : Nat) : Nat → List α → List α
  | _, [] => []
  | j, x :: r => if carriesData c pos j then x :: takeData c pos (j + 1) r else takeData c pos (j + 1) r

/-- `n` words of `m` bits. -/
def wordsOf {α : Type} (m : Nat) : Nat → List α → List (List α)
  | 0, _ => []
  | n + 1, l => l.take m :: wordsOf m n (l.drop m)

/-- The payload of a GMP period with count `c`: its words leave the store at the data positions (R256, R257). -/
def Stage.lay (g : Stage) (c : Nat) (store : List Bool) : List Bool :=
  (placeData c g.pm (List.replicate g.m false) g.pm 1 (wordsOf g.m c store)).flatten

/-- The data bits of a received GMP period (R257). -/
def Stage.unlay (g : Stage) (c : Nat) (payload : List Bool) : List Bool :=
  (takeData c g.pm 1 (wordsOf g.m g.pm payload)).flatten

/-- The payload of an FJM period after its FJC bytes (R260, R261). -/
def fjmLay (pbit c : Nat) (store : List Bool) : List Bool := placeData c pbit false pbit 1 store

/-- The bytes of a word in network order (R8). -/
def netBytes (w : Word) : List Byte := (wordBytes w).reverse

/-- One copy of Cbit with its marker (R259). -/
def fjcCopy (cbit : Nat) : Word := BitVec.ofNat 32 (0xA0000000 + cbit % 2 ^ 25)

/-- The CRC-8 over three copies and bytes 12 to 14 (R259). -/
def fjcCrc (a b c : Word) (rest : List Byte) : Byte :=
  crc8Run 0xFF#8 (netBytes a ++ netBytes b ++ netBytes c ++ rest)

/-- The bitwise majority of three copies (R262). -/
def majority (a b c : Word) : Word := (a &&& b) ||| (a &&& c) ||| (b &&& c)

/-- The 16 bytes of an FJC (R259). -/
def fjcBytes (cbit : Nat) : List Byte :=
  let w := fjcCopy cbit
  netBytes w ++ netBytes w ++ netBytes w ++ [0#8, 0#8, 0#8, fjcCrc w w w [0#8, 0#8, 0#8]]

/-- The FJC of a period: bytes 0 to 5 stand in JC1 to JC6, bytes 6 to 15 are the first ten payload bytes (R260). -/
def fjcOf (jc : List Byte) (payload : List Bool) : Fjc :=
  let bs := jc.take 6 ++ bytesOfBits 10 payload
  { a := netWord bs, b := netWord (bs.drop 4), c := netWord (bs.drop 8), rest := (bs.drop 12).take 3,
    crc := bs.getD 15 0#8 }

/-- Is a copy well formed: marker, reserved bits and Cbit within Pbit (R262)? -/
def copyGood (pbit : Nat) (w : Word) : Bool :=
  fieldOf w 31 28 == 10 && fieldOf w 27 25 == 0 && decide (fieldOf w 24 0 ≤ pbit)

/-- Are the three copies of an FJC equal (R262, R263)? -/
def Fjc.triple (j : Fjc) : Bool := j.a == j.b && j.b == j.c

/-- The Cbit a receiver accepts (R262). -/
def fjcAccept (pbit : Nat) (j : Fjc) : Option Nat :=
  let m := majority j.a j.b j.c
  if copyGood pbit m && (j.triple || fjcCrc m m m j.rest == j.crc) then some (fieldOf m 24 0) else none

/-- The Cbit by which a receiver in GMP turns to FJM: three equal copies, a valid marker and a matching
CRC-8 (R263). -/
def fjcStart (j : Fjc) : Option Nat :=
  if j.triple && fieldOf j.a 31 28 == 10 && fjcCrc j.a j.b j.c j.rest == j.crc then some (fieldOf j.a 24 0)
  else none

/-- A count word of RX_C or TX_C (R274). -/
def countWord (fjm : Bool) (v : Nat) : Word := BitVec.ofNat 32 (fjm.toNat * 2 ^ 31 + v % 2 ^ 25)

/-! ### Mapping (R256, R261, R268, R270) -/

/-- The bits of the store that leave in the period that ends: TX_C's count, under its method (R256, R261). -/
def Part.released (p : Part) (t : Nat) (g : Stage) : Nat :=
  let w := p.reg (tribReg t 0x20)
  if bitAt w 31 then fieldOf w 24 0 else fieldOf w 24 0 * g.m

/-- The payload of the period that ends, under the count sent in the period before (R257, R260, R265): with FJC
in the justification control its bytes 6 to 15 come first. -/
def Part.periodPayload (p : Part) (t : Nat) (g : Stage) (tail : List Byte) : List Bool :=
  let w := p.reg (tribReg t 0x20)
  let st := (p.trib t).store
  let head := (bitsOfBytes tail ++ List.replicate 80 false).take 80
  if bitAt w 31 then head ++ fjmLay (p.pbit t) (fieldOf w 24 0) st
  else
    let l := g.lay (fieldOf w 24 0) st
    if tail.isEmpty then l else head ++ l.drop 80

/-- The bits that wait in a stage's store above its fill depth at the end of the period: Q (R256, R261). -/
def Part.storeAfter (p : Part) (t : Nat) (g : Stage) (bits : List Bool) : List Bool :=
  (p.trib t).store.drop (p.released t g) ++ bits

/-- A period of a tributary's own GMP or FJM stage ends: the payload leaves under the running count, and the count
for the next period goes into its justification control (R256, R261). -/
def Part.mapPeriod (p : Part) (t : Nat) (g : Stage) (bits : List Bool) : Part :=
  let st := p.storeAfter t g bits
  let w := p.reg (tribReg t 0x20)
  let q := p.setTrib t { p.trib t with store := st }
  if p.txFjm t then
    let c := fjmCount (p.pbit t) st.length
    let fjc := fjcBytes c
    (q.setReg (tribReg t 0x20) (countWord true c)).emit
      (.period t false (fjc.take 6) (p.periodPayload t g (fjc.drop 6)))
  else
    let c := gmpCount g st.length
    (q.setReg (tribReg t 0x20) (countWord false c.1)).emit
      (.period t false (Config.gmpForm g.m g.pm g.n (if bitAt w 31 then 0 else fieldOf w 24 0) c.1 c.2)
        (p.periodPayload t g []))

/-- The positions of an AMP period that carry data, taken in order (R258). -/
def ampTake {α : Type} : List Bool → List α → List α
  | b :: m, x :: r => if b then x :: ampTake m r else ampTake m r
  | _, _ => []

/-- The payload of an AMP period: the next bits of the store at its data positions, 0 elsewhere. -/
def ampLay : List Bool → List Bool → List Bool
  | [], _ => []
  | true :: m, xs => xs.headD false :: ampLay m xs.tail
  | false :: m, xs => false :: ampLay m xs

/-- A period of the ODTU12 stage ends (R255, R258): its justification code, and the data under it. -/
def Part.ampPeriod (p : Part) (t : Nat) (bits : List Bool) : Part :=
  let all := (p.trib t).store ++ bits
  let code := Config.ampCode all.length % 4
  let pos := Config.ampPositions code
  (p.setTrib t { p.trib t with store := all.drop (pos.filter id).length }).emit
    (.period t false (List.replicate 3 (BitVec.ofNat 8 code)) (ampLay pos all))

/-- What stands in place of a client's signal on its way to the line: idle in DOZE, Local Fault while the client PCS
is not locked (R65, R270). -/
def Part.clientFill (p : Part) (n : Nat) : Option Bool :=
  if p.runMode = .doze then some false
  else if !p.bit (0x68008 + 256 * n) 1 then some true
  else none

/-- `n` bits of continuous idle or Local Fault blocks. -/
def fillBits (lf : Bool) (n : Nat) : List Bool :=
  (List.range n).map fun i => (Config.fillBlock lf).getLsbD (i % 66)

/-- A period of the OPU4 stage of a client ends (R256, R270). -/
def Part.clientPeriod (p : Part) (t n : Nat) (bits : List Bool) : Part :=
  let c := p.trib t
  let bits := match p.clientFill n with
    | some lf => fillBits lf bits.length
    | none => bits
  let st := c.clientStore.drop (c.clientCm * opu4Stage.m) ++ bits
  let v := gmpCount opu4Stage st.length
  (p.setTrib t { c with clientStore := st, clientCm := v.1 }).emit
    (.period t true (Config.gmpForm opu4Stage.m opu4Stage.pm opu4Stage.n c.clientCm v.1 v.2) (opu4Stage.lay c.clientCm c.clientStore))

/-! ### IMP (R268) -/

/-- An idle block. -/
def idleBlock : PcsBlock := { idle := true, bits := Config.fillBlock false }
/-- A Local Fault block in place of a client's signal. -/
def faultBlock : PcsBlock := { idle := false, bits := Config.fillBlock true }

/-- Up to `n` idle blocks deleted, the first ones; every other block stays. -/
def dropIdle : Nat → List PcsBlock → List PcsBlock
  | 0, l => l
  | _ + 1, [] => []
  | n + 1, b :: r => if b.idle then dropIdle n r else b :: dropIdle (n + 1) r

/-- `n` idle blocks inserted beside the first idle block, so between packets only. -/
def addIdle (n : Nat) : List PcsBlock → List PcsBlock
  | [] => []
  | b :: r => if b.idle then List.replicate n idleBlock ++ b :: r else b :: addIdle n r

/-- Rate adaptation (R268): blocks that arrive join the store, idle blocks between packets are deleted or inserted
to keep its fixed fill, and up to `slots` blocks leave. A client within ±100 ppm, to a block, is carried without loss;
beyond it the store fills, and what it cannot hold is lost. `gap` says that the last block that left was idle, so that
idle may go in before the first as well. DESIGN CHOICE (log 104): where a packet under way runs the store empty, no
block stands in for the missing ones. -/
def impStep (gap : Bool) (store arrived : List PcsBlock) (slots : Nat) : List PcsBlock × List PcsBlock × Nat :=
  let all := store ++ arrived
  let want := slots + Config.impFill
  let all :=
    if want ≤ all.length then dropIdle (all.length - want) all
    else if gap then List.replicate (want - all.length) idleBlock ++ all
    else addIdle (want - all.length) all
  let keep := all.drop slots
  let most := if arrived.length * 10000 ≤ slots * 10001 + 10000 then keep.length else Config.impFill + Config.impRoom
  (all.take slots, keep.take most, keep.length - most)

/-- Was the last of a run of blocks that left idle? An empty run changes nothing. -/
def lastIdle (before : Bool) (l : List PcsBlock) : Bool :=
  match l.getLast? with
  | some b => b.idle
  | none => before

/-- Blocks of a client reach the IMP mapper (R268, R270). What the store loses is marked, and counted with the frame it
hits (CLIENT_FRAME_END). -/
def Part.impMap (p : Part) (t n : Nat) (bs : List PcsBlock) (slots : Nat) : Part :=
  let bs := match p.clientFill n with
    | some true => bs.map fun _ => faultBlock
    | some false => bs.map fun _ => idleBlock
    | none => bs
  let c := p.trib t
  let v := impStep c.gapUp c.impUp bs slots
  (p.setTrib t { c with impUp := v.2.1, gapUp := lastIdle c.gapUp v.1, impLost := c.impLost || v.2.2 != 0 }).emit
    (.blocks t false v.1)

/-- MAPPER_PERIOD_END (R256, R261, R268, R270). -/
def mapperPeriodEnd (t : Fin 1024) (q : MapIn) (p : Part) : Part :=
  if !p.tribOn t || !(p.trib t).built || !p.runMode.carries then p
  else match q with
    | .carrier bits =>
      match p.stage t with
      | some g => p.mapPeriod t g bits
      | none => p.ampPeriod t bits
    | .client bits =>
      match p.mapsClient t with
      | some n => if p.tribType t = 4 then p.clientPeriod t n bits else p
      | none => p
    | .blocks bs slots =>
      match p.mapsClient t with
      | some n => if p.tribType t = 6 then p.impMap t n bs slots else p
      | none => p

/-! ### Demapping (R258, R262 to R264) -/

/-- A period whose justification control is accepted (R264). -/
def Part.jcGood (p : Part) (t : Nat) (fjm : Bool) (v : Nat) : Part :=
  ((p.setTrib t { p.trib t with jcRun := 0 }).setReg (tribReg t 0x1C) (countWord fjm v)).setBit
    (tribReg t 0x14) 28 false

/-- A period that counts JC_BAD; the third in a row sets MAP_LOSS (R258, R262, R264). -/
def Part.jcBad (p : Part) (t : Nat) : Part :=
  let n := (p.trib t).jcRun + 1
  let q := (p.addSat (tribReg t 0x24) 1).setTrib t { p.trib t with jcRun := n }
  if n < 3 || q.bit (tribReg t 0x14) 28 then q
  else (q.setBit (tribReg t 0x14) 28 true).tribHist t 2

/-- The receive method changes (R263, R274). -/
def Part.rxMethod (p : Part) (t : Nat) (fjm : Bool) : Part :=
  (p.setBit (tribReg t 0x14) 31 fjm).tribHist t 1

/-- A GMP count accepted with its ΣCnD, which steers the output phase filter only (R258). -/
def Part.gmpGood (p : Part) (t : Nat) (v : Nat × Nat) : Part :=
  (p.setTrib t { p.trib t with cnd := v.2 }).jcGood t false v.1

/-- The data of the period that ends, demapped under the count accepted in the period before (R257, R261, R263). -/
def Part.demapped (p : Part) (t : Nat) (g : Stage) (payload : List Bool) : List Bool :=
  let w := p.reg (tribReg t 0x1C)
  if bitAt w 31 then takeData (fieldOf w 24 0) (p.pbit t) 1 ((payload.drop 80).take (p.pbit t))
  else g.unlay (fieldOf w 24 0) payload

/-- What a stage's GMP checks read from a period's JC bytes, against the Cm accepted last (R258). -/
def Part.gmpHeard (p : Part) (t : Nat) (g : Stage) (jc : List Byte) : Option (Nat × Nat) :=
  let w := p.reg (tribReg t 0x1C)
  Config.gmpRead g.m g.pm g.n (if bitAt w 31 then 0 else fieldOf w 24 0) jc

/-- The justification control of a period decides the next one (R258, R262, R263). -/
def Part.jcDecide (p : Part) (t : Nat) (g : Stage) (jc : List Byte) (payload : List Bool) : Part :=
  let f := fjcOf jc payload
  if p.tribSecond t then
    match p.gmpHeard t g jc with
    | some v => p.gmpGood t v
    | none => p.jcBad t
  else if p.rxFjm t then
    match fjcAccept (p.pbit t) f, p.gmpHeard t g jc with
    | some c, _ => if f.triple then p.jcGood t true c else (p.jcGood t true c).addSat (tribReg t 0x28) 1
    | none, some v => (p.gmpGood t v).rxMethod t false
    | none, none => p.jcBad t
  else
    match fjcStart f, p.gmpHeard t g jc with
    | some c, _ => (p.jcGood t true c).rxMethod t true
    | none, some v => p.gmpGood t v
    | none, none => p.jcBad t

/-- The two JC bits of an AMP period, each by majority over JC1 to JC3 (R258). -/
def ampHeard (jc : List Byte) : Nat :=
  let w := fun i => (jc.getD i 0#8).setWidth 32
  fieldOf (majority (w 0) (w 1) (w 2)) 1 0

/-- What a demapper sends to the client: Local Fault under aLF, the action of the tributary's LO point (R231). -/
def Part.lineFault (p : Part) (t : Nat) : Bool := SMap.get (fun _ => false) p.pm.conseq ((48 + t) * 4 + 1)

/-- A period of a client's OPU4 stage is received: demapped under the count accepted before (R258, R270). -/
def Part.clientJc (p : Part) (t : Nat) (jc : List Byte) (payload : List Bool) : Part :=
  let c := p.trib t
  let bits := opu4Stage.unlay c.clientRx payload
  let r := p.emit (.taken t true (if p.lineFault t then fillBits true bits.length else bits))
  match Config.gmpRead opu4Stage.m opu4Stage.pm opu4Stage.n c.clientRx jc with
  | some v => r.setTrib t { c with clientRx := v.1 }
  | none => r.addSat (tribReg t 0x24) 1

/-- Blocks of an ODUflex reach the IMP demapper (R268, R231). -/
def Part.impDemap (p : Part) (t : Nat) (bs : List PcsBlock) (slots : Nat) : Part :=
  let c := p.trib t
  let v := impStep c.gapDown c.impDown bs slots
  (p.setTrib t { c with impDown := v.2.1, gapDown := lastIdle c.gapDown v.1 }).emit
    (.blocks t true (if p.lineFault t then v.1.map fun _ => faultBlock else v.1))

/-- JC_RX (R258, R262, R263, R264, R268, R270). -/
def jcRx (t : Fin 1024) (j : JcIn) (p : Part) : Part :=
  if !p.tribOn t || !(p.trib t).built || !p.runMode.receives then p
  else match j with
    | .carrier jc payload =>
      match p.stage t with
      | some g => (p.emit (.taken t false (p.demapped t g payload))).jcDecide t g jc payload
      | none => p.emit (.taken t false (ampTake (Config.ampPositions (ampHeard jc)) payload))
    | .client jc payload =>
      if (p.tribClient t).isSome ∧ p.tribType t = 4 then p.clientJc t jc payload else p
    | .blocks bs slots =>
      if (p.tribClient t).isSome ∧ p.tribType t = 6 then p.impDemap t bs slots else p

/-! ### Negotiation (R265 to R267) -/

/-- The method R267 asks for, where it differs from the transmit state. -/
def Part.methodDue (p : Part) (t : Nat) : Option Bool :=
  let m := p.tribMethod t
  if p.txFjm t then
    if m = 0 ∨ (m = 1 ∧ p.capSeen t = false) then some false else none
  else if m = 2 ∨ (m = 1 ∧ p.capSeen t = true) then some true else none

/-- METHOD_CHANGE (R267): the change applies at a period start, if its condition still holds. -/
def methodChange (t : Fin 1024) (p : Part) : Part :=
  if !p.tribOn t || p.tribSecond t || !(p.trib t).built then p
  else match p.methodDue t with
    | some fjm =>
      ((p.setBit (tribReg t 0x14) 30 fjm).addWrapField (tribReg t 0x2C) 15 0 1).tribHist t 0
    | none => p

/-- CAP_SEEN_EXPIRE (R267): 3.5 s without a MAP_CAP note that names the TPN. -/
def capSeenExpire (t : Fin 1024) (p : Part) : Part := p.setBit (tribReg t 0x14) 29 false

/-- The tributaries whose carrier is line port `q`. -/
def Part.tribsOfPort (p : Part) (q : Nat) : List Nat :=
  p.tribsOn.filter fun t => !p.tribSecond t && p.tribCarrier t == q

/-- The body of a port's MAP_CAP note, in network-order words; none with no entry (R266). -/
def Part.mapCapBody (p : Part) (q : Nat) : Option (List Word) :=
  let ts := p.tribsOfPort q
  if ts.isEmpty then none
  else some (BitVec.ofNat 32 (0x01000000 + ts.length * 2 ^ 16) ::
    ts.map fun t => BitVec.ofNat 32 (p.tribTpn t * 2 ^ 16 + (p.txFjm t).toNat * 2 ^ 9
      + (p.tribMethod t == 1 || p.tribMethod t == 2).toNat * 2 ^ 8))

/-- A MAP_CAP note that arrived on port `q` (R266, R267): an entry with RX_AUTO 1 makes its tributary's
capability seen. -/
def Part.mapCapRx (p : Part) (q : Nat) (body : List Word) : Part :=
  let h := body.getD 0 0#32
  if fieldOf h 31 24 ≠ 1 then p
  else ((body.drop 1).take (fieldOf h 23 16)).foldl (fun (r : Part) e =>
    (r.tribsOfPort q).foldl (fun (r : Part) t =>
      if r.tribTpn t = fieldOf e 31 16 ∧ bitAt e 8 = true then r.setBit (tribReg t 0x14) 29 true
      else r) r) p

/-! ### Build, teardown and latency (R254, R272, R273) -/

/-- The words of an old and a new value. -/
def changeWords (old new : Dword) : List Word := [loWord old, hiWord old, loWord new, hiWord new]

/-- A latency-change event on vector 6 with the old and new value of each latency that changed (R35). -/
def Part.latencyEvent (p : Part) (nm : String) (inst : Nat) (ws : List Word) (new : Dword) : Part :=
  ((p.emit (.words nm inst ws)).trace 6 6 0xFE inst p.now new).message 6

/-- MAP_LAT and DEMAP_LAT of a tributary from its segments (R272). -/
def Part.syncTribLat (p : Part) (t : Nat) : Part :=
  (p.setReg64 (tribReg t 0x30) (p.segDelay (1216 + t))).setReg64 (tribReg t 0x38) (p.segDelay (192 + t))

/-- TS_REQ, TS_COUNT and the latencies of a tributary of the set in force (R251, R272, R274). -/
def Part.syncTrib (p : Part) (t : Nat) : Part :=
  ((p.setField (tribReg t 0x14) 15 8 (p.tsReq t)).setField (tribReg t 0x14) 7 0
    (p.tribSlots t).eraseDups.length).syncTribLat t

/-- Those of every enabled tributary, as the slices and WEFT come up with their set (R54). -/
def Part.syncTribs (p : Part) : Part := p.tribsOn.foldl Part.syncTrib p

/-- A segment delay replaced. -/
def Part.setSeg (p : Part) (i : Nat) (d : Dword) : Part :=
  { p with segs := SMap.set (fun _ => none) p.segs i (some d) }

/-- A segment that is built anew takes a delay the spec does not state (log 2). -/
def Part.freeSeg (p : Part) (i : Nat) : Part := (p.setSeg i p.freshValue).useFree

/-- Do the fields that define a tributary differ (R254)? METHOD is not one of them. -/
def tribDiffers (a b : Part) (t : Nat) : Bool :=
  let m := bitsMask 31 28 ||| bitsMask 25 23 ||| bitsMask 9 0
  (a.reg (tribReg t 0) &&& m) != (b.reg (tribReg t 0) &&& m) ||
    [4, 8, 0xC, 0x10].any fun o => a.reg (tribReg t o) != b.reg (tribReg t o)

/-- The tributaries a stitch tears down: those it changes, and those carried by one it changes (R254). -/
def tornTribs (old new : Part) : List Nat :=
  let ts := (old.tribsOn ++ new.tribsOn).eraseDups
  let own := ts.filter (tribDiffers old new)
  own ++ ts.filter fun t => !own.contains t && new.tribOn t && new.tribSecond t &&
    own.contains (new.tribCarrier t)

/-- A tributary's traffic stops and its running state is gone: it waits to be built (R254). Its latencies stay
unless a stitch changes them (R273). -/
def Part.stopTrib (p : Part) (t : Nat) : Part :=
  let q := if p.txFjm t then p.tribHist t 0 else p
  let q := if p.rxFjm t then q.tribHist t 1 else q
  let q := (((q.setTrib t {}).setReg (tribReg t 0x14) 0#32).setReg (tribReg t 0x1C) 0#32).setReg
    (tribReg t 0x20) 0#32
  if q.tribOn t then q.syncTrib t else (q.setReg64 (tribReg t 0x30) 0#64).setReg64 (tribReg t 0x38) 0#64

/-- One tributary is torn down at a stitch boundary (R254, R273): its traffic stops, and where it is
still enabled both its latencies change. -/
def Part.tearDown (p : Part) (t : Nat) : Part :=
  let oldMap := p.reg64 (tribReg t 0x30)
  let oldDemap := p.reg64 (tribReg t 0x38)
  let q := p.stopTrib t
  if q.tribOn t then
    let q := (q.freeSeg (192 + t)).freeSeg (1216 + t)
    ((q.syncTribLat t).addWrapField (tribReg t 0x2C) 31 16 1).latencyEvent "TRIB_LATENCY" t
      (changeWords oldDemap (q.segDelay (192 + t)) ++ changeWords oldMap (q.segDelay (1216 + t)))
      (q.segDelay (192 + t))
  else q

/-- Does a tributary keep its carrier from one set in force to the next? -/
def Part.sameCarrierAs (a b : Part) (t : Nat) : Bool :=
  a.tribOn t && a.tribSecond t == b.tribSecond t && a.tribCarrier t == b.tribCarrier t

/-- The mapping side of a stitch (R254). A capability seen for a TPN on its port stays seen (R267). -/
def Part.mappingStitched (p old : Part) : Part :=
  (tornTribs old p).foldl (fun (r : Part) t =>
    let r := r.tearDown t
    if old.capSeen t && r.tribOn t && old.sameCarrierAs r t && old.tribTpn t == r.tribTpn t then
      r.setBit (tribReg t 0x14) 29 true
    else r) p

/-- TRIB_REBUILD (R254, R267): the first justification period of the carrier starts. -/
def tribRebuild (t : Fin 1024) (p : Part) : Part :=
  if !p.tribOn t || (p.trib t).built || !p.mode.slicesOn || p.md.cur == .freeze then p
  else
    let q := (p.setTrib t { p.trib t with built := true }).setBit (tribReg t 0x14) 30 (p.tribMethod t == 2)
    if p.tribMethod t == 2 then q.tribHist t 0 else q

/-! ### Validation (R252, R253) -/

/-- The slots of a tributary's carrier (R252). -/
def Part.carrierSlots (p : Part) (t : Nat) : Nat :=
  if !p.tribSecond t then 20 * p.portN (p.tribCarrier t)
  else if p.tribType (p.tribCarrier t) = 4 then 80 else 8

/-- The highest TPN on a tributary's carrier (R252). -/
def Part.tpnMax (p : Part) (t : Nat) : Nat :=
  if !p.tribSecond t then 10 * p.portN (p.tribCarrier t)
  else if p.tribType (p.tribCarrier t) = 4 then 80 else 8

/-- Do two tributaries share a carrier? -/
def Part.sameCarrier (p : Part) (t u : Nat) : Bool :=
  p.tribSecond t == p.tribSecond u && p.tribCarrier t == p.tribCarrier u

/-- Is a client port stitched at a rate (R379)? Code 0 100GbE, 1 200GbE, 2 400GbE, 3 800GbE. -/
def Part.clientAt (p : Part) (n rate : Nat) : Bool :=
  decide (n < 48) && p.bit (0x68000 + 256 * n) 31 && p.field (0x68000 + 256 * n) 30 29 == rate

/-- May a tributary connect to client port `n` by type and rate (R253, R275)? -/
def Part.clientFits (p : Part) (t n : Nat) : Bool :=
  (p.tribType t == 4 && p.clientAt n 0) || (p.tribType t == 6 && p.clientAt n (p.tribImp t + 1))

/-- Two tributaries agree in TYPE, slot count and IMP_CLIENT (R253, R275). -/
def Part.tribsMatch (p : Part) (t u : Nat) : Bool :=
  p.tribType t == p.tribType u && (p.tribType t != 5 || p.tribCount t == p.tribCount u) &&
    (p.tribType t != 6 || p.tribImp t == p.tribImp u)

/-- The carrier rule of R252. -/
def Part.carrierGood (p : Part) (t : Nat) : Bool :=
  let c := p.tribCarrier t
  if p.tribSecond t then
    p.tribOn c && (p.tribType c == 2 || p.tribType c == 4) && !p.tribSecond c && p.destKind c == 0
  else decide (c < 24) && p.portOn c

/-- R252 for one enabled tributary of a resulting set. -/
def Part.tribFaults (q : Part) (t : Nat) : List StitchFault :=
  let ty := q.tribType t
  let n := q.tribCount t
  let others := q.tribsOn.filter fun u => u != t && q.sameCarrier t u
  failIf (ty == 7 || (decide (ty < 2) != q.tribSecond t) || !q.carrierGood t ||
      (q.tribSecond t && q.tribMethod t != 0) || q.tribMethod t == 3 || (ty == 6 && q.tribImp t == 3))
    (paramFail (tribReg t 0)) ++
  failIf ((q.tribSlots t).any (fun k => decide (q.carrierSlots t ≤ k)) ||
      (if ty == 5 then n == 0 || decide (160 < n) else n != q.tsReq t) ||
      others.any fun u => (q.tribSlots t).any (q.tribSlots u).contains)
    (paramFail (tribReg t 4)) ++
  failIf (q.tribTpn t == 0 || decide (q.tpnMax t < q.tribTpn t) ||
      others.any fun u => q.tribTpn u == q.tribTpn t)
    (paramFail (tribReg t 0xC))

/-- R253 for one enabled tributary; KIND 3 is R275's. -/
def Part.destFaults (q : Part) (t : Nat) : List StitchFault :=
  let i := q.destIndex t
  let bad := match q.destKind t with
    | 1 => !q.clientFits t i || q.tribsOn.any fun u => u != t && q.destKind u == 1 && q.destIndex u == i
    | 2 => i == t || !q.tribOn i || q.destKind i != 2 || q.destIndex i != t || !q.tribsMatch t i ||
        q.isCarrier t || q.isCarrier i
    | _ => false
  failIf bad (paramFail (tribReg t 0x10))

/-- The rules of R252 and R253 on a resulting set. -/
def validateMapping (q : Part) : List StitchFault :=
  let on := q.tribsOn
  let carriers := on.filter q.isCarrier
  on.flatMap (fun t => q.tribFaults t ++ q.destFaults t) ++
    failIf (decide (128 < carriers.length)) (paramFail (tribReg (carriers.getD 0 0) 0))

/-! ### Meanings -/

/-- JC_RX. -/
def execJcRx (t : Fin 1024) (j : JcIn) (s : State) : Result := onPart (jcRx t j) s
/-- METHOD_CHANGE. -/
def execMethodChange (t : Fin 1024) (s : State) : Result := onClock (methodChange t) s
/-- CAP_SEEN_EXPIRE. -/
def execCapSeenExpire (t : Fin 1024) (s : State) : Result := onClock (capSeenExpire t) s
/-- TRIB_REBUILD. -/
def execTribRebuild (t : Fin 1024) (s : State) : Result := onPart (tribRebuild t) s

end Sys2Proof.Machine
end

