-- ==== Sys2Proof/Machine/Overhead.lean ====
section
/-! DEFINITION. PM points: overhead acceptance, defects, signal fail, consequent actions, one-second
classification, availability, bins and the PM history (R221 to R248). -/

namespace Sys2Proof.Machine

/-! ### Points (R221, R222) -/

/-- POINT[q].CFG word 0 (R248). -/
def pointCfg (q : Nat) : Nat := 0x71000 + 8 * q
/-- POINT[q].DEFECT (R248). -/
def pointDef (q : Nat) : Nat := 0x75000 + 4 * q

/-- The kinds of a point (R221). -/
inductive PointKind where
  | sm | odu | lo | tcm
  deriving DecidableEq, Repr

/-- The kind of point `q` (R221). -/
def pointKind (q : Nat) : PointKind :=
  if q < 24 then .sm else if q < 48 then .odu else if q < 1072 then .lo else .tcm

/-- A point's running state. -/
def Part.point (p : Part) (q : Nat) : PointSt := SMap.get (fun _ => {}) p.points q
/-- A point's running state replaced. -/
def Part.setPoint (p : Part) (q : Nat) (v : PointSt) : Part :=
  { p with points := SMap.set (fun _ => {}) p.points q v }

/-- The points whose CFG word 0 is listed, in rising order. -/
def Part.pointsListed (p : Part) : List Nat :=
  p.regs.filterMap fun e =>
    if 0x71000 ≤ e.1 ∧ e.1 < 0x75000 ∧ e.1 % 8 = 0 then some ((e.1 - 0x71000) / 8) else none

/-- The enabled points, in rising order. -/
def Part.pointsOn (p : Part) : List Nat := p.pointsListed.filter fun q => p.bit (pointCfg q) 31

/-- The tributary a LO or TCM point watches (R221). -/
def Part.pointTrib (p : Part) (q : Nat) : Nat :=
  match pointKind q with
  | .tcm => p.field (pointCfg q) 9 0
  | _ => q - 48

/-- TCM_LEVEL. -/
def Part.tcmLevel (p : Part) (q : Nat) : Nat := p.field (pointCfg q) 19 16
/-- TCM_TERM of a TCM point. -/
def Part.tcmTerm (p : Part) (q : Nat) : Bool := pointKind q == .tcm && p.bit (pointCfg q) 21

/-- Is the point's port or tributary stitched (R222)? -/
def Part.pointStitched (p : Part) (q : Nat) : Bool :=
  match pointKind q with
  | .sm => p.portOn q
  | .odu => p.portOn (q - 24)
  | .lo => p.tribOn (q - 48)
  | .tcm => p.tribOn (p.pointTrib q)

/-- Does the point work (R222)? -/
def Part.pointLive (p : Part) (q : Nat) : Bool :=
  p.bit (pointCfg q) 31 && p.runMode.receives && p.pointStitched q

/-! ### Bins (R242 to R244) -/

/-- OFF15 and OFFDAY as seconds (R242). -/
def Part.binOffset (p : Part) : Nat := p.field 0x70000 9 0 + 900 * p.field 0x70000 22 16

/-- The number of the 15-minute bin of second `sec`, counted from a day before day 0, where its offset
lies; bin b of day D has number (D + 1) * 96 + b (R242). -/
def Part.binNo (p : Part) (sec : Nat) : Nat := (sec + 86400 - p.binOffset) / 900

/-- The key of a 15-minute bin. -/
def binKey (n : Nat) : Nat := n / 96 * 97 + n % 96
/-- The key of the 24-hour bin of a 15-minute bin. -/
def dayKey (n : Nat) : Nat := n / 96 * 97 + 96

/-- A bin of a point changed, unless it is closed (R243). -/
def Part.updBin (p : Part) (q key : Nat) (f : Bin → Bin) : Part :=
  let c := p.point q
  let b := SMap.get (fun _ => {}) c.bins key
  if b.closed then p
  else p.setPoint q { c with bins := SMap.set (fun _ => {}) c.bins key (f b) }

/-- Both bins of a second changed. -/
def Part.updBins (p : Part) (q sec : Nat) (f : Bin → Bin) : Part :=
  (p.updBin q (binKey (p.binNo sec)) f).updBin q (dayKey (p.binNo sec)) f

/-- The current second of the time scale. -/
def Part.nowSec (p : Part) : Nat := p.now / 65536 / 1000000000

/-- A bin marked SUSPECT (R244). -/
def Bin.mark (b : Bin) : Bin := { b with suspect := true }

/-! ### Defect bits (R228, R248) -/

/-- Bit `d` of a point's DEFECT. -/
def Part.pd (p : Part) (q d : Nat) : Bool := p.bit (pointDef q) d

/-- A DEFECT bit takes a value: a 0 to 1 change sets its HIST bit and raises group 6 under IRQ_EN; the
bit was 1 in the current bins (R247, R248). -/
def Part.setPd (p : Part) (q d : Nat) (v : Bool) : Part :=
  if p.pd q d = v then p
  else
    let r := if p.time.running then
        p.updBins q p.nowSec fun b => { b with seen := b.seen ||| (1#16 <<< d) }
      else p
    let c := r.point q
    let r := if v && d == 13 then r.setPoint q { c with tsf := true }
      else if v && d == 1 then r.setPoint q { c with bdi := true } else r
    let r := r.setBit (pointDef q) d v
    if v then r.setEvent (pointDef q) (d + 16) 6 (r.bit (pointCfg q) 26) else r

/-- A bit of TTI_CHG or APS_CHG sets and raises group 6 under CHG_EN (R248). -/
def Part.setChg (p : Part) (aps : Bool) (q : Nat) : Part :=
  p.setEvent ((if aps then 0x77200 else 0x77100) + 4 * (q / 32)) (q % 32) 6 (p.bit 0x77300 aps.toNat)

/-! ### Signal fail (R229) -/

/-- dTIM with TIM_ACT (R229). -/
def Part.tim (p : Part) (q : Nat) : Bool := p.pd q 0 && p.bit (pointCfg q) 27

/-- The point whose OPU carries a tributary (R229). -/
def Part.serverPoint (p : Part) (t : Nat) : Nat :=
  if p.tribSecond t then 48 + p.tribCarrier t else 24 + p.tribCarrier t

/-- aSSF of a live point (R229). -/
def Part.ssfOf (p : Part) (q : Nat) : Bool :=
  match pointKind q with
  | .sm => p.portState q != 2 || p.lineDefect q 0 || p.lineDefect q 1 || p.lineDefect q 2
  | .odu => p.pd (q - 24) 13
  | .lo =>
    let sv := p.serverPoint (q - 48)
    p.pd sv 13 || (p.pd sv 10 && (p.tribSlots (q - 48)).any (p.point sv).msiBad.contains)
  | .tcm => p.pd (48 + p.pointTrib q) 12

/-- aTSF of a live point, from its aSSF and defects (R229). -/
def Part.tsfOf (p : Part) (q : Nat) : Bool :=
  let own := fun ds : List Nat => ds.any (p.pd q)
  p.pd q 12 || p.tim q ||
    (match pointKind q with
     | .sm => false
     | .odu => own [3, 4, 5, 9]
     | .lo => own [3, 4, 5, 9, 11]
     | .tcm => own [3, 4, 5, 6])

/-- aTSD of a point (R229). -/
def Part.tsdOf (p : Part) (q : Nat) : Bool := p.pd q 2 && !p.pd q 13

/-! ### Consequent actions (R231 to R235) -/

/-- The code of an action in R233. -/
def ConseqAction.code : ConseqAction → Nat
  | .aAIS => 0 | .aLF => 1 | .aBDI => 2

/-- Is a tributary on a line-to-line path (R253)? -/
def Part.lineToLine (p : Part) (t : Nat) : Bool := p.destKind t == 2

/-- Does the part terminate a tributary's path (R231)? A leg of a group that ends on a tributary passes
through. -/
def Part.terminates (p : Part) (t : Nat) : Bool :=
  match p.destKind t with
  | 2 => false
  | 3 => p.field (0x60004 + 64 * p.destIndex t) 31 30 == 1
  | _ => true

/-- Have all legs of a tributary's seam group aTSF? So for any tributary that is no leg. -/
def Part.legsFail (p : Part) (t : Nat) : Bool :=
  p.destKind t != 3 ||
    (List.range (p.field (0x60000 + 64 * p.destIndex t) 29 28)).all fun k =>
      p.pd (48 + fieldOf (p.reg (0x60008 + 64 * p.destIndex t)) (10 * k + 9) (10 * k)) 13

/-- The condition of an action at a point (R231). DESIGN CHOICE (log 87): where the ODU reaches the client through a
seam group, aLF waits until every leg has aTSF, since the copy of another leg carries the client until then (R284). -/
def Part.condOf (p : Part) (q : Nat) : ConseqAction → Bool
  | .aAIS => match pointKind q with
    | .lo => p.lineToLine (q - 48) && (p.pd q 12 || p.pd q 11)
    | .tcm => p.tcmTerm q && p.lineToLine (p.pointTrib q) && p.pd q 13
    | _ => false
  | .aLF => match pointKind q with
    | .lo => (p.tribClient (q - 48)).isSome && p.pd q 13 && p.legsFail (q - 48)
    | _ => false
  | .aBDI => match pointKind q with
    | .lo => p.terminates (q - 48) && p.pd q 13
    | .tcm => p.tcmTerm q && p.pd q 13
    | _ => p.pd q 13

/-- A flag of a consequent-action map. -/
def flag (m : SMap Bool) (k : Nat) : Bool := SMap.get (fun _ => false) m k

/-- A consequent action is asserted or released (R231). -/
def applyConseq (q act v : Nat) (p : Part) : Part :=
  let k := q * 4 + act
  let on := decide (v % 2 = 1)
  if flag p.pm.conseq k = on then p
  else { p with pm := { p.pm with conseq := SMap.set (fun _ => false) p.pm.conseq k on } }.emit
    (.event "CONSEQUENT_ACTION" (q + act * 2 ^ 13) (BitVec.ofNat 64 on.toNat))

/-- The condition of an action is looked at; a change is offered while function 1 is host-assisted
(R233), also where a decision of an earlier time is open (R46), and waits for CONSEQUENT_ACTION_APPLY in hardware
mode (R232). -/
def Part.watchConseq (p : Part) (q : Nat) (a : ConseqAction) : Part :=
  let k := q * 4 + a.code
  let c := p.condOf q a
  if flag p.pm.cond k = c then p
  else
    let r : Part := { p with pm := { p.pm with cond := SMap.set (fun _ => false) p.pm.cond k c } }
    if r.steered 1 (q + a.code * 2 ^ 13) then r.offer 1 (q + a.code * 2 ^ 13) c.toNat 3#32 (applyConseq q a.code)
    else r

/-- An open decision of function 1 ends with no choice: candidate 0, no alternatives (R233). -/
def Part.voidConseq (p : Part) (q : Nat) (a : ConseqAction) : Part :=
  let k := q * 4 + a.code
  let inst := q + a.code * 2 ^ 13
  let r : Part := { p with pm := { p.pm with cond := SMap.set (fun _ => false) p.pm.cond k false } }
  let r := if (r.openFor 1 inst).isSome then r.offer 1 inst 0 0#32 (applyConseq q a.code) else r
  applyConseq q a.code 0 r

/-- A point that does not work: every defect clear, no action asserted (R222, R235). -/
def Part.pointOff (p : Part) (q : Nat) : Part :=
  let r := (List.range 14).foldl (fun (r : Part) d => r.setPd q d false) p
  let c := r.point q
  let r := r.setPoint q { availNear := c.availNear, availFar := c.availFar, raws := c.raws, lastSec := c.lastSec,
                          bins := c.bins, prev15 := c.prev15, prev24 := c.prev24 }
  ((r.voidConseq q .aAIS).voidConseq q .aLF).voidConseq q .aBDI

/-- aSSF, aTSF and the conditions of one enabled point. -/
def Part.evalPoint (p : Part) (q : Nat) : Part :=
  if !p.pointLive q then p.pointOff q
  else
    let r := p.setPd q 12 (p.ssfOf q)
    let r := r.setPd q 13 (r.tsfOf q)
    ((r.watchConseq q .aAIS).watchConseq q .aLF).watchConseq q .aBDI

/-- Every enabled point, twice: a second-stage LO point may stand before its server (R229). -/
def Part.evalPoints (p : Part) : Part :=
  let r := p.pointsOn.foldl Part.evalPoint p
  p.pointsOn.foldl Part.evalPoint r

/-- CONSEQUENT_ACTION_APPLY (R232): function 1 in hardware mode applies the condition. -/
def consequentActionApply (q : Fin 2048) (a : ConseqAction) (p : Part) : Part :=
  if p.steered 1 (q + a.code * 2 ^ 13) then p
  else applyConseq q a.code (flag p.pm.cond (q * 4 + a.code)).toNat p

/-! ### Overhead of one frame (R223 to R228) -/

/-- The bytes TTI_MODE selects (R225). -/
def ttiBytes (mode : Nat) (tti : List Byte) : List Byte :=
  match mode with
  | 1 => tti.take 16
  | 2 => (tti.drop 16).take 16
  | 3 => tti.take 32
  | _ => tti.take 64

/-- A TTI multiframe that ends: accepted in its third equal arrival (R224). -/
def Part.ttiStep (p : Part) (q : Nat) (tti : List Byte) : Part :=
  let c := p.point q
  let n := if c.ttiLast = tti then c.ttiRun + 1 else 1
  let r := p.setPoint q { c with ttiLast := tti, ttiRun := n }
  if n < 3 || c.tti = some tti then r
  else (r.setPoint q { r.point q with tti := some tti }).setChg false q

/-- STAT accepted in its third equal frame (R228). -/
def PointSt.statStep (c : PointSt) (s : BitVec 3) : PointSt :=
  let n := if c.statLast = s then c.statRun + 1 else 1
  { c with statLast := s, statRun := n, stat := if 3 ≤ n then some s else c.stat }

/-- PT accepted in its third equal multiframe (R228). -/
def PointSt.ptStep (c : PointSt) (b : Byte) : PointSt :=
  let n := if c.ptLast = b then c.ptRun + 1 else 1
  { c with ptLast := b, ptRun := n, pt := if 3 ≤ n then some b else c.pt }

/-- APS/PCC of a level accepted in its third equal occurrence (R226). -/
def Part.apsStep (p : Part) (q level : Nat) (w : Word) : Part :=
  let c := p.point q
  let a := SMap.get (fun _ => {}) c.aps level
  let n := if a.last = w then a.run + 1 else 1
  let acc := if 3 ≤ n then w else a.acc
  let r := p.setPoint q { c with aps := SMap.set (fun _ => {}) c.aps level { last := w, run := n, acc := acc } }
  if acc = a.acc then r else r.setChg true q

/-- One slot's MSI at a multiframe's end: accepted in its third equal multiframe (R228). -/
def MsiSt.step (c : MsiSt) (v : Option Nat) : MsiSt :=
  let n := if c.last = v then c.run + 1 else 1
  { last := v, run := n, acc := if 3 ≤ n then some v else c.acc }

/-- The MSI of a multiframe, slot by slot (R228). -/
def PointSt.msiStep (c : PointSt) (vs : List (Option Nat)) : PointSt :=
  { c with msi := (List.range vs.length).map fun i => (c.msi.getD i {}).step (vs.getD i none) }

/-- Per-slice runs of frames in which a test holds (R228). -/
def sliceRuns (old : List Nat) (vals : List Nat) (test : Nat → Bool) : List Nat :=
  (List.range vals.length).map fun i => if test (vals.getD i 0) then old.getD i 0 + 1 else 0

/-- The running counts of a point over one frame (R228, R236). -/
def PointSt.frameCounts (c : PointSt) (oh : LayerOh) : PointSt :=
  { c with
    bdiOn := if oh.bdi then c.bdiOn + 1 else 0, bdiOff := if oh.bdi then 0 else c.bdiOff + 1,
    iaeOn := if oh.iae then c.iaeOn + 1 else 0, iaeOff := if oh.iae then 0 else c.iaeOff + 1,
    biaeOn := sliceRuns c.biaeOn oh.bei (· == 11), biaeOff := sliceRuns c.biaeOff oh.bei (· != 11),
    bipLast := oh.bip,
    n := c.n + 1,
    e := if oh.bip.any (· != 0) then c.e + 1 else c.e,
    f := if oh.bei.any (fun v => decide (1 ≤ v ∧ v ≤ 8)) then c.f + 1 else c.f }

/-- A defect that sets on one condition and clears on another (R228). -/
def Part.latch (p : Part) (q d : Nat) (set clear : Bool) : Part :=
  if set then p.setPd q d true else if clear then p.setPd q d false else p

/-- A defect that follows the accepted STAT (R228). -/
def Part.statDefect (p : Part) (q d : Nat) (code : BitVec 3) : Part :=
  match (p.point q).stat with
  | some s => p.setPd q d (s == code)
  | none => p

/-- The expected PT of a point (R250). -/
def Part.expectedPt (p : Part) (q : Nat) : Option Byte :=
  match pointKind q with
  | .odu => some 0x22#8
  | .lo => p.tribPt (q - 48)
  | _ => none

/-- Does the point's OPU carry slots (R228)? -/
def Part.hasMsi (p : Part) (q : Nat) : Bool :=
  match pointKind q with
  | .odu => true
  | .lo => p.isCarrier (q - 48)
  | _ => false

/-- The tributaries whose slots the OPU of a point carries (R229, R250). -/
def Part.opuTribs (p : Part) (q : Nat) : List Nat := p.tribsOn.filter fun t => p.serverPoint t == q

/-- The stitched MSI of a point's OPU: the TPN of each slot an enabled tributary occupies (R250). -/
def Part.stitchedMsi (p : Part) (q : Nat) : List (Nat × Nat) :=
  (p.opuTribs q).flatMap fun t => (p.tribSlots t).map fun s => (s, p.tribTpn t)

/-- The slots in use whose accepted MSI differs from its stitched value (R228). -/
def Part.msiDiffers (p : Part) (q : Nat) : List Nat :=
  ((p.stitchedMsi q).filter fun e =>
    match ((p.point q).msi.getD e.1 {}).acc with
    | some v => v != some e.2
    | none => false).map (·.1)

/-- The defects of R228 at a frame's end, but for dLOFLOM and dDEG. -/
def Part.frameDefects (p : Part) (q : Nat) : Part :=
  let k := pointKind q
  let c := p.point q
  let mode := p.field (pointCfg q) 30 28
  let r := match c.tti with
    | some t => p.setPd q 0 (mode != 0 && crc32c (ttiBytes mode t) != p.reg (pointCfg q + 4))
    | none => if mode = 0 then p.setPd q 0 false else p
  let r := r.latch q 1 (decide (5 ≤ c.bdiOn)) (decide (5 ≤ c.bdiOff))
  let r := match k with
    | .sm => r.latch q 7 (decide (5 ≤ c.iaeOn)) (decide (5 ≤ c.iaeOff))
    | .tcm => r.statDefect q 7 0b010#3
    | _ => r
  let r := if k = .sm ∨ k = .tcm then
      r.latch q 8 (c.biaeOn.any fun n => decide (3 ≤ n)) (c.biaeOff.all fun n => decide (3 ≤ n))
    else r
  let r := if k = .sm then r
    else ((r.statDefect q 3 0b111#3).statDefect q 4 0b110#3).statDefect q 5 0b101#3
  let r := if k = .tcm then r.statDefect q 6 0b000#3 else r
  let r := match c.pt, r.expectedPt q with
    | some b, some e => r.setPd q 9 (b != e)
    | _, none => r.setPd q 9 false
    | none, _ => r
  let bad := if r.hasMsi q then r.msiDiffers q else []
  (r.setPoint q { r.point q with msiBad := bad }).setPd q 10 (!bad.isEmpty)

/-- The overhead of one frame at a point that works (R223 to R228). -/
def Part.pointFrame (p : Part) (q : Nat) (oh : LayerOh) : Part :=
  if !p.pointLive q then p
  else
    let k := pointKind q
    let r := match oh.tti with
      | some t => p.ttiStep q t
      | none => p
    let c := (r.point q).frameCounts oh
    let c := if k = .sm then c else c.statStep oh.stat
    let c := match k, oh.pt with
      | .odu, some b => c.ptStep b
      | .lo, some b => c.ptStep b
      | _, _ => c
    let c := match oh.msi with
      | some vs => c.msiStep vs
      | none => c
    let r := r.setPoint q c
    let r := if k = .odu ∨ k = .lo then r.apsStep q oh.apsLevel oh.aps else r
    r.frameDefects q

/-- The overhead of one OTUCn frame of a port in IF: its SM and ODUCn points (R221, R223). -/
def Part.portFrame (p : Part) (q : Nat) (f : OtucFrame) : Part :=
  if p.portState q = 2 then (p.pointFrame q f.sm).pointFrame (24 + q) f.odu else p

/-- Frame state of a LO ODU in its slots: lost after 5 frames without FAS, found after 2 with it and MFAS
continuing (R228). -/
def PointSt.loFrame (c : PointSt) (fas : Bool) (mfas : Byte) : PointSt :=
  if c.outOfFrame then
    if fas then
      let n := if c.fasRun = 0 ∨ mfas = c.mfas + 1#8 then c.fasRun + 1 else 1
      { c with fasRun := n, mfas := mfas, outOfFrame := !decide (2 ≤ n), fasMiss := 0 }
    else { c with fasRun := 0 }
  else if fas then { c with fasMiss := 0, mfas := mfas }
  else
    let n := c.fasMiss + 1
    { c with fasMiss := n, mfas := c.mfas + 1#8, outOfFrame := decide (5 ≤ n),
             fasRun := 0 }

/-- A TCM point of a tributary's level, where one is enabled. -/
def Part.tcmPoint (p : Part) (t level : Nat) : Option Nat :=
  p.pointsOn.find? fun q => pointKind q == .tcm && p.pointTrib q == t && p.tcmLevel q == level

/-- The overhead part of LO_ODU_FRAME_RX (R223, R228). -/
def Part.loFrame (p : Part) (t : Nat) (f : LoFrame) : Part :=
  let q := 48 + t
  let r := p.setPoint q ((p.point q).loFrame f.fas f.mfas)
  if (r.point q).outOfFrame then r
  else f.tcm.foldl (fun (r : Part) l =>
    match r.tcmPoint t l.1 with
    | some k => r.pointFrame k l.2
    | none => r) (r.pointFrame q f.oh)

/-- DLOFLOM_TIMER (R228): 3 ms without a break in or out of frame. -/
def dloflomTimer (t : Fin 1024) (p : Part) : Part :=
  let q := 48 + t.val
  if p.pointLive q then p.setPd q 11 (p.point q).outOfFrame else p

/-! ### One-second counts and dDEG (R236, R241, R244) -/

/-- The degrade profile of a point (R248). -/
def Part.degProfile (p : Part) (q : Nat) : Nat := 0x70004 + 4 * (p.bit (pointCfg q) 25).toNat

/-- dDEG at a second's end (R228, R236). -/
def Part.degStep (p : Part) (q : Nat) : Part :=
  let c := p.point q
  let thr := p.field (p.degProfile q) 23 0
  let m := p.field (p.degProfile q) 27 24
  if thr = 0 then (p.setPoint q { c with degBad := 0, degGood := 0 }).setPd q 2 false
  else if c.tsf then p
  else if thr ≤ c.e then
    let r := p.setPoint q { c with degBad := c.degBad + 1, degGood := 0 }
    if m ≤ c.degBad + 1 then r.setPd q 2 true else r
  else
    let r := p.setPoint q { c with degBad := 0, degGood := c.degGood + 1 }
    if m ≤ c.degGood + 1 then r.setPd q 2 false else r

/-- The running second of a point starts anew (R236). -/
def Part.newSecond (p : Part) (q : Nat) : Part :=
  p.setPoint q { p.point q with n := 0, e := 0, f := 0, tsf := p.pd q 13, bdi := p.pd q 1 }

/-- A point's second closes: its counts join those that wait for classification; a ninth is lost (R236,
R241). -/
def Part.pointSecond (p : Part) (sec q : Nat) : Part :=
  let r := p.degStep q
  let c := r.point q
  let lost := decide (8 ≤ c.raws.length)
  let raw : RawSec := { sec := sec, n := c.n, e := c.e, f := c.f, tsf := c.tsf, bdi := c.bdi }
  let seen := (r.reg (pointDef q)).setWidth 16
  let r := (r.setPoint q { c with raws := if lost then c.raws else c.raws ++ [raw], lastSec := some raw }).newSecond q
  r.updBins q sec fun b => { b with seconds := if lost then b.seconds else b.seconds + 1,
                                    suspect := b.suspect || lost, seen := b.seen ||| seen }

/-- PM_SECOND_END (R236, R241, R244): each second is counted at most once; seconds jumped over are
lost. -/
def pmSecondEnd (sec : Nat) (p : Part) : Part :=
  if !p.time.running || p.md.cur == .freeze then p
  else
    let live := p.pointsOn.filter p.pointLive
    let go : Part := live.foldl (fun (r : Part) q => r.pointSecond sec q) p
    let short := live.any fun q => decide (8 ≤ (p.point q).raws.length)
    let go := if short then go.addSat 0x70300 1 else go
    match p.pm.last with
    | none => { go with pm := { go.pm with last := some sec, toClose := some (p.binNo sec) } }
    | some l =>
      if sec ≤ l then live.foldl Part.newSecond p
      else
        let jumped := sec - l - 1
        let go := if jumped = 0 then go
          else live.foldl (fun (r : Part) q => (r.updBins q l Bin.mark).updBins q sec Bin.mark)
            (go.addSat 0x70300 jumped)
        { go with pm := { go.pm with last := some sec } }

/-- Does a bin lie within the 15-minute bins `lo` to `hi`, or hold one of them (R242)? -/
def keyWithin (lo hi key : Nat) : Bool :=
  if key % 97 = 96 then decide (lo / 96 ≤ key / 97) && decide (key / 97 ≤ hi / 96)
  else decide (lo ≤ key / 97 * 96 + key % 97) && decide (key / 97 * 96 + key % 97 ≤ hi)

/-- The open bins that a step crosses are marked. -/
def PointSt.markWithin (c : PointSt) (lo hi : Nat) : PointSt :=
  { c with bins := c.bins.map fun e => (e.1, if keyWithin lo hi e.1 && !e.2.closed then e.2.mark else e.2) }

/-- The time scale steps: every bin with a second that it steps across is SUSPECT (R244). -/
def Part.pmStep (p : Part) (old new : Nat) : Part :=
  let so := old / 65536 / 1000000000
  let sn := new / 65536 / 1000000000
  let a := p.binNo so
  let b := p.binNo sn
  (p.pointsOn.filter p.pointLive).foldl (fun (r : Part) q =>
    let r := (r.updBins q so Bin.mark).updBins q sn Bin.mark
    r.setPoint q ((r.point q).markWithin (min a b) (max a b))) p

/-! ### Classification and availability (R237 to R240) -/

/-- The class of a second: 2 on a failure or at 0.15 of its blocks, 1 on an errored block (R237). A second without
blocks meets the bound at 0 (log 12). -/
def classOf (fail : Bool) (x n : Nat) : Nat :=
  if fail || decide (3 * n ≤ 20 * x) then 2 else if x = 0 then 0 else 1

/-- One direction of a bin changed. -/
def Bin.dir (b : Bin) (far : Bool) (f : BinDir → BinDir) : Bin :=
  if far then { b with far := f b.far } else { b with near := f b.near }

/-- Counts of a second's bins changed. -/
def Part.addBins (p : Part) (q : Nat) (far : Bool) (sec : Nat) (f : BinDir → BinDir) : Part :=
  p.updBins q sec fun b => b.dir far f

/-- The availability state of a direction. -/
def Part.avail (p : Part) (q : Nat) (far : Bool) : Avail :=
  if far then (p.point q).availFar else (p.point q).availNear

/-- The availability state of a direction replaced; NE_UAS or FE_UAS follows (R239, R248). -/
def Part.setAvail (p : Part) (q : Nat) (far : Bool) (a : Avail) : Part :=
  let c := p.point q
  (p.setPoint q (if far then { c with availFar := a } else { c with availNear := a })).setPd q
    (if far then 15 else 14) a.unavail

/-- The availability step of one classified second (R239): `cls` its class, `x` its errored blocks. -/
def Part.availStep (p : Part) (q : Nat) (far : Bool) (sec cls x : Nat) : Part :=
  let a := p.avail q far
  let add := fun (r : Part) s (f : BinDir → BinDir) => r.addBins q far s f
  if !a.unavail then
    if cls = 2 then
      if a.run.length ≤ 8 then
        (add p sec fun b => { b with es := b.es + 1, ses := b.ses + 1 }).setAvail q far
          { a with run := (sec, 1, 0) :: a.run }
      else
        let r := a.run.foldl (fun r e =>
          add r e.1 fun b => { b with es := b.es - 1, ses := b.ses - 1, uas := b.uas + 1 }) p
        (add r sec fun b => { b with uas := b.uas + 1 }).setAvail q far { unavail := true, run := [] }
    else
      let r := if cls = 1 then add p sec fun b => { b with es := b.es + 1, bbe := b.bbe + x } else p
      r.setAvail q far { a with run := [] }
  else if cls = 2 then
    (add p sec fun b => { b with uas := b.uas + 1 }).setAvail q far { a with run := [] }
  else
    let mine := if cls = 1 then (sec, 1, x) else (sec, 0, 0)
    if a.run.length ≤ 8 then
      (add p sec fun b => { b with uas := b.uas + 1 }).setAvail q far { a with run := mine :: a.run }
    else
      let r := a.run.foldl (fun r e => add r e.1 fun b => { b with uas := b.uas - 1 }) p
      let r := (mine :: a.run).foldl (fun r (e : Nat × Nat × Nat) =>
        add r e.1 fun b => { b with es := b.es + e.2.1, bbe := b.bbe + e.2.2 }) r
      r.setAvail q far { unavail := false, run := [] }

/-- Is a raw second classified in a direction? -/
def RawSec.done (r : RawSec) (far : Bool) : Bool := if far then r.farDone else r.nearDone

/-- The first raw second of a direction that waits. -/
def Part.rawFor (p : Part) (q : Nat) (far : Bool) : Option RawSec :=
  (p.point q).raws.find? fun r => !r.done far

/-- A raw second is done in a direction; done in both, it leaves. -/
def Part.rawDone (p : Part) (q : Nat) (far : Bool) (sec : Nat) : Part :=
  let c := p.point q
  let l := c.raws.map fun (r : RawSec) =>
    if r.sec = sec then (if far then { r with farDone := true } else { r with nearDone := true }) else r
  p.setPoint q { c with raws := l.filter fun r => !(r.nearDone && r.farDone) }

/-- The instance of function 2 (R240). -/
def classInst (q : Nat) (far : Bool) : Nat := q + far.toNat * 2 ^ 15

/-- A class is settled for the second that waits in a direction; `host` where an answer chose it (R240). -/
def applyClass (q : Nat) (far host : Bool) (v : Nat) (p : Part) : Part :=
  match p.rawFor q far with
  | some r =>
    let s := (p.rawDone q far r.sec).availStep q far r.sec v (if far then r.f else r.e)
    if host then (s.updBins q r.sec fun b => { b with host := true }).addSat 0x70304 1 else s
  | none => p

/-- One direction of PM_CLASSIFY: the oldest second that waits, unless its decision is open; the far end
is held while the near end had aTSF (R237, R240). -/
def Part.classifyDir (p : Part) (q : Nat) (far : Bool) : Part :=
  match p.rawFor q far with
  | none => p
  | some r =>
    if (p.openFor 2 (classInst q far)).isSome then p
    else if far && r.tsf then p.rawDone q far r.sec
    else
      let v := classOf (if far then r.bdi else r.tsf) (if far then r.f else r.e) r.n
      if 0 < v ∧ p.bit (pointCfg q) 24 = true ∧ p.steered 2 (classInst q far) = true then
        p.offer 2 (classInst q far) v 7#32 (applyClass q far false)
      else applyClass q far false v p

/-- PM_CLASSIFY (R237 to R241): stalled in RENEW and FREEZE. -/
def pmClassify (q : Fin 2048) (p : Part) : Part :=
  if p.coresAway || p.md.cur == .freeze then p else (p.classifyDir q false).classifyDir q true

/-! ### Closure, history and snapshots (R243, R246 to R248) -/

/-- A count as a record word. -/
def binWord (i : Int) : Word := BitVec.ofInt 32 i

/-- START_S of a bin (R247). -/
def Part.binStart (p : Part) (key : Nat) : Word :=
  BitVec.ofInt 32 ((key / 97 * 86400 + key % 97 % 96 * 900 + p.binOffset : Nat) - 86400 : Int)

/-- The record of a bin (R247). -/
def Part.binRecord (p : Part) (q key : Nat) (b : Bin) : List Word :=
  let day := decide (key % 97 = 96)
  let nb := BitVec.ofInt 64 b.near.bbe
  let fb := BitVec.ofInt 64 b.far.bbe
  let ws : List Word :=
    [BitVec.ofNat 32 (b.closed.toNat * 2 ^ 31 + (!b.closed).toNat * 2 ^ 30 + b.suspect.toNat * 2 ^ 29
        + b.host.toNat * 2 ^ 28 + key % 97 * 2 ^ 16 + day.toNat * 2 ^ 15 + q),
      BitVec.ofInt 32 ((key / 97 : Nat) - 1 : Int), p.binStart key, BitVec.ofNat 32 b.seconds,
      binWord b.near.es, binWord b.near.ses, binWord b.near.uas,
      binWord b.far.es, binWord b.far.ses, binWord b.far.uas,
      loWord nb, hiWord nb, loWord fb, hiWord fb, b.seen.setWidth 32]
  ws ++ [crc32c (bytesOfWords ws)]

/-- DPA of a history record (R246). -/
def historyDpa (key q : Nat) : Nat :=
  let d := (((key / 97 : Nat) - 1 : Int) % 30).toNat
  0x400000000 + 64 * (2048 * (97 * d + key % 97) + q)

/-- One point's bin closes: its values freeze (R243, R244). -/
def Part.closeOne (p : Part) (key q : Nat) : Part :=
  let c := p.point q
  let b := SMap.get (fun _ => {}) c.bins key
  let day := decide (key % 97 = 96)
  let b' : Bin := { b with closed := true,
                           suspect := b.suspect || decide (b.seconds < if day then 86400 else 900) }
  p.setPoint q { c with bins := SMap.set (fun _ => {}) c.bins key b',
                        prev15 := if day then c.prev15 else some (key, b'),
                        prev24 := if day then some (key, b') else c.prev24 }

/-- The points that are not enabled any more and hold the bin `key`. -/
def Part.pointsLeft (p : Part) (key : Nat) : List Nat :=
  (p.points.filter fun e => !p.pointsOn.contains e.1 && e.2.bins.any fun b => b.1 == key).map (·.1)

/-- Every bin closes, of points that were disabled within it too, and every enabled point's has its history record under
HIST_EN (R243, R246). -/
def Part.closeKey (p : Part) (key : Nat) : Part :=
  let r := (p.pointsOn ++ p.pointsLeft key).foldl (fun (r : Part) q => r.closeOne key q) p
  if r.bit 0x70000 31 && r.memUp then
    (r.pointsOn.foldl (fun (r : Part) q =>
      let ws := r.binRecord q key (SMap.get (fun _ => {}) (r.point q).bins key)
      r.dramWrite (historyDpa key q) (bytesOfWords ws)) r).setReg64 0x70020
      (joinWords (BitVec.ofNat 32 (2 ^ 31 + key % 97)) (BitVec.ofInt 32 ((key / 97 : Nat) - 1 : Int)))
  else r

/-- The on-die bins of a closed day go (R243). -/
def Part.dropDay (p : Part) (dd : Nat) : Part :=
  { p with points := p.points.map fun e =>
      (e.1, { e.2 with bins := e.2.bins.filter fun b => b.1 / 97 != dd }) }

/-- The bin that closes after bin `n`: the next one, or, where the time scale has stepped past it, the first
later one that counts seconds (R243, R244). -/
def Part.nextBin (p : Part) (n : Nat) : Nat :=
  let cur := p.binNo p.nowSec
  if cur ≤ n + 1 then n + 1
  else (p.points.flatMap fun e => e.2.bins.filterMap fun b =>
    let m := b.1 / 97 * 96 + b.1 % 97
    if decide (b.1 % 97 < 96) && !b.2.closed && decide (n < m) then some m else none).foldl min cur

/-- PM_BIN_CLOSE (R243): the oldest 15-minute bin closes, and its day's where no later bin of the day does. -/
def pmBinClose (p : Part) : Part :=
  match p.pm.toClose with
  | none => p
  | some n =>
    if p.md.cur = .freeze ∨ p.time.running = false then p
    else
      let m := p.nextBin n
      let r := p.closeKey (binKey n)
      let r := if m / 96 = n / 96 then r else (r.closeKey (dayKey n)).dropDay (n / 96)
      let r : Part := { r with pm := { r.pm with toClose := some m } }
      (r.addWrap 0x70028 1).setEvent 0x7002C 0 7 true

/-- The bin a SNAP_SEL names, with its key (R248). -/
def Part.snapBin (p : Part) (which bin q : Nat) : Option (Nat × Bin) :=
  let c := p.point q
  let n := p.binNo p.nowSec
  let look := fun k => (c.bins.find? fun e => e.1 == k)
  let prev := fun k (kept : Option (Nat × Bin)) =>
    match look k with
    | some e => some e
    | none => kept.filter fun e => e.1 == k
  match which with
  | 0 => look (binKey n)
  | 1 => prev (binKey (n - 1)) c.prev15
  | 2 => look (dayKey n)
  | 3 => prev (dayKey (n - 96)) c.prev24
  | 4 =>
    let dd := (p.pm.toClose.getD n) / 96
    if bin < 96 then (look (dd * 97 + bin)).filter fun e => e.2.closed else none
  | _ => none

/-- Words stored at consecutive registers. -/
def Part.setWords (p : Part) (o : Nat) : List Word → Part
  | [] => p
  | w :: r => Part.setWords (p.setReg o w) (o + 4) r

/-- A write of SNAP_SEL captures the selection (R248). A bin without a counted second captures zeros. -/
def snapSelEffect (w : Word) (p : Part) : Part :=
  let q := fieldOf w 10 0
  let c := if fieldOf w 26 24 < 5 then p.point q else {}
  let rec_ := match p.snapBin (fieldOf w 26 24) (fieldOf w 22 16) q with
    | some e => p.binRecord q e.1 e.2
    | none => List.replicate 16 0#32
  let tti := (c.tti.getD []) ++ List.replicate 64 0#8
  let words := (List.range 16).map fun k =>
    tti.getD (4 * k + 3) 0#8 ++ tti.getD (4 * k + 2) 0#8 ++ tti.getD (4 * k + 1) 0#8 ++ tti.getD (4 * k) 0#8
  let stat := BitVec.ofNat 32 ((c.stat.getD 0#3).toNat + (c.pt.getD 0#8).toNat * 256)
  let aps := (List.range 8).map fun l => (SMap.get (fun _ => {}) c.aps l).acc
  ((((p.setReg 0x70030 w).setWords 0x70040 rec_).setWords 0x70080 words).setReg 0x700C0 stat).setWords
    0x700D0 aps

/-! ### APS/PCC channels (R226, R248) -/

/-- The bytes of an enabled channel that go out under its word 0 (R226). -/
def Part.apsBytes (p : Part) (k : Nat) : Option Word :=
  match SMap.get (fun _ => none) p.pm.apsOut k with
  | some e => if bitAt e.1 31 && e.1 == p.reg (0x70100 + 8 * k) then some e.2 else none
  | none => none

/-- The bytes of a channel go out as long as its word 0 names the point and level they were inserted at (R226). -/
def Part.apsRenamed (p : Part) (k : Nat) : Part :=
  match SMap.get (fun _ => none) p.pm.apsOut k with
  | some _ =>
    if (p.apsBytes k).isSome then p
    else { p with pm := { p.pm with apsOut := SMap.set (fun _ => none) p.pm.apsOut k none } }
  | none => p

/-- A write of APS_TX[k]: a point that is no ODUCn or LO point is ignored and recorded (R248). -/
def apsTxEffect (k : Nat) (req : Req) (addr : BitVec 28) (w0 w1 : Word) (p : Part) : Part :=
  match pointKind (fieldOf w0 10 0) with
  | .odu | .lo => ((p.setReg (0x70100 + 8 * k) w0).setReg (0x70104 + 8 * k) w1).apsRenamed k
  | _ => p.accessFault 5 req addr

/-- APS_TX_INSERT (R226): an enabled channel's bytes go out; where a higher-numbered enabled channel names the same
point and level, they stand behind that channel's. -/
def apsTxInsert (k : Fin 64) (p : Part) : Part :=
  let w := fun j => p.reg (0x70100 + 8 * j)
  let same := fun j => bitAt (w j) 31 && fieldOf (w j) 10 0 == fieldOf (w k) 10 0 &&
    fieldOf (w j) 18 16 == fieldOf (w k) 18 16
  let b := p.reg (0x70104 + 8 * k)
  if !bitAt (w k) 31 || !p.runMode.carries then p
  else
    let q : Part := { p with pm := { p.pm with
      apsOut := SMap.set (fun _ => none) p.pm.apsOut k (some (w k, b)) } }
    if (List.range 64).any (fun j => decide (k.val < j) && same j && (q.apsBytes j).isSome) then q
    else q.emit (.words "APS" (fieldOf (w k) 10 0) [BitVec.ofNat 32 (fieldOf (w k) 18 16), b])

/-! ### Stitches and modes (R222, R224, R238, R244, R245) -/

/-- The rules of R222, R224, R225, R238, R240 and R248 on a resulting set. `tti` says that the basted set
includes TTI_TX. -/
def validateOverhead (q : Part) (tti : Bool) : List StitchFault :=
  let on := q.pointsOn
  q.pointsListed.flatMap (fun k =>
    let tcm := pointKind k == .tcm
    failIf (decide (4 < q.field (pointCfg k) 30 28) ||
        (q.field (pointCfg k) 23 22 != 0 && (pointKind k == .sm || (tcm && !q.tcmTerm k))) ||
        (tcm && q.bit (pointCfg k) 31 && (!q.tribOn (q.pointTrib k) || q.tcmLevel k == 0 ||
          decide (6 < q.tcmLevel k) || on.any fun j => j != k && pointKind j == .tcm &&
            q.pointTrib j == q.pointTrib k && q.tcmLevel j == q.tcmLevel k)))
      (paramFail (pointCfg k))) ++
  failIf (decide (95 < q.field 0x70000 22 16) || decide (899 < q.field 0x70000 9 0)) (paramFail 0x70000) ++
  ([0x70004, 0x70008].flatMap fun o =>
    failIf (decide (q.field o 27 24 < 2) || decide (10 < q.field o 27 24)) (paramFail o)) ++
  failIf (tti && !q.inScratch (64 * q.field 0x70010 30 0) 131072) (paramFail 0x70010)

/-- The TTI table is copied during validation (R224): 131,072 bytes of host scratch from the base of TTI_TX. -/
def Part.ttiTable (p : Part) (dpa64 : Nat) : Memory :=
  let a := 64 * dpa64
  (p.dram.filter fun e => decide (a ≤ e.1) && decide (e.1 < a + 131072)).map fun e => (e.1 - a, e.2)

/-- The point side of a stitch (R222, R228, R233, R244, R248). -/
def Part.overheadStitched (p old : Part) : Part :=
  let listed := (old.pointsListed ++ p.pointsListed).eraseDups
  let r := listed.foldl (fun (r : Part) q =>
    let changed := (old.reg (pointCfg q) ^^^ r.reg (pointCfg q)) &&& ~~~(1#32 <<< 26) != 0#32 ||
      old.reg (pointCfg q + 4) != r.reg (pointCfg q + 4)
    let r := if changed && r.time.running && (r.pointLive q || old.pointLive q) then r.updBins q r.nowSec Bin.mark
      else r
    let r := if old.pointLive q && !r.pointLive q then r.pointOff q else r
    if old.reg (r.degProfile q) != r.reg (r.degProfile q) then
      r.setPoint q { r.point q with degBad := 0, degGood := 0 }
    else r) p
  let r := (tornTribs old p).foldl (fun (r : Part) t =>
    let c := r.point (48 + t)
    r.setPoint (48 + t) { c with outOfFrame := true, fasRun := 0, fasMiss := 0 }) r
  r.evalPoints

/-- Every point starts again AVAILABLE with run 0 at an entry into INERT (R239); the seconds that wait are
gone with the slice islands' state (R553). -/
def Part.pmInert (p : Part) : Part :=
  { p with
    points := p.points.map fun e => (e.1, { e.2 with availNear := {}, availFar := {}, raws := [] }) }

end Sys2Proof.Machine
end

