-- ==== Sys2Proof/Machine/Notes.lean ====
section
/-! DEFINITION. Domain notes: layout, MAC, links, next-hop routing, outbound queues and GCC0 framing
(R227, R430 to R435). -/

namespace Sys2Proof.Machine

/-! ### Layout (R432) -/

/-- The code of a note kind (R432). -/
def NoteKind.code : NoteKind → Nat
  | .general => 1 | .seam => 2 | .mapCap => 3 | .fetchReq => 4 | .fetchResp => 5 | .other => 0xFF

/-- The four header words of a note, in network order (R432). -/
def Note.header (n : Note) : List Word :=
  [BitVec.ofNat 32 (n.version.toNat * 2 ^ 24 + n.kind.code * 2 ^ 16 + n.bcast.toNat * 2 ^ 15
      + n.oneHop.toNat * 2 ^ 14 + n.auth.toNat * 2 ^ 13 + n.keyId.val * 2 ^ 8 + n.ttl % 256),
    n.dst ++ n.src, n.serial, BitVec.ofNat 32 (n.body.length * 2 ^ 16)]

/-- The MAC's four words. -/
def macWords (m : BitVec 128) : List Word :=
  [m.extractLsb' 96 32, m.extractLsb' 64 32, m.extractLsb' 32 32, m.extractLsb' 0 32]

/-- Bytes of network-order words. -/
def netWords (ws : List Word) : List Byte := ws.flatMap netBytes

/-- The whole words of bytes in network order (R8). -/
def netWordsOf : List Byte → List Word
  | a :: b :: c :: d :: r => (a ++ b ++ c ++ d : Word) :: netWordsOf r
  | _ => []

/-- A whole note in bytes: header, body, MAC (R432). -/
def Note.bytes (n : Note) : List Byte := netWords n.header ++ n.body ++ netWords (macWords n.mac)

/-- A note's length in bytes. -/
def Note.len (n : Note) : Nat := 32 + n.body.length

/-- The bytes the MAC covers: the header with byte 3 as 0, and the body (R434). -/
def Note.macInput (n : Note) : List Byte := netWords { n with ttl := 0 }.header ++ n.body

/-- The kind a code names (R432). -/
def noteKindOf : Nat → NoteKind
  | 1 => .general | 2 => .seam | 3 => .mapCap | 4 => .fetchReq | 5 => .fetchResp | _ => .other

/-- The note that bytes begin with, and the bytes behind it; none where they end before it does (R432). -/
def noteOfBytes (bs : List Byte) : Option (Note × List Byte) :=
  let w := fun i => (netWordsOf (bs.take 16)).getD i 0#32
  let len := fieldOf (w 3) 31 16
  if bs.length < 32 + len ∨ 1024 < len then none
  else
    let m := netWordsOf ((bs.drop (16 + len)).take 16)
    some ({ version := (w 0).extractLsb' 24 8, kind := noteKindOf (fieldOf (w 0) 23 16), bcast := bitAt (w 0) 15,
            oneHop := bitAt (w 0) 14, auth := bitAt (w 0) 13, keyId := Fin.ofNat 4 (fieldOf (w 0) 9 8),
            ttl := fieldOf (w 0) 7 0, dst := (w 1).extractLsb' 16 16, src := (w 1).extractLsb' 0 16,
            serial := w 2, body := (bs.drop 16).take len,
            mac := m.getD 0 0#32 ++ m.getD 1 0#32 ++ m.getD 2 0#32 ++ m.getD 3 0#32 },
      bs.drop (32 + len))

/-- The whole notes that fill a NOTE frame, at most `fuel` of them (R433). -/
def notesOfBytes : Nat → List Byte → List Note
  | 0, _ => []
  | k + 1, bs => match noteOfBytes bs with
    | some r => r.1 :: notesOfBytes k r.2
    | none => []

/-- The domain key of a KEY_ID, where its slot holds a domain key (R434, R499). -/
def Part.domainKey (p : Part) (id : Nat) : Option (BitVec 256) :=
  let k := SMap.get (fun _ => {}) p.journal.keys (p.field 0xE004 23 16 + id)
  if k.kind = 2 then some k.key else none

/-! ### Links (R431) -/

/-- The code of a link in entry words and queues: 0 to 23 line ports, 32 to 39 ring positions, 63 the part
itself (R436). -/
def NoteLink.code : NoteLink → Nat
  | .port q => q.val
  | .ring r => 32 + r.val
  | .loc => 63

/-- The link a code names. -/
def linkOf (c : Nat) : NoteLink :=
  if h : c < 24 then .port ⟨c, h⟩
  else if h : 32 ≤ c ∧ c < 40 then .ring ⟨c - 32, by omega⟩
  else .loc

/-- Is a link down (R431)? -/
def Part.linkDown (p : Part) (c : Nat) : Bool :=
  if c < 24 then !p.portOn c || !p.bit (0x79000 + 32 * c) 31 || p.lineDefect c 0 || p.lineDefect c 1
  else if 32 ≤ c ∧ c < 40 then !p.domain.ringUp.getLsbD (c - 32)
  else c != 63

/-- The control selvedge that the notes of a link pass through: the slice that holds slice 1 of a line port's OTUCn, or
RING (R449). -/
def Part.noteSelv (p : Part) (c : Nat) : Nat := if c < 24 then p.portFirst c / 2 else 28

/-- Every link of the domain (R431). -/
def allLinks : List Nat := List.range 24 ++ (List.range 8).map (32 + ·)

/-! ### Queues and GCC0 (R227, R433, R435) -/

/-- The outbound queue of a link. -/
def Part.noteQueue (p : Part) (c : Nat) : List Note := SMap.get (fun _ => []) p.domain.queues c

/-- The outbound queue of a link replaced. -/
def Part.setNoteQueue (p : Part) (c : Nat) (l : List Note) : Part :=
  { p with domain := { p.domain with queues := SMap.set (fun _ => []) p.domain.queues c l } }

/-- A drop with its cause: NO_ROUTE 0 to NOTE_BAD 7 of DOMAIN's counters (R438, R440). -/
def Part.dropNote (p : Part) (k : Nat) : Part := (p.addSat (0xE020 + 4 * k) 1).count 0xA000 4 1

/-- A note joins a link's queue of 64, or is dropped (R435). The Bool says that it joined. -/
def Part.queueNote (p : Part) (c : Nat) (n : Note) : Part × Bool :=
  let l := p.noteQueue c
  if 64 ≤ l.length then (p.dropNote 4, false) else (p.setNoteQueue c (l ++ [n]), true)

/-- A drop whose cause has no register: 0x42 a note at the seam unit that R297 discards, 0x43 a note beyond the 256 of
RENEW, 0x44 a note for a unit that FREEZE stops, 0x45 a note that found its selvedge shut (R70, R72, R438; log 13). -/
def Part.dropCause (p : Part) (code : Nat) : Part := (p.count 0xA000 4 1).count 0xA000 code 1

/-- What RENEW puts off waits, 256 at most (R70). -/
def Part.postpone (p : Part) (h : HeldNote) : Part :=
  if 256 ≤ p.domain.waiting.length then p.dropCause 0x43
  else { p with domain := { p.domain with waiting := p.domain.waiting ++ [h] } }

/-- The escapes of GCC0: 0x7E and 0x7D become 0x7D and the byte XOR 0x20 (R433). -/
def gccEscape (bs : List Byte) : List Byte :=
  bs.flatMap fun b => if b = 0x7E#8 ∨ b = 0x7D#8 then [0x7D#8, b ^^^ 0x20#8] else [b]

/-- Bytes with their escapes undone; none where they end in an escape (R433). -/
def gccUnescape : List Byte → Option (List Byte)
  | [] => some []
  | [b] => if b = 0x7D#8 then none else some [b]
  | a :: b :: r =>
    if a = 0x7D#8 then (gccUnescape r).map ((b ^^^ 0x20#8) :: ·) else (gccUnescape (b :: r)).map (a :: ·)

/-- A note framed for GCC0: flags, escapes and its CRC-32C (R433). -/
def gccBytes (n : Note) : List Byte :=
  let bs := n.bytes
  [0x7E#8] ++ gccEscape (bs ++ netBytes (crc32c bs)) ++ [0x7E#8]

/-- The note between two flags: escapes undone, and its CRC-32C right (R433). -/
def gccNote (bs : List Byte) : Option Note :=
  match gccUnescape bs with
  | some l =>
    let body := l.take (l.length - 4)
    if l.length < 36 ∨ netWord (l.drop (l.length - 4)) ≠ crc32c body then none
    else match noteOfBytes body with
      | some (n, []) => some n
      | _ => none
  | none => none

/-- The bytes of a link's first note that are still to go. -/
def Part.gccLeft (p : Part) (q : Nat) : List Byte := SMap.get (fun _ => []) p.domain.left q

/-- The two bytes of GCC0 that a line port sends in one OTUCn frame, flags where no note goes (R227, R433). A note
begins only through an open selvedge (R30), and leaves its queue as its last byte goes. -/
def Part.gccFrame (p : Part) (q : Nat) : Part × List Byte :=
  let idle := [0x7E#8, 0x7E#8]
  match p.noteQueue q with
  | [] => (p, idle)
  | n :: r =>
    let old := p.gccLeft q
    if !p.portOn q || !p.bit (0x79000 + 32 * q) 31 || !p.runMode.carries || !p.selvOpen (p.noteSelv q) then (p, idle)
    else
      let s := if old.isEmpty then p.selvRequest (p.noteSelv q) else p
      let all := if old.isEmpty then gccBytes n else old
      let left := all.drop 2
      let s : Part := { s with domain := { s.domain with left := SMap.set (fun _ => []) s.domain.left q left } }
      let two := (all.take 2 ++ idle).take 2
      if left.isEmpty then
        ((((s.setNoteQueue q r).addSat (0x79008 + 32 * q) 1).snoop 0x23 q n.bytes).emit (.note (linkOf q) n), two)
      else (s, two)

/-! ### Routing (R430, R431, R435) -/

/-- The next-hop word of a node. -/
def Part.route (p : Part) (node : Nat) : Word := SMap.get (fun _ => 0#32) p.domain.routes node

/-- The active link of a next-hop word: the alternate where USING_ALT is set (R430). -/
def activeLink (e : Word) : Nat :=
  if bitAt e 29 then fieldOf e 25 24 * 32 + fieldOf e 20 16 else fieldOf e 9 8 * 32 + fieldOf e 4 0

/-- A unicast note for another node: TTL, route, link and queue in turn (R435). -/
def Part.forward (p : Part) (n : Note) : Part × Bool :=
  if n.ttl ≤ 1 then (p.dropNote 2, false)
  else
    let e := p.route n.dst.toNat
    let l := activeLink e
    if !bitAt e 31 then (p.dropNote 0, false)
    else if p.linkDown l || decide (40 ≤ l) then (p.dropNote 1, false)
    else
      let r := p.queueNote l { n with ttl := n.ttl - 1 }
      if r.2 then (r.1.count 0xA000 3 1, true) else r

/-- A broadcast note leaves on every up link but the one it came on (R435). Its copies are counted with
the note itself (log 13). -/
def Part.flood (p : Part) (n : Note) (skip : Nat) : Part :=
  (allLinks.filter fun l => l != skip && !p.linkDown l).foldl
    (fun r l =>
      let q := r.noteQueue l
      if 64 ≤ q.length then r.addSat 0xE030 1
      else r.setNoteQueue l (q ++ [{ n with ttl := n.ttl - 1 }])) p

/-- Ten seconds and sixty seconds in register-clock edges (R551). -/
def edges10s : Nat := 2500000000
/-- Sixty seconds in register-clock edges. -/
def edges60s : Nat := 15000000000

/-- Was a broadcast seen within 10 s (R435)? -/
def Part.seenNote (p : Part) (n : Note) : Bool :=
  p.domain.seen.any fun e => e.1 == n.src.toNat && e.2.1 == n.serial && decide (p.clk - e.2.2 < edges10s)

/-- A broadcast is remembered among the last 4,096 pairs (R435). -/
def Part.rememberNote (p : Part) (n : Note) : Part :=
  let l := p.domain.seen ++ [(n.src.toNat, n.serial, p.clk)]
  { p with domain := { p.domain with seen := l.drop (l.length - 4096) } }

/-- A note for the part itself waits to be taken. -/
def Part.noteToSelf (p : Part) (n : Note) : Part :=
  { p with domain := { p.domain with self_ := p.domain.self_ ++ [n] } }

/-- The note the part originates next: its serial, its source, the MAC under AUTH (R432, R434). Without a
domain key in the slot the MAC is a value the spec does not state (log 2). -/
def Part.makeNote (p : Part) (kind : NoteKind) (bcast oneHop : Bool) (dst : BitVec 16) (body : List Byte) :
    Part × Note :=
  let id := p.field 0xE004 25 24
  let auth := p.bit 0xE004 31
  let n : Note :=
    { version := 1#8, kind := kind, bcast := bcast, oneHop := oneHop, auth := auth,
      keyId := Fin.ofNat 4 id, ttl := if oneHop then 1 else p.field 0xE004 7 0, dst := dst,
      src := (p.reg 0xE000).setWidth 16, serial := p.reg 0xE010, body := body, mac := 0#128 }
  let q := (p.addWrap 0xE010 1).count 0xA000 1 1
  if !auth then (q, n)
  else match p.domainKey id with
    | some k => (q, { n with mac := hmac128 k n.macInput })
    | none => (q.useFree, { n with mac := q.freshValue.setWidth 128 })

/-- A note with ONE_HOP on one link (R266, R432). -/
def Part.originateHop (p : Part) (kind : NoteKind) (link : Nat) (body : List Byte) : Part :=
  let m := p.makeNote kind false true 0#16 body
  if m.1.linkDown link then m.1.dropNote 1
  else
    let r := m.1.queueNote link m.2
    if r.2 then r.1.count 0xA000 3 1 else r.1

/-- A note the part originates to a node or to all (R435). The Bool says that it was delivered or queued. -/
def Part.originate (p : Part) (kind : NoteKind) (bcast : Bool) (dst : BitVec 16) (body : List Byte) :
    Part × Bool :=
  let m := p.makeNote kind bcast false dst body
  if bcast then
    let q := (m.1.rememberNote m.2).noteToSelf m.2
    (if 1 < m.2.ttl then q.flood m.2 64 else q, true)
  else if dst = (p.reg 0xE000).setWidth 16 then (m.1.noteToSelf m.2, true)
  else m.1.forward m.2

/-- MAP_CAP_SEND (R266): on an enabled port whose GCC0 runs, with at least one entry. -/
def mapCapSend (q : Fin 24) (p : Part) : Part :=
  if !p.portOn q || !p.bit (0x79000 + 32 * q.val) 31 || !p.runMode.carries then p
  else match p.mapCapBody q with
    | some body => p.originateHop .mapCap q (netWords body)
    | none => p

/-- MAP_CAP_SEND. -/
def execMapCapSend (q : Fin 24) (s : State) : Result := onClock (mapCapSend q) s

end Sys2Proof.Machine
end

