-- ==== Sys2Proof/Machine/Transmit.lean ====
section
/-! DEFINITION. The transmitted frames: FlexO overhead, the OTUCn frame of a port, and the ODU of a tributary, sourced or
passed through, with its replacements (R191, R195, R223 to R226, R230, R231, R238, R250, R253, R277 to R279). Only
where each field comes from is shown: the part's own value, a check over the frame, the received field, or a fill. -/

namespace Sys2Proof.Machine

/-! ### Levels (R223, R224, R230) -/

/-- A level with STAT `stat` and every other bit 0 (R230). -/
def LevelTx.zero (stat : Nat) : LevelTx :=
  { tti := .value 0, bip := .value 0, beiBiae := [.value 0], bdi := .value 0, stat := .value stat }

/-- A level that passes unchanged (R230). -/
def LevelTx.passed : LevelTx :=
  { tti := .passed, bip := .passed, beiBiae := [.passed], bdi := .passed, stat := .passed }

/-- A level of a replaced ODU: the replacement's fill and STAT (R238). -/
def LevelTx.filled (stat : Nat) : LevelTx :=
  { tti := .fill, bip := .fill, beiBiae := [.fill], bdi := .fill, stat := .value stat }

/-- The byte of the TTI that point `q` sends in a frame of this MFAS: entry `q` of the table (R224). -/
def Part.ttiByte (p : Part) (q : Nat) (mfas : Byte) : Nat :=
  SMap.get (fun _ => 0#8) p.pm.ttiTx (64 * q + mfas.toNat % 64) |>.toNat

/-- Are frames read at a point: its port in IF, its LO ODU in frame and no aSSF on it (R229)? -/
def Part.reads (p : Part) (q : Nat) : Bool :=
  p.pointLive q && match pointKind q with
    | .sm => p.portState q == 2
    | .odu => p.portState (q - 24) == 2
    | _ => !(p.point (48 + p.pointTrib q)).outOfFrame && !p.ssfOf (48 + p.pointTrib q)

/-- aBEI of one slice, or 0b1011 in its place under aBIAE (R231, R232). -/
def Part.beiTx (p : Part) (q i : Nat) : TxField :=
  if p.pd q 7 && (pointKind q == .sm || pointKind q == .tcm) then .value 11
  else .value (if p.reads q then (p.point q).bipLast.getD i 0 else 0)

/-- A level that the part sources, of `n` slices (R223, R231). -/
def Part.levelTx (p : Part) (q n stat : Nat) (mfas : Byte) : LevelTx :=
  { tti := .value (p.ttiByte q mfas), bip := .computed, beiBiae := (List.range n).map (p.beiTx q),
    bdi := .value (flag p.pm.conseq (4 * q + 2)).toNat, stat := .value stat }

/-- The bytes of the highest-numbered enabled APS_TX channel that names a point and level, of those whose bytes have been
inserted (R226). -/
def Part.apsTx (p : Part) (q level : Nat) : Option Word :=
  ((List.range 64).filterMap fun k =>
    let w := p.reg (0x70100 + 8 * k)
    if fieldOf w 10 0 == q && fieldOf w 18 16 == level then p.apsBytes k else none).getLast?

/-- APS/PCC of a frame: a channel's bytes, else 0 where the part sources the ODU and the received bytes where it
passes (R226). -/
def Part.apsField (p : Part) (q : Nat) (mfas : Byte) (passes : Bool) : TxField :=
  match p.apsTx q (mfas.toNat % 8) with
  | some w => .value w.toNat
  | none => if passes then .passed else .value 0

/-! ### Replacements (R231, R238, R253) -/

/-- STAT of ODU-LCK, ODU-OCI and ODU-AIS (R223, R228). -/
def replaceStat : TxPayload → Nat
  | .lck => 0b101 | .oci => 0b110 | .ais => 0b111 | _ => 0b001

/-- The replacement TX_FORCE names (R238). -/
def forcedBy : Nat → Option TxPayload
  | 1 => some .lck | 2 => some .oci | 3 => some .ais | _ => none

/-- TX_FORCE of a point. -/
def Part.forced (p : Part) (q : Nat) : Option TxPayload :=
  if p.bit (pointCfg q) 31 then forcedBy (p.field (pointCfg q) 23 22) else none

/-- The terminating TCM points of a tributary. -/
def Part.tcmTerms (p : Part) (t : Nat) : List Nat :=
  p.pointsOn.filter fun q => p.tcmTerm q && p.pointTrib q == t

/-- Is aAIS in force on a line-to-line path that is received on `t` (R231)? -/
def Part.aisOn (p : Part) (t : Nat) : Bool :=
  p.lineToLine t && (((48 + t) :: p.tcmTerms t).any fun q => flag p.pm.conseq (4 * q))

/-- TX_FORCE of the points that terminate the ODU sent on `t` (R238). -/
def Part.tribForced (p : Part) (t : Nat) : Option TxPayload := ((48 + t) :: p.tcmTerms t).findSome? p.forced

/-- What replaces the ODU sent on `t`, received on `src` where it passes: TX_FORCE before aAIS, and ODU-OCI on a
tributary that is connected to nothing and carries nothing (R231, R238, R253). -/
def Part.replacement (p : Part) (t : Nat) (src : Option Nat) : Option TxPayload :=
  match p.tribForced t with
  | some r => some r
  | none =>
    if (src.map p.aisOn).getD false then some .ais
    else if p.destKind t = 0 ∧ p.isCarrier t = false then some .oci
    else none

/-- An ODU replaced by ODU-LCK, ODU-OCI or ODU-AIS. -/
def OduTx.replaced (r : TxPayload) : OduTx :=
  { pm := .filled (replaceStat r), tcm := List.replicate 6 (.filled (replaceStat r)), aps := .fill, gcc := .fill,
    count := .fill, res := .fill, pt := .fill, msi := [], payload := r }

/-! ### The ODU of a tributary (R223, R230, R277 to R279) -/

/-- One TCM level of the ODU sent on `t`: generated by a terminating point; else it passes, or carries STAT 0b000
and zeros where the part sources the ODU. DESIGN CHOICE (log 87): a level that a point on the receiving tributary
terminates does not pass beyond it. -/
def Part.tcmTx (p : Part) (t : Nat) (src : Option Nat) (mfas : Byte) (k : Nat) : LevelTx :=
  match (p.tcmPoint t k).filter p.tcmTerm with
  | some q => p.levelTx q 1 0b001 mfas
  | none =>
    match src with
    | some s => if ((p.tcmPoint s k).filter p.tcmTerm).isSome then .zero 0 else .passed
    | none => .zero 0

/-- The MSI an OPU sends: the TPN of each slot an enabled tributary occupies, the others unallocated (R250). -/
def Part.msiTx (p : Part) (q n : Nat) : List (Option Nat) :=
  (List.range n).map fun s => ((p.stitchedMsi q).find? fun e => e.1 == s).map (·.2)

/-- The payload of an ODU that the part sources: its second stage, or its client's signal or what stands in its
place (R65, R250, R270). -/
def Part.sourcePayload (p : Part) (t : Nat) : TxPayload :=
  match p.tribClient t with
  | some n => match p.clientFill n with
    | some true => .localFault
    | some false => .idle
    | none => .client
  | none => .slots

/-- Slots of the OPU of a carrier: 80 of an ODU4, 8 of an ODU2, none elsewhere (R249). -/
def Part.opuSlots (p : Part) (t : Nat) : Nat :=
  if !p.isCarrier t then 0 else if p.tribType t = 4 then 80 else 8

/-- The frame of the ODU sent on `t`, received on `src` where it passes; `own` is the LO point of the ODU the part
builds, and `count` what goes into row 4, columns 9 to 12. -/
def Part.oduTx (p : Part) (t own : Nat) (src : Option Nat) (mfas : Byte) (count : TxField) : OduTx :=
  match p.replacement t src with
  | some r => .replaced r
  | none =>
    let passes := src.isSome
    { pm := if passes then .passed else p.levelTx own 1 0b001 mfas,
      tcm := [1, 2, 3, 4, 5, 6].map (p.tcmTx t src mfas),
      aps := p.apsField (48 + t) mfas passes,
      gcc := if passes then .passed else .value 0,
      count := count,
      res := if passes then .passed else .value 0,
      pt := if passes then .passed else .value ((p.tribPt t).getD 0#8).toNat,
      msi := p.msiTx (48 + t) (p.opuSlots t),
      payload := if passes then .passed else p.sourcePayload t }

/-- Traffic of the line goes out: transmitters run and the WEFT island works (R34, R50). -/
def Part.sends (p : Part) : Bool := p.runMode.carries && p.weftRuns

/-- The frame on tributary `t` that goes with one received on it: a line-to-line path passes it to its other end,
else the part sources the next frame of `t` (R230, R253, R279). Legs and ENDs are the seam unit's. -/
def Part.sendOdu (p : Part) (t : Nat) (mfas : Byte) : Part :=
  if !p.sends then p
  else match p.destKind t with
    | 2 => p.emit (.odu (p.destIndex t) mfas (p.oduTx (p.destIndex t) (48 + p.destIndex t) (some t) mfas .passed))
    | 3 => p
    | _ =>
      let m := (p.trib t).txMfas
      (p.setTrib t { p.trib t with txMfas := m + 1#8 }).emit (.odu t m (p.oduTx t (48 + t) none m (.value 0)))

/-! ### The OTUCn and FlexO of a port (R191, R195, R223, R250) -/

/-- The ODUCn frame of a port (R223, R238, R250). -/
def Part.oducTx (p : Part) (q : Nat) (mfas : Byte) : OduTx :=
  match p.forced (24 + q) with
  | some r => .replaced r
  | none =>
    { pm := p.levelTx (24 + q) (p.portN q) 0b001 mfas, tcm := List.replicate 6 (.zero 0),
      aps := p.apsField (24 + q) mfas false, gcc := .value 0, count := .value 0, res := .value 0,
      pt := .value 0x22, msi := p.msiTx (24 + q) (20 * p.portN q), payload := .slots }

/-- The OTUCn frame of a port with its GCC0 (R223, R227). IAE is sent as 0, and every slice carries the same
single-valued fields. -/
def Part.otucTx (p : Part) (q : Nat) (mfas : Byte) (gcc : List Byte) : OtucTx :=
  { mfas := mfas, sm := p.levelTx q (p.portN q) 0 mfas, iae := false, gcc0 := gcc, res := .value 0,
    odu := p.oducTx q mfas }

/-- A port's transmitters run: the port is enabled, in a mode that sends, and no slice it spans is fenced (R34, R50). -/
def Part.portSends (p : Part) (q : Nat) : Bool :=
  p.portOn q && p.runMode.carries && (p.portSlices q).all fun k => decide (p.selvState k < 2)

/-- A port sends its next OTUCn frame with the GCC0 bytes `gcc` (R34, R50, R223). -/
def Part.sendOtuc (p : Part) (q : Nat) (gcc : List Byte) : Part :=
  if !p.portSends q then p
  else
    let m := (p.port q).txMfas
    (p.setPort q { p.port q with txMfas := m + 1#8 }).emit (.line q (p.otucTx q m gcc))

/-- The FlexO overhead of lane `l` of a port (R191, R195). -/
def Part.flexoTx (p : Part) (q l : Nat) : FlexoTx :=
  { gid := p.field (lineReg q 8) 19 0, pid := p.txPid l, map := (p.portLanes q).map p.txPid, fullRate := true,
    fcc := 0, omfi := (p.port q).txOmfi, crc := .computed }

/-- A port sends its next FlexO multiframe on every lane (R34, R50, R191). -/
def Part.sendFlexo (p : Part) (q : Nat) : Part :=
  if !p.portSends q then p
  else
    let r := (p.portLanes q).foldl (fun (x : Part) l => x.emit (.flexo l (p.flexoTx q l))) p
    r.setPort q { r.port q with txOmfi := ((p.port q).txOmfi + 1) % Config.omfiLength }

end Sys2Proof.Machine
end

