-- ==== Sys2Proof/Machine/Seam.lean ====
section
/-! DEFINITION. Seam groups: the seam count, leg states, delay-matched and first-arrival merging, seam notes,
seam commands, and the signal rows whose defects drive them (R275 to R308, R234). -/

namespace Sys2Proof.Machine

/-! ### Fields (R308) -/

/-- A register of seam group `g`. -/
def seamReg (g o : Nat) : Nat := 0x60000 + 64 * g + o

/-- A group's running state. -/
def Part.seam (p : Part) (g : Nat) : SeamSt := SMap.get (fun _ => {}) p.seams g
/-- A group's running state replaced. -/
def Part.setSeam (p : Part) (g : Nat) (v : SeamSt) : Part :=
  { p with seams := SMap.set (fun _ => {}) p.seams g v }

/-- The running state of leg `k`. -/
def SeamSt.leg (s : SeamSt) (k : Nat) : LegSt := if k = 0 then s.leg0 else if k = 1 then s.leg1 else s.leg2
/-- The running state of leg `k` replaced. -/
def SeamSt.setLeg (s : SeamSt) (k : Nat) (v : LegSt) : SeamSt :=
  if k = 0 then { s with leg0 := v } else if k = 1 then { s with leg1 := v } else { s with leg2 := v }

/-- A leg's running state. -/
def Part.leg (p : Part) (g k : Nat) : LegSt := (p.seam g).leg k
/-- A leg's running state replaced. -/
def Part.setLeg (p : Part) (g k : Nat) (v : LegSt) : Part := p.setSeam g ((p.seam g).setLeg k v)

/-- ENABLE. -/
def Part.seamOn (p : Part) (g : Nat) : Bool := p.bit (seamReg g 0) 31
/-- MERGE: first arrival. -/
def Part.seamFirst (p : Part) (g : Nat) : Bool := p.bit (seamReg g 0) 30
/-- LEGS. -/
def Part.seamLegs (p : Part) (g : Nat) : Nat := p.field (seamReg g 0) 29 28
/-- ELIM. -/
def Part.seamElim (p : Part) (g : Nat) : Bool := p.bit (seamReg g 0) 25
/-- Delay-matched merging. -/
def Part.seamMatched (p : Part) (g : Nat) : Bool := !p.seamFirst g && !p.seamElim g
/-- END KIND. -/
def Part.endKind (p : Part) (g : Nat) : Nat := p.field (seamReg g 4) 31 30
/-- END INDEX. -/
def Part.endIndex (p : Part) (g : Nat) : Nat := p.field (seamReg g 4) 9 0
/-- The tributary of leg `k`. -/
def Part.legTrib (p : Part) (g k : Nat) : Nat :=
  fieldOf (p.reg (seamReg g 8)) (10 * k + 9) (10 * k)

/-- The enabled groups of the set in force. -/
def Part.seamsOn (p : Part) : List Nat :=
  p.regs.filterMap fun e =>
    if 0x60000 ≤ e.1 ∧ e.1 < 0x68000 ∧ e.1 % 64 = 0 ∧ bitAt e.2 31 = true then some ((e.1 - 0x60000) / 64)
    else none

/-- A leg's state code (R293). -/
def Part.legState (p : Part) (g k : Nat) : Nat := p.field (seamReg g 0x14) (4 * k + 3) (4 * k)
/-- REF. -/
def Part.seamRef (p : Part) (g : Nat) : Nat := p.field (seamReg g 0x14) 13 12
/-- NOTES_STALE. -/
def Part.notesStale (p : Part) (g : Nat) : Bool := p.bit (seamReg g 0x14) 15

/-- The legs of a group in a state. -/
def Part.legsIn (p : Part) (g st : Nat) : List Nat :=
  (List.range (p.seamLegs g)).filter fun k => p.legState g k == st

/-- A seam history bit; it raises vector 8 under IRQ_EN (R308). -/
def Part.seamHist (p : Part) (g b : Nat) : Part := p.hist (seamReg g 0x18) b 8

/-! ### Rates and guards (R291) -/

/-- r in b/s, from TYPE and the slot count of leg 0 (R291; ODU2 and ODU4 as R292's example gives them,
log 14). -/
def Part.seamRate (p : Part) (g : Nat) : Nat :=
  let t := p.legTrib g 0
  match p.tribType t with
  | 0 => 1244160000 | 1 => 2498775000 | 2 => 10037273924 | 3 => 10399525000 | 4 => 104794445816
  | _ => p.tsReq t * 5240890000

/-- The minimum guard in µs (R291). -/
def Part.minGuard (p : Part) (g : Nat) : Nat :=
  let t := p.legTrib g 0
  match p.tribType t with
  | 0 => 296 | 1 => 147 | 2 => 37 | 3 => 36 | 4 => 4
  | _ => (70046 + 1000 * p.tsReq t - 1) / (1000 * p.tsReq t)

/-- The group's guard in µs (R285). -/
def Part.guardUs (p : Part) (g : Nat) : Nat :=
  let w := p.field (seamReg g 0x10) 11 0
  if w = 0 then p.minGuard g else w

/-- A µs in the hold unit, 1/16 ns. -/
def holdUs : Nat := 16000

/-- The guard in the hold unit. -/
def Part.guardHold (p : Part) (g : Nat) : Int := (p.guardUs g * holdUs : Nat)
/-- SKEW_MAX_US in the hold unit. -/
def Part.skewHold (p : Part) (g : Nat) : Int := (p.field (seamReg g 0) 15 0 * holdUs : Nat)

/-- The matched delay D: the largest hold among the ACTIVE legs; 0 with no schedule (R282, R289). -/
def Part.matched (p : Part) (g : Nat) : Int :=
  if p.seamMatched g then (p.legsIn g 4).foldl (fun a k => max a (p.leg g k).hold) 0 else 0

/-! ### Leg states (R293) -/

/-- The instance of function 3 (R295). -/
def legInst (g k : Nat) : Nat := g + k * 2 ^ 12

/-- An open decision of a leg ends with no choice (R295). -/
def Part.voidLeg (p : Part) (g k : Nat) : Part :=
  if (p.openFor 3 (legInst g k)).isSome then p.offer 3 (legInst g k) 0 0#32 fun _ x => x else p

/-- A leg moves to a state: LEG_H, its open decision, and the copies it no longer merges (R293, R295). -/
def Part.toLeg (p : Part) (g k st : Nat) : Part :=
  let old := p.legState g k
  if old = st then p
  else
    let r := (p.setField (seamReg g 0x14) (4 * k + 3) (4 * k) st).seamHist g 0
    let r := if old = 3 ∨ old = 4 then r.voidLeg g k else r
    let r := r.setBit (seamReg g 0x14) (23 + k) false
    let c := r.leg g k
    if old = 4 ∨ old = 6 then
      if st = 4 ∨ st = 6 then r
      else (r.setLeg g k { c with buf := [], late := 0 }).count (0x5000 + g) 6 c.buf.length
    else r

/-- Is the leg fit to receive: aTSF clear and its count acquired, or for an ELIM group in frame (R293)? -/
def Part.legGood (p : Part) (g k : Nat) : Bool :=
  let t := p.legTrib g k
  !p.pd (48 + t) 13 && (if p.seamElim g then !(p.point (48 + t)).outOfFrame else (p.trib t).acq)

/-- The GROUP code (R308). -/
def Part.groupCode (p : Part) (g : Nat) : Nat :=
  let n := (p.legsIn g 4).length
  if !p.seamOn g || !p.runMode.receives || !(p.seam g).built then 0
  else if n = 0 then (if p.seamMatched g && !(p.legsIn g 3).isEmpty then 2 else 1)
  else if (p.seam g).fallback then 5
  else if n = 1 then 3 else 4

/-- A hold as its register shows it. -/
def holdWord (h : Int) : Word := if h < 0 then 0#32 else BitVec.ofNat 32 (min h.toNat (2 ^ 32 - 1))

/-- STATUS, HOLD and MATCHED follow the legs (R308). -/
def Part.seamShow (p : Part) (g : Nat) : Part :=
  let r := p.setField (seamReg g 0x14) 18 16 (p.groupCode g)
  let r := r.setReg (seamReg g 0x1C) (BitVec.ofNat 32 ((r.matched g).toNat / 16))
  (List.range 3).foldl (fun (r : Part) k =>
    r.setReg (seamReg g (0x20 + 4 * k))
      (if r.seamMatched g && r.legState g k == 4 then holdWord (r.leg g k).hold else 0#32)) r

/-- The ACTIVE leg with the smallest hold (R282). -/
def Part.leastHeld (p : Part) (g : Nat) : Option Nat :=
  (p.legsIn g 4).foldl (fun a k =>
    match a with
    | some b => if (p.leg g k).hold < (p.leg g b).hold then some k else a
    | none => some k) none

/-- The reference passes to leg `k`: its hold is R(c) - A(c) at that frame, so that R continues (R282). -/
def Part.takeRef (p : Part) (g k : Nat) : Part :=
  let c := p.leg g k
  (p.setLeg g k { c with hold := c.ahead }).setField (seamReg g 0x14) 13 12 k

/-- The admission test, but for the hold (R294). -/
def Part.peerAdmits (p : Part) (g k : Nat) : Bool :=
  (p.seam g).peerIn.getLsbD k && !p.notesStale g && !(p.seam g).fallback

/-- The next expected count E of first-arrival merging (R289). -/
def Part.expect (p : Part) (g : Nat) : Option Word := (p.seam g).last.map (· + 1#32)

/-- A leading leg moves E to its next count: the counts passed over are SKIPPED (R290). -/
def Part.skipTo (p : Part) (g : Nat) (c : Word) : Part :=
  match p.expect g with
  | some e =>
    let n := (c - e).toNat
    if n = 0 then p
    else ((((p.count (0x5000 + g) 0 n).count (0x5000 + g) 3 n).addSat (seamReg g 0x3C) n).seamHist g 6).setSeam
      g { p.seam g with last := some (c - 1#32) }
  | none => p

/-- A leading leg is admitted, and E moves to its next count (R290). -/
def Part.takeLead (p : Part) (g k : Nat) : Part :=
  (match (p.leg g k).next with | some c => p.skipTo g c | none => p).toLeg g k 4

/-- What follows at once from a leg change: a DEGRADED leg serves when no leg is ACTIVE, or else a leading leg (R290),
the reference of a delay-matched group passes, QUALIFY ends with no leg ACTIVE, and in FALLBACK a READY leg beside the
reference is EXCLUDED (R282, R285, R287, R293). -/
def Part.settle (p : Part) (g : Nat) : Part :=
  let r := if (p.legsIn g 4).isEmpty then
      match p.legsIn g 6, (p.legsIn g 3).find? (fun k => p.bit (seamReg g 0x14) (23 + k) && p.peerAdmits g k) with
      | k :: _, _ => p.toLeg g k 4
      | [], some k => if p.seamFirst g then p.takeLead g k else p
      | [], none => p
    else p
  let r := if !r.seamMatched g || r.legState g (r.seamRef g) == 4 then r
    else match r.leastHeld g with
      | some k => r.takeRef g k
      | none => r
  let r := if (r.legsIn g 4).isEmpty then (r.legsIn g 2).foldl (fun (r : Part) k => r.toLeg g k 3) r
    else if (r.seam g).fallback then (r.legsIn g 3).foldl (fun (r : Part) k => r.toLeg g k 5) r
    else r
  r.seamShow g

/-- A leg goes DOWN, or where a RETIRE has flagged it, is RETIRED (R293, R299). -/
def Part.legDown (p : Part) (g k : Nat) : Part :=
  let c := p.leg g k
  (p.setLeg g k { c with retireDue := false, byLate := false, next := none }).toLeg g k (if c.retireDue then 7 else 1)

/-- One leg looked at against its signal (R293). -/
def Part.legEval (p : Part) (g k : Nat) : Part :=
  let on := p.seamOn g && p.runMode.receives && (p.seam g).built && decide (k < p.seamLegs g)
  let p := if p.tsdOf (48 + p.legTrib g k) then p else p.setLeg g k { p.leg g k with keep := false }
  if !on then p.toLeg g k 0
  else
    let r := if p.legState g k = 0 then p.toLeg g k 1 else p
    let good := r.legGood g k
    match r.legState g k with
    | 1 => if good then r.toLeg g k 2 else r
    | 2 | 3 | 4 | 5 | 6 => if good then r else r.legDown g k
    | _ => r

/-- Every leg of a group. -/
def Part.seamEval (p : Part) (g : Nat) : Part :=
  (((p.legEval g 0).legEval g 1).legEval g 2).settle g

/-- The defects of every point, then the legs that read them (R229, R234); in FREEZE they stay as they were
at the fault (R72). -/
def Part.signals (p : Part) : Part :=
  if p.md.cur = .freeze then p
  else
    let r := p.evalPoints
    r.seamsOn.foldl Part.seamEval r

/-- A latency change of a group, with the old and the new D (R301). -/
def Part.seamLat (p : Part) (g : Nat) (old new : Int) : Part :=
  ((p.addWrapField (seamReg g 0x38) 15 0 1).seamHist g 3).latencyEvent "SEAM_LATENCY" g
    (changeWords (BitVec.ofInt 64 (old * 4096)) (BitVec.ofInt 64 (new * 4096))) (BitVec.ofInt 64 (new * 4096))

/-- SKEW_EXCEEDED sets (R285, R287). -/
def Part.skewSet (p : Part) (g : Nat) : Part :=
  if p.bit (seamReg g 0x14) 19 then p else (p.setBit (seamReg g 0x14) 19 true).seamHist g 4

/-- The holds of the ACTIVE legs grow by `d`: R moves later (R286, R296). -/
def Part.shiftHolds (p : Part) (g : Nat) (d : Int) : Part :=
  (p.legsIn g 4).foldl (fun (r : Part) j => r.setLeg g j { r.leg g j with hold := (r.leg g j).hold + d }) p

/-- R has moved later by 2 µs per second of the time scale while it slews, at most to the largest need (R286). A
sixteenth of a ns takes 31.25 µs. -/
def Part.slewTo (p : Part) (g : Nat) : Part :=
  let s := p.seam g
  if s.slew.isEmpty then p
  else
    let goal : Int := (s.slew.foldl (fun a e => max a e.2) 0 : Nat)
    let n := (p.now - s.slewAt) / 2048000000
    let q := p.shiftHolds g (min (n : Int) (max (goal - p.matched g) 0))
    q.setSeam g { q.seam g with slewAt := s.slewAt + n * 2048000000 }

/-- The slew for the legs that `gone` names ends where R now is: SLEWING follows, and the latency change (R286, R301). -/
def Part.stopSlew (p : Part) (g : Nat) (gone : Fin 3 → Bool) : Part :=
  let r := p.slewTo g
  let s := r.seam g
  if s.slew.all fun e => !gone e.1 then r
  else
    let left := s.slew.filter fun e => !gone e.1
    let d := r.matched g
    ((r.setSeam g { s with slew := left, slewFrom := d }).setBit (seamReg g 0x14) 14 (!left.isEmpty)).seamLat g
      s.slewFrom d

/-- The group enters FALLBACK: the reference leg alone stays merged (R287, R288); a slew ends where R is (R301). -/
def Part.enterFallback (p : Part) (g : Nat) : Part :=
  if (p.seam g).fallback then p
  else
    let q := p.stopSlew g fun _ => true
    let r := (q.setSeam g { q.seam g with fallback := true }).seamHist g 5
    let r := r.count (0x5000 + g) 0x41 1
    let r := (List.range (r.seamLegs g)).foldl (fun (r : Part) k =>
      if k ≠ r.seamRef g ∧ (r.legState g k = 3 ∨ r.legState g k = 4) then r.toLeg g k 5 else r) r
    r.settle g

/-- R287: SKEW_EXCEEDED and FALLBACK. -/
def Part.skewFallback (p : Part) (g : Nat) : Part := (p.skewSet g).enterFallback g

/-! ### Admission (R294, R295) -/

/-- The admission test of R294 on a leg's measured hold. -/
def Part.admits (p : Part) (g k : Nat) : Bool :=
  p.peerAdmits g k &&
    (if p.seamMatched g then
      !(p.legsIn g 4).isEmpty && decide (p.guardHold g ≤ (p.leg g k).hold) &&
        decide ((p.leg g k).hold ≤ p.skewHold g)
     else !p.bit (seamReg g 0x14) (23 + k))

/-- Steering function 3 decided (R295). -/
def applyLeg (g k v : Nat) (p : Part) : Part :=
  match p.legState g k with
  | 3 => if v = 1 then (if p.admits g k then (p.toLeg g k 4).settle g else p)
      else (p.toLeg g k 8).settle g
  | 4 => if v = 0 then (p.toLeg g k 6).settle g else p.setLeg g k { p.leg g k with keep := true }
  | _ => p

/-- A leg in state `st` with a hold `h` would need a matched delay above SKEW_MAX_US, or its copies a longer hold
(R287). DEDUCED (log 56): HELD and RETIRED legs, which no schedule serves, are not asked. -/
def Part.skewBroken (p : Part) (g st : Nat) (h : Int) : Bool :=
  p.seamMatched g && !(p.legsIn g 4).isEmpty && decide (2 ≤ st) && decide (st ≤ 6) &&
    (decide (p.skewHold g < h) || st != 4 && decide (p.skewHold g < p.matched g - h + p.guardHold g))

/-- SEAM_ADMISSION (R282, R287, R294, R295): the hold a leg's copies would have, measured. A leg that does not fit
within SKEW_MAX_US brings FALLBACK. On a READY leg the test decides; on another ACTIVE leg than the reference the hold
follows its route. -/
def seamAdmission (g : Fin 512) (k : Fin 3) (hold : Int) (p : Part) : Part :=
  if !p.seamOn g || decide (p.seamLegs g ≤ k.val) || p.legState g k == 0 then p
  else if p.legState g k == 4 && k.val == p.seamRef g then p
  else
    let r := p.setLeg g k { p.leg g k with hold := hold, ahead := hold }
    let st := r.legState g k
    if r.skewBroken g st hold then r.skewFallback g
    else match st with
    | 3 =>
      if (r.legsIn g 4).isEmpty && r.seamMatched g then r
      else if r.admits g k then
        if r.steered 3 (legInst g k) then r.offer 3 (legInst g k) 1 3#32 (applyLeg g k)
        else (r.toLeg g k 4).settle g
      else r
    | 4 => r.seamShow g
    | _ => r

/-- SEAM_WTR_EXPIRE (R293). -/
def seamWtrExpire (g : Fin 512) (k : Fin 3) (p : Part) : Part :=
  if p.legState g k = 2 then (p.toLeg g k 3).settle g else p

/-- The MEM island holds copies: it is not fenced (R34, R288, R450). -/
def Part.memCopies (p : Part) : Bool := decide (p.selvState 25 < 2)

/-- SEAM_BUILD (R285): the schedule of a delay-matched group with no ACTIVE leg. `leads` gives each leg's
lead over the latest READY leg. A build admits legs, so there is none while NOTES_STALE is 1 (R298; log 90). In
FALLBACK, and without the MEM island, the reference alone stays merged, and SKEW_EXCEEDED stands (R287, R288; log 56). -/
def seamBuild (g : Fin 512) (leads : List Nat) (p : Part) : Part :=
  let ready := p.legsIn g 3
  if !p.seamOn g || !p.seamMatched g || !(p.legsIn g 4).isEmpty || ready.isEmpty || p.notesStale g then p
  else
    let lead := fun k => leads.getD k 0
    let ref := ready.foldl (fun a k => if lead k < lead a then k else a) (ready.getD 0 0)
    let gd := p.guardHold g
    let alone := (p.seam g).fallback || !p.memCopies
    let r := if alone then p else p.setBit (seamReg g 0x14) 19 false
    let r := ready.foldl (fun (r : Part) k =>
      let h := gd + ((lead k - lead ref : Nat) : Int)
      let r := r.setLeg g k { r.leg g k with hold := h, ahead := h, late := 0, byLate := false }
      if r.skewHold g < h then (r.toLeg g k 5).skewSet g
      else if alone && k != ref then r.toLeg g k 5
      else r.toLeg g k 4) r
    let r := r.setField (seamReg g 0x14) 13 12 ref
    let r := (r.setSeam g { r.seam g with last := none }).settle g
    (if p.memCopies then r else r.enterFallback g).seamLat g 0 (r.matched g)

/-! ### Receiving a frame (R280, R286) -/

/-- The count of one received frame is tracked (R280). -/
def TribSt.countStep (c : TribSt) (v : Word) : TribSt × Bool :=
  if c.acq then
    let want := c.pred + 1#32
    let bad := v != want
    let errs := if bad then c.errs + 1 else 0
    if errs < 4 then ({ c with pred := want, errs := errs, raw := some v }, bad)
    else ({ c with acq := false, errs := 0, raw := some v }, bad)
  else
    let next := match c.raw with
      | some r => v == r + 1#32
      | none => false
    let run := if next then c.errs + 1 else 0
    if 2 ≤ run then ({ c with acq := true, pred := v, errs := 0, raw := some v }, false)
    else ({ c with errs := run, raw := some v }, false)

/-- The head's next frame leaves, with its count written in, into every leg tributary (R277, R278): the ODU that the
END tributary `src` received, or the ODU the part builds, whose overhead is leg 0's. -/
def Part.headSend (p : Part) (g : Nat) (src : Option Nat) (mfas : Byte) (count : Word) : Part :=
  let r := (p.setReg (seamReg g 0x2C) count).setSeam g { p.seam g with txNext := count + 1#32 }
  (List.range (p.seamLegs g)).foldl (fun (x : Part) k =>
    x.emit (.odu (p.legTrib g k) mfas
      (p.oduTx (p.legTrib g k) (48 + p.legTrib g 0) src mfas (.value count.toNat)))) r

/-- A leg that delivered 8 late copies in a row (R286, R287). Each late leg starts a slew of its own, and R moves on to
the largest need (DEDUCED, log 56). -/
def Part.lateLeg (p : Part) (g k : Nat) : Part :=
  let c := p.leg g k
  let need : Int := (c.lag : Int) + p.guardHold g
  let d := p.matched g
  let r := ((p.setLeg g k { c with byLate := true }).toLeg g k 5).settle g
  if r.skewHold g < need then r.skewFallback g
  else if r.bit (seamReg g 0) 26 && !(r.legsIn g 4).isEmpty then
    let r := r.slewTo g
    let s := r.seam g
    let first := s.slew.isEmpty
    ((r.setSeam g { s with slew := s.slew ++ [(Fin.ofNat 3 k, need.toNat)],
                           slewAt := if first then r.now else s.slewAt,
                           slewFrom := if first then d else s.slewFrom }).setBit (seamReg g 0x14) 14 true).seamLat g
      d need
  else r

/-- A leg's frame under its count: the BIP-8 result of the frame two before it, then the copy itself,
buffered, or late after its release (R234, R282, R283, R286). -/
def Part.legFrame (p : Part) (g k : Nat) (f : LoFrame) : Part :=
  let st := p.legState g k
  if (st ≠ 4 ∧ st ≠ 6) ∨ p.seamMatched g = false then p
  else
    let c := (p.trib (p.legTrib g k)).pred
    let l := p.leg g k
    let viol := f.oh.bip.foldl (· + ·) 0
    let buf := l.buf.map fun e => if e.1 = c - 2#32 then (e.1, some viol) else e
    let r := p.count (0x5000 + g) 4 1
    let late := match (p.seam g).last with
      | some x => !laterThan c x
      | none => false
    if late then
      let r := (r.setLeg g k { l with buf := buf, late := l.late + 1, lag := f.lag, ahead := f.ahead }).count
        (0x5000 + g) 7 1
      if st = 4 ∧ 8 ≤ l.late + 1 then r.lateLeg g k else r
    else r.setLeg g k { l with buf := buf ++ [(c, none)], late := 0, ahead := f.ahead }

/-- The count of a leg or END tributary as a frame of it comes (R280): out of frame it is not acquired. -/
def Part.trackCount (p : Part) (g t : Nat) (v : Word) : Part :=
  if (p.point (48 + t)).outOfFrame then p.setTrib t { p.trib t with acq := false, raw := none, errs := 0 }
  else
    let s := (p.trib t).countStep v
    let r := p.setTrib t s.1
    if s.2 then r.count (0x5000 + g) 0x40 1 else r

/-- The seam part of LO_ODU_FRAME_RX on a leg or an END tributary (R277, R278, R280). The head sends its own
prediction while the END's count is not acquired. Without WEFT no frame crosses (R34). -/
def Part.seamFrame (p : Part) (t : Nat) (f : LoFrame) : Part :=
  if p.destKind t ≠ 3 then p
  else
    let g := p.destIndex t
    let r := p.trackCount g t f.count
    let c := r.trib t
    if !r.seamOn g || !r.weftRuns then r
    else if r.endKind g = 2 ∧ r.endIndex g = t then
      if !r.sends then r
      else r.headSend g (some t) f.mfas (if r.bit (seamReg g 0) 27 && c.acq then c.pred else (r.seam g).txNext)
    else (List.range (r.seamLegs g)).foldl (fun (r : Part) k =>
      if r.legTrib g k = t ∧ c.acq = true then r.legFrame g k f else r) r

/-- LO_ODU_FRAME_RX (R223, R228, R230, R280): the frame's overhead and count, and the frame that goes out with it. -/
def loOduFrameRx (t : Fin 1024) (f : LoFrame) (p : Part) : Part :=
  if !p.tribOn t || !(p.trib t).built || !p.runMode.receives then p
  else (((p.loFrame t f).seamFrame t f).signals).sendOdu t f.mfas

/-- `n` frames of a head whose END is a client port. -/
def Part.headFrames (p : Part) (g : Nat) : Nat → Part
  | 0 => p
  | n + 1 =>
    let t := p.legTrib g 0
    let m := (p.trib t).txMfas
    ((p.setTrib t { p.trib t with txMfas := m + 1#8 }).headSend g none m (p.seam g).txNext).headFrames g n

/-- MAPPER_PERIOD_END on leg 0 of a group whose END is a client port: the head's frames leave with the bits
the mapper released, `bits` (R277, R278). -/
def Part.headMapper (p : Part) (t bits : Nat) : Part :=
  if p.destKind t ≠ 3 then p
  else
    let g := p.destIndex t
    if !p.seamOn g || p.legTrib g 0 != t || p.endKind g != 1 || !p.sends then p
    else
      let all := (p.seam g).txBits + bits
      (p.headFrames g (all / 122368)).setSeam g
        { (p.headFrames g (all / 122368)).seam g with txBits := all % 122368 }

/-! ### Release (R281 to R284, R288) -/

/-- The rank of a copy: clean, not known yet, then by violations (R283). -/
def copyRank : Option Nat → Nat
  | some 0 => 0
  | none => 1
  | some (n + 1) => n + 2

/-- The leg whose copy of `c` is chosen (R283). -/
def Part.chooseLeg (p : Part) (g : Nat) (c : Word) : Option Nat :=
  let act := p.legsIn g 4
  let legs := if act.isEmpty then p.legsIn g 6 else act
  let key := fun k => ((p.leg g k).buf.find? fun e => e.1 == c).map fun e =>
    (copyRank e.2, (k != p.seamRef g).toNat, k)
  (legs.foldl (fun (a : Option ((Nat × Nat × Nat) × Nat)) k =>
    match key k, a with
    | some x, some b =>
      if x.1 < b.1.1 ∨ (x.1 = b.1.1 ∧ (x.2.1 < b.1.2.1 ∨ (x.2.1 = b.1.2.1 ∧ x.2.2 < b.1.2.2))) then
        some (x, k)
      else a
    | some x, none => some (x, k)
    | none, _ => a) none).map (·.2)

/-- Copies of counts up to `c` leave a leg's buffer. -/
def Part.dropCopies (p : Part) (g k : Nat) (c : Word) : Part × Nat :=
  let l := p.leg g k
  let keep := l.buf.filter fun e => laterThan e.1 c
  (p.setLeg g k { l with buf := keep }, l.buf.length - keep.length)

/-- What TX_FORCE sends in place of the ODU of an END tributary (R238). -/
def Part.endForced (p : Part) (g : Nat) : Option TxPayload :=
  if p.endKind g = 2 then p.tribForced (p.endIndex g) else none

/-- The replacement goes out in place of a frame: ODU-AIS on an END tributary, but for TX_FORCE, the client replacement
of R270 on a client port (R238, R284). -/
def Part.seamReplace (p : Part) (g : Nat) : Part :=
  if p.endKind g = 2 then p.emit (.odu (p.endIndex g) 0#8 (.replaced ((p.endForced g).getD .ais)))
  else p.emit (.event "CLIENT_REPLACEMENT" (p.endIndex g) 1#64)

/-- Gaps: each is counted, and the replacement goes out (R284). -/
def Part.seamGap (p : Part) (g n : Nat) : Part :=
  if n = 0 then p else ((p.addSat (seamReg g 0x3C) n).seamHist g 6).seamReplace g

/-- The copy of count `c` from leg `k` goes on whole, its overhead included, but for TX_FORCE on the END tributary
(R238, R283, R289). -/
def Part.seamForward (p : Part) (g k : Nat) (c : Word) : Part :=
  match p.endForced g with
  | some r => p.emit (.odu (p.endIndex g) 0#8 (.replaced r))
  | none => p.emit (.words "SEAM_FORWARD" g [c, BitVec.ofNat 32 k])

/-- The buffered copy of a count is lost: it is absent for its count, a fault loss (R288, R470). -/
def Part.loseCopy (p : Part) (g k : Nat) (c : Word) : Part :=
  let l := p.leg g k
  let buf := l.buf.filter fun e => e.1 != c
  (p.faultLoss (0x5000 + g) 4 (l.buf.length - buf.length)).setLeg g k { l with buf := buf }

/-- A buffered copy has an uncorrectable error: it is lost, and the memory-fault event is raised (R288, R470). -/
def Part.badCopy (p : Part) (g k : Nat) (c : Word) : Part :=
  if (p.leg g k).buf.any (fun e => e.1 == c) then p.uncorrectable.loseCopy g k c else p

/-- SEAM_RELEASE (R283, R284, R288): count `c` is released, without the buffered copies that `bad` names; with no ACTIVE
leg the replacement goes out. -/
def seamRelease (g : Fin 512) (c : Word) (bad : BitVec 3) (p : Part) : Part :=
  let led := 0x5000 + g.val
  if !p.seamOn g || !p.seamMatched g || !p.weftRuns || !(p.seam g).built then p
  else if (p.legsIn g 4).isEmpty then (if p.sends then p.seamReplace g else p)
  else
    let p := (List.range 3).foldl (fun (x : Part) k => if bad.getLsbD k then x.badCopy g k c else x) p
    let ch := p.chooseLeg g c
    let r := (p.count led 0 1).setSeam g { p.seam g with last := some c }
    let d := (List.range 3).foldl (fun (a : Part × Nat) k =>
      let x := a.1.dropCopies g k c
      (x.1, a.2 + x.2)) (r, 0)
    match ch with
    | some k =>
      let r := (((d.1.count led 1 1).count led 5 1).count led 6 (d.2 - 1)).setReg (seamReg g 0x30) c
      let r := if k = r.seamRef g then r else r.addSat (seamReg g 0x34) 1
      r.seamForward g k c
    | none => ((d.1.count led 2 1).count led 6 d.2).seamGap g 1

/-- SEAM_SLEW_END (R286, R301): the copies of leg `k` arrive one guard before release, and the leg is READY; or it is
EXCLUDED no more, and R stays where it is. -/
def seamSlewEnd (g : Fin 512) (k : Fin 3) (p : Part) : Part :=
  match (p.seam g).slew.find? fun e => e.1 == k with
  | some (_, need) =>
    if p.legState g k ≠ 5 then (p.stopSlew g (· == k)).settle g
    else
      let r := p.shiftHolds g (max ((need : Int) - p.matched g) 0)
      let r := r.stopSlew g (· == k)
      let r := r.setLeg g k { r.leg g k with hold := r.guardHold g + (r.matched g - need), byLate := false, late := 0 }
      (r.toLeg g k 3).settle g
  | none => p

/-- SEAM_FALLBACK_EXIT (R287, R288): without the MEM island no leg but the reference fits. -/
def seamFallbackExit (g : Fin 512) (p : Part) : Part :=
  if !(p.seam g).fallback || !p.memCopies then p
  else
    let r := (p.setSeam g { p.seam g with fallback := false }).setBit (seamReg g 0x14) 19 false
    ((r.legsIn g 5).foldl (fun (r : Part) k =>
      (r.setLeg g k { r.leg g k with byLate := false }).toLeg g k 3) r).settle g

/-- SEAM_REFIT_TIMER (R293): an EXCLUDED leg has fitted again for 10 s. -/
def seamRefitTimer (g : Fin 512) (k : Fin 3) (p : Part) : Part :=
  if p.legState g k = 5 ∧ (p.seam g).fallback = false then
    ((p.setLeg g k { p.leg g k with byLate := false, late := 0 }).toLeg g k 3).settle g
  else p

/-- Is another ACTIVE leg free of aTSD (R293)? -/
def Part.otherClean (p : Part) (g k : Nat) : Bool :=
  (p.legsIn g 4).any fun j => j != k && !p.tsdOf (48 + p.legTrib g j)

/-- SEAM_DEGRADE_TIMER (R293, R295): 10 s of aTSD on an ACTIVE leg, or 10 s clear on a DEGRADED one. -/
def seamDegradeTimer (g : Fin 512) (k : Fin 3) (p : Part) : Part :=
  let tsd := p.tsdOf (48 + p.legTrib g k)
  if p.legState g k = 4 ∧ tsd = true ∧ p.otherClean g k = true then
    if p.steered 3 (legInst g k) then
      if (p.leg g k).keep then p else p.offer 3 (legInst g k) 0 3#32 (applyLeg g k)
    else (p.toLeg g k 6).settle g
  else if p.legState g k = 6 ∧ tsd = false then (p.toLeg g k 2).settle g
  else p

/-! ### First-arrival merging (R289, R290) -/

/-- Copy `c` is forwarded from leg `k`, the followed leg (R289). -/
def Part.follow (p : Part) (g k : Nat) (c : Word) : Part :=
  let led := 0x5000 + g
  ((((((p.count led 0 1).count led 1 1).count led 5 1).setSeam g { p.seam g with last := some c }).setReg
    (seamReg g 0x30) c).setField (seamReg g 0x14) 13 12 k).seamForward g k c

/-- SEAM_COPY_RX (R289, R290): a copy of a first-arrival group. -/
def seamCopyRx (g : Fin 512) (k : Fin 3) (c : Word) (p : Part) : Part :=
  let led := 0x5000 + g.val
  if !p.seamOn g || !p.seamFirst g || p.seamElim g || !p.weftRuns then p
  else match p.legState g k with
    | 4 =>
      let r := p.count led 4 1
      if p.tsdOf (48 + p.legTrib g k) && p.otherClean g k then r.count led 6 1
      else match p.expect g with
        | none => r.follow g k c
        | some e =>
          if c = e then r.follow g k c
          else if laterThan c e then r.count led 8 1
          else r.count led 9 1
    | 3 =>
      let leads := match p.expect g with
        | some e => laterThan c e
        | none => false
      let r := p.setBit (seamReg g 0x14) (23 + k.val) leads
      let r := r.setLeg g k { r.leg g k with next := some (c + 1#32) }
      if leads && (r.legsIn g 4).isEmpty && r.peerAdmits g k then
        (((r.skipTo g c).toLeg g k 4).count led 4 1).follow g k c |>.settle g
      else r
    | _ => p

/-! ### Seam notes (R297 to R299) -/

/-- The legs in service: neither HELD nor retiring (R297). -/
def Part.inService (p : Part) (g : Nat) : Nat :=
  (List.range (p.seamLegs g)).foldl (fun a k =>
    if p.legState g k = 8 ∨ p.bit (seamReg g 0x14) (20 + k) = true then a else a + 2 ^ k) 0

/-- The ACTIVE legs as a mask. -/
def Part.activeMask (p : Part) (g : Nat) : Nat := (p.legsIn g 4).foldl (fun a k => a + 2 ^ k) 0

/-- A seam note's body in network-order words (R297). -/
def Part.seamBody (p : Part) (g op legs second : Nat) (w2 w3 : Word) : List Word :=
  [BitVec.ofNat 32 (0x01000000 + op * 2 ^ 16 + p.field (seamReg g 0xC) 24 16),
    BitVec.ofNat 32 (g * 2 ^ 16 + legs * 2 ^ 8 + second), w2, w3]

/-- A seam note leaves for the group's peer. -/
def Part.seamNote (p : Part) (g : Nat) (body : List Word) : Part :=
  (p.originate .seam false ((p.reg (seamReg g 0xC)).setWidth 16) (netWords body)).1

/-- A STATUS note (R297, R298). -/
def Part.sendSeamStatus (p : Part) (g : Nat) : Part :=
  p.seamNote g (p.seamBody g 1 (p.inService g) (p.activeMask g)
    (BitVec.ofNat 32 ((p.matched g).toNat / holdUs)) (p.reg (seamReg g 0x30)))

/-- A RETIRE note for legs under the outstanding serial (R299). -/
def Part.sendRetire (p : Part) (g : Nat) : Part :=
  match (p.seam g).retire with
  | some (legs, sn) => p.seamNote g (p.seamBody g 2 legs.toNat 0 sn 0#32)
  | none => p

/-- A leg's retirement is announced: TX_RETIRING and a RETIRE note with a new serial (R299). -/
def Part.announceRetire (p : Part) (g : Nat) (legs : BitVec 3) : Part :=
  let s := p.seam g
  let all := legs ||| (match s.retire with | some r => r.1 | none => 0#3)
  let r := p.setSeam g { s with retire := some (all, s.serial), serial := s.serial + 1#32 }
  let r := (r.setField (seamReg g 0x14) 22 20 all.toNat).count (0x5000 + g) 0x42 1
  r.sendRetire g

/-- The outstanding RETIRE ends: acknowledged, or given up (R299). -/
def Part.endRetire (p : Part) (g : Nat) : Part :=
  ((p.setSeam g { p.seam g with retire := none }).setField (seamReg g 0x14) 22 20 0).seamHist g 1

/-- SEAM_STATUS_NOTE_SEND (R298). -/
def seamStatusNoteSend (g : Fin 512) (p : Part) : Part :=
  if p.seamOn g && p.mode.slicesOn then p.sendSeamStatus g else p

/-- Does a seam note pass the checks of R297? -/
def Part.seamNoteGood (p : Part) (n : SeamNote) : Bool :=
  n.version == 1#8 && p.seamOn n.group && (p.reg (seamReg n.group 0xC)).setWidth 16 == n.srcNode &&
    p.field (seamReg n.group 0xC) 24 16 == n.srcGroup.toNat

/-- A STATUS note at the seam unit (R297, R298). -/
def Part.takeStatus (p : Part) (n : SeamNote) : Part :=
  let g := n.group.val
  if !p.seamNoteGood n then p.dropCause 0x42
  else
    let r := (p.count 0xA000 2 1).setSeam g { p.seam g with peerIn := n.legs }
    let r := r.setBit (seamReg g 0x14) 15 false
    ((r.legsIn g 7).foldl (fun (r : Part) k => if n.legs.getLsbD k then r.toLeg g k 1 else r) r).seamEval g

/-- A RETIRE note at the seam unit: the named legs retire, the last ACTIVE leg stays and is flagged, and a
RETIRE_ACK answers (R293, R299). -/
def Part.takeRetire (p : Part) (n : SeamNote) : Part :=
  let g := n.group.val
  if !p.seamNoteGood n then p.dropCause 0x42
  else
    let r := (List.range (p.seamLegs g)).foldl (fun (a : Part × Nat) k =>
      let st := a.1.legState g k
      if !n.legs.getLsbD k || st == 0 || decide (6 < st) then a
      else if st = 4 ∧ (a.1.legsIn g 4).length = 1 then
        (a.1.setLeg g k { a.1.leg g k with retireDue := true }, a.2 + 2 ^ k)
      else ((a.1.toLeg g k 7).settle g, a.2)) (p.count 0xA000 2 1, 0)
    r.1.seamNote g (r.1.seamBody g 3 n.legs.toNat r.2 n.serial 0#32)

/-- A RETIRE_ACK at the seam unit (R299); in DRAIN its notices are acknowledged (R67). -/
def Part.takeAck (p : Part) (n : SeamNote) : Part :=
  let g := n.group.val
  if !p.seamNoteGood n then p.dropCause 0x42
  else
    let r := p.count 0xA000 2 1
    match (p.seam g).retire with
    | some (_, sn) =>
      if sn = n.serial then
        let r := r.endRetire g
        { r with md := { r.md with unacked := r.md.unacked.filter fun u => u / 4 != g || decide (0x3000 < u) } }
      else r
    | none => r

/-- A seam note at the seam unit by its operation (R297 to R299). -/
def Part.seamOp (p : Part) (op : Nat) (n : SeamNote) : Part :=
  match op with
  | 1 => p.takeStatus n
  | 2 => p.takeRetire n
  | 3 => p.takeAck n
  | _ => p.dropCause 0x42

/-- A seam note is received; RENEW puts it off (R70). -/
def Part.seamNoteRx (p : Part) (op : Nat) (n : SeamNote) : Part :=
  let r := p.count 0xA000 0 1
  if r.coresAway then r.postpone (.seam op n) else r.seamOp op n

/-- SEAM_STATUS_NOTE_RX (R297, R298). -/
def seamStatusNoteRx (n : SeamNote) (p : Part) : Part := p.seamNoteRx 1 n
/-- SEAM_RETIRE_NOTE_RX (R299). -/
def seamRetireNoteRx (n : SeamNote) (p : Part) : Part := p.seamNoteRx 2 n
/-- SEAM_RETIRE_ACK_RX (R299). -/
def seamRetireAckRx (n : SeamNote) (p : Part) : Part := p.seamNoteRx 3 n

/-- SEAM_RETIRE_RESEND (R299). -/
def seamRetireResend (g : Fin 512) (p : Part) : Part := p.sendRetire g

/-- SEAM_RETIRE_GIVEUP (R299): the unanswered notice is counted in the domain ledger. -/
def seamRetireGiveup (g : Fin 512) (p : Part) : Part :=
  if (p.seam g).retire.isSome then (p.endRetire g).count 0xA000 0x40 1 else p

/-- NOTES_STALE_SET (R298): 3.5 s without a valid STATUS; the timer pauses during RENEW. -/
def notesStaleSet (g : Fin 512) (p : Part) : Part :=
  if !p.seamOn g || p.coresAway || p.notesStale g then p
  else (p.setBit (seamReg g 0x14) 15 true).seamHist g 2

/-! ### Seam commands (R296) -/

/-- RESULT0 of a seam command: the STATUS word. -/
def Part.seamResult (p : Part) (g : Nat) : Dword := (p.reg (seamReg g 0x14)).setWidth 64

/-- A leg that R296 names: an enabled group and a leg below LEGS. -/
def Part.seamNames (p : Part) (t : Nat) : Bool :=
  let g := fieldOf (p.par t 0) 8 0
  p.seamOn g && decide (fieldOf (p.par t 0) 17 16 < p.seamLegs g)

/-- A re-match on a late leg: R moves later to its arrivals plus the guard (R296). -/
def Part.rematch (p : Part) (g k : Nat) : Part :=
  let p := p.stopSlew g fun _ => true
  let d := p.matched g
  let need : Int := ((p.leg g k).lag : Int) + p.guardHold g
  let delta := need - d
  let r := p.shiftHolds g delta
  let r := r.setLeg g k { r.leg g k with hold := r.guardHold g, byLate := false, late := 0 }
  let r := (r.toLeg g k 4).setField (seamReg g 0x14) 13 12 k
  let period := 122368 * 16000000000
  let n := (delta.toNat * r.seamRate g + period - 1) / period
  let r := ((r.count (0x5000 + g) 0 n).count (0x5000 + g) 2 n).seamGap g n
  (r.settle g).seamLat g d need

/-- The effect of SEAM.ADMIT; `none` is NO_RESOURCE (R296). -/
def Part.admitLeg (p : Part) (g k : Nat) : Option Part :=
  let st := p.legState g k
  if st = 0 ∨ st = 4 then some p
  else if p.legGood g k && p.bit (seamReg g 0x14) (23 + k) && p.peerAdmits g k then
    some ((p.takeLead g k).settle g)
  else if p.legGood g k && p.admits g k then some ((p.toLeg g k 4).settle g)
  else if st = 8 then some (((p.toLeg g k 1).sendSeamStatus g).seamEval g)
  else if st = 5 ∧ (p.leg g k).byLate = true ∧ p.legsIn g 4 ≠ [] then
    if p.skewHold g < ((p.leg g k).lag : Int) + p.guardHold g then none else some (p.rematch g k)
  else some p

/-- SEAM.ADMIT (R296). A leg that leaves HELD sends a STATUS note (R293); a decision open for the leg is superseded
(R295). -/
def seamAdmit (t : Fin 1024) (p : Part) : Part :=
  if !p.runs t 0x0701 then p
  else
    let g := fieldOf (p.par t 0) 8 0
    let k := fieldOf (p.par t 0) 17 16
    if !p.seamNames t then p.reject t stParam 0
    else match p.admitLeg g k with
      | none => p.reply t stNoRes 0x31 (p.seamResult g) 0#32
      | some q =>
        let q := if p.legState g k = 8 ∧ q.legState g k = 4 then q.sendSeamStatus g else q
        let q := q.voidLeg g k
        (q.setTagState t .committed).done t (q.seamResult g) 0#32

/-- SEAM.RETIRE (R296). -/
def seamRetire (t : Fin 1024) (p : Part) : Part :=
  if !p.runs t 0x0702 then p
  else
    let g := fieldOf (p.par t 0) 8 0
    let k := fieldOf (p.par t 0) 17 16
    if !p.seamNames t then p.reject t stParam 0
    else
      let st := p.legState g k
      let q := if st = 0 ∨ st = 8 then p
        else ((p.toLeg g k 8).settle g).announceRetire g (1#3 <<< k)
      (q.setTagState t .committed).done t (q.seamResult g) 0#32

/-- SEAM.STATUS (R296): RESULT1 is D in µs, rounded down. -/
def seamStatus (t : Fin 1024) (p : Part) : Part :=
  if !p.runs t 0x0703 then p
  else
    let g := fieldOf (p.par t 0) 8 0
    if !p.seamOn g then p.reject t stParam 0
    else p.done t (p.seamResult g) (BitVec.ofNat 32 ((p.matched g).toNat / holdUs))

/-! ### Stitches (R275, R276, R292) -/

/-- B: the legs whose copies wait in LPDDR5X (R292). -/
def Part.buffered (p : Part) (g : Nat) : Nat := if p.seamMatched g then p.seamLegs g - 1 else 0

/-- Units of 2 MiB a group's buffers take (R292). -/
def Part.seamUnits (p : Part) (g : Nat) : Nat :=
  let d := 8 * 2097152 * 1000000
  p.buffered g * ((p.seamRate g * p.field (seamReg g 0) 15 0 + d - 1) / d)

/-- R275 for one enabled group of a resulting set. -/
def Part.groupFaults (q : Part) (g : Nat) : List StitchFault :=
  let n := q.seamLegs g
  let legs := (List.range n).map (q.legTrib g)
  let e := q.endIndex g
  let t0 := q.legTrib g 0
  let first := q.seamFirst g
  let guard := q.field (seamReg g 0x10) 11 0
  let mine := q.tribsOn.filter fun t => q.destKind t == 3 && q.destIndex t == g
  let named := legs ++ (if q.endKind g = 2 then [e] else [])
  failIf (n != 2 && n != 3 || (first || q.seamElim g) && q.endKind g != 1 || first && q.tribType t0 != 6 ||
      q.bit (seamReg g 0) 27 && q.endKind g != 2 || q.field (seamReg g 0) 15 0 == 0 ||
      decide (50000 < q.field (seamReg g 0) 15 0))
    (paramFail (seamReg g 0)) ++
  failIf (match q.endKind g with
      | 1 => !q.clientFits t0 e || q.tribsOn.any (fun t => q.destKind t == 1 && q.destIndex t == e) ||
          q.seamsOn.any fun h => h != g && q.endKind h == 1 && q.endIndex h == e
      | 2 => !q.tribOn e || !q.tribsMatch t0 e || legs.contains e || q.isCarrier e
      | _ => true)
    (paramFail (seamReg g 4)) ++
  failIf (legs.any (fun t => !q.tribOn t || q.destKind t != 3 || q.destIndex t != g || q.isCarrier t ||
        !q.tribsMatch t0 t) || legs.eraseDups.length != n ||
      (q.endKind g == 2 && (q.destKind e != 3 || q.destIndex e != g)))
    (paramFail (seamReg g 8)) ++
  (mine.filter fun t => !named.contains t).flatMap (fun t => [paramFail (tribReg t 0x10)]) ++
  failIf (guard != 0 && decide (guard < q.minGuard g) || decide (600 < q.field (seamReg g 0x10) 25 16))
    (paramFail (seamReg g 0x10))

/-- A NO_RESOURCE failure (R292). -/
def noResource (detail : Nat) : StitchFault := { status := stNoRes, offset := 0x60000, detail := detail }

/-- The rules of R275 and R292 on a resulting set. -/
def validateSeam (q : Part) : List StitchFault :=
  let on := q.seamsOn
  let sum := fun f : Nat → Nat => (on.map f).foldl (· + ·) 0
  on.flatMap q.groupFaults ++
  (q.tribsOn.filter fun t => q.destKind t == 3 && decide (512 ≤ q.destIndex t)).flatMap
    (fun t => [paramFail (tribReg t 0x10)]) ++
  failIf (decide (6400000000000 < sum fun g => 2 * q.seamRate g * q.buffered g)) (noResource 0x30) ++
  failIf (decide (16384 < sum q.seamUnits)) (noResource 0x31) ++
  failIf (decide (201326592 * 1000000 <
      sum fun g => if q.seamMatched g then q.seamRate g * q.guardUs g else 0)) (noResource 0x32)

/-- Is a group rebuilt by a stitch (R276)? -/
def seamRebuilds (old new : Part) (torn : List Nat) (g : Nat) : Bool :=
  let ch := fun o m => (old.reg (seamReg g o) &&& m) != (new.reg (seamReg g o) &&& m)
  ch 0 (bitsMask 31 27 ||| bitsMask 25 25 ||| bitsMask 15 0) || ch 4 full || ch 8 full ||
    ch 0x10 (bitsMask 11 0) ||
    (List.range (new.seamLegs g)).any fun k => torn.contains (new.legTrib g k)

/-- A group rebuilt or disabled (R276): legs to DOWN or OFF, buffered copies discarded with cause 0x20, the
head's count restarted. -/
def Part.rebuildSeam (p : Part) (g : Nat) : Part :=
  let p := p.stopSlew g fun _ => true
  let s := p.seam g
  let n := s.leg0.buf.length + s.leg1.buf.length + s.leg2.buf.length
  let r := (p.discardTerm (0x5000 + g) 0x20 n).setSeam g
    { s with built := p.seamOn g, leg0 := {}, leg1 := {}, leg2 := {}, fallback := false,
             last := none, txNext := 0#32, txBits := 0 }
  let r := (List.range 3).foldl (fun (r : Part) k => r.toLeg g k (if r.seamOn g then 1 else 0)) r
  let r := (r.setBit (seamReg g 0x14) 19 false).setBit (seamReg g 0x14) 14 false
  let r := if r.seamOn g then r
    else (r.setSeam g {}).setReg (seamReg g 0x14) 0#32
  (r.setReg (seamReg g 0x2C) 0#32).seamShow g

/-- The seam side of a stitch (R276). -/
def Part.seamStitched (p old : Part) : Part :=
  let torn := tornTribs old p
  let gs := (old.seamsOn ++ p.seamsOn).eraseDups.filter (seamRebuilds old p torn)
  let r := torn.foldl (fun (r : Part) t =>
    r.setTrib t { r.trib t with acq := false, raw := none, errs := 0 }) p
  (gs.foldl Part.rebuildSeam r).signals

/-! ### Rows whose signals drive the points and the seams -/

/-- A row that may change a signal: its effect, then the points and the legs. -/
def onSignals (f : Part → Part) (s : State) : Result := onPart (fun p => (f p).signals) s

/-- A row of the receivers: in FREEZE their clocks stand (R72). -/
def onReceivers (f : Part → Part) (s : State) : Result := onClock (fun p => (f p).signals) s

/-- OTUCN_FRAME_PERIOD (R211, R223, R227): framer, SM and ODUCn overhead, two GCC0 bytes, and the port's next OTUCn
frame out (log 87). -/
def otucnFramePeriod (q : Fin 24) (f : OtucFrame) (p : Part) : Part :=
  let r := ((p.frameAlign q f).portFrame q f).gccFrame q
  r.1.sendOtuc q r.2

/-! ### Meanings -/

/-- LANE_SIGNAL_DETECT. -/
def execLaneSignalDetect (l : Fin 96) (s : State) : Result := onReceivers (laneSignalDetect l) s
/-- LANE_SIGNAL_LOSS. -/
def execLaneSignalLoss (l : Fin 96) (s : State) : Result := onReceivers (laneSignalLoss l) s
/-- LANE_CDR_LOCK. -/
def execLaneCdrLock (l : Fin 96) (o : Dword) (s : State) : Result := onReceivers (laneCdrLock l o) s
/-- LANE_ADAPT_DONE. -/
def execLaneAdaptDone (l : Fin 96) (s : State) : Result := onReceivers (laneAdaptDone l) s
/-- FEC_CODEWORD. -/
def execFecCodeword (l : Fin 96) (c : CodewordResult) (s : State) : Result := onPart (fecCodeword l c) s
/-- FEC_DEG_SECOND. -/
def execFecDegSecond (l : Fin 96) (s : State) : Result := onClock (fecDegSecond l) s
/-- FLEXO_FRAME_RX. -/
def execFlexoFrameRx (l : Fin 48) (f : FlexoFrame) (s : State) : Result := onReceivers (flexoFrameRx l f) s
/-- FLEXO_MULTIFRAME_RX. -/
def execFlexoMultiframeRx (q : Fin 24) (s : State) : Result :=
  onReceivers (fun p => (flexoMultiframeRx q p).sendFlexo q) s
/-- OTUCN_FRAME_PERIOD. -/
def execOtucnFramePeriod (q : Fin 24) (f : OtucFrame) (s : State) : Result :=
  onReceivers (otucnFramePeriod q f) s
/-- DLOF_SET. -/
def execDlofSet (q : Fin 24) (s : State) : Result := onReceivers (dlofSet q) s
/-- DLOF_CLEAR. -/
def execDlofClear (q : Fin 24) (s : State) : Result := onReceivers (dlofClear q) s
/-- DLOM_SET. -/
def execDlomSet (q : Fin 24) (s : State) : Result := onReceivers (dlomSet q) s
/-- DLOM_CLEAR. -/
def execDlomClear (q : Fin 24) (s : State) : Result := onReceivers (dlomClear q) s
/-- LO_ODU_FRAME_RX. -/
def execLoOduFrameRx (t : Fin 1024) (f : LoFrame) (s : State) : Result := onPart (loOduFrameRx t f) s
/-- DLOFLOM_TIMER. -/
def execDloflomTimer (t : Fin 1024) (s : State) : Result := onReceivers (dloflomTimer t) s
/-- CONSEQUENT_ACTION_APPLY. -/
def execConsequentActionApply (q : Fin 2048) (a : ConseqAction) (s : State) : Result :=
  onClock (consequentActionApply q a) s
/-- PM_SECOND_END. -/
def execPmSecondEnd (sec : Nat) (s : State) : Result := onReceivers (pmSecondEnd sec) s
/-- PM_CLASSIFY. -/
def execPmClassify (q : Fin 2048) (s : State) : Result := onClock (pmClassify q) s
/-- PM_BIN_CLOSE. -/
def execPmBinClose (s : State) : Result := onClock pmBinClose s
/-- APS_TX_INSERT. -/
def execApsTxInsert (k : Fin 64) (s : State) : Result := onClock (apsTxInsert k) s
/-- What a mapper gets while WEFT does not run: nothing crosses it (R34). -/
def MapIn.cut : MapIn → MapIn
  | .carrier _ => .carrier []
  | .client _ => .client []
  | .blocks _ n => .blocks [] n

/-- The bits that a period of a tributary's own stage releases (R256, R261). -/
def Part.releasedBits (p : Part) (t : Nat) : MapIn → Nat
  | .carrier _ => ((p.stage t).map fun g => p.released t g).getD 0
  | _ => 0

/-- MAPPER_PERIOD_END, with the head of a seam group (R277, R278). -/
def mapperRow (t : Fin 1024) (q : MapIn) (p : Part) : Part :=
  (mapperPeriodEnd t (if p.weftRuns then q else q.cut) p).headMapper t (p.releasedBits t q)

/-- MAPPER_PERIOD_END. -/
def execMapperPeriodEnd (t : Fin 1024) (q : MapIn) (s : State) : Result := onPart (mapperRow t q) s
/-- SEAM_RELEASE. -/
def execSeamRelease (g : Fin 512) (c : Word) (bad : BitVec 3) (s : State) : Result :=
  onClock (seamRelease g c bad) s
/-- SEAM_COPY_RX. -/
def execSeamCopyRx (g : Fin 512) (k : Fin 3) (c : Word) (s : State) : Result := onClock (seamCopyRx g k c) s
/-- SEAM_BUILD. -/
def execSeamBuild (g : Fin 512) (leads : List Nat) (s : State) : Result := onClock (seamBuild g leads) s
/-- SEAM_SLEW_END. -/
def execSeamSlewEnd (g : Fin 512) (k : Fin 3) (s : State) : Result := onClock (seamSlewEnd g k) s
/-- SEAM_FALLBACK_EXIT. -/
def execSeamFallbackExit (g : Fin 512) (s : State) : Result := onClock (seamFallbackExit g) s
/-- SEAM_WTR_EXPIRE. -/
def execSeamWtrExpire (g : Fin 512) (k : Fin 3) (s : State) : Result := onClock (seamWtrExpire g k) s
/-- SEAM_ADMISSION. -/
def execSeamAdmission (g : Fin 512) (k : Fin 3) (h : Int) (s : State) : Result :=
  onClock (seamAdmission g k h) s
/-- SEAM_DEGRADE_TIMER. -/
def execSeamDegradeTimer (g : Fin 512) (k : Fin 3) (s : State) : Result := onClock (seamDegradeTimer g k) s
/-- SEAM_REFIT_TIMER. -/
def execSeamRefitTimer (g : Fin 512) (k : Fin 3) (s : State) : Result := onClock (seamRefitTimer g k) s
/-- SEAM_STATUS_NOTE_SEND. -/
def execSeamStatusNoteSend (g : Fin 512) (s : State) : Result := onClock (seamStatusNoteSend g) s
/-- SEAM_STATUS_NOTE_RX. -/
def execSeamStatusNoteRx (n : SeamNote) (s : State) : Result := onClock (seamStatusNoteRx n) s
/-- SEAM_RETIRE_NOTE_RX. -/
def execSeamRetireNoteRx (n : SeamNote) (s : State) : Result := onClock (seamRetireNoteRx n) s
/-- SEAM_RETIRE_ACK_RX. -/
def execSeamRetireAckRx (n : SeamNote) (s : State) : Result := onClock (seamRetireAckRx n) s
/-- SEAM_RETIRE_RESEND. -/
def execSeamRetireResend (g : Fin 512) (s : State) : Result := onClock (seamRetireResend g) s
/-- SEAM_RETIRE_GIVEUP. -/
def execSeamRetireGiveup (g : Fin 512) (s : State) : Result := onClock (seamRetireGiveup g) s
/-- NOTES_STALE_SET. -/
def execNotesStaleSet (g : Fin 512) (s : State) : Result := onClock (notesStaleSet g) s
/-- SEAM_ADMIT. -/
def execSeamAdmit (t : Fin 1024) (s : State) : Result := onPart (seamAdmit t) s
/-- SEAM_RETIRE. -/
def execSeamRetire (t : Fin 1024) (s : State) : Result := onPart (seamRetire t) s
/-- SEAM_STATUS. -/
def execSeamStatus (t : Fin 1024) (s : State) : Result := onPart (seamStatus t) s

end Sys2Proof.Machine
end

