-- ==== Sys2Proof/Machine/Timekeeper.lean ====
section
/-! DEFINITION. The timekeeper (R310 to R349): reference slots and their monitors, selection, the
timekeeper's states, pull, step, pleats and slews, free run, learning, and the outputs. -/

namespace Sys2Proof.Machine

/-! ### Registers and slots -/

/-- A TIMEKEEPER register (R347). -/
def tkReg (o : Nat) : Nat := 0xF000 + o
/-- A register of REFr (R348). -/
def refReg (r o : Nat) : Nat := 0x10000 + 128 * r + o
/-- The registers of an output: OCK0 to OCK3, PPS_OUT0, PPS_OUT1 (R349). -/
def outReg (k o : Nat) : Nat := 0x12000 + 64 * k + o
/-- One second in units of 2^-16 ns. -/
def secUnits : Nat := 65536000000000

/-- A slot's running state. -/
def Part.refSt (p : Part) (r : Nat) : RefSt := SMap.get (fun _ => {}) p.time.refs r
/-- A slot's running state replaced. -/
def Part.setRefSt (p : Part) (r : Nat) (v : RefSt) : Part :=
  { p with time := { p.time with refs := SMap.set (fun _ => {}) p.time.refs r v } }

/-- The slot is enabled. -/
def Part.refOn (p : Part) (r : Nat) : Bool := p.bit (refReg r 0) 31
/-- TYPE (R310). -/
def Part.refType (p : Part) (r : Nat) : Nat := p.field (refReg r 0) 30 28
/-- SOURCE (R310). -/
def Part.refSource (p : Part) (r : Nat) : Nat := p.field (refReg r 0) 22 16
/-- A phase type (R310). -/
def phaseType (t : Nat) : Bool := t == 3 || t == 4 || t == 5 || t == 6
/-- A type whose references are HELD in RENEW (R70, R319). -/
def heldType (t : Nat) : Bool := t == 4 || t == 5 || t == 6
/-- DELAY (R312). -/
def Part.refDelay (p : Part) (r : Nat) : Int := p.int64 (refReg r 0x18)
/-- The reference's state: 0 OFF, 1 FAILED, 2 QUALIFYING, 3 QUALIFIED, 4 DISQUALIFIED (R319). -/
def Part.refState (p : Part) (r : Nat) : Nat := p.field (refReg r 0x20) 3 0
/-- Monitors pass (R319). -/
def Part.refPass (p : Part) (r : Nat) : Bool := p.bit (refReg r 0x20) 7 && p.bit (refReg r 0x20) 8
/-- HELD (R319). -/
def Part.refHeld (p : Part) (r : Nat) : Bool := p.bit (refReg r 0x20) 11
/-- PHASE_FAR (R330). -/
def Part.refFar (p : Part) (r : Nat) : Bool := p.bit (refReg r 0x20) 10
/-- LOCKOUT (R320). -/
def Part.lockedOut (p : Part) (r : Nat) : Bool := p.bit (refReg r 0x28) 0
/-- A REFMON history bit (R346). -/
def Part.refHist (p : Part) (r b : Nat) : Part := p.hist (refReg r 0x24) b 4
/-- A TIMEKEEPER history bit (R346). -/
def Part.tkHist (p : Part) (b : Nat) : Part := p.hist (tkReg 0x14) b 4

/-- The timekeeper's state: 0 STOPPED, 1 FREE_RUN, 2 ACQUIRE, 3 LOCKED, 4 HELD (R326). -/
def Part.tkState (p : Part) : Nat := p.field (tkReg 0x10) 2 0
/-- TIME_SET (R328). -/
def Part.timeSet (p : Part) : Bool := p.bit (tkReg 0x10) 5
/-- The selected reference (R321). -/
def Part.selected (p : Part) : Option Nat :=
  if p.bit (tkReg 8) 30 then none else some (p.field (tkReg 8) 3 0)
/-- The frequency source (R324). -/
def Part.freqSrc (p : Part) : Option Nat :=
  if p.bit (tkReg 8) 30 then none else some (p.field (tkReg 8) 7 4)
/-- The phase source (R324). -/
def Part.phaseSrc (p : Part) : Option Nat :=
  if p.bit (tkReg 8) 28 then none else some (p.field (tkReg 8) 11 8)
/-- PLEAT_SUM, SLEW_LEFT and PULL_LEFT (R347). -/
def Part.pleatSum (p : Part) : Int := p.int64 (tkReg 0x40)
/-- SLEW_LEFT. -/
def Part.slewLeft (p : Part) : Int := p.int64 (tkReg 0x48)
/-- PULL_LEFT. -/
def Part.pullLeft (p : Part) : Int := p.int64 (tkReg 0x50)
/-- SLEWING. -/
def Part.slewing (p : Part) : Bool := p.bit (tkReg 0x10) 8
/-- PULLING. -/
def Part.pulling (p : Part) : Bool := p.bit (tkReg 0x10) 7
/-- PULL_LIMIT in units of 2^-16 ns (R330). -/
def Part.pullLimit (p : Part) : Int := p.field (tkReg 4) 19 0 * 65536000
/-- The target time error T* (R327). -/
def Part.target (p : Part) : Int := p.pleatSum - p.slewLeft + p.pullLeft
/-- The running modes (R326). -/
def Mode.tkRunning : Mode → Bool
  | .listen | .carry | .trim | .doze | .drain | .renew => true
  | _ => false

/-- SELECT as it reads: DEC_OPEN follows the open decision (R323, R347). -/
def Part.selectWord (p : Part) : Word := withBit (p.reg (tkReg 8)) 29 (p.openFor 4 0).isSome

/-- A signed amount enters a term of the pleat ledger, modulo 2^64 (R334). -/
def Part.countPleat (p : Part) (code : Nat) (x : Int) : Part := p.count 0x4000 code (BitVec.ofInt 64 x).toNat

/-! ### Frequency, flags and outputs -/

/-- 0.1 ns/s slopes as a frequency offset in 2^-48 (R20, R329, R333). -/
def slopeFreq (s : Int) : Int := roundDiv (s * 2 ^ 48) 10000000000

/-- A decimal limit `n / d` (ppm, ppb, 0.01 ppm) as a frequency offset in 2^-48, rounded as R20 says. -/
def freqLimit (n d : Nat) : Nat := (roundDiv ((n : Int) * 2 ^ 48) d).toNat

/-- The pull makes no phase correction: its source is held (R70, R326). -/
def Part.pullHeld (p : Part) : Bool :=
  p.tkState == 4 && (match p.phaseSrc with | some r => p.refHeld r | none => false)

/-- The bandwidth a type has where BW_MHZ is 0, in mHz (R310). -/
def bwDefault : Nat → Nat
  | 0 | 1 | 2 => 1000
  | 3 => 10
  | 4 => 50
  | 5 => 100
  | _ => 500

/-- A reference's loop bandwidth in mHz (R310, R311). -/
def Part.refBw (p : Part) (r : Nat) : Nat :=
  let b := p.field (refReg r 4) 13 0
  if b = 0 then bwDefault (p.refType r) else b

/-- One measurement's step of a loop: its frequency and integral from the integral before and the error (R325). Without an
error, a second-order loop stays at its integral. -/
def loopNext (bw : Nat) (integral err : Int) : Int × Int :=
  if err = 0 then (integral, integral) else Config.loopStep bw integral err

/-- The loop's frequency: that from the frequency source with the phase source's correction, which a held phase source
does not make (R70, R325, R326). -/
def Part.loopFreq (p : Part) : Int := p.time.loop + (if p.pullHeld then 0 else p.time.phase)

/-- FREQ: the loop's frequency with the offsets of slew and pull (R333, R335, R347). -/
def Part.syncFreq (p : Part) : Part :=
  let slew : Int := if p.slewing then p.slewLeft.sign * p.time.slope else 0
  let pull : Int := if p.pulling && !p.pullHeld then - p.pullLeft.sign * p.field (tkReg 0) 13 0 else 0
  p.setInt64 (tkReg 0x30) (p.loopFreq + slopeFreq (slew + pull))

/-- Output `k` is driven (R50, R341, R342). -/
def Part.outDriven (p : Part) (k : Nat) : Bool := p.bit (outReg k 0) 31 && p.md.cur.tkRunning

/-- The squelch condition of output `k` holds (R344). -/
def Part.outSquelch (p : Part) (k : Nat) : Bool :=
  let w := p.reg (outReg k 0)
  (w.getLsbD 30 && p.tkState == 1) || (w.getLsbD 29 && p.bit (tkReg 0x10) 4) ||
    (decide (4 ≤ k) && w.getLsbD 28 && !p.timeSet)

/-- The edge at which the last high pulse of an output ends (R344). -/
def Part.highEnd (p : Part) (k : Nat) : Nat := SMap.get (fun _ => 0) p.time.high k

/-- A high pulse of an output begins, and lasts for a number of edges (R344). -/
def Part.startHigh (p : Part) (k len : Nat) : Part :=
  { p with time := { p.time with high := SMap.set (fun _ => 0) p.time.high k (p.clk + len) } }

/-- Does output `k` begin pulses now: driven, not squelched, not re-aligning (R344)? -/
def Part.outRuns (p : Part) (k : Nat) : Bool :=
  p.outDriven k && !p.outSquelch k && !p.time.realign.getLsbD k

/-- DRIVEN and SQUELCHED of every output follow (R344, R349): squelch begins once a high pulse in progress has ended. -/
def Part.syncOutputs (p : Part) : Part :=
  (List.range 6).foldl (fun (q : Part) k =>
    q.setReg (outReg k 0x18) (BitVec.ofNat 32 ((p.outDriven k).toNat
      + (p.outDriven k && p.outSquelch k && decide (p.highEnd k ≤ p.clk)).toNat * 2))) p

/-- TIME_TRACE and FORCED_FREE follow (R328, R347). -/
def Part.syncFlags (p : Part) : Part :=
  let q := p.setBit (tkReg 0x10) 6 (p.phaseSrc.isSome && !p.time.fresh)
  (q.setBit (tkReg 0x10) 9 (q.bit (tkReg 0) 29)).syncFreq.syncOutputs

/-- The timekeeper enters a state (R326). FREE_RUN takes the calibrated nominal and abandons a pull. -/
def Part.enterTk (p : Part) (s : Nat) : Part :=
  if p.tkState = s then p
  else
    let q := p.setField (tkReg 0x10) 2 0 s
    let q := { q with time := { q.time with running := decide (s ≠ 0), learn := none } }
    let q := if s = 1 then
        { (q.addWrapField (tkReg 0x70) 31 16 1).setBit (tkReg 0x10) 7 false with
          time := { q.time with loop := 0, integ := 0, phase := 0, phaseInteg := 0, pullAcc := 0,
                                freeAt := p.clk } }.setInt64 (tkReg 0x50) 0
      else q
    (q.tkHist 0).syncFlags

/-! ### Sources and selection (R320 to R324) -/

/-- May a reference be selected (R320)? -/
def Part.selectable (p : Part) (r : Nat) : Bool :=
  p.refState r == 3 && !p.lockedOut r && (!p.refHeld r || p.selected == some r)

/-- Frequency and phase source of the selected reference (R312, R324). A PPS reference without time of day gives no phase
while TIME_SET is 0; its partner still gives the frequency. -/
def Part.sourcesOf (p : Part) (s : Nat) : Nat × Option Nat :=
  let c := p.reg (refReg s 0)
  let pps := p.refType s == 3 && !c.getLsbD 14 && !p.timeSet
  if !phaseType (p.refType s) || p.refFar s then (s, none)
  else
    let partner := fieldOf c 11 8
    (if c.getLsbD 15 && partner != s && p.selectable partner then partner else s, if pps then none else some s)

/-- The sources follow the selection; a new phase source waits for its first measurement (R324, R329). -/
def Part.syncSources (p : Part) : Part :=
  let old := p.phaseSrc
  let oldF := p.freqSrc
  let src : Option (Nat × Option Nat) := p.selected.map p.sourcesOf
  let fs := src.map (·.1)
  let ps := src.bind (·.2)
  let q := ((p.setField (tkReg 8) 7 4 (fs.getD 0)).setField (tkReg 8) 11 8 (ps.getD 0)).setBit
    (tkReg 8) 28 ps.isNone
  let q := (List.range 16).foldl (fun (x : Part) r =>
    x.setField (refReg r 0x20) 15 13
      ((p.selected == some r).toNat * 4 + (fs == some r).toNat * 2 + (ps == some r).toNat)) q
  let q := if fs = oldF then q else { q with time := { q.time with learn := none } }
  let q := if ps = old then q
    else
      let t := { q with time := { q.time with fresh := ps.isSome } }
      match ps with
      | none => t.setInt64 (tkReg 0x58) 0
      | some r => t.setRefSt r { t.refSt r with far := 0 }
  q.syncFlags

/-- The selected reference changes (R321, R326, R347): history, counts, the timekeeper's state, sources. -/
def Part.setSelected (p : Part) (o : Option Nat) : Part :=
  let old := p.selected
  if o = old then p
  else
    let q := (p.setField (tkReg 8) 3 0 (o.getD 0)).setBit (tkReg 8) 30 o.isNone
    let q := match old with | some r => q.refHist r 4 | none => q
    let q := match o with | some r => q.refHist r 4 | none => q
    let q := (q.addWrapField (tkReg 0x70) 15 0 1).tkHist 1
    let q := q.syncSources
    let renewed := q.tkState == 4 && !q.coresAway
    match o with
    | none => if q.tkState = 2 ∨ q.tkState = 3 ∨ renewed = true then q.enterTk 1 else q
    | some _ => if q.tkState = 1 ∨ q.tkState = 3 ∨ renewed = true then q.enterTk 2 else q

/-- `a` ranks above `b`: lower PRIORITY, then lower slot (R321). -/
def Part.bestRef (p : Part) : List Nat → Option Nat
  | [] => none
  | r :: l =>
    match p.bestRef l with
    | none => some r
    | some b => if p.field (refReg r 0) 27 24 ≤ p.field (refReg b 0) 27 24 then some r else some b

/-- The references that may be selected, by slot. -/
def Part.selectables (p : Part) : List Nat := (List.range 16).filter p.selectable

/-- The hardware choice (R321). -/
def Part.hwChoice (p : Part) : Option Nat :=
  if p.tkState = 0 ∨ !p.md.cur.tkRunning ∨ p.bit (tkReg 0) 29 then none
  else
    let manual := p.bit (tkReg 8) 31
    let named := p.field (tkReg 8) 19 16
    let stay := match p.selected with | some r => p.selectable r | none => false
    if manual && p.selectable named then some named
    else if stay && (manual || !p.bit (tkReg 0) 31) then p.selected
    else p.bestRef p.selectables

/-- The candidate's code (R323). -/
def refCode (o : Option Nat) : Nat := o.getD 16

/-- ALT_MASK: a bit for each selectable reference (R323). -/
def Part.refAlts (p : Part) : Word :=
  BitVec.ofNat 32 (p.selectables.foldl (fun n r => n + 2 ^ r) 0)

/-- A decided selection takes effect; a reference no longer selectable is not taken (R323). -/
def applySelect (v : Nat) (p : Part) : Part :=
  if 16 ≤ v then p.setSelected none else if p.selectable v then p.setSelected (some v) else p

/-- The choice is evaluated again (R321, R323). Outside the running modes no reference is selected. -/
def Part.reselect (p : Part) : Part :=
  let c := p.hwChoice
  let q := if (p.openFor 4 0).isSome || decide (c ≠ p.selected) then
      p.offer 4 0 (refCode c) p.refAlts applySelect
    else p
  let lost := match q.selected with | some r => !q.selectable r | none => false
  let q := if lost || !q.md.cur.tkRunning then q.setSelected none else q
  q.syncSources

/-! ### Reference states (R319) -/

/-- A decision of function 5 closes: 1 disqualifies, 0 keeps the reference QUALIFIED (R318). -/
def applyDisqualify (r v : Nat) (p : Part) : Part :=
  if p.refState r ≠ 3 then p
  else if v = 1 then
    let q := (p.setField (refReg r 0x20) 3 0 4).setBit (refReg r 0x20) 10 false
    (q.refHist r 3).reselect
  else p.setRefSt r { p.refSt r with keep := true }

/-- The state field changes, with what leaving QUALIFIED and entering a state do (R318, R319, R330). -/
def Part.putRefState (p : Part) (r s : Nat) : Part :=
  let old := p.refState r
  let q := p.setField (refReg r 0x20) 3 0 s
  let q := q.setRefSt r { q.refSt r with passed := false }
  let q := if old = 3 ∧ s ≠ 3 then
      let t := (q.setBit (refReg r 0x20) 10 false).setRefSt r { q.refSt r with far := 0 }
      if (t.openFor 5 r).isSome then t.offer 5 r 0 0#32 (applyDisqualify r) else t
    else q
  if s = 1 then q.addWrapField (refReg r 0x48) 15 0 1
  else if s = 3 then q.refHist r 2
  else if s = 4 then q.refHist r 3
  else q

/-- A QUALIFYING reference that has passed one whole gate is QUALIFIED while no reference is (R319). -/
def Part.promote (p : Part) : Part :=
  if (List.range 16).any fun r => p.refState r == 3 then p
  else
    ((List.range 16).filter fun r => p.refState r == 2 && (p.refSt r).passed).foldl
      (fun (q : Part) r => q.putRefState r 3) p

/-- A reference changes state; the choice is evaluated again (R319, R321). -/
def Part.toRef (p : Part) (r s : Nat) : Part := (p.putRefState r s).promote.reselect

/-- A monitor flag of a reference, bit 7 ACT_OK or 8 FREQ_OK, set or cleared (R314, R315, R319). -/
def Part.setMonitor (p : Part) (r b : Nat) (v : Bool) : Part :=
  if p.bit (refReg r 0x20) b = v ∨ p.refState r = 0 then p
  else
    let q := p.setBit (refReg r 0x20) b v
    let q := if v then q
      else ((q.refHist r (b - 7)).setRefSt r { q.refSt r with gate := false, window := false })
    if q.refPass r then if q.refState r = 1 then q.toRef r 2 else q
    else if q.refState r = 1 then q else q.toRef r 1

/-- A slot goes OFF (R319): STATE keeps the copy of LOCKOUT. -/
def Part.refOff (p : Part) (r : Nat) : Part :=
  if p.refState r = 0 then p
  else
    let q := p.putRefState r 0
    (q.setReg (refReg r 0x20) (withBit 0#32 12 (q.lockedOut r))).setRefSt r {}

/-- A slot starts: OFF to FAILED (R319). -/
def Part.refStart (p : Part) (r : Nat) : Part :=
  if p.refOn r && p.refState r == 0 then p.putRefState r 1 else p

/-- Does the source's receiver run in the current mode (R65, R314)? -/
def Part.refRuns (p : Part) (r : Nat) : Bool :=
  let t := p.refType r
  let s := p.refSource r
  let client := match p.runMode with | .listen | .carry | .trim | .drain => true | _ => false
  if t = 0 then p.bit (laneReg s 0x10) 3
  else if t = 1 then p.bit (laneReg (48 + s) 0x10) 4
  else if t = 4 ∧ s < 48 then client
  else if t = 4 ∨ t = 5 then p.runMode.receives
  else true

/-- A usable measurement of a phase reference arrives: its time error, and ACT_OK after two in a row
(R314). -/
def Part.refMeasured (p : Part) (r : Nat) (te : Int) (inTime : Bool) : Part :=
  if p.refState r = 0 ∨ p.refHeld r then p
  else
    let c := p.refSt r
    let n := if inTime then min (c.run + 1) 2 else 1
    let at_ : Int := p.clk * 262144
    let q := (p.setInt64 (refReg r 0x40) te).setRefSt r
      { c with run := n, hit := c.hit || inTime, miss := if inTime then 0 else c.miss, meas := some te,
               phases := (at_, p.time.now - te - at_) :: c.phases }
    if n = 2 then q.setMonitor r 7 true else q

/-- An expected measurement arrives but is invalid: the activity monitor counts it so (R314, R353, R366). -/
def Part.refInvalid (p : Part) (r : Nat) : Part :=
  if p.refState r = 0 ∨ p.refHeld r then p else p.setRefSt r { p.refSt r with run := 0, hit := false }

/-- The enabled slot of a type and source (R311). -/
def Part.refFor (p : Part) (t s : Nat) : Option Nat :=
  (List.range 16).find? fun r => p.refOn r && p.refType r == t && p.refSource r == s

/-! ### PPS and time of day (R312, R343, R345) -/

/-- TIMEKEEPER.UTC takes a new value (R345). -/
def Part.setUtc (p : Part) (w : Word) : Part :=
  if p.reg (tkReg 0x60) = w then p else (p.setReg (tkReg 0x60) w).tkHist 8

/-- UTC copied from a message of reference `r`, where it is the phase source (R345). -/
def Part.copyUtc (p : Part) (r : Nat) (w : Word) : Part :=
  if p.bit (tkReg 0) 28 && p.phaseSrc == some r then
    p.setUtc (mergeMask w (p.reg (tkReg 0x60)) (p.justWrote (tkReg 0x60))) else p

/-- PPS_IN_EDGE (R312, R314): a rising edge on PPS_IN[j] at a local instant. -/
def ppsInEdge (j : Fin 2) (at_ : Nat) (p : Part) : Part :=
  match p.refFor 3 j with
  | none => p
  | some r =>
    if p.refState r = 0 ∨ p.refHeld r then p
    else
      let c := p.refSt r
      let sec : Option Int :=
        if p.bit (refReg r 0) 14 then c.tod.map Int.ofNat else some (roundDiv at_ secUnits)
      let q := p.setRefSt r { c with tod := none }
      match sec with
      | none => q
      | some s =>
        let inTime := match c.edge with
          | some e => decide (((at_ : Int) - e - secUnits).natAbs ≤ 6553600000)
          | none => true
        let te := (at_ : Int) - (s * secUnits + p.refDelay r)
        let q := q.setRefSt r { q.refSt r with edge := some at_ }
        q.refMeasured r te inTime

/-- Bytes most significant first as a number (R8). -/
def bytesNat (bs : List Byte) : Nat := bs.foldl (fun n b => n * 256 + b.toNat) 0

/-- Is a time-of-day message valid (R343)? -/
def todGood (bs : List Byte) : Bool :=
  bs.length == 16 && bs.take 3 == [0xC3#8, 0x5A#8, 0x01#8] &&
    bytesNat (bs.drop 14) == (crc16 (bs.take 14)).toNat

/-- TOD_IN_MESSAGE (R312, R343, R345). -/
def todInMessage (j : Fin 2) (bs : List Byte) (p : Part) : Part :=
  match p.refFor 3 j with
  | none => p
  | some r =>
    if p.refState r = 0 ∨ !todGood bs then p
    else
      let q := p.setRefSt r { p.refSt r with tod := some (bytesNat ((bs.drop 4).take 6)) }
      let fl := bs.getD 3 0#8
      if fl.getLsbD 2 then
        q.copyUtc r (BitVec.ofNat 32 (2 ^ 31 + (fl.getLsbD 0).toNat * 2 ^ 18
          + (fl.getLsbD 1).toNat * 2 ^ 17 + bytesNat ((bs.drop 10).take 2)))
      else q

/-! ### Monitors (R314 to R316, R319) -/

/-- Does a window's edge count lie within 1% of NOMINAL (2^-16 Hz) × ACT_WIN_MS (R314, R348)? -/
def Part.countGood (p : Part) (r edges : Nat) : Bool :=
  let nominal : Int := ((p.reg64 (refReg r 0x10)).toNat * p.field (refReg r 0xC) 5 0 : Nat)
  decide (((edges * 65536000 : Nat) - nominal).natAbs * 100 ≤ nominal.natAbs)

/-- ACT_WINDOW_END (R314): a whole window of a clock reference, or the next expected measurement of a
phase reference. A PPS edge within this second, though not in time, begins a new run. -/
def actWindowEnd (r : Fin 16) (seen : ActSeen) (p : Part) : Part :=
  if p.refState r = 0 ∨ p.refHeld r then p
  else if p.refType r = 2 then p.setMonitor r 7 (p.countGood r seen.edges)
  else if !phaseType (p.refType r) then p.setMonitor r 7 (seen.held && p.refRuns r)
  else
    let c := p.refSt r
    if c.hit && p.refRuns r then p.setRefSt r { c with hit := false, miss := 0 }
    else
      let late := match c.edge with | some e => decide (p.time.now - e < secUnits) | none => false
      let q := p.setRefSt r { c with hit := false, run := if late then c.run else 0, miss := c.miss + 1 }
      if p.field (refReg r 0xC) 11 8 ≤ c.miss + 1 then q.setMonitor r 7 false else q

/-- The activity monitor fails at once (R313). -/
def Part.refFailNow (p : Part) (r : Nat) : Part :=
  (p.setRefSt r { p.refSt r with run := 0, hit := false }).setMonitor r 7 false

/-- The sums of R315's least squares: n, Σx, Σy, Σx², Σxy. -/
def phaseSums : List (Int × Int) → Int × Int × Int × Int × Int
  | [] => (0, 0, 0, 0, 0)
  | e :: l =>
    let s := phaseSums l
    (s.1 + 1, s.2.1 + e.1, s.2.2.1 + e.2, s.2.2.2.1 + e.1 * e.1, s.2.2.2.2 + e.1 * e.2)

/-- The least-squares slope over phase measurements, in 2^-48 (R20, R315); none where they lie at fewer than two
instants. -/
def phaseSlope (l : List (Int × Int)) : Option Int :=
  let s := phaseSums l
  let d := s.1 * s.2.2.2.1 - s.2.1 * s.2.1
  if d ≤ 0 then none else some (roundDiv ((s.1 * s.2.2.2.2 - s.2.1 * s.2.2.1) * 2 ^ 48) d.toNat)

/-- Δf of a gate (R315): the slope of a phase reference's measurements, or the frequency recovered or counted. -/
def Part.gateDf (p : Part) (r : Nat) (df : Int) : Option Int :=
  if phaseType (p.refType r) then phaseSlope (p.refSt r).phases else some df

/-- Δf of a gate is judged: against REJECT and ACCEPT in 0.01 ppm, and toward the drift window's mean (R315, R317). -/
def Part.judgeDf (p : Part) (r : Nat) (df : Int) : Part :=
  let a := df.natAbs
  let c := p.refSt r
  let q := (p.setInt64 (refReg r 0x30) df).setRefSt r { c with sumDf := c.sumDf + df, gates := c.gates + 1 }
  if freqLimit (p.field (refReg r 8) 31 16) 100000000 < a then q.setMonitor r 8 false
  else if a ≤ freqLimit (p.field (refReg r 8) 15 0) 100000000 then q.setMonitor r 8 true
  else q

/-- FREQ_GATE_END (R315, R319): a gate ends. A phase reference with too few measurements to give a slope leaves FREQ_OK as
it is (log 97). -/
def freqGateEnd (r : Fin 16) (df : Int) (p : Part) : Part :=
  if p.refState r = 0 ∨ p.refHeld r then p
  else
    let q := match p.gateDf r df with
      | some x => p.judgeDf r x
      | none => p
    let q := q.setRefSt r { q.refSt r with phases := [] }
    let whole := q.refState r == 2 && (q.refSt r).gate
    let q := q.setRefSt r { q.refSt r with gate := q.refPass r, passed := (q.refSt r).passed || whole }
    if whole then q.promote.reselect else q

/-- REF_WTR_EXPIRE (R319). -/
def refWtrExpire (r : Fin 16) (p : Part) : Part :=
  if p.refState r = 2 ∧ p.refPass r ∧ !p.refHeld r then p.toRef r 3 else p

/-! ### Steps (R331) -/

/-- A ToD message of 16 bytes that names a second (R343). -/
def Part.todMessage (p : Part) (sec : Nat) : List Byte :=
  let u := p.reg (tkReg 0x60)
  let st := p.reg (tkReg 0x10)
  let fl := (st.getLsbD 5).toNat * 128 + (st.getLsbD 6).toNat * 64 + (p.tkState == 3).toNat * 32
    + (p.tkState == 1).toNat * 16 + (st.getLsbD 4).toNat * 8 + (u.getLsbD 31).toNat * 4
    + (u.getLsbD 17).toNat * 2 + (u.getLsbD 18).toNat
  let src := (match p.phaseSrc with | some r => p.refType r | none => 15) * 16 + (p.selected.getD 0)
  let body := [0xC3, 0x5A, 0x01, fl, sec / 2 ^ 40, sec / 2 ^ 32, sec / 2 ^ 24, sec / 2 ^ 16, sec / 2 ^ 8,
    sec, fieldOf u 15 8, fieldOf u 7 0, src, 0].map (BitVec.ofNat 8 ·)
  let c := (crc16 body).toNat
  body ++ [BitVec.ofNat 8 (c / 256), BitVec.ofNat 8 c]

/-- PHASE of an output (R349). -/
def Part.outPhase (p : Part) (k : Nat) : Int := p.int64 (outReg k 0x10)

/-- TOD_OUT[j] sends a message that names second `sec` (R343). -/
def Part.sendTod (p : Part) (j sec : Nat) : Part :=
  (p.emit (.bytes ("TOD_OUT" ++ toString j) (p.todMessage sec))).addWrap (outReg (4 + j) 0x1C) 1

/-- The last second each PPS_OUT marked. -/
def Part.ppsSec (p : Part) (j : Nat) : Nat := if j = 0 then p.time.pps0 else p.time.pps1
/-- A ToD message for the next edge has been sent. -/
def Part.todSent (p : Part) (j : Nat) : Bool := if j = 0 then p.time.sent0 else p.time.sent1
/-- The mark of PPS_OUT[j] replaced. -/
def Part.setPps (p : Part) (j sec : Nat) (sent : Bool) : Part :=
  if j = 0 then { p with time := { p.time with pps0 := sec, sent0 := sent } }
  else { p with time := { p.time with pps1 := sec, sent1 := sent } }

/-- The second that holds a local instant, against an output's phase. -/
def Part.secAt (p : Part) (j : Nat) : Nat := ((p.time.now - p.outPhase (4 + j)) / secUnits).toNat

/-- A ToD message already sent for the next edge is followed by a corrected one (R331). -/
def Part.resendTod (p : Part) (j : Nat) : Part :=
  let q := p.setPps j (p.secAt j) (p.todSent j)
  if p.todSent j && p.outRuns (4 + j) && p.bit (outReg (4 + j) 0) 27 then q.sendTod j (p.secAt j + 1) else q

/-- Local time moves at one instant (R331): PM seconds, drift windows, ToD messages and waiting
measurements follow, and STEP_H sets. -/
def Part.stepTime (p : Part) (delta : Int) : Part :=
  let old := p.now
  let refs := p.time.refs.map fun e =>
    (e.1, { e.2 with meas := e.2.meas.map (· + delta), edge := e.2.edge.map (· + delta) })
  let q := { p with time := { p.time with now := p.time.now + delta, refs := refs, stepped := true,
                                          calm := false } }
  (((q.pmStep old q.now).resendTod 0).resendTod 1).tkHist 3

/-! ### The loop's measurements (R327 to R330) -/

/-- PHASE_FAR sets on the phase source (R330). -/
def Part.setFar (p : Part) (r : Nat) : Part :=
  (((p.setBit (refReg r 0x20) 10 true).refHist r 6).tkHist 2).syncSources

/-- The pull ends: PULL_LEFT is 0 (R329). -/
def Part.endPull (p : Part) : Part :=
  ({ (p.setInt64 (tkReg 0x50) 0).setBit (tkReg 0x10) 7 false with
     time := { p.time with pullAcc := 0 } }.tkHist 4).syncFlags

/-- The slew ends: SLEW_LEFT is 0 (R333). -/
def Part.endSlew (p : Part) : Part :=
  ({ (p.setInt64 (tkReg 0x48) 0).setBit (tkReg 0x10) 8 false with
     time := { p.time with slewAcc := 0, slope := 0 } }.tkHist 5).syncFlags

/-- A time error against the phase source is used (R347). -/
def Part.useTe (p : Part) (te : Int) : Part := p.setInt64 (tkReg 0x58) te

/-- The first measurement of a new phase source (R329, R330): a step while TIME_SET is 0, else a pull, or
PHASE_FAR. -/
def Part.firstPhase (p : Part) (r : Nat) (te : Int) : Part :=
  if !p.timeSet then
    let q := ((p.addWrapField (tkReg 0x74) 15 0 1).setBit (tkReg 0x10) 5 true).setInt64 (tkReg 0x50) 0
    let q := { q.setBit (tkReg 0x10) 7 false with
      time := { q.time with fresh := false, pullAcc := 0, phase := 0, phaseInteg := 0 } }
    ((q.stepTime (- te)).useTe 0).syncSources
  else
    let e := te - (p.pleatSum - p.slewLeft)
    if p.pullLimit < e.natAbs then p.setFar r
    else
      let q := { p.useTe te with time := { p.time with fresh := false, pullAcc := 0, phase := 0, phaseInteg := 0 } }
      let q := q.setInt64 (tkReg 0x50) e
      if e = 0 then if p.pulling then q.endPull else q.syncFlags
      else
        { q.setBit (tkReg 0x10) 7 true with time := { q.time with calm := false } }.syncFlags

/-- A later measurement of the phase source: it steers at its bandwidth toward T*, or counts as far (R324, R325,
R330). -/
def Part.laterPhase (p : Part) (r : Nat) (te : Int) : Part :=
  if p.pullLimit < (te - p.target).natAbs then
    let n := (p.refSt r).far + 1
    let q := p.setRefSt r { p.refSt r with far := n }
    if 3 ≤ n then q.setFar r else q
  else
    let l := loopNext (p.refBw r) p.time.phaseInteg (te - p.target)
    let q := { p.useTe te with time := { p.time with phase := l.1, phaseInteg := l.2 } }
    (q.setRefSt r { q.refSt r with far := 0 }).syncFreq

/-- The criteria of R327 on what the part holds, within `ns` of T* in 2^-16 ns and within `ppb`: a phase source whose first
measurement has not been used gives none. -/
def Part.within (p : Part) (ns ppb : Nat) : Bool :=
  decide (p.time.ferr.natAbs ≤ freqLimit ppb 1000000000) &&
    (p.phaseSrc.isNone || (!p.time.fresh && decide ((p.int64 (tkReg 0x58) - p.target).natAbs ≤ ns)))

/-- The lock criterion (R327): 10 ns and 1 ppb. -/
def Part.lockMet (p : Part) : Bool := p.within 655360 1

/-- The loss criterion (R327): beyond 40 ns or 4 ppb. -/
def Part.lossMet (p : Part) : Bool := !p.within 2621440 4

/-- HELD ends at the first measurement after RENEW (R326). -/
def Part.leaveHeld (p : Part) : Part :=
  if p.tkState = 4 ∧ p.coresAway = false then p.enterTk (if p.time.wasLocked && p.lockMet then 3 else 2) else p

/-- REF_MEASUREMENT (R316, R329, R330): the last measurement of a reference reaches the loop; `ferr` is
the frequency error against the frequency source in 2^-48. -/
def refMeasurement (r : Fin 16) (ferr : Int) (p : Part) : Part :=
  if p.tkState = 0 ∨ p.selected = none ∨ !p.refPass r ∨ p.refHeld r then p
  else
    let isF := p.freqSrc == some r.val
    let isP := p.phaseSrc == some r.val
    let te := if isP then (p.refSt r).meas else none
    let q := p.setRefSt r { p.refSt r with meas := none }
    let l := loopNext (p.refBw r) p.time.integ ferr
    let q := if isF then
        { q with time := { q.time with loop := l.1, integ := l.2, ferr := ferr } }.syncFreq
      else q
    let q := match te with
      | some x => if q.time.fresh then q.firstPhase r x else q.laterPhase r x
      | none => q
    if isF || isP then q.leaveHeld else q

/-- TK_LOCK (R326, R327): the lock criterion has held for 10 s. -/
def tkLock (p : Part) : Part := if p.tkState = 2 ∧ p.lockMet = true then p.enterTk 3 else p

/-- TK_LOCK_LOSS (R326, R327): the loss criterion has held for 1 s. -/
def tkLockLoss (p : Part) : Part := if p.tkState = 3 ∧ p.lossMet = true then p.enterTk 2 else p

/-- PULL_END (R70, R329): what was left has been pulled; a held source pulls nothing. -/
def pullEnd (p : Part) : Part :=
  if p.pulling && !p.pullHeld then { p with time := { p.time with now := p.time.now - p.pullLeft } }.endPull else p

/-- SLEW_END (R333): what was left has been slewed. -/
def slewEnd (p : Part) : Part :=
  if p.slewing then { p with time := { p.time with now := p.time.now + p.slewLeft } }.endSlew else p

/-- WARMING_CLEAR (R53, R346). -/
def warmingClear (p : Part) : Part :=
  let q := { p with supply := { p.supply with warm := true } }
  if p.clocked && p.bit (tkReg 0x10) 4 then ((q.setBit (tkReg 0x10) 4 false).tkHist 6).syncOutputs else q

/-! ### The oscillator table (R335, R337) -/

/-- The value of oscillator table entry `e`, in 2^-48 (R337). -/
def Part.calValue (p : Part) (e : Nat) : Int :=
  match SMap.get (fun _ => none) p.journal.learned e with
  | some c => c.value
  | none => (Config.oscFactory e).toInt

/-- Has an entry never been adopted? -/
def Part.calFactory (p : Part) (e : Nat) : Bool := (SMap.get (fun _ => none) p.journal.learned e).isNone

/-- CAL and CAL_FACTORY follow TEMP while the timekeeper runs and C(T) is in use (R335, R337, R347). Beyond the
table's ends C(T) is a free value. -/
def Part.syncCal (p : Part) : Part :=
  let t : Int := ((p.reg (tkReg 0x64)).extractLsb' 0 16).toInt + 256
  if p.tkState = 0 then p
  else if t < 0 ∨ 127 * 16 < t then (p.setReg64 (tkReg 0x38) p.freshValue).useFree
  else
    let e := t.toNat / 16
    let f := t.toNat % 16
    let v := roundDiv (p.calValue e * (16 - f : Nat) + (if f = 0 then 0 else p.calValue (e + 1) * f)) 16
    (p.setInt64 (tkReg 0x38) (- v)).setBit (tkReg 0x10) 10
      (p.calFactory e || (decide (f ≠ 0) && p.calFactory (e + 1)))

/-! ### Starting, stopping and mode changes (R319, R326) -/

/-- The timekeeper starts in FREE_RUN with time 0 (R326, R334); no second of the new scale is counted yet. -/
def Part.tkStart (p : Part) : Part :=
  let q := (p.countPleat 3 p.pleatSum).clearRegs (tkReg 0x40) (tkReg 0x60)
  let q := ((q.setBit (tkReg 0x10) 5 false).setField (tkReg 0x10) 8 7 0).setBit (tkReg 8) 31 false
  let q := if q.supply.warm && q.bit (tkReg 0x10) 4 then (q.setBit (tkReg 0x10) 4 false).tkHist 6 else q
  let t : TimeSt := { realign := p.time.realign, offers := p.time.offers, high := p.time.high }
  let q := { q with time := t, pm := { q.pm with last := none, toClose := none } }
  let q := (q.enterTk 1).syncCal
  ((List.range 16).foldl (fun (x : Part) r => (x.refOff r).refStart r) q).reselect

/-- The timekeeper stops (R319, R326). Entry into FREEZE leaves the references as they were (R72). -/
def Part.tkStop (p : Part) : Part :=
  if p.tkState = 0 then p
  else if p.md.cur = .freeze then (p.enterTk 0).setBit (tkReg 0x10) 10 false
  else
    let q := (List.range 16).foldl (fun (x : Part) r => x.refOff r) p
    ((q.setSelected none).enterTk 0).setBit (tkReg 0x10) 10 false

/-- RENEW begins: PTP, TX and TWIN references are HELD, and so is the timekeeper where one of them is a
source (R70, R319, R326). -/
def Part.tkRenew (p : Part) : Part :=
  let held : Option Nat → Bool := fun o => match o with | some r => heldType (p.refType r) | none => false
  let q := ((List.range 16).filter fun r => heldType (p.refType r) && p.refState r != 0).foldl
    (fun (x : Part) r => x.setBit (refReg r 0x20) 11 true) p
  if (p.tkState = 2 ∨ p.tkState = 3) ∧ (held p.freqSrc || held p.phaseSrc) = true then
    { q with time := { q.time with wasLocked := p.tkState == 3 } }.enterTk 4
  else q

/-- RENEW ends: monitors and measurements resume (R319, R326). -/
def Part.tkRenewEnd (p : Part) : Part :=
  let q := (List.range 16).foldl (fun (x : Part) r => x.setBit (refReg r 0x20) 11 false) p
  let q := if q.tkState = 4 ∧ (!q.time.wasLocked ∨ q.selected = none) then
      let t := q.enterTk 2
      if t.selected = none then t.enterTk 1 else t
    else q
  q.reselect.syncFlags

/-- A mode is entered (R321, R326). FREEZE leaves what RENEW held as it is (R72). -/
def Part.tkMode (p : Part) (old : Mode) : Part :=
  let new := p.md.cur
  let q := if old = .renew ∧ new ≠ .freeze then p.tkRenewEnd else p
  let q :=
    if new = .fit ∧ (old = .inert ∨ old = .attest ∨ old = .prove) then q.tkStart
    else if new = .fit ∨ new.tkRunning then (if new = .renew then q.tkRenew.reselect else q.reselect)
    else q.tkStop
  q.syncFlags

/-! ### LOCKOUT, REACQUIRE and the REF class (R320, R322, R330) -/

/-- LOCKOUT takes effect at once (R320). -/
def Part.syncLockout (p : Part) (r : Nat) : Part :=
  (p.setBit (refReg r 0x20) 12 (p.lockedOut r)).reselect

/-- A write of 1 to CTRL.REACQUIRE (R330, R334). -/
def reacquireEffect (w : Word) (p : Part) : Part :=
  if !w.getLsbD 0 then p
  else
    let q := (p.countPleat 3 p.pleatSum).clearRegs (tkReg 0x40) (tkReg 0x58)
    let q := (q.setBit (tkReg 0x10) 5 false).setField (tkReg 0x10) 8 7 0
    let q := (List.range 16).foldl (fun (x : Part) r =>
      (x.setBit (refReg r 0x20) 10 false).setRefSt r { x.refSt r with far := 0 }) q
    let q := { q with time := { q.time with slope := 0, slewAcc := 0, pullAcc := 0, calm := false,
                                            fresh := q.phaseSrc.isSome } }
    q.syncSources.syncFlags

/-- A REF command's own effect; an open selection decision is superseded by it (R322). -/
def Part.refCommand (p : Part) : Part :=
  let q := p.setSelected p.hwChoice
  let q := if (q.openFor 4 0).isSome then q.offer 4 0 (refCode q.selected) 0#32 applySelect else q
  q.syncSources

/-- REF.SELECT (R322). -/
def refSelect (t : Fin 1024) (p : Part) : Part :=
  if !p.runs t 0x0801 then p
  else
    let r := fieldOf (p.par t 0) 3 0
    if !p.refOn r then p.reject t stParam 0
    else
      let q := ((p.setField (tkReg 8) 19 16 r).setBit (tkReg 8) 31 true).refCommand
      q.done t (joinWords (q.reg (refReg r 0x20)) 0#32) 0#32

/-- REF.AUTO (R322). -/
def refAuto (t : Fin 1024) (p : Part) : Part :=
  if !p.runs t 0x0802 then p
  else
    let q := (p.setBit (tkReg 8) 31 false).refCommand
    q.done t (joinWords q.selectWord 0#32) 0#32

/-- REF.STATUS (R322). -/
def refStatus (t : Fin 1024) (p : Part) : Part :=
  if !p.runs t 0x0803 then p
  else
    let r := fieldOf (p.par t 0) 3 0
    p.done t (joinWords (p.reg (refReg r 0x20)) 0#32) (BitVec.ofNat 32 (p.field (refReg r 0x24) 6 0))

/-! ### Pleats (R332 to R334) -/

/-- A pleat is committed: it enters the sum while TIME_SET is 1, and the pleat ledger (R332, R334). -/
def Part.commitPleat (p : Part) (x : Int) : Part :=
  let q := p.countPleat 0 x
  if p.timeSet then q.setInt64 (tkReg 0x40) (p.pleatSum + x) else q.countPleat 2 x

/-- The sum with a pleat stays a signed 64-bit value (R332). -/
def Part.pleatFits (p : Part) (x : Int) : Bool := !p.timeSet || fits64 (p.pleatSum + x)

/-- PLEAT.STEP (R332). -/
def pleatStep (t : Fin 1024) (p : Part) : Part :=
  if !p.runs t 0x0601 then p
  else
    let x := (p.par64 t 0).toInt
    if !p.pleatFits x ∨ p.time.now + x < 0 then p.reject t stParam 0
    else
      let q := ((p.commitPleat x).stepTime x).addWrapField (tkReg 0x74) 31 16 1
      q.done t (q.reg64 (tkReg 0x40)) 0#32

/-- PLEAT.SLEW (R333). -/
def pleatSlew (t : Fin 1024) (p : Part) : Part :=
  if !p.runs t 0x0602 then p
  else
    let x := (p.par64 t 0).toInt
    let s := (p.par t 2).toNat
    if p.slewLeft ≠ 0 then p.reject t stBusy 0
    else if s = 0 ∨ 10000 < s then p.reject t stParam 2
    else if x = 0 then p.done t (p.reg64 (tkReg 0x40)) 0#32
    else if !p.pleatFits x then p.reject t stParam 0
    else
      let q := (p.commitPleat x).setInt64 (tkReg 0x48) x
      let q := { q.setBit (tkReg 0x10) 8 true with
                 time := { q.time with slope := s, slewAcc := 0, calm := false } }
      q.syncFlags.done t (q.reg64 (tkReg 0x40)) 0#32

/-- PLEAT.SUM (R167). -/
def pleatSum (t : Fin 1024) (p : Part) : Part :=
  if !p.runs t 0x0603 then p else p.done t (p.reg64 (tkReg 0x40)) 0#32

/-! ### Free run and learning (R335 to R339) -/

/-- The case temperature in 1/16 °C is sampled (R335, R347). -/
def Part.tkTemp (p : Part) (t : Word) : Part := (p.setReg (tkReg 0x64) (t &&& 0xFFFF#32)).syncCal

/-- A learning step is adopted or discarded (R338, R339). -/
def applyLearn (e v : Nat) (p : Part) : Part :=
  let c : Int := SMap.get (fun _ => 0) p.time.offers e
  let p := { p with time := { p.time with offers := SMap.set (fun _ => 0) p.time.offers e 0 } }
  if v ≠ 1 then p.addWrapField (tkReg 0x78) 31 16 1
  else
    let old := p.calValue e
    let n := match SMap.get (fun _ => none) p.journal.learned e with | some x => x.count | none => 0#32
    let x : CalEntry := { value := roundDiv (8 * old + (c - old)) 8, count := n + 1#32,
                          day := BitVec.ofNat 32 (p.now / secUnits / 86400) }
    let q := { p with journal := { p.journal with
      learned := SMap.set (fun _ => none) p.journal.learned e (some x) } }.journalWrites 1
    ((q.addWrapField (tkReg 0x78) 15 0 1).tkHist 7).syncCal

/-- The learning step at the end of a drift window (R338). -/
def Part.learnStep (p : Part) (osc temp : Int) (steady : Bool) : Part :=
  match p.time.learn with
  | none => p
  | some r =>
    let e := roundDiv temp 16 + 16
    if p.tkState ≠ 3 ∨ p.freqSrc ≠ some r ∨ !p.time.calm ∨ p.time.stepped ∨ !steady ∨
        p.field (refReg r 0x4C) 15 0 < 4 ∨ p.bit (refReg r 0x20) 9 ∨ e < 0 ∨ 127 < e then p
    else
      let k := e.toNat
      if freqLimit 10 1000000000 < (osc - p.calValue k).natAbs then p.addWrapField (tkReg 0x78) 31 16 1
      else
        let q := { p with time := { p.time with offers := SMap.set (fun _ => 0) p.time.offers k osc } }
        q.offer 9 (0x2000 + k) 1 3#32 (applyLearn k)

/-! ### Drift watch (R317, R318) -/

/-- A number placed in a rising list. -/
def insertInt (x : Int) : List Int → List Int
  | [] => [x]
  | y :: l => if x ≤ y then x :: y :: l else y :: insertInt x l

/-- A list in rising order. -/
def sortInts : List Int → List Int
  | [] => []
  | x :: l => insertInt x (sortInts l)

/-- The median; for an even count the mean of the two middle values (R20, R317). -/
def medianInt (l : List Int) : Int :=
  let s := sortInts l
  let n := s.length
  if n % 2 = 1 then s.getD (n / 2) 0 else roundDiv (s.getD (n / 2 - 1) 0 + s.getD (n / 2) 0) 2

/-- The mean Δf of a reference whose window is valid (R317): over the gates that have ended in it and, where `tails` gives
one, the gate under way (log 98). -/
def Part.driftMean (p : Part) (tails : List (Option Int)) (r : Nat) : Option Int :=
  if p.refState r ≠ 0 ∧ !p.time.stepped ∧ (p.refSt r).window ∧ p.refPass r then
    let c := p.refSt r
    let s := c.sumDf + ((tails.getD r none).getD 0)
    let n := c.gates + (tails.getD r none).isSome.toNat
    if n = 0 then none else some (roundDiv s n)
  else none

/-- M for reference `r`: the median of 0 and the other QUALIFIED references' means (R317). -/
def Part.driftMedian (p : Part) (tails : List (Option Int)) (r : Nat) : Int :=
  medianInt (0 :: ((List.range 16).filter fun x => x != r && p.refState x == 3).filterMap
    (p.driftMean tails))

/-- Does |d| exceed DRIFT_THR, in 0.01 ppb (R20, R317)? -/
def Part.driftOver (p : Part) (d : Int) : Bool :=
  decide (freqLimit (p.field (tkReg 0xC) 15 0) 100000000000 < d.natAbs)

/-- One reference at a window's end; `d` is its d_r where the window is valid (R317, R318, R319). -/
def Part.driftRef (p : Part) (r : Nat) (d : Option Int) : Part :=
  if p.refState r = 0 then p
  else match d with
  | none => p.addWrapField (refReg r 0x4C) 31 16 1
  | some x =>
    let q := p.setInt64 (refReg r 0x38) x
    if p.driftOver x then
      let q := q.setField (refReg r 0x4C) 15 0 0
      let q := if q.bit (refReg r 0x20) 9 then q
        else (((q.setBit (refReg r 0x20) 9 true).addWrapField (refReg r 0x48) 31 16 1).refHist r 5)
      if q.bit (tkReg 0) 30 && q.refState r == 3 && !((q.refSt r).keep && q.steered 5 r) then
        q.offer 5 r 1 3#32 (applyDisqualify r)
      else q
    else
      let q := (q.addSatField (refReg r 0x4C) 15 0 1).setBit (refReg r 0x20) 9 false
      let q := q.setRefSt r { q.refSt r with keep := false }
      if q.refState r = 4 then q.toRef r 2 else q

/-- DRIFT_WINDOW_END (R317, R318, R338): the Δf of each reference over a gate that the window's end cuts off, the mean
offset of the raw oscillator from the frequency source, the mean case temperature in 1/16 °C, and whether it stayed
within ±0.5 °C. -/
def driftWindowEnd (tails : List (Option Int)) (osc temp : Int) (steady : Bool) (p : Part) : Part :=
  if p.tkState = 0 then p
  else
    let ds := (List.range 16).map fun r => (r, (p.driftMean tails r).map (· - p.driftMedian tails r))
    let q := ds.foldl (fun (x : Part) e => x.driftRef e.1 e.2) p
    let q := if (p.time.learn.bind (p.driftMean tails)).isSome then q.learnStep osc temp steady else q
    let q := (List.range 16).foldl (fun (x : Part) r =>
      x.setRefSt r { x.refSt r with window := x.refPass r && x.refState r != 0, sumDf := 0, gates := 0 }) q
    { q with time := { q.time with stepped := false, calm := !q.pulling && !q.slewing,
                                   learn := if q.tkState = 3 then q.freqSrc else none } }

/-! ### Outputs (R341 to R344) -/

/-- PPS_OUT_EDGE (R342): the edge marks the whole second nearest local time, less PHASE; the output stays high for
WIDTH_US. -/
def ppsOutEdge (j : Fin 2) (p : Part) : Part :=
  let s := (roundDiv (p.time.now - p.outPhase (4 + j)) secUnits).toNat
  let q := p.setPps j s false
  if p.outRuns (4 + j) then
    let us := p.field (outReg (4 + j) 0) 19 0
    ((q.startHigh (4 + j) (us * edgesPerUs)).emit (.event "PPS_OUT" j (BitVec.ofNat 64 s))).emit
      (.event "PPS_HIGH_US" j (BitVec.ofNat 64 us))
  else q

/-- TOD_OUT_SEND (R343): the message names the edge after the last. -/
def todOutSend (j : Fin 2) (p : Part) : Part :=
  if p.outRuns (4 + j) && p.bit (outReg (4 + j) 0) 27 then
    (p.sendTod j (p.ppsSec j + 1)).setPps j (p.ppsSec j) true
  else p

/-- OUTPUT_REALIGN (R344). -/
def outputRealign (k : Fin 6) (p : Part) : Part :=
  if p.time.realign.getLsbD k then
    { p with time := { p.time with realign := p.time.realign &&& ~~~(1#6 <<< k.val) } }.emit
      (.event "OUTPUT_REALIGN" k 0#64)
  else p

/-! ### Calibration commands (R340) -/

/-- A CAL command in RENEW is ACCEPTED, and its work waits for the cores (R75 entry A, R166). -/
def Part.calAccept (p : Part) (t : Nat) (read : Bool) : Part :=
  let w : CalWork := { read := read, kind := fieldOf (p.par t 0) 3 0, addr := p.resultAddr t, len := p.resultLen t }
  { p.setTagState t .committed with
    back := { p.back with calLater := p.back.calLater ++ [w] } }.reply t stAccepted 0 0#64 0#32

/-- A re-measurement of a kind starts (R340); its results arrive as SEGMENT_REMEASURE. -/
def Part.calStart (p : Part) (kind : Nat) : Part := p.emit (.event "CAL_RUN" kind 0#64)

/-- CAL.RUN (R340). -/
def calRun (t : Fin 1024) (p : Part) : Part :=
  if !p.runs t 0x0A01 then p
  else if 2 ≤ fieldOf (p.par t 0) 3 0 then p.reject t stParam 0
  else if p.coresAway then p.calAccept t false
  else (p.calStart (fieldOf (p.par t 0) 3 0)).done t 0#64 0#32

/-- One record of the oscillator table (R337). -/
def Part.calRecord (p : Part) (e : Nat) : List Word :=
  let v := BitVec.ofInt 64 (p.calValue e)
  match SMap.get (fun _ => none) p.journal.learned e with
  | some c => [loWord v, hiWord v, c.count, c.day]
  | none => [loWord v, hiWord v, 0#32, 0#32]

/-! ### The tick (R15, R329, R333) -/

/-- One register-clock edge of pull: PULL_LEFT moves toward 0 and local time with it. -/
def Part.tickPull (p : Part) : Part :=
  if !p.pulling || p.pullHeld then p
  else
    let a := p.time.pullAcc + p.field (tkReg 0) 13 0 * 262144
    let m := min (a / 10000000000) p.pullLeft.natAbs
    let d : Int := p.pullLeft.sign * m
    let q := { p with time := { p.time with now := p.time.now - d, pullAcc := a % 10000000000 } }
    let q := q.setInt64 (tkReg 0x50) (p.pullLeft - d)
    if p.pullLeft = d then q.endPull else q

/-- One register-clock edge of slew. -/
def Part.tickSlew (p : Part) : Part :=
  if !p.slewing then p
  else
    let a := p.time.slewAcc + p.time.slope * 262144
    let m := min (a / 10000000000) p.slewLeft.natAbs
    let d : Int := p.slewLeft.sign * m
    let q := { p with time := { p.time with now := p.time.now + d, slewAcc := a % 10000000000 } }
    let q := q.setInt64 (tkReg 0x48) (p.slewLeft - d)
    if p.slewLeft = d then q.endSlew else q

/-- Rising edges of OCK[k] from the epoch up to a local instant: the whole numbers t × FREQ has passed, PHASE
apart (R341). -/
def Part.ockCount (p : Part) (k : Nat) (t : Int) : Int :=
  (t - p.outPhase k) * (p.reg64 (outReg k 8)).toNat / (65536 * secUnits)

/-- Half a period of OCK[k] in register-clock edges, rounded up (R344). -/
def Part.ockHalf (p : Part) (k : Nat) : Nat :=
  let f := (p.reg64 (outReg k 8)).toNat
  (125000000 * 65536 + f - 1) / f

/-- The OCK edges that fall between a local instant and now, in order (R341, R344). -/
def Part.tickOck (p : Part) (old : Int) : Part :=
  (List.range 4).foldl (fun (x : Part) k =>
    if x.outRuns k then
      let a := x.ockCount k old
      let n := (x.ockCount k x.time.now - a).toNat
      if n = 0 then x
      else (List.range n).foldl (fun (y : Part) i => y.emit (.event "OCK" k (BitVec.ofInt 64 (a + 1 + i))))
        (x.startHigh k (x.ockHalf k))
    else x) p

/-- A high pulse ends at this edge: a squelch that waited for it begins (R344). -/
def Part.tickHigh (p : Part) : Part :=
  if p.time.high.any fun e => e.2 == p.clk then p.syncOutputs else p

/-- One register-clock edge of the loop's frequency: 4 ns of it move local time (R325). -/
def Part.tickLoop (p : Part) : Part :=
  let a := p.time.loopAcc + p.loopFreq
  { p with time := { p.time with now := p.time.now + a / 2 ^ 30, loopAcc := a % 2 ^ 30 } }

/-- The time scale advances by 4 ns of the calibrated nominal (log 6) and what the loop, a pull and a slew add, and the
clock outputs with it. -/
def Part.tickTime (p : Part) : Part :=
  if p.tkState = 0 then p
  else ((({ p with time := { p.time with now := p.time.now + 262144 } }.tickLoop.tickPull).tickSlew).tickOck
    p.time.now).tickHigh

/-! ### Validation at STITCH (R311, R341, R347, R349) -/

/-- The bandwidth range of a type in mHz (R310). -/
def bwRange : Nat → Nat × Nat
  | 0 | 1 | 2 => (100, 10000)
  | 3 => (1, 100)
  | 4 => (5, 500)
  | 5 => (10, 1000)
  | _ => (50, 2000)

/-- The highest SOURCE of a type (R310). -/
def sourceMax : Nat → Nat
  | 0 | 1 => 47
  | 2 => 3
  | 3 => 1
  | 4 => 71
  | 5 => 23
  | _ => 0

/-- The rules of R311 for one slot of a resulting set, and BAUD (R348). -/
def refFaults (q : Part) (r : Nat) : List StitchFault :=
  let c := q.reg (refReg r 0)
  let t := q.refType r
  let s := q.refSource r
  let bw := q.field (refReg r 4) 13 0
  let acc := q.field (refReg r 8) 15 0
  let rej := q.field (refReg r 8) 31 16
  let nom := (q.reg64 (refReg r 0x10)).toNat
  let pr := fieldOf c 11 8
  if !q.refOn r then []
  else
    failIf (decide (6 < t) || decide (sourceMax t < s) ||
        (List.range r).any fun x => q.refOn x && q.refType x == t && q.refSource x == s)
      (paramFail ((((List.range r).find? fun x => decide (t ≤ 6) && q.refOn x && q.refType x == t &&
        q.refSource x == s).map fun x => refReg x 0).getD (refReg r 0))) ++
    failIf (decide (bw ≠ 0) && (decide (bw < (bwRange t).1) || decide ((bwRange t).2 < bw)))
      (paramFail (refReg r 0)) ++
    failIf (decide (acc = 0) || decide (rej = 0) || decide (10000 < acc) || decide (10000 < rej) ||
      decide (rej < acc)) (paramFail (refReg r 8)) ++
    failIf (q.field (refReg r 0xC) 5 0 == 0 || q.field (refReg r 0xC) 11 8 == 0)
      (paramFail (refReg r 0xC)) ++
    failIf (t == 2 && (decide (nom < 8000 * 65536) || decide (800000000 * 65536 < nom)))
      (paramFail (refReg r 0)) ++
    failIf (t == 3 && fieldOf c 13 12 == 3) (paramFail (refReg r 0)) ++
    failIf (c.getLsbD 15 && (!phaseType t || !q.refOn pr || decide (2 < q.refType pr)))
      (paramFail (if phaseType t then min (refReg r 0) (refReg pr 0) else refReg r 0))

/-- The faults of one output (R341, R349). -/
def outFaults (q : Part) (k : Nat) : List StitchFault :=
  if k < 4 then
    let f := (q.reg64 (outReg k 8)).toNat
    failIf (decide (f < 1000 * 65536) || decide (800000000 * 65536 < f)) (paramFail (outReg k 8))
  else
    let c := q.reg (outReg k 0)
    failIf (fieldOf c 26 25 == 3 || fieldOf c 19 0 == 0 || decide (500000 < fieldOf c 19 0))
      (paramFail (outReg k 0))

/-- Validation of TIMEKEEPER, REFMON and OUTCLK (R311, R330, R347, R349). -/
def validateTimekeeper (q : Part) : List StitchFault :=
  let slope := q.field (tkReg 0) 13 0
  let lim := q.field (tkReg 4) 19 0
  let thr := q.field (tkReg 0xC) 15 0
  failIf (slope == 0 || decide (10000 < slope)) (paramFail (tkReg 0)) ++
  failIf (lim == 0 || decide (1000000 < lim)) (paramFail (tkReg 4)) ++
  failIf (decide (thr < 10) || decide (10000 < thr)) (paramFail (tkReg 0xC)) ++
  ((List.range 16).map (refFaults q)).flatten ++ ((List.range 6).map (outFaults q)).flatten

/-! ### After a stitch (R319, R321, R344) -/

/-- A slot whose ENABLE, TYPE, SOURCE or PAIR changed goes OFF, and starts again where enabled (R319). -/
def Part.refStitched (p old : Part) (r : Nat) : Part :=
  if (p.reg (refReg r 0) ^^^ old.reg (refReg r 0)) &&& 0xF07F0F00#32 = 0#32 then p
  else
    let q := p.refOff r
    if q.tkState = 0 then q else q.refStart r

/-- Does an output re-align: FREQ, PHASE or WIDTH_US changed (R344)? -/
def outMoved (p old : Part) (k : Nat) : Bool :=
  p.reg64 (outReg k 0x10) != old.reg64 (outReg k 0x10) ||
    (if k < 4 then p.reg64 (outReg k 8) != old.reg64 (outReg k 8)
     else p.field (outReg k 0) 19 0 != old.field (outReg k 0) 19 0)

/-- What a stitch changes at once in the timekeeper. -/
def Part.timekeeperStitched (p old : Part) : Part :=
  let q := (List.range 16).foldl (fun (x : Part) r => x.refStitched old r) p
  let re := (List.range 6).foldl (fun (b : BitVec 6) k =>
    if outMoved p old k && p.bit (outReg k 0) 31 then b ||| (1#6 <<< k) else b) q.time.realign
  let q := { q with time := { q.time with realign := re } }
  q.promote.reselect.syncFlags

/-! ### Meanings -/

/-- PPS_IN_EDGE. -/
def execPpsInEdge (j : Fin 2) (at_ : Nat) (s : State) : Result := onClock (ppsInEdge j at_) s
/-- TOD_IN_MESSAGE. -/
def execTodInMessage (j : Fin 2) (bs : List Byte) (s : State) : Result := onClock (todInMessage j bs) s
/-- ACT_WINDOW_END. -/
def execActWindowEnd (r : Fin 16) (w : ActSeen) (s : State) : Result := onClock (actWindowEnd r w) s
/-- FREQ_GATE_END. -/
def execFreqGateEnd (r : Fin 16) (df : Int) (s : State) : Result := onClock (freqGateEnd r df) s
/-- REF_MEASUREMENT. -/
def execRefMeasurement (r : Fin 16) (ferr : Int) (s : State) : Result := onClock (refMeasurement r ferr) s
/-- REF_WTR_EXPIRE. -/
def execRefWtrExpire (r : Fin 16) (s : State) : Result := onClock (refWtrExpire r) s
/-- DRIFT_WINDOW_END. -/
def execDriftWindowEnd (tails : List (Option Int)) (osc temp : Int) (steady : Bool) (s : State) : Result :=
  onClock (driftWindowEnd tails osc temp steady) s
/-- TK_LOCK. -/
def execTkLock (s : State) : Result := onClock tkLock s
/-- TK_LOCK_LOSS. -/
def execTkLockLoss (s : State) : Result := onClock tkLockLoss s
/-- PULL_END. -/
def execPullEnd (s : State) : Result := onClock pullEnd s
/-- SLEW_END. -/
def execSlewEnd (s : State) : Result := onClock slewEnd s
/-- WARMING_CLEAR. -/
def execWarmingClear (s : State) : Result := onPart warmingClear s
/-- PPS_OUT_EDGE. -/
def execPpsOutEdge (j : Fin 2) (s : State) : Result := onClock (ppsOutEdge j) s
/-- TOD_OUT_SEND. -/
def execTodOutSend (j : Fin 2) (s : State) : Result := onClock (todOutSend j) s
/-- OUTPUT_REALIGN. -/
def execOutputRealign (k : Fin 6) (s : State) : Result := onClock (outputRealign k) s
/-- REF.SELECT. -/
def execRefSelect (t : Fin 1024) (s : State) : Result := onPart (refSelect t) s
/-- REF.AUTO. -/
def execRefAuto (t : Fin 1024) (s : State) : Result := onPart (refAuto t) s
/-- REF.STATUS. -/
def execRefStatus (t : Fin 1024) (s : State) : Result := onPart (refStatus t) s
/-- PLEAT.STEP. -/
def execPleatStep (t : Fin 1024) (s : State) : Result := onPart (pleatStep t) s
/-- PLEAT.SLEW. -/
def execPleatSlew (t : Fin 1024) (s : State) : Result := onPart (pleatSlew t) s
/-- PLEAT.SUM. -/
def execPleatSum (t : Fin 1024) (s : State) : Result := onPart (pleatSum t) s
/-- CAL.RUN. -/
def execCalRun (t : Fin 1024) (s : State) : Result := onPart (calRun t) s

end Sys2Proof.Machine
end

