-- ==== Sys2Proof/Machine/Transfer.lean ====
section
/-! DEFINITION. Time stamping and time transfer (R350 to R378): calibration of segments, the PTP clock, the
time exchange and the time-stamp queues. -/

namespace Sys2Proof.Machine

/-! ### Registers and per-port state -/

/-- A TSTAMP register of CPn (R377). -/
def tsReg (n o : Nat) : Nat := 0x11000 + 64 * n + o
/-- A time-exchange register of LPp (R378). -/
def exReg (p o : Nat) : Nat := 0x78000 + 64 * p + o
/-- A TSTAMP history bit (R377). -/
def Part.tsHist (p : Part) (b : Nat) : Part := p.hist 0x11D90 b 5
/-- A time-exchange history bit of a line port (R378). -/
def Part.exHist (p : Part) (q b : Nat) : Part := p.hist (exReg q 0x14) b 4

/-- The state of a PTP port: 0 to 47 a client port, 48 to 71 the OSMC of line port less 48 (R310). -/
def Part.ptpSt (p : Part) (t : Nat) : PtpSt := SMap.get (fun _ => {}) p.ptp t
/-- The state of a PTP port replaced. -/
def Part.setPtpSt (p : Part) (t : Nat) (v : PtpSt) : Part :=
  { p with ptp := SMap.set (fun _ => {}) p.ptp t v }
/-- The time exchange of a line port. -/
def Part.exchSt (p : Part) (q : Nat) : ExchSt := SMap.get (fun _ => {}) p.exch q
/-- The time exchange of a line port replaced. -/
def Part.setExchSt (p : Part) (q : Nat) (v : ExchSt) : Part :=
  { p with exch := SMap.set (fun _ => {}) p.exch q v }
/-- The stamp queue of a client port. -/
def Part.stampSt (p : Part) (n : Nat) : StampSt := SMap.get (fun _ => {}) p.stamps n
/-- The stamp queue of a client port replaced. -/
def Part.setStampSt (p : Part) (n : Nat) (v : StampSt) : Part :=
  { p with stamps := SMap.set (fun _ => {}) p.stamps n v }
/-- A segment's calibration record. -/
def Part.segRec (p : Part) (i : Nat) : SegRec := SMap.get (fun _ => {}) p.segRecs i
/-- A segment's calibration record replaced. -/
def Part.setSegRec (p : Part) (i : Nat) (v : SegRec) : Part :=
  { p with segRecs := SMap.set (fun _ => {}) p.segRecs i v }

/-! ### Calibration (R352 to R355) -/

/-- Is a segment in use (R354)? -/
def Part.segUsed (p : Part) (i : Nat) : Bool :=
  if i < 192 then p.bit (laneReg (i % 48 + i / 96 * 48) 0) 31
  else if i < 2240 then p.tribOn ((i - 192) % 1024)
  else if i = 2240 then true
  else p.bit (outReg (i - 2241) 0) 31

/-- Is a receive segment's lane locked (R352)? Other segments need no lock, transmit segments among them: what
they are measured against is the part's own traffic (DEDUCED, log 61). -/
def Part.segLocked (p : Part) (i : Nat) : Bool :=
  if i < 48 then p.bit (laneReg i 0x10) 3
  else if 96 ≤ i ∧ i < 144 then p.bit (laneReg (i - 48) 0x10) 3
  else true

/-- The registers that show a segment follow it. -/
def Part.syncSegment (p : Part) (i : Nat) : Part :=
  if i < 96 then
    let q := p.syncLaneLat (i % 48)
    match q.portOf (i % 48) with
    | some k => q.syncPortLat k
    | none => q
  else if i < 192 then
    let q := p.syncLaneLat (48 + i % 48)
    match q.clientOf (i % 48) with
    | some n => q.syncClientLat n
    | none => q
  else if i < 2240 then
    if p.tribOn ((i - 192) % 1024) then p.syncTribLat ((i - 192) % 1024) else p
  else p

/-- STALE of a client port: a stamp of it uses a stale segment of its first lane (R353, R377). -/
def Part.portStale (p : Part) (n : Nat) : Bool := (p.segRec (96 + n)).stale || (p.segRec (144 + n)).stale

/-- STALE in STATUS follows. -/
def Part.syncStale (p : Part) (i : Nat) : Part :=
  if 96 ≤ i ∧ i < 192 then p.setBit (tsReg (i % 48) 0x10) 29 (p.portStale (i % 48)) else p

/-- A re-measured value is adopted (R355). -/
def Part.adoptSegment (p : Part) (i : Nat) (v : Dword) : Part :=
  let q := p.setSeg i v
  ((q.setSegRec i { adopted := some p.clk }).syncSegment i).syncStale i

/-- A decision of function 9 on a segment closes: 1 adopts the value offered, 0 keeps (R355). -/
def applySegment (i v : Nat) (p : Part) : Part := if v = 1 then p.adoptSegment i (p.segRec i).offer else p

/-- INSTANCE of function 9 for a segment (R355). -/
def segInstance (i : Nat) : Nat := if i < 2241 then i else 0x1000 + (i - 2241)

/-- SEGMENT_REMEASURE (R352, R355): a difference of 50 ps (3,277 units by R20) or less is adopted, a larger one goes
to function 9. -/
def segmentRemeasure (i : Fin 2247) (v : Dword) (p : Part) : Part :=
  if !p.segUsed i || !p.segLocked i then p
  else
    let d := (v.toInt - (p.segDelay i).toInt).natAbs
    if d ≤ 3277 then p.adoptSegment i v
    else (p.setSegRec i { p.segRec i with offer := v }).offer 9 (segInstance i) 1 3#32 (applySegment i)

/-- SEGMENT_STALE (R353): 300 s without adoption. Stamps use the lane segments, 0 to 191, so STALE_H is theirs. -/
def segmentStale (i : Fin 2247) (p : Part) : Part :=
  if !p.segUsed i || (p.segRec i).stale then p
  else
    let q := (p.setSegRec i { p.segRec i with stale := true }).syncStale i
    if i.val < 192 then q.tsHist 2 else q

/-- One record of CAL.READ kind 0 (R354). -/
def Part.segWords (p : Part) (i : Nat) : List Word :=
  if !p.segUsed i then [BitVec.ofNat 32 i, full, 0#32, 0#32]
  else
    let age := match (p.segRec i).adopted with
      | some a => satAdd 0#32 ((p.clk - a) / 250000000)
      | none => full
    [BitVec.ofNat 32 i, age, loWord (p.segDelay i), hiWord (p.segDelay i)]

/-- The calibration table of a kind (R337, R340, R354). -/
def Part.calBytes (p : Part) (kind : Nat) : List Byte :=
  match kind with
  | 0 => bytesOfWords ((List.range 2241).map p.segWords).flatten
  | 1 => bytesOfWords ((List.range 6).map fun k =>
      [loWord (p.segDelay (2241 + k)), hiWord (p.segDelay (2241 + k))]).flatten
  | _ => bytesOfWords ((List.range 128).map p.calRecord).flatten

/-- CAL.READ (R337, R340, R354). -/
def calRead (t : Fin 1024) (p : Part) : Part :=
  if !p.runs t 0x0A02 then p
  else if 3 ≤ fieldOf (p.par t 0) 3 0 then p.reject t stParam 0
  else if p.coresAway then p.calAccept t true
  else p.doneBulk t (p.calBytes (fieldOf (p.par t 0) 3 0)) 0#64 0#32

/-- The work of an ACCEPTED CAL command runs: a re-measurement starts, or a table goes to the result buffer (R75,
R151). -/
def Part.calWork (p : Part) (w : CalWork) : Part :=
  if !w.read then p.calStart w.kind
  else if p.host.linkUp then
    p.hostWrite w.addr ((p.calBytes w.kind).take w.len)
  else p

/-- The cores return after RENEW or fault 0x07 (R75, R103, R494): work that waited for them runs. -/
def Part.coresReturn (p : Part) : Part :=
  (p.back.calLater.foldl Part.calWork { p with back := { p.back with calLater := [] } }).doeReturn

/-! ### PTP (R356 to R362) -/

/-- The port takes part in PTP (R356). -/
def Part.ptpOn (p : Part) (t : Nat) : Bool :=
  p.bit 0x11D80 31 && (if t < 48 then p.bit (tsReg t 0) 31 else p.bit (exReg (t - 48) 0) 30)

/-- The client or line port that carries a PTP port is enabled (R356). -/
def Part.ptpCarried (p : Part) (t : Nat) : Bool := if t < 48 then p.clientOn t else p.portOn (t - 48)

/-- The port's receiver runs (R50). -/
def Part.ptpRx (p : Part) (t : Nat) : Bool :=
  p.ptpOn t && p.ptpCarried t &&
    (if t < 48 then (match p.runMode with | .listen | .carry | .trim | .drain => true | _ => false)
    else p.runMode.receives)
/-- The port's transmitter runs (R50). -/
def Part.ptpTx (p : Part) (t : Nat) : Bool :=
  p.ptpOn t && p.ptpCarried t &&
    (if t < 48 then (match p.runMode with | .carry | .trim | .drain => true | _ => false)
    else p.runMode.carries)

/-- The receive segment of a PTP port is stale (R353). -/
def Part.rxStale (p : Part) (t : Nat) : Bool :=
  (p.segRec (if t < 48 then 96 + t else p.refLane (t - 48))).stale
/-- The transmit segment of a PTP port is stale (R353). -/
def Part.txStale (p : Part) (t : Nat) : Bool :=
  (p.segRec (if t < 48 then 144 + t else 48 + p.refLane (t - 48))).stale

/-- What lies between the contact of a PTP port and the stamp unit: the receive segment of its first or reference lane,
with that lane's hold, which takes the port's skew out (R350, R351, log 94). -/
def Part.rxSegment (p : Part) (t : Nat) : Int :=
  let l := if t < 48 then 48 + t else p.refLane (t - 48)
  (p.segDelay (if t < 48 then 96 + t else l)).toInt + (p.lane l).hold

/-- The transmit segment of a PTP port's first or reference lane (R351). -/
def Part.txSegment (p : Part) (t : Nat) : Int :=
  (p.segDelay (if t < 48 then 144 + t else 48 + p.refLane (t - 48))).toInt

/-- The receive stamp of an event point that passed the stamp unit `age` ago (R350, R351). -/
def Part.rxStamp (p : Part) (t : Nat) (age : Int) : Int := p.time.now - age - p.rxSegment t

/-- The transmit stamp of an event point that passes the stamp unit in `lead` (R350, R351). -/
def Part.txStamp (p : Part) (t : Nat) (lead : Int) : Int := p.time.now + lead + p.txSegment t

/-- A time in the 12-byte layout of R364, as three network-order words. -/
def netTime (t : Nat) : List Word :=
  let ns := t / 65536
  let sec := ns / 1000000000
  [BitVec.ofNat 32 (sec / 2 ^ 16),
    BitVec.ofNat 32 (sec % 2 ^ 16 * 2 ^ 16 + ns % 1000000000 / 2 ^ 16),
    BitVec.ofNat 32 (ns % 1000000000 % 2 ^ 16 * 2 ^ 16 + t % 65536)]

/-- The engine sends a PTP message on a port: on a client port it is a frame of `len` bytes toward the client (R384). -/
def Part.ptpSend (p : Part) (t len : Nat) (name : String) (ws : List Word) : Part :=
  (if t < 48 then p.clientSent t len else p).emit (.words name t ws)

/-- A PTP port changes state; STATE_H sets (R357, R377). -/
def Part.toPtp (p : Part) (t s : Nat) : Part :=
  if (p.ptpSt t).st = s then p
  else
    let q := p.setPtpSt t { p.ptpSt t with st := s, sync := none, delay := none, asked := none }
    (if t < 48 then q.setField (tsReg t 0x10) 26 24 s else q).tsHist 3

/-- A message outside the table of R356 is discarded and counted. -/
def Part.ptpDrop (p : Part) (t : Nat) : Part :=
  if t < 48 then p.addSat (0x11CC0 + 4 * t) 1 else p.addSatField (exReg (t - 48) 0x3C) 31 16 1

/-- delayAsymmetry of a port (R359). -/
def Part.ptpAsym (p : Part) (t : Nat) : Int := if t < 48 then p.int64 (tsReg t 8) else p.int64 (exReg (t - 48) 8)

/-- DOMAIN of the clock (R356). -/
def Part.ptpDomain (p : Part) : Nat := p.field 0x11D80 7 0

/-- The destination address of a PTP port (R356, R377): ADDR of a client port; either address on OSMC, which
has no such field (DESIGN CHOICE, log 61). -/
def Part.ptpDest (p : Part) (t : Nat) (d : BitVec 48) : Bool :=
  let primary := d == 0x011B19000000#48
  let alternate := d == 0x0180C200000E#48
  if t < 48 then (if p.bit (tsReg t 0) 27 then alternate else primary) else primary || alternate

/-- The message stands in the table of R356: Ethernet transport to the port's address with up to two tags, the
clock's domain, and the type `ty`. -/
def Part.ptpFits (p : Part) (t : Nat) (h : PtpHead) (ty : BitVec 4) : Bool :=
  h.etherType == 0x88F7#16 && p.ptpDest t h.dest && decide (h.tags ≤ 2) && h.mtype == ty && h.domain == p.ptpDomain

/-- What every received PTP message goes through: a port whose receiver does not run sees nothing, and a message
outside the table is discarded and counted (R356). -/
def Part.ptpTake (p : Part) (t : Nat) (h : PtpHead) (ty : BitVec 4) (f : Part → Part) : Part :=
  if !p.ptpRx t then p else if !p.ptpFits t h ty then p.ptpDrop t else f p

/-- A measurement from t2 - t1 less the Sync's correction, and the last Delay_Resp of no more than 1 s
before (R357, R359). One from a stale stamp is invalid (R353). -/
def Part.ptpMeasure (p : Part) (t : Nat) (t21 : Int) (stale : Bool) : Part :=
  match (p.ptpSt t).delay, p.refFor 4 t with
  | some (d, at_, old), some r =>
    if decide (250000000 < p.clk - at_) || p.coresAway then p
    else if stale || old then p.refInvalid r
    else p.refMeasured r (roundDiv (t21 - d) 2 - p.ptpAsym t - p.refDelay r) true
  | _, _ => p

/-- PTP_SYNC_RX (R350, R356, R357): t1 is the origin time of a one-step Sync, `age` how long ago its event point passed
the stamp unit, corr its correctionField, all in 2^-16 ns. -/
def ptpSyncRx (t : PtpPort) (h : PtpHead) (oneStep : Bool) (t1 age corr : Int) (p : Part) : Part :=
  p.ptpTake t h 0#4 fun p =>
    let t2 := p.rxStamp t age
    if (p.ptpSt t).st ≠ 3 then p
    else if oneStep then p.ptpMeasure t (t2 - t1 - corr) (p.rxStale t)
    else p.setPtpSt t { p.ptpSt t with sync := some (t2 - corr, p.rxStale t) }

/-- PTP_FOLLOW_UP_RX (R356): the precise origin time of the Sync that waits. -/
def ptpFollowUpRx (t : PtpPort) (h : PtpHead) (t1 corr : Int) (p : Part) : Part :=
  p.ptpTake t h 8#4 fun p => match (p.ptpSt t).sync with
  | some (x, stale) =>
    (p.setPtpSt t { p.ptpSt t with sync := none }).ptpMeasure t (x - t1 - corr) stale
  | none => p

/-- PTP_DELAY_REQ_RX (R356, R362): a MASTER port answers with the receive stamp. -/
def ptpDelayReqRx (t : PtpPort) (h : PtpHead) (age : Int) (p : Part) : Part :=
  p.ptpTake t h 1#4 fun p =>
    if (p.ptpSt t).st = 4 then p.ptpSend t 72 "PTP_DELAY_RESP" (netTime (p.rxStamp t age).toNat) else p

/-- PTP_DELAY_RESP_RX (R357): the answer to the last Delay_Req, whose transmit stamp the port holds; t4 is the master's
receive stamp less the correction. -/
def ptpDelayRespRx (t : PtpPort) (h : PtpHead) (seq : BitVec 16) (t4 : Int) (p : Part) : Part :=
  p.ptpTake t h 9#4 fun p =>
    match (p.ptpSt t).asked with
    | some (s, t3, old) =>
      if (p.ptpSt t).st == 3 && s == seq && !p.coresAway then
        p.setPtpSt t { p.ptpSt t with delay := some (t4 - t3, p.clk, old) }
      else p
    | none => p

/-- 24 h in register-clock edges. -/
def edgesDay : Nat := 21600000000000

/-- The part's own clockClass, without a grandmaster to pass on (R358). HELD counts as the state RENEW found. -/
def Part.localClass (p : Part) : Nat :=
  let s := if p.tkState = 4 then (if p.time.wasLocked then 3 else 2) else p.tkState
  let byType := match p.phaseSrc with
    | some r => p.refType r
    | none => 7
  if !p.timeSet then 248
  else if s == 3 && p.bit (tkReg 0x10) 6 && [3, 5, 6].contains byType then 6
  else if s = 2 ∨ s = 3 then 135
  else if s = 1 ∧ p.clk - p.time.freeAt ≤ edgesDay then 135
  else 165

/-- The PTP port that gives the phase, if the phase source is a PTP reference (R358). -/
def Part.ptpSource (p : Part) : Option Nat :=
  match p.phaseSrc with
  | some r => if p.refType r = 4 then some (p.refSource r) else none
  | none => none

/-- clockClass announced (R358): under a PTP phase source, the grandmaster's. -/
def Part.clockClass (p : Part) : Nat :=
  match p.timeSet, p.ptpSource with
  | true, some t => ((p.ptpSt t).master.map (·.1)).getD 248
  | _, _ => p.localClass

/-! ### The alternate BMCA of G.8275.1 (R356, R357, log 95) -/

/-- What the BMCA compares of a clock: its own, or the best master announced on a port (R356). -/
structure DataSet where
  cls    : Nat
  acc    : Nat
  var    : Nat
  prio2  : Nat
  loc    : Nat
  gm     : Nat
  steps  : Nat
  sender : Nat
  /-- The number of the port it was received on, from 1; 0 is the part's own. -/
  port   : Nat
  deriving DecidableEq, Repr

/-- The first difference of two lists decides: is the first list's entry the smaller? -/
def lexLess : List Nat → List Nat → Option Bool
  | a :: l, b :: m => if a = b then lexLess l m else some (decide (a < b))
  | _, _ => none

/-- Data set comparison: does `a` beat `b`, and is that by topology only? -/
def DataSet.beats (a b : DataSet) : Bool × Bool :=
  let own := Config.clockIdentity.toNat
  match lexLess [a.cls, a.acc, a.var, a.prio2, a.loc] [b.cls, b.acc, b.var, b.prio2, b.loc] with
  | some r => (r, false)
  | none =>
    if 127 < a.cls ∧ a.gm ≠ b.gm then (decide (a.gm < b.gm), false)
    else if a.steps + 1 < b.steps then (true, false)
    else if b.steps + 1 < a.steps then (false, false)
    else if a.steps < b.steps then (true, decide (b.sender < own))
    else if b.steps < a.steps then (false, decide (a.sender < own))
    else ((lexLess [a.sender, a.port] [b.sender, b.port]).getD false, true)

/-- NOT_SLAVE of a port (R377). -/
def Part.notSlave (p : Part) (t : Nat) : Bool := decide (t < 48) && p.bit (tsReg t 0) 26

/-- localPriority of a port: LOCAL_PRIO of a client port, and the profile's 128 on OSMC, which has no such field. -/
def Part.localPrio (p : Part) (t : Nat) : Nat := if t < 48 then p.field (tsReg t 0) 7 0 else 128

/-- clockAccuracy and offsetScaledLogVariance of the part's own clock, by its class. -/
def ownQuality (cls : Nat) : Nat × Nat := if cls = 6 then (0x21, 0x4E5D) else (0xFE, 0xFFFF)

/-- The part's own data set. -/
def Part.ownSet (p : Part) : DataSet :=
  let c := p.localClass
  let own := Config.clockIdentity.toNat
  { cls := c, acc := (ownQuality c).1, var := (ownQuality c).2, prio2 := p.field 0x11D80 15 8, loc := 128, gm := own,
    steps := 0, sender := own, port := 0 }

/-- An announced master as a data set. -/
def Part.masterSet (p : Part) (t : Nat) (m : Nat × Announce) : DataSet :=
  { cls := m.1, acc := m.2.accuracy.toNat, var := m.2.variance.toNat, prio2 := m.2.priority2.toNat,
    loc := p.localPrio t, gm := m.2.gm.toNat, steps := m.2.steps, sender := m.2.sender.toNat, port := t + 1 }

/-- The best master of a port that may become SLAVE. -/
def Part.portBest (p : Part) (t : Nat) : Option DataSet :=
  if p.ptpOn t && !p.notSlave t then (p.ptpSt t).master.map (p.masterSet t) else none

/-- The better of two data sets. -/
def betterSet : Option DataSet → Option DataSet → Option DataSet
  | some a, some b => if (b.beats a).1 then some b else some a
  | some a, none => some a
  | none, b => b

/-- The best master of all ports. -/
def Part.bestMaster (p : Part) : Option DataSet :=
  (List.range 72).foldl (fun b t => betterSet b (p.portBest t)) none

/-- The state decision for a port, 3 SLAVE, 4 MASTER or 5 PASSIVE; one that listens and has no master goes on listening. -/
def Part.bmcaState (p : Part) (best : Option DataSet) (t : Nat) : Nat :=
  let own := p.ownSet
  let mine := p.portBest t
  if mine.isNone && (p.ptpSt t).st == 1 then 1
  else if own.cls ≤ 127 then
    match mine with
    | some m => if (own.beats m).1 then 4 else 5
    | none => 4
  else match best with
    | none => 4
    | some b =>
      if (own.beats b).1 then 4
      else if b.port = t + 1 then 3
      else match mine with
        | some m => if (b.beats m).2 then 5 else 4
        | none => 4

/-- The BMCA sets the state of every port that takes part (R357). -/
def Part.bmca (p : Part) : Part :=
  let b := p.bestMaster
  (List.range 72).foldl (fun (x : Part) t => if p.ptpOn t then x.toPtp t (p.bmcaState b t) else x) p

/-- A master announced on a port is kept where it is the one held, or better (R356). An Announce of the part itself, or
from 255 steps away, is none. -/
def Part.noteMaster (p : Part) (t : Nat) (m : Nat × Announce) : Part :=
  let s := p.ptpSt t
  let take := match s.master with
    | some o => (o.2.sender == m.2.sender && o.2.senderPort == m.2.senderPort)
        || ((p.masterSet t m).beats (p.masterSet t o)).1
    | none => true
  if m.2.sender = Config.clockIdentity ∨ 255 ≤ m.2.steps then p
  else if take then p.setPtpSt t { s with master := some m } else p

/-- PTP_ANNOUNCE_RX (R345, R356, R357): an Announce of a grandmaster of class `cls` is weighed and the BMCA sets the
states. In RENEW the BMCA pauses (R362). -/
def ptpAnnounceRx (t : PtpPort) (h : PtpHead) (cls : Nat) (ann : Announce) (utc : Option Word)
    (p : Part) : Part :=
  p.ptpTake t h 0xB#4 fun p => if p.coresAway then p
  else
    let q := (p.noteMaster t (cls, ann)).bmca
    match utc, q.refFor 4 t with
    | some w, some r => if (q.ptpSt t).st = 3 then q.copyUtc r w else q
    | _, _ => q

/-- PTP_ANNOUNCE_TIMEOUT (R356): three Announce intervals without the port's master, which is forgotten. -/
def ptpAnnounceTimeout (t : PtpPort) (p : Part) : Part :=
  let s := (p.ptpSt t).st
  if p.ptpOn t && !p.coresAway && (s == 1 || s == 2 || s == 3 || s == 5) then
    ((p.setPtpSt t { p.ptpSt t with master := none }).toPtp t 4).bmca
  else p

/-- PTP_SYNC_TX (R351, R356, R362, R384): the event point of a MASTER port's Sync passes the stamp unit; a Follow_Up goes
with it where the port is two-step. -/
def ptpSyncTx (t : PtpPort) (p : Part) : Part :=
  if !p.ptpTx t || (p.ptpSt t).st != 4 then p
  else
    let ws := netTime (p.txStamp t 0).toNat
    let q := p.ptpSend t 64 "PTP_SYNC" ws
    if decide (t.val < 48) && p.bit (tsReg t 0) 29 then q.ptpSend t 64 "PTP_FOLLOW_UP" ws else q

/-- The dataset fields of an Announce (R358): under a PTP phase source those of its grandmaster, one step further; else
the part's own. -/
def Part.announceWords (p : Part) : List Word :=
  let c := p.clockClass
  let own : Announce :=
    { accuracy := BitVec.ofNat 8 (ownQuality c).1, variance := BitVec.ofNat 16 (ownQuality c).2, priority1 := 128#8,
      priority2 := BitVec.ofNat 8 (p.field 0x11D80 15 8), gm := Config.clockIdentity, steps := 0,
      timeSource := if c = 6 then 0x90#8 else 0xA0#8, sender := Config.clockIdentity, senderPort := 0#16 }
  let a := match p.ptpSource.bind fun t => (p.ptpSt t).master with
    | some (_, g) => { g with steps := g.steps + 1 }
    | none => own
  [BitVec.ofNat 32 p.ptpDomain, BitVec.ofNat 32 c,
    BitVec.ofNat 32 (a.accuracy.toNat * 2 ^ 16 + a.variance.toNat),
    BitVec.ofNat 32 (a.priority1.toNat * 2 ^ 8 + a.priority2.toNat), hiWord a.gm, loWord a.gm,
    BitVec.ofNat 32 a.steps, a.timeSource.setWidth 32, p.reg (tkReg 0x60)]

/-- PTP_ANNOUNCE_TX (R358, R362, R384). -/
def ptpAnnounceTx (t : PtpPort) (p : Part) : Part :=
  if p.ptpTx t && (p.ptpSt t).st == 4 then p.ptpSend t 82 "PTP_ANNOUNCE" p.announceWords else p

/-- PTP_DELAY_REQ_TX (R351, R356, R384): the event point of a SLAVE port's Delay_Req passes the stamp unit, and its stamp
is held for the answer; the slave computation pauses in RENEW (R362). -/
def ptpDelayReqTx (t : PtpPort) (p : Part) : Part :=
  let s := p.ptpSt t
  if p.ptpTx t && s.st == 3 && !p.coresAway then
    (p.setPtpSt t { s with asked := some (s.reqSeq, p.txStamp t 0, p.txStale t), reqSeq := s.reqSeq + 1#16 }).ptpSend t 64
      "PTP_DELAY_REQ" [s.reqSeq.setWidth 32]
  else p

/-! ### Time exchange (R363 to R368) -/

/-- A link key of a KEY_ID, where its slot holds a link key (R364, R365, R499). -/
def Part.linkKey (p : Part) (q id : Nat) : Option (BitVec 256) :=
  let k := SMap.get (fun _ => {}) p.journal.keys (p.field (exReg q 0) 23 16 + id)
  if k.kind = 1 then some k.key else none

/-- 0.8 ns and half of ASYM_UNC added to a peer's bound (R20, R368); all ones where it has none. -/
def Part.hopAcc (p : Part) (q : Nat) : Dword :=
  let peer := (p.reg64 (exReg q 0x28)).toNat
  let add := (roundDiv (52428800 * 2 + 65536 * 10 * (p.field (exReg q 0) 15 0 : Nat)) 2000).toNat
  BitVec.ofNat 64 (min (peer + add) (2 ^ 64 - 1))

/-- HOPS, ACC_TE and SRC_NODE as sent (R368). Slot 0 brings no SRC_NODE: under a TWIN source that is itself further from
its source, it is a free value (log 2, log 96). -/
def Part.hopsOf (p : Part) : Nat × Dword × BitVec 16 :=
  let own := (p.reg 0xE000).setWidth 16
  match p.phaseSrc with
  | none => (255, BitVec.allOnes 64, own)
  | some r =>
    let s := p.refSource r
    let span : Nat → Nat × Dword × BitVec 16 := fun q =>
      let h := p.field (exReg q 0x10) 23 16
      (min (h + 1) 254, p.hopAcc q, (p.exchSt q).srcNode)
    match p.refType r with
    | 5 => span s
    | 4 => if 48 ≤ s then span (s - 48) else (0, p.reg64 0x11D88 + 65536#64, own)
    | 6 =>
      let k := if p.bit 0x10 0 then 1 else 0
      match (SMap.get (fun _ => {}) p.links k : LinkSt).peer with
      | some f => (f.hops, BitVec.ofNat 64 (min (f.acc.toNat + 65536) (2 ^ 64 - 1)),
          if f.hops = 0 then own else p.freshValue.setWidth 16)
      | none => (255, BitVec.allOnes 64, own)
    | _ => (0, p.reg64 0x11D88 + 65536#64, own)

/-- The 16 words of a message before its MAC (R364). -/
def exchWords (m : ExchMsg) : List Word :=
  [BitVec.ofNat 32 (m.version.toNat * 2 ^ 24 + m.kind.toNat * 2 ^ 16 + m.node.toNat),
    BitVec.ofNat 32 (m.flags.toNat * 2 ^ 24 + m.hops.toNat * 2 ^ 16 + m.keyId.val * 2 ^ 8), m.seq] ++
  netTime m.tTxPrev ++ [m.rxSeq] ++ netTime m.tRx ++
  [hiWord (BitVec.ofInt 64 m.asym), loWord (BitVec.ofInt 64 m.asym), hiWord m.acc, loWord m.acc,
    BitVec.ofNat 32 (m.srcNode.toNat * 2 ^ 16), 0#32]

/-- TX_MESSAGE_SEND (R350, R363, R364, R365): the event point of the message passes the stamp unit in `lead`; its stamp
is sent with the next message. -/
def txMessageSend (q : Fin 24) (lead : Nat) (p : Part) : Part :=
  if !p.bit (exReg q 0) 31 || !p.portOn q || !p.runMode.carries then p
  else
    let id := p.field (exReg q 0) 27 26
    let auth := p.bit (exReg q 0) 29
    let key := p.linkKey q id
    if auth && key.isNone then p.addSatField (exReg q 0x3C) 15 0 1
    else
      let c := p.exchSt q
      let h := p.hopsOf
      let stamp := p.txStamp (48 + q) lead
      let st := p.reg (tkReg 0x10)
      let fl := (st.getLsbD 5).toNat * 128 + (st.getLsbD 6).toNat * 64 + (p.tkState == 3).toNat * 32
        + (p.tkState == 1).toNat * 16 + (st.getLsbD 4).toNat * 8 + c.rx.isSome.toNat * 4
        + c.prev.isSome.toNat * 2
      let rx := c.rx.getD (0#32, 0, false)
      let m : ExchMsg :=
        { version := 1#8, kind := 1#8, node := (p.reg 0xE000).setWidth 16, flags := BitVec.ofNat 8 fl,
          hops := BitVec.ofNat 8 h.1, keyId := Fin.ofNat 4 id, seq := c.seq, tTxPrev := (c.prev.getD 0).toNat,
          rxSeq := rx.1, tRx := rx.2.1.toNat, asym := p.int64 (exReg q 8), acc := h.2.1, srcNode := h.2.2,
          mac := 0#128, stale := false }
      let mac := match auth, key with
        | true, some k => hmac128 k (shaBytes (exchWords m))
        | _, _ => 0#128
      let s := p.useFree.setExchSt q
        { c with seq := c.seq + 1#32, prev := some stamp, sent := ((c.seq, stamp, p.txStale (48 + q)) :: c.sent).take 8 }
      ((s.snoopOpen 0x25 q 98).emit (.event "OSMC_FRAME" (p.refLane q) 0x88B5#64)).emit
        (.words "TX_MESSAGE" q (exchWords m ++ [mac.extractLsb' 96 32, mac.extractLsb' 64 32,
          mac.extractLsb' 32 32, mac.extractLsb' 0 32]))

/-- 3.5 s in register-clock edges (R365). -/
def edgesSilent : Nat := 875000000

/-- Is a message discarded, and where is it counted (R365)? -/
def Part.exchFault (p : Part) (q : Nat) (m : ExchMsg) : Option (Part) :=
  let c := p.exchSt q
  if m.version ≠ 1#8 ∨ m.kind ≠ 1#8 then some (p.addSatField (exReg q 0x38) 15 0 1)
  else if !p.bit (exReg q 4) 16 && p.field (exReg q 4) 15 0 != m.node.toNat then
    some (p.addSatField (exReg q 0x38) 15 0 1)
  else if !p.bit (exReg q 0) 29 then none
  else
    let good := match p.linkKey q m.keyId with
      | some k => hmac128 k (shaBytes (exchWords m)) == m.mac
      | none => false
    if !good then some ((p.addSat (exReg q 0x30) 1).exHist q 2)
    else match c.rx with
      | some r =>
        if laterThan m.seq r.1 || decide (edgesSilent ≤ p.clk - c.rxAt) then none
        else some (p.addSat (exReg q 0x34) 1)
      | none => none

/-- The measurement of an accepted message (R353, R366). The offset computation pauses in RENEW (R70, R363). -/
def Part.exchMeasure (p : Part) (q : Nat) (m : ExchMsg) (now : Int) (before : Option (Word × Int × Bool)) : Part :=
  let named := (p.exchSt q).sent.find? fun e => e.1 == m.rxSeq
  match named, before with
  | some (_, t1, old1), some (s, t4, old4) =>
    if p.coresAway || !m.flags.getLsbD 1 || !m.flags.getLsbD 2 || s + 1#32 != m.seq ||
        decide (250000000 * 65536 < now - t1) then p
    else
      let a : Int := t4 - m.tTxPrev
      let b : Int := (m.tRx : Int) - t1
      let lim : Int := 25000000 * 65536
      if m.stale || old1 || old4 || decide (a < 0) || decide (lim < a) || decide (b < 0) || decide (lim < b) then
        let s := p.addSatField (exReg q 0x38) 31 16 1
        match s.refFor 5 q with
        | some r => s.refInvalid r
        | none => s
      else
        let te := roundDiv (a - b - p.int64 (exReg q 8)) 2
        let s := ((p.setInt64 (exReg q 0x18) te).setInt64 (exReg q 0x20) (roundDiv (a + b) 2)).setBit
          (exReg q 0x10) 31 true
        match s.refFor 5 q with
        | some r => s.refMeasured r (te - s.refDelay r) true
        | none => s
  | _, _ => p

/-- TX_MESSAGE_RX (R350, R365 to R368): the event point of the message passed the stamp unit `age` ago. -/
def txMessageRx (q : Fin 24) (m : ExchMsg) (age : Nat) (p : Part) : Part :=
  if !p.bit (exReg q 0) 31 || !p.portOn q || !p.runMode.receives then p
  else
    let p := p.snoopOpen 0x24 q 98
    let t4 := p.rxStamp (48 + q) age
    match p.exchFault q m with
  | some r => r
  | none =>
    let c := p.exchSt q
    let s := p.setExchSt q { c with rx := some (m.seq, t4, p.rxStale (48 + q)), rxAt := p.clk,
                                    srcNode := m.srcNode }
    let s := (s.setReg64 (exReg q 0x28) m.acc).setReg (exReg q 0x10)
      (BitVec.ofNat 32 ((s.field (exReg q 0x10) 31 30) * 2 ^ 30 + (m.flags.getLsbD 7).toNat * 2 ^ 29
        + (m.flags.getLsbD 6).toNat * 2 ^ 28 + m.hops.toNat * 2 ^ 16 + m.node.toNat))
    let bad := decide (65536 < (m.asym + s.int64 (exReg q 8)).natAbs)
    let s := if bad && !s.bit (exReg q 0x10) 30 then s.exHist q 1 else s
    (s.setBit (exReg q 0x10) 30 bad).exchMeasure q m t4 c.rx

/-- EXCH_VALID_EXPIRE (R378). -/
def exchValidExpire (q : Fin 24) (p : Part) : Part :=
  if p.bit (exReg q 0x10) 31 then (p.setBit (exReg q 0x10) 31 false).exHist q 0 else p

/-! ### Time-stamp queues (R370 to R376) -/

/-- SPILLING (R372). -/
def Part.spilling (p : Part) (n : Nat) : Bool := p.bit (tsReg n 0x10) 31
/-- Records in a port's ring (R371). -/
def Part.ringFill (p : Part) (n : Nat) : Nat := (p.reg (tsReg n 0x18) - p.reg (tsReg n 0x1C)).toNat
/-- The ring can take a record (R371, R374). -/
def Part.canSpill (p : Part) (n : Nat) : Bool := p.memUp && decide (p.ringFill n < 65536)

/-- FIFO_FILL and DEC_OPEN follow (R377). -/
def Part.syncStamp (p : Part) (n : Nat) : Part :=
  (p.setField (tsReg n 0x10) 9 0 (p.stampSt n).fifo.length).setBit (tsReg n 0x10) 30 (p.openFor 13 n).isSome

/-- TSTAMP[n].STATUS as it reads: what the queue, its decision and the port's segments hold at this moment (R377). -/
def Part.stampStatus (p : Part) (n : Nat) : Word :=
  let w := withField (p.reg (tsReg n 0x10)) 9 0 (p.stampSt n).fifo.length
  withBit (withBit w 30 (p.openFor 13 n).isSome) 29 (p.portStale n)

/-- SPILLING sets (R372, R377). -/
def Part.startSpill (p : Part) (n : Nat) : Part :=
  if p.spilling n then p else (p.setBit (tsReg n 0x10) 31 true).tsHist 1

/-- A decision of function 13 closes: 1 spills, 0 keeps the FIFO (R373). -/
def applySpill (n v : Nat) (p : Part) : Part :=
  (if v = 1 then p.startSpill n
   else p.setStampSt n { p.stampSt n with keep := true }).syncStamp n

/-- SPILLING is judged again (R372, R373). -/
def Part.spillCheck (p : Part) (n : Nat) : Part :=
  let fill := (p.stampSt n).fifo.length
  let lw := p.field (tsReg n 4) 24 16
  let hw := p.field (tsReg n 4) 8 0
  let p := if fill < lw then p.setStampSt n { p.stampSt n with keep := false } else p
  let q :=
    if p.bit (tsReg n 0) 28 then p.startSpill n
    else if p.spilling n then
      if p.ringFill n = 0 ∧ fill < lw then p.setBit (tsReg n 0x10) 31 false else p
    else if fill < hw then p
    else if 512 ≤ fill then
      let r := p.startSpill n
      if (r.openFor 13 n).isSome then r.offer 13 n 1 0#32 (applySpill n) else r
    else if (p.stampSt n).keep then p
    else p.offer 13 n 1 3#32 (applySpill n)
  q.syncStamp n

/-- The oldest FIFO record moves to the ring tail (R371, R372, R375). -/
def Part.spillOne (p : Part) (n : Nat) : Part :=
  match (p.stampSt n).fifo with
  | [] => p
  | r :: l =>
    let i := (p.reg (tsReg n 0x18)).toNat
    let body := (withPhase (i / 65536 % 2 == 0) r).take 7
    let q := p.dramWrite (n * 0x200000 + 32 * (i % 65536)) (bytesOfWords (body ++ [crc32c (bytesOfWords body)]))
    ((q.addWrap (tsReg n 0x18) 1).setStampSt n { q.stampSt n with fifo := l }).count (0x6000 + n) 2 1

/-- The words of a stamp record in the FIFO (R375). -/
def Part.stampWords (p : Part) (n : Nat) (r : StampReq) (time : Nat) (ptp : Option (Fin 16 × BitVec 16)) :
    List Word :=
  let w5 := match ptp with
    | some (ty, sq) => 2 ^ 20 + ty.val * 2 ^ 16 + sq.toNat
    | none => 0
  let one := r.oneStep && (match ptp with | some (ty, _) => ty.val == 0 | none => false)
  let ws := [BitVec.ofNat 32 (2 ^ 31 + 2 ^ 30 + (p.segRec (144 + n)).stale.toNat * 2 ^ 29
      + one.toNat * 2 ^ 28 + n * 2 ^ 16 + r.serial % 65536), r.cookie] ++ timeWords time ++
    [BitVec.ofNat 32 w5, BitVec.ofNat 32 r.len]
  ws ++ [crc32c (bytesOfWords ws)]

/-- STAMP_RECORD (R350, R351, R370, R374): the frame of the oldest request leaves, `age` after its event point passed the
stamp unit; its record joins the FIFO, or the newest stamp is lost. -/
def stampRecord (n : Fin 48) (age : Nat) (ptp : Option (Fin 16 × BitVec 16)) (p : Part) : Part :=
  match (p.stampSt n).waiting with
  | [] => p
  | r :: l =>
    let q := (p.setStampSt n { p.stampSt n with waiting := l }).count (0x6000 + n) 0 1
    let is512 := decide (512 ≤ (q.stampSt n).fifo.length)
    if is512 && !q.canSpill n then
      ((q.addSat (0x11C00 + 4 * n.val) 1).tsHist 0).count (0x6000 + n) 4 1
    else
      let q := if is512 then q.spillOne n else q
      let c := q.stampSt n
      (q.setStampSt n { c with fifo := c.fifo ++ [q.stampWords n r (p.txStamp n (-age)).toNat ptp] }).spillCheck n

/-- STAMP_SPILL_MOVE (R372). -/
def stampSpillMove (n : Fin 48) (p : Part) : Part :=
  if p.spilling n && p.canSpill n then (p.spillOne n).spillCheck n else p

/-- STAMP_FIFO_POP (R372, R375, R377): a native host read of word 0 pops the oldest record and captures
words 1 to 7 (R111). In FREEZE the queue holds as it is: the record is read and stays (R376). -/
def stampFifoPop (n : Fin 48) (p : Part) : Part :=
  let off := tsReg n 0x20
  let capture : List Word → Part → Part := fun ws x =>
    { x.emit (.data .host (ws.getD 0 0#32)) with access := { x.access with
        captured := SMap.set (fun _ => []) x.access.captured (Req.host.code * 0x100000 + off) (ws.drop 1) } }
  match p.spilling n, (p.stampSt n).fifo with
  | false, r :: l =>
    if p.md.cur = .freeze then capture r p
    else (((capture r p).setStampSt n { p.stampSt n with fifo := l }).count (0x6000 + n) 1 1).spillCheck n
  | _, _ => capture (List.replicate 8 0#32) p

/-- A write of SPILL_CONS (R371). -/
def spillConsEffect (n : Nat) (req : Req) (addr : BitVec 28) (w : Word) (p : Part) : Part :=
  if 65536 < (p.reg (tsReg n 0x18) - w).toNat then p.accessFault 5 req addr
  else (p.setReg (tsReg n 0x1C) w).spillCheck n

/-! ### STITCH (R360, R377, R378) -/

/-- Validation of TSTAMP and of the exchange registers. -/
def validateTransfer (q : Part) : List StitchFault :=
  let dom := q.field 0x11D80 7 0
  ((List.range 48).map fun n =>
    let lw := q.field (tsReg n 4) 24 16
    let hw := q.field (tsReg n 4) 8 0
    failIf (q.field (tsReg n 0) 7 0 == 0 || (q.bit (tsReg n 0) 31 && q.bit (tsReg n 0) 30))
      (paramFail (tsReg n 0)) ++
    failIf (decide (hw ≤ lw) || decide (hw < 64)) (paramFail (tsReg n 4))).flatten ++
  failIf (decide (dom < 24) || decide (43 < dom)) (paramFail 0x11D80) ++
  ((List.range 24).map fun k =>
    failIf (decide (252 < q.field (exReg k 0) 23 16)) (paramFail (exReg k 0))).flatten

/-- What an entry into FIT starts again under the set in force: enabled PTP ports listen, and SPILLING is 1 where
SPILL_ALWAYS is (R54, R357, R372). -/
def Part.transferStart (p : Part) : Part :=
  let q := (List.range 72).foldl (fun (x : Part) t =>
    if x.ptpOn t && (x.ptpSt t).st == 0 then x.toPtp t 1 else x) p
  (List.range 48).foldl (fun (x : Part) n => if x.bit (tsReg n 0) 28 then x.startSpill n else x) q

/-- What a stitch changes at once in time transfer: PTP ports start and stop, an exchange that is switched
off ends, and spill limits are judged. -/
def Part.transferStitched (p old : Part) : Part :=
  let q := (List.range 72).foldl (fun (x : Part) t =>
    if x.ptpOn t == old.ptpOn t then x
    else if x.ptpOn t then x.toPtp t 1 else (x.toPtp t 0).setPtpSt t {}) p
  let q := (List.range 24).foldl (fun (x : Part) k =>
    if old.bit (exReg k 0) 31 && !x.bit (exReg k 0) 31 then
      let y := x.setExchSt k {}
      if y.bit (exReg k 0x10) 31 then (y.setBit (exReg k 0x10) 31 false).exHist k 0 else y
    else x) q
  (List.range 48).foldl (fun (x : Part) n =>
    if x.reg (tsReg n 0) == old.reg (tsReg n 0) && x.reg (tsReg n 4) == old.reg (tsReg n 4) then x
    else x.spillCheck n) q

/-! ### Meanings -/

/-- SEGMENT_REMEASURE. -/
def execSegmentRemeasure (i : Fin 2247) (v : Dword) (s : State) : Result := onClock (segmentRemeasure i v) s
/-- SEGMENT_STALE. -/
def execSegmentStale (i : Fin 2247) (s : State) : Result := onClock (segmentStale i) s
/-- CAL.READ. -/
def execCalRead (t : Fin 1024) (s : State) : Result := onPart (calRead t) s
/-- PTP_SYNC_RX. -/
def execPtpSyncRx (t : PtpPort) (h : PtpHead) (one : Bool) (t1 age corr : Int) (s : State) : Result :=
  onClock (ptpSyncRx t h one t1 age corr) s
/-- PTP_FOLLOW_UP_RX. -/
def execPtpFollowUpRx (t : PtpPort) (h : PtpHead) (t1 corr : Int) (s : State) : Result :=
  onClock (ptpFollowUpRx t h t1 corr) s
/-- PTP_DELAY_REQ_RX. -/
def execPtpDelayReqRx (t : PtpPort) (h : PtpHead) (age : Int) (s : State) : Result :=
  onClock (ptpDelayReqRx t h age) s
/-- PTP_DELAY_RESP_RX. -/
def execPtpDelayRespRx (t : PtpPort) (h : PtpHead) (seq : BitVec 16) (t4 : Int) (s : State) : Result :=
  onClock (ptpDelayRespRx t h seq t4) s
/-- PTP_ANNOUNCE_RX. -/
def execPtpAnnounceRx (t : PtpPort) (h : PtpHead) (c : Nat) (l : Announce) (u : Option Word)
    (s : State) : Result := onClock (ptpAnnounceRx t h c l u) s
/-- PTP_ANNOUNCE_TIMEOUT. -/
def execPtpAnnounceTimeout (t : PtpPort) (s : State) : Result := onClock (ptpAnnounceTimeout t) s
/-- PTP_SYNC_TX. -/
def execPtpSyncTx (t : PtpPort) (s : State) : Result := onClock (ptpSyncTx t) s
/-- PTP_ANNOUNCE_TX. -/
def execPtpAnnounceTx (t : PtpPort) (s : State) : Result := onClock (ptpAnnounceTx t) s
/-- PTP_DELAY_REQ_TX. -/
def execPtpDelayReqTx (t : PtpPort) (s : State) : Result := onClock (ptpDelayReqTx t) s
/-- TX_MESSAGE_SEND. -/
def execTxMessageSend (q : Fin 24) (lead : Nat) (s : State) : Result := onClock (txMessageSend q lead) s
/-- TX_MESSAGE_RX. -/
def execTxMessageRx (q : Fin 24) (m : ExchMsg) (age : Nat) (s : State) : Result := onClock (txMessageRx q m age) s
/-- EXCH_VALID_EXPIRE. -/
def execExchValidExpire (q : Fin 24) (s : State) : Result := onClock (exchValidExpire q) s
/-- STAMP_RECORD. -/
def execStampRecord (n : Fin 48) (age : Nat) (x : Option (Fin 16 × BitVec 16)) (s : State) : Result :=
  onClock (stampRecord n age x) s
/-- STAMP_SPILL_MOVE. -/
def execStampSpillMove (n : Fin 48) (s : State) : Result := onClock (stampSpillMove n) s

end Sys2Proof.Machine
end

