-- ==== Sys2Proof/Machine/Client.lean ====
section
/-! DEFINITION. Client MACs and the host packet path (R302 to R306, R379 to R407): alignment, frame classes,
the tap classifier, bobbin pools, receive rings, injection and R-TAGs. -/

namespace Sys2Proof.Machine

/-! ### Ports (R50, R379) -/

/-- None of the slices of a port's lanes is fenced (R34). -/
def Part.clientOpen (p : Part) (n : Nat) : Bool := (p.clientLanes n).all fun l => p.selvState (l % 48 / 2) == 0
/-- The client receivers run (R34, R50, R65). -/
def Part.clientRx (p : Part) (n : Nat) : Bool :=
  p.clientOn n && p.clientOpen n && (match p.runMode with | .listen | .carry | .trim | .drain => true | _ => false)
/-- The client transmitters are driven (R34, R50). -/
def Part.clientTx (p : Part) (n : Nat) : Bool :=
  p.clientOn n && p.clientOpen n && (match p.runMode with | .carry | .trim | .drain => true | _ => false)

/-! ### Frames (R302, R384, R388) -/

/-- The destination address (R384). -/
def ClientFrame.dst (f : ClientFrame) : Nat := bytesNat (f.bytes.take 6)
/-- Two bytes at an offset. -/
def ClientFrame.half (f : ClientFrame) (o : Nat) : Nat := bytesNat ((f.bytes.drop o).take 2)
/-- A tag's type (R388). -/
def tagType (t : Nat) : Bool := t == 0x8100 || t == 0x88A8
/-- Where the first EtherType after up to two tags stands (R388). -/
def ClientFrame.typeAt (f : ClientFrame) : Nat :=
  if tagType (f.half 12) then if tagType (f.half 16) then 20 else 16 else 12
/-- The first EtherType after up to two tags (R388). -/
def ClientFrame.etype (f : ClientFrame) : Nat := f.half f.typeAt
/-- The frame carries an R-TAG (R302). -/
def ClientFrame.rtag (f : ClientFrame) : Bool := f.etype == 0xF1C1
/-- The frame's length, FCS included. -/
def ClientFrame.len (f : ClientFrame) : Nat := f.bytes.length
/-- The FCS holds: CRC-32 of IEEE 802.3 over all but the last four bytes (R384). -/
def ClientFrame.fcsOk (f : ClientFrame) : Bool :=
  f.bytes.drop (f.len - 4) == wordBytes (crc32 (f.bytes.take (f.len - 4)))
/-- A PTP event message: Sync or Delay_Req (R360). -/
def ClientFrame.ptpEvent (f : ClientFrame) : Bool :=
  f.etype == 0x88F7 && decide (f.half (f.typeAt + 2) / 256 % 16 < 2)
/-- Broadcast and group destinations. -/
def ClientFrame.isBcast (f : ClientFrame) : Bool := f.dst == 0xFFFFFFFFFFFF
/-- A group address other than broadcast. -/
def ClientFrame.isGroup (f : ClientFrame) : Bool := f.dst / 2 ^ 40 % 2 == 1 && !f.isBcast

/-- Does the destination equal a valid UCAST entry (R388, R406)? -/
def Part.isUcast (p : Part) (n : Nat) (f : ClientFrame) : Bool :=
  (List.range 4).any fun k => p.bit (macReg n (0x14 + 8 * k)) 31 &&
    f.dst == p.field (macReg n (0x14 + 8 * k)) 15 0 * 2 ^ 32 + (p.reg (macReg n (0x10 + 8 * k))).toNat

/-- A DCLASS matches (R388). -/
def Part.dclass (p : Part) (n d : Nat) (f : ClientFrame) : Bool :=
  match d with
  | 0 => true
  | 1 => p.isUcast n f
  | 2 => f.isGroup
  | _ => f.isBcast

/-- The lowest-numbered valid rule that matches (R388). -/
def Part.ruleFor (p : Part) (n : Nat) (f : ClientFrame) : Option Nat :=
  (List.range 8).find? fun k =>
    let w := p.reg (macReg n (0x30 + 4 * k))
    w.getLsbD 31 && (fieldOf w 15 0 == 0 || fieldOf w 15 0 == f.etype) && p.dclass n (fieldOf w 28 27) f

/-- The destination of PTP messages on a port (R356, R377). -/
def Part.ptpDst (p : Part) (n : Nat) : Nat := if p.bit (tsReg n 0) 27 then 0x0180C200000E else 0x011B19000000

/-- The first step that applies (R388). Offering at step 5 is R390's. -/
def Part.classify (p : Part) (n : Nat) (f : ClientFrame) : Verdict :=
  let fl := p.reg (macReg n 4)
  if p.bit (tsReg n 0) 31 && f.etype == 0x88F7 && f.dst == p.ptpDst n then
    { step := 1, rule := 0, removed := true, offered := false }
  else match p.ruleFor n f with
  | some k =>
    let a := p.field (macReg n (0x30 + 4 * k)) 30 29
    { step := 2, rule := k, removed := a == 1 || a == 3, offered := a == 1 || a == 2 }
  | none =>
    if p.isUcast n f then { step := 3, rule := 0, removed := true, offered := true }
    else if fl.getLsbD 31 || (f.isGroup && fl.getLsbD 30) || (f.isBcast && fl.getLsbD 29) then
      { step := 4, rule := 0, removed := false, offered := true }
    else { step := 5, rule := 0, removed := false, offered := false }

/-! ### The tap (R388, R394) -/

/-- A frame is offered to the tap with its first 64 bytes (R388, R394). -/
def Part.tapOffer (p : Part) (n : Nat) (f : ClientFrame) (v : Verdict) (stamp : Nat) : Part :=
  let q := p.reg (tapReg n 0x38)
  let r := (p.addWrap (tapReg n 0x38) 1).count (0x7000 + n) 0 1
  if !p.bit (tapReg n 8) 31 then
    ((r.addSat (macReg n 0xA8) 1).count (0x7000 + n) 5 1).dropHist n
  else
    let t : TapFrame :=
      { seq := q, step := v.step, rule := v.rule, copy := !v.removed, stamp := stamp, stale := p.rxStale n,
        left := 64, bytes := f.bytes.take 64, claims := [], ended := false, dec := none, dead := false }
    let c := r.client n
    ((r.setClient n { c with frames := c.frames ++ [t] }).feed n feedSteps).tapOverflow n q

/-- Does PAUSE_MODE take the frame out (R386)? -/
def Part.pauseTaken (p : Part) (n : Nat) (f : ClientFrame) : Bool := p.bit (macReg n 0) 28 && f.etype == 0x8808

/-- The outcome for a frame, PAUSE_MODE included (R386, R388). A rule or a UCAST entry that matches a
removed MAC Control frame still offers it. -/
def Part.verdict (p : Part) (n : Nat) (f : ClientFrame) : Verdict :=
  let v := p.classify n f
  if p.pauseTaken n f then { v with removed := true } else v

/-- CLIENT_FRAME_CLASSIFY (R388): its fate is fixed when 64 bytes have arrived. -/
def clientFrameClassify (cp : Fin 48) (f : ClientFrame) (p : Part) : Part :=
  let n := cp.val
  if !p.clientRx n || !p.clientAligned n || f.len < 64 then p
  else
    let v := p.verdict n f
    let q := p.setClient n { p.client n with fate := some v }
    let q := if v.removed then q.addSat (macReg n 0x98) 1 else q
    if v.step = 1 then q.addSat (macReg n 0x9C) 1
    else if v.offered || (v.step == 5 && (p.bit (steerReg 14) 31 || p.bit (macReg n 4) 28)) then
      q.tapOffer n f v (p.rxStamp n f.age).toNat
    else q

/-! ### Frame changes (R302, R303, R360, R385) -/

/-- An FCS of the body: correct, or inverted bit by bit for a frame whose FCS was wrong (R385). -/
def fcsOf (ok : Bool) (body : List Byte) : List Byte :=
  wordBytes (if ok then crc32 body else ~~~crc32 body)

/-- The R-TAG removed (R306). -/
def ClientFrame.strip (f : ClientFrame) : List Byte := f.bytes.take f.typeAt ++ f.bytes.drop (f.typeAt + 6)

/-- An R-TAG with a sequence number inserted (R302, R303). -/
def ClientFrame.insertTag (f : ClientFrame) (s : Nat) : List Byte :=
  f.bytes.take f.typeAt ++ [0xF1#8, 0xC1#8, 0#8, 0#8, BitVec.ofNat 8 (s / 256), BitVec.ofNat 8 s]
    ++ f.bytes.drop f.typeAt

/-- correctionField changed by an amount in 2^-16 ns (R360). -/
def ClientFrame.correct (f : ClientFrame) (d : Int) : List Byte :=
  let o := f.typeAt + 10
  let x := BitVec.ofInt 64 (Int.ofNat (bytesNat ((f.bytes.drop o).take 8)) + d)
  f.bytes.take o ++ netBytes (hiWord x) ++ netBytes (loWord x) ++ f.bytes.drop (o + 8)

/-- A modified frame: its FCS recomputed, stomped where the received one was wrong (R385). -/
def Part.reFcs (p : Part) (n : Nat) (ok : Bool) (bs : List Byte) : Part × List Byte :=
  let body := bs.take (bs.length - 4)
  (if ok then p else p.addSat (macReg n 0x90) 1, body ++ fcsOf ok body)

/-- A frame of 64 to MAX_FRAME bytes (R384). -/
def Part.sized (p : Part) (n : Nat) (f : ClientFrame) : Bool :=
  decide (64 ≤ f.len) && decide (f.len ≤ p.field (macReg n 0) 13 0)

/-- The bytes of a frame from the client as they go to the mapper (R306, R360, R383): an undersize or oversize frame goes
as it came. -/
def Part.towardLine (p : Part) (n : Nat) (f : ClientFrame) : Part × List Byte :=
  let strip := p.bit (macReg n 0xC0) 29 && f.rtag && p.sized n f
  let b1 := if strip then f.strip else f.bytes
  let g : ClientFrame := { bytes := b1 }
  let tc := p.bit (tsReg n 0) 30 && g.ptpEvent && p.sized n f && decide (g.typeAt + 40 ≤ g.len)
  let b2 := if tc then g.correct (-(p.rxStamp n f.age)) else b1
  if strip || tc then p.reFcs n f.fcsOk b2 else (p, f.bytes)

/-! ### The end of a frame from the client (R384, R389, R390) -/

/-- A good copy of step 5 is decided by function 14 (R390). -/
def Part.offerTap (p : Part) (n : Nat) (q : Word) : Part :=
  let cand := (p.bit (macReg n 4) 28).toNat
  let drop : Part → Part := fun x => x.tapDiscard n q 0xB4 3
  let apply : Part → Part := fun x => if cand = 1 then x else drop x
  if !p.bit (steerReg 14) 31 then apply p
  else if 4 ≤ p.tapOpen n then apply ((p.addSat (macReg n 0xB8) 1))
  else if p.steerForced then apply ((p.count 0x1000 0 1).countMissed 14)
  else if 256 ≤ p.steer.openDecs.length then apply ((p.count 0x1000 0 1).count 0x1000 4 1)
  else
    let d : Decision :=
      { serial := p.steer.nextSerial, func := 14, inst := n, cand := cand, alts := 3#32,
        deadline := p.clk + p.field (steerReg 14) 26 0 * edgesPerUs }
    let r := p.setTapFrame n q fun (x : TapFrame) => { x with dec := some d.serial }
    let r := { r.count 0x1000 0 1 with steer := { r.steer with
        openDecs := r.steer.openDecs ++ [d], nextSerial := nextSerialOf d.serial } }
    (r.postRecord d false).syncStage n

/-- A decision of function 14 closes (R390): 0 discards the copy it was about. -/
def applyTap (n : Nat) (serial : Word) (v : Nat) (p : Part) : Part :=
  match (p.client n).frames.find? (fun f => f.dec == some serial) with
  | none => p
  | some f =>
    if v = 0 then p.tapDiscard n f.seq 0xB4 3
    else (p.setTapFrame n f.seq fun (x : TapFrame) => { x with dec := none, since := p.clk }).syncStage n

/-- The tap copy under way ends: its last bytes have been staged and fed as they came, then a frame that did not end as a
good frame is discarded (R389, R394, R396). -/
def Part.tapEnd (p : Part) (n : Nat) (f : ClientFrame) (good : Bool) : Part :=
  match (p.client n).frames.find? (fun x => !x.ended && !x.dead) with
  | none => p
  | some t =>
    let r := p.setTapFrame n t.seq fun (x : TapFrame) =>
      { x with ended := true, bytes := f.bytes, left := x.left + (f.len - 64), since := p.clk }
    let r := (r.feed n feedSteps).tapOverflow n t.seq
    if !((r.client n).frames.any fun x => x.seq == t.seq && !x.dead) then r
    else if !good then r.tapDiscard n t.seq 0xB0 2
    else if t.step = 5 then r.offerTap n t.seq
    else r

/-- A frame forwarded from the client goes to the mapper, where a tributary or a seam group names the port; on
another port it is not carried (R388). The mapper stands behind WEFT (R34). -/
def Part.sendToLine (p : Part) (n : Nat) (f : ClientFrame) : Part :=
  if p.weftRuns && p.tribsOn.any (fun t => p.tribClient t == some n) then
    let r := p.towardLine n f
    r.1.emit (.frame "TO_LINE" n r.2)
  else p

/-- Has the mapper's store lost blocks of a frame of a port that maps by IMP (R268)? -/
def Part.mapLost (p : Part) (n : Nat) (f : ClientFrame) : Bool :=
  p.field (macReg n 0) 30 29 != 0 &&
    (f.overflow || p.tribsOn.any fun t => p.tribClient t == some n && (p.trib t).impLost)

/-- Client mapping overflow of a port that maps by IMP (R268). DESIGN CHOICE (log 104): the frames that lost blocks are
counted. -/
def Part.mapOverflow (p : Part) (n : Nat) (f : ClientFrame) : Part :=
  if !p.mapLost n f then p
  else (p.tribsOn.filter fun t => p.tribClient t == some n).foldl
    (fun (x : Part) t => x.setTrib t { x.trib t with impLost := false }) (p.addSat (macReg n 0x94) 1)

/-- A frame from the client ends: its class, its copy and its way to the line, by the fate fixed at its 64th byte (R384
to R390). One that lost blocks in the mapper's store is counted and does not go out whole (R268). -/
def Part.frameFromClient (p : Part) (n : Nat) (f : ClientFrame) : Part :=
  let sized := p.sized n f
  let line := fun (x : Part) => if p.mapLost n f then x.mapOverflow n f else x.sendToLine n f
  let good := sized && f.fcsOk
  let q :=
    if good then (p.addReg64 (macReg n 0x60) 1).addReg64 (macReg n 0x68) f.len
    else if sized then p.addSat (macReg n 0x70) 1
    else if f.len < 64 then p.addSat (macReg n 0x74) 1
    else p.addSat (macReg n 0x78) 1
  let q := if f.etype == 0x8808 then q.addSat (macReg n 0x7C) 1 else q
  if f.len < 64 then line q
  else
    let v := (p.client n).fate.getD (p.verdict n f)
    let q := if (q.client n).fate.isNone then q else q.setClient n { q.client n with fate := none }
    let q := if v.step = 1 then
        if good then q.emit (.frame "TO_PTP" n f.bytes)
        else (((q.addSat (macReg n 0xB0) 1).count (0x7000 + n) 0 1).count (0x7000 + n) 2 1).dropHist n
      else q.tapEnd n f good
    if v.removed then q else line q

/-! ### Frames toward the client (R303, R304, R426) -/

/-- The generator numbers a frame (R303); with GEN_TWIN, the rolling hash and the pairs (R304, R426). -/
def Part.generate (p : Part) (n : Nat) (f : ClientFrame) : Part :=
  let s := p.field (macReg n 0xC4) 15 0
  let q := p.addWrapField (macReg n 0xC4) 15 0 1
  let c := p.client n
  let hs := (crc32c (f.bytes.take 64) :: c.hashes).take 4
  let roll := crc32c ((hs.reverse.map netBytes).flatten)
  let pairs := if hs.length = 4 then ((roll, BitVec.ofNat 16 s) :: c.pairs).take 4096 else c.pairs
  if p.bit (macReg n 0xC0) 28 then q.setClient n { c with hashes := hs, pairs := pairs, moved := true } else q

/-- The bytes of a frame from the line as they go to the client (R303, R306, R360, R383): its R-TAG out, its
correctionField changed, an R-TAG in. An undersize or oversize frame goes as it came. -/
def Part.towardClient (p : Part) (n : Nat) (f : ClientFrame) : Part × List Byte :=
  let gen := p.bit (macReg n 0xC0) 31
  let strip := p.bit (macReg n 0xC0) 30 && f.rtag && p.sized n f
  let no := gen && (f.rtag || decide (p.field (macReg n 0) 13 0 < f.len + 6))
  let put := gen && !no && p.sized n f
  let q := if no then p.addSatField (macReg n 0xD4) 31 16 1 else p
  let b1 := if strip then f.strip else f.bytes
  let g : ClientFrame := { bytes := b1 }
  let tc := p.bit (tsReg n 0) 30 && g.ptpEvent && p.sized n f && decide (g.typeAt + 40 ≤ g.len)
  let b2 := if tc then g.correct (p.txStamp n (-f.age)) else b1
  let h : ClientFrame := { bytes := b2 }
  let b3 := if put then h.insertTag (p.field (macReg n 0xC4) 15 0) else b2
  let q := if put then q.generate n f else q
  if strip || put || tc then q.reFcs n f.fcsOk b3 else (q, f.bytes)

/-- Is aLF in force toward a client port: Local Fault ordered sets go out in place of data (R231)? -/
def Part.clientFaulted (p : Part) (n : Nat) : Bool := p.tribsOn.any fun t => p.tribClient t == some n && p.lineFault t

/-- CLIENT_FRAME_END (R34, R231, R268, R384): a frame from the client ends, or, with `toClient`, one to the client,
for which Local Fault goes out under aLF. -/
def clientFrameEnd (cp : Fin 48) (toClient : Bool) (f : ClientFrame) (p : Part) : Part :=
  let n := cp.val
  if toClient then
    if p.clientTx n && !p.clientFaulted n && p.weftRuns then
      let r := p.towardClient n f
      (r.1.clientSent n r.2.length).emit (.frame "TO_CLIENT" n r.2)
    else p
  else if p.clientRx n && p.clientAligned n then p.frameFromClient n f else p

/-- TAP_FRAME_COMPLETE (R395): the frame at the head of the order is complete. -/
def tapFrameComplete (cp : Fin 48) (p : Part) : Part :=
  let n := cp.val
  let c := p.client n
  match c.frames with
  | f :: r =>
    if f.ended && f.dec.isNone && f.left == 0 && !f.dead && p.host.linkUp then
      let q := (p.rxFinish n f false).snoop 0x20 n f.bytes
      let q := (q.addSat (macReg n 0xA0) 1).count (0x7000 + n) 1 1
      (q.setClient n { c with frames := r }).settleTap n
    else p
  | [] => p

/-- The frame whose wait began first among those that wait for bobbins, the oldest of equals (R396). -/
def longestWait : List TapFrame → Option TapFrame
  | [] => none
  | f :: l =>
    let r := longestWait l
    if f.ended && !f.dead && f.dec.isNone && decide (0 < f.left) then
      match r with
      | some g => if g.since < f.since then some g else some f
      | none => some f
    else r

/-- RX_STARVE_TIMEOUT (R396): the frame whose wait ends first is not yet whole in bobbins. -/
def rxStarveTimeout (cp : Fin 48) (p : Part) : Part :=
  let n := cp.val
  match longestWait (p.client n).frames with
  | none => p
  | some f =>
    if (p.onDie (p.rxPool n)).isEmpty then p.tapDiscard n f.seq 0xA4 4 else p.tapDiscard n f.seq 0xA8 5

/-! ### Bobbin pools (R391, R392) -/

/-- Ports that draw from a pool. -/
def Part.poolPorts (p : Part) (b : Nat) : List Nat :=
  (List.range 48).filter fun n => p.bit (tapReg n 8) 31 && p.rxPool n == b

/-- POOL_ENTRY_READ (R391): the next entry of the free ring, read from its place in host memory. -/
def poolEntryRead (bp : Fin 16) (entry : Dword) (p : Part) : Part :=
  let b := bp.val
  if !p.bit (poolReg b 8) 31 || !p.host.linkUp || p.reg (poolReg b 0xC) == p.reg (poolReg b 0x10)
      || decide (64 ≤ (p.onDie b).length) then p
  else
    let i := (p.reg (poolReg b 0x10)).toNat % 2 ^ p.field (poolReg b 8) 4 0
    let q := (p.emit (.event "POOL_READ" b (p.reg64 (poolReg b 0) + BitVec.ofNat 64 (8 * i)))).addWrap
      (poolReg b 0x10) 1
    if entry.extractLsb' 0 6 != 0#6 then (q.addSat (poolReg b 0x1C) 1).count (0x8000 + b) 2 1
    else (q.poolPorts b).foldl (fun (x : Part) n => x.settleTap n) (q.setOnDie b (q.onDie b ++ [entry]))

/-- A write of POOL.PROD (R392). A PROD that steps back, which R392 allows, takes the entries out of the ledger's
supply again: the 64-bit count wraps. -/
def poolProdEffect (b : Nat) (req : Req) (addr : BitVec 28) (w : Word) (p : Part) : Part :=
  if 2 ^ p.field (poolReg b 8) 4 0 < (w - p.reg (poolReg b 0x10)).toNat then p.accessFault 5 req addr
  else (p.setReg (poolReg b 0xC) w).count (0x8000 + b) 0 ((w - p.reg (poolReg b 0xC)).signExtend 64).toNat

/-- A write of POOL.BASE (R392): `o` is 0 or 4. -/
def poolBaseEffect (b o : Nat) (req : Req) (addr : BitVec 28) (w : Word) (p : Part) : Part :=
  if p.bit (poolReg b 8) 31 then p.accessFault 5 req addr else p.setReg (poolReg b o) w

/-- A pool is disabled: its bobbins on die are forfeited (R392). -/
def Part.poolOff (p : Part) (b : Nat) : Part :=
  let k := (p.onDie b).length
  (((p.setBit (poolReg b 8) 31 false).setOnDie b []).addSat (poolReg b 0x20) k).count (0x8000 + b) 7 k

/-- A write of POOL.CFG (R392). While ENABLE is 1, only a write that clears it is taken. -/
def poolCfgEffect (b : Nat) (req : Req) (addr : BitVec 28) (w : Word) (p : Part) : Part :=
  let on := p.bit (poolReg b 8) 31
  let bad := decide (fieldOf w 19 16 < 8) || decide (14 < fieldOf w 19 16) || decide (fieldOf w 4 0 < 6)
    || decide (16 < fieldOf w 4 0)
  let same := withBit w 31 true == p.reg (poolReg b 8)
  if bad || (on && !(same && !w.getLsbD 31)) then p.accessFault 5 req addr
  else if on then p.poolOff b
  else p.setReg (poolReg b 8) w

/-! ### Ring registers (R163, R393, R399, R400) -/

/-- RX_CFG.ENABLE is cleared (R399): staged frames are discarded, their bobbins forfeited and their open
decisions closed. -/
def Part.rxOff (p : Part) (n : Nat) : Part :=
  let c := p.client n
  let live := c.frames.filter fun f => !f.dead
  let q := (p.setBit (tapReg n 8) 31 false).setClient n { c with frames := [], empty := false }
  let q := (q.addSat (macReg n 0xA8) live.length).count (0x7000 + n) 5 live.length
  let q := if live.isEmpty then q else q.dropHist n
  let q := c.frames.foldl (fun (x : Part) f => f.claims.foldl (fun (y : Part) cl =>
    (y.addSat (poolReg cl.pool 0x20) 1).count (0x8000 + cl.pool) 7 1) x) q
  let q := live.foldl (fun (x : Part) f => match f.dec with
    | some s => x.closeGone s
    | none => x) q
  q.syncStage n

/-- The checks of the ring template (R407): a size outside 2^6 to 2^16, or a change of the size or the pool
while ENABLE stays 1. -/
def ringCfgBad (old w : Word) : Bool :=
  decide (fieldOf w 4 0 < 6) || decide (16 < fieldOf w 4 0) ||
    (old.getLsbD 31 && (fieldOf w 4 0 != fieldOf old 4 0 || fieldOf w 11 8 != fieldOf old 11 8))

/-- A write of RX_CFG (R399, R407). -/
def rxCfgEffect (n : Nat) (req : Req) (addr : BitVec 28) (w : Word) (p : Part) : Part :=
  let old := p.reg (tapReg n 8)
  if ringCfgBad old w then p.accessFault 5 req addr
  else if old.getLsbD 31 && !w.getLsbD 31 then p.rxOff n
  else
    let q := p.setReg (tapReg n 8) w
    if !old.getLsbD 31 && w.getLsbD 31 then (q.setReg (tapReg n 0xC) 0#32).setReg (tapReg n 0x10) 0#32 else q

/-- A write of RX_BASE or TX_BASE, whose CFG stands at `cfg` (R407). -/
def ringBaseEffect (o cfg : Nat) (req : Req) (addr : BitVec 28) (w : Word) (p : Part) : Part :=
  if p.bit cfg 31 then p.accessFault 5 req addr else p.setReg o w

/-- A write of RX_CONS (R163, R393). -/
def rxConsEffect (n : Nat) (req : Req) (addr : BitVec 28) (w : Word) (p : Part) : Part :=
  if (p.reg (tapReg n 0xC) - w).toNat ≤ 2 ^ p.field (tapReg n 8) 4 0 then
    (p.setReg (tapReg n 0x10) w).settleTap n
  else p.accessFault 5 req addr

/-- Transmit descriptors read and not yet sent or discarded. -/
def Part.txRead (p : Part) (n : Nat) : Nat := (p.client n).tx.length

/-- Has a frame read for injection left the contact, or been discarded (R400)? -/
def TxFrame.gone (f : TxFrame) (clk : Nat) : Bool :=
  f.dead || (match f.leaves with | some e => decide (e ≤ clk) | none => false)

/-- Does a frame read for injection wait to be placed (R403, R404)? -/
def TxFrame.waits (f : TxFrame) : Bool := !f.dead && f.leaves.isNone

/-- The oldest frame that waits, changed. -/
def updWaiting (g : TxFrame → TxFrame) : List TxFrame → List TxFrame
  | [] => []
  | f :: l => if f.waits then g f :: l else f :: updWaiting g l

/-- TX_CONS advances past the frames at the head that have left the contact or been discarded (R400). -/
def Part.drainTx (p : Part) (n : Nat) : Nat → Part
  | 0 => p
  | k + 1 =>
    let c := p.client n
    match c.tx with
    | f :: r =>
      if f.gone p.clk then ((p.setClient n { c with tx := r }).addWrap (tapReg n 0x30) 1).drainTx n k else p
    | [] => p

/-- TX_CONS of every port follows the frames that have left (R400). -/
def Part.drainAll (p : Part) : Part :=
  p.clients.foldl (fun (x : Part) e => x.drainTx e.1 e.2.tx.length) p

/-- TX_CFG.ENABLE is cleared: frames read and not placed leave; they count as timed out (log 16). -/
def Part.txOff (p : Part) (n : Nat) : Part :=
  let c := p.client n
  let k := (c.tx.filter TxFrame.waits).length
  let q := (p.setBit (tapReg n 0x28) 31 false).setClient n { c with tx := [] }
  let q := (q.addSat (macReg n 0xDC) k).count (0x9000 + n) 3 k
  if k = 0 then q else q.dropHist n

/-- A write of TX_CFG (R407). -/
def txCfgEffect (n : Nat) (req : Req) (addr : BitVec 28) (w : Word) (p : Part) : Part :=
  let old := p.reg (tapReg n 0x28)
  if ringCfgBad old w then p.accessFault 5 req addr
  else if old.getLsbD 31 && !w.getLsbD 31 then p.txOff n
  else
    let q := p.setReg (tapReg n 0x28) w
    if !old.getLsbD 31 && w.getLsbD 31 then (q.setReg (tapReg n 0x2C) 0#32).setReg (tapReg n 0x30) 0#32 else q

/-- A write of TX_PROD (R163, R400). -/
def txProdEffect (n : Nat) (req : Req) (addr : BitVec 28) (w : Word) (p : Part) : Part :=
  if 2 ^ p.field (tapReg n 0x28) 4 0 < (w - p.reg (tapReg n 0x30)).toNat then p.accessFault 5 req addr
  else p.setReg (tapReg n 0x2C) w

/-- Taps, transmit rings and pools lose their enables with the host's addresses (R399). -/
def Part.tapsOff (p : Part) : Part :=
  let q := (List.range 48).foldl (fun (x : Part) n =>
    let y := if x.bit (tapReg n 8) 31 && !bitAt (x.justWrote (tapReg n 8)) 31 then x.rxOff n else x
    if y.bit (tapReg n 0x28) 31 && !bitAt (y.justWrote (tapReg n 0x28)) 31 then y.txOff n else y) p
  (List.range 16).foldl (fun (x : Part) b => 
    if x.bit (poolReg b 8) 31 && !bitAt (x.justWrote (poolReg b 8)) 31 then x.poolOff b else x) q

/-! ### Injection (R400 to R403) -/

/-- The descriptor is one R401 discards. -/
def Part.txInvalid (p : Part) (n : Nat) (d : TxDesc) : Bool :=
  let w0 := d.words.getD 0 0#32
  let l := fieldOf w0 15 0 + (if w0.getLsbD 16 then 0 else 4)
  fieldOf w0 31 19 != 0 || (d.words.drop 4).any (fun w => w != 0#32) || decide (l < 64)
    || decide (p.field (macReg n 0) 13 0 < l) || d.frame.isNone

/-- The frame of a descriptor as it is to be sent: LENGTH bytes, with the FCS appended unless it is given
(R400). -/
def TxDesc.bytes (d : TxDesc) : List Byte :=
  let w0 := d.words.getD 0 0#32
  let bs := (d.frame.getD []).take (fieldOf w0 15 0)
  if w0.getLsbD 16 then bs else bs ++ fcsOf true bs

/-- The frame parses as a PTP Sync over the transport of R356 (R403). -/
def Part.isSync (p : Part) (n : Nat) (f : ClientFrame) : Bool :=
  f.etype == 0x88F7 && f.half (f.typeAt + 2) / 256 % 16 == 0 && f.dst == p.ptpDst n && decide (f.typeAt + 50 ≤ f.len)

/-- One-step insertion (R361): the egress time in whole nanoseconds in originTimestamp, the fraction added to
correctionField. The FCS follows (R385). -/
def ClientFrame.oneStep (f : ClientFrame) (t : Nat) : List Byte :=
  let bs := f.correct (t % 65536)
  let ns := t / 65536
  let sec := ns / 1000000000
  bs.take (f.typeAt + 36) ++ [BitVec.ofNat 8 (sec / 2 ^ 40), BitVec.ofNat 8 (sec / 2 ^ 32)]
    ++ netBytes (BitVec.ofNat 32 sec) ++ netBytes (BitVec.ofNat 32 (ns % 1000000000)) ++ bs.drop (f.typeAt + 46)

/-- TX_DESCRIPTOR_READ (R400, R401): the next descriptor, and its frame, from their places in host memory. -/
def txDescriptorRead (cp : Fin 48) (d : TxDesc) (p : Part) : Part :=
  let n := cp.val
  if !p.bit (tapReg n 0x28) 31 || !p.host.linkUp
      || p.reg (tapReg n 0x2C) == p.reg (tapReg n 0x30) + BitVec.ofNat 32 (p.txRead n) then p
  else
    let w0 := d.words.getD 0 0#32
    let bad := p.txInvalid n d
    let f : TxFrame :=
      { dead := bad, bytes := d.bytes, stamp := w0.getLsbD 17,
        oneStep := w0.getLsbD 18 && p.isSync n { bytes := d.bytes }, cookie := d.words.getD 3 0#32 }
    let c := p.client n
    let i := ((p.reg (tapReg n 0x30)).toNat + c.tx.length) % 2 ^ p.field (tapReg n 0x28) 4 0
    let q := (p.emit (.event "TX_READ" n (p.reg64 (tapReg n 0x20) + BitVec.ofNat 64 (32 * i)))).emit
      (.event "TX_FRAME_READ" n (d.words.getD 2 0#32 ++ d.words.getD 1 0#32))
    let q := (q.setClient n { c with tx := c.tx ++ [f] }).count (0x9000 + n) 0 1
    if bad then
      (((q.addSat (macReg n 0xE0) 1).count (0x9000 + n) 2 1).dropHist n).drainTx n (c.tx.length + 1)
    else q

/-- The register-clock edge at which a frame of `len` bytes, put at the start of an idle run, has left the contact: its
event point crosses there a transmit segment after it passed the stamp unit, and its bytes last 0.08 ns each at 100G a
lane (R379, R387, R400). -/
def Part.leaveEdge (p : Part) (n age len : Nat) : Nat :=
  let t := p.txSegment n - age + (len * 5243 / p.clientW n : Nat)
  p.clk + ((t + 262143) / 262144).toNat

/-- INJECT_PLACE (R361, R400, R402, R403): a run of idle blocks is long enough for the oldest frame that waits. TX_CONS
passes it once it has left the contact. -/
def injectPlace (cp : Fin 48) (run : IdleRun) (p : Part) : Part :=
  let n := cp.val
  let c := p.client n
  match c.tx.find? TxFrame.waits with
  | some f =>
    let len := f.bytes.length
    if !p.clientTx n || p.clientFaulted n || run.blocks < (len + 27) / 8 + 1 || 2048 < run.blocks then p
    else
      let q := p.setClient n { c with tx := updWaiting (fun (x : TxFrame) =>
        { x with leaves := some (p.leaveEdge n run.age len) }) c.tx }
      let q := (q.addSat (macReg n 0xD8) 1).count (0x9000 + n) 1 1
      let g : ClientFrame := { bytes := f.bytes }
      let s := if f.oneStep then q.reFcs n g.fcsOk (g.oneStep (p.txStamp n (-run.age)).toNat) else (q, f.bytes)
      let q := ((s.1.snoop 0x21 n s.2).emit (.frame "TO_CLIENT" n s.2)).clientSent n len
      let q := if f.stamp then
          let serial := q.field (tsReg n 0x14) 15 0
          let s := q.stampSt n
          (q.setStampSt n { s with waiting := s.waiting ++
              [{ serial := serial, cookie := f.cookie, oneStep := f.oneStep, len := len }] }).setField
            (tsReg n 0x14) 15 0 (serial + 1)
        else q
      q.drainTx n c.tx.length
  | none => p

/-- INJECT_TIMEOUT (R403): the oldest frame that waits was not placed within INJ_WAIT. -/
def injectTimeout (cp : Fin 48) (p : Part) : Part :=
  let n := cp.val
  let c := p.client n
  if c.tx.any TxFrame.waits then
    let q := p.setClient n { c with tx := updWaiting (fun (x : TxFrame) => { x with dead := true }) c.tx }
    (((q.addSat (macReg n 0xDC) 1).count (0x9000 + n) 3 1).dropHist n).drainTx n c.tx.length
  else p

/-! ### Alignment (R381, R382, R387) -/

/-- 180 ns of skew, in units of 2^-16 ns (R382). -/
def maxSkew : Nat := 11796480

/-- The latency-change event of a client port, with the old and new RX_LAT and TX_LAT (R35, R387). -/
def Part.clientLatChange (p : Part) (n : Nat) (oldRx oldTx : Dword) : Part :=
  let q := p.addWrapField (macReg n 0xBC) 15 0 1
  let rx := q.reg64 (macReg n 0x50)
  (q.clientHist n 4).latencyEvent "CLIENT_LATENCY" n
    (changeWords oldRx rx ++ changeWords oldTx (q.reg64 (macReg n 0x58))) rx

/-- CLIENT_PORT_ALIGN (R381, R382): `arrivals` are the members' marker arrivals in 2^-16 ns. Every member
locks its markers; the port aligns where the skew is within 180 ns. -/
def clientPortAlign (cp : Fin 48) (arrivals : List Nat) (p : Part) : Part :=
  let n := cp.val
  let ls := p.clientLanes n
  if !p.clientRx n || p.clientAligned n || arrivals.length != ls.length
      || !ls.all (fun l => p.bit (laneReg l 0x10) 2) then p
  else
    let lo := arrivals.foldl min (arrivals.headD 0)
    let hi := arrivals.foldl max 0
    let q := (ls.zip arrivals).foldl (fun (x : Part) (e : Nat × Nat) =>
      (x.setLaneStep e.1 3).setReg64 (laneReg e.1 0x68) (BitVec.ofNat 64 (e.2 - lo))) p
    if maxSkew < hi - lo then q
    else
      let q := ls.foldl (fun (x : Part) l => x.setLaneStep l 4) q
      let holds := arrivals.map fun a => hi - a + leastHold
      let c := q.client n
      let q := q.setClient n { c with holds := holds }
      let q := (ls.zip holds).foldl (fun (x : Part) (e : Nat × Nat) =>
        (x.setLane e.1 { x.lane e.1 with hold := e.2 }).syncLaneLat e.1) q
      let q := ((q.setBit (macReg n 8) 1 true).setBit (macReg n 8) 2 false).setBit (macReg n 8) 3 false
      let q := q.syncClientLat n
      if c.holds = holds then q else q.clientLatChange n (p.reg64 (macReg n 0x50)) (p.reg64 (macReg n 0x58))

/-- CLIENT_ALIGN_LOSS (R381, R382): a member lost its markers or drifted by more than 2 ns: the port loses alignment,
and that member its AM lock. -/
def clientAlignLoss (m : PortMember) (p : Part) : Part :=
  let n := m.port.val
  if p.clientOn n && p.clientAligned n && decide (m.member.val < p.clientW n) then
    (p.clientLose n).fallLane (48 + n + m.member.val) 3
  else p

/-- FAULT_ORDERED_SETS_RX (R406): Local or Remote Fault ordered sets from the client start, or with `on` false end.
RX_LF stays 1 while the port is not aligned. -/
def faultOrderedSetsRx (cp : Fin 48) (remote on : Bool) (p : Part) : Part :=
  let b := if remote then 3 else 2
  if !p.clientRx cp then p
  else if on then p.clientFault cp b
  else if remote || p.clientAligned cp then p.setBit (macReg cp 8) b false
  else p

/-! ### Sequence recovery (R305, R306) -/

/-- The recovery state of a port. -/
def Part.recovSt (p : Part) (n : Nat) : RecovSt := SMap.get (fun _ => {}) p.recov n
/-- The recovery state replaced. -/
def Part.setRecov (p : Part) (n : Nat) (v : RecovSt) : Part :=
  { p with recov := SMap.set (fun _ => {}) p.recov n v }

/-- The ELIM group whose END is a client port (R305). -/
def Part.elimOf (p : Part) (n : Nat) : Option Nat :=
  (List.range 512).find? fun g =>
    p.bit (seamReg g 0) 31 && p.bit (seamReg g 0) 25 && p.field (seamReg g 4) 31 30 == 1
      && p.field (seamReg g 4) 9 0 == n

/-- A term of the seam ledger of the port's ELIM group (R307). -/
def Part.elimCount (p : Part) (n code : Nat) : Part :=
  match p.elimOf n with
  | some g => p.count (0x5000 + g) code 1
  | none => p

/-- A frame passes recovery. -/
def Part.rtagPass (p : Part) (n : Nat) : Part := (p.addSat (macReg n 0xC8) 1).elimCount n 12
/-- A frame is discarded as a duplicate. -/
def Part.rtagDrop (p : Part) (n : Nat) : Part := (p.addSat (macReg n 0xCC) 1).elimCount n 13

/-- Entries of a history that leave it unset when it moves by `k` (IEEE 802.1CB's LostPackets): `h` is the
length, bit 0 the newest. -/
def histLost (hist : BitVec 32) (h : Nat) : Nat → Nat
  | 0 => 0
  | k + 1 => (!hist.getLsbD (h - 1 - k % h)).toNat + histLost hist h k

/-- Do the frames of leg `k` of a port's ELIM group enter recovery: the leg is merged, and the R-TAG unit, which reads
its LO point directly, finds no aTSF (R234, R293, R305)? The spec names no act of the unit on aTSD or a frame's BIP-8
(log 89). -/
def Part.legEnters (p : Part) (n k : Nat) : Bool :=
  match p.elimOf n with
  | some g => p.legState g k == 4 && !p.pd (48 + p.legTrib g k) 13
  | none => false

/-- RTAG_RECOVERY_FRAME (R305, R306): a frame of leg `k` meets vector recovery (7.4.3.4) or match recovery (7.4.3.5)
of IEEE 802.1CB, as the model takes them (log 17). `none` is a frame without an R-TAG. -/
def rtagRecoveryFrame (cp : Fin 48) (k : Fin 3) (seq : Option (BitVec 16)) (p : Part) : Part :=
  let n := cp.val
  let mode := p.field (macReg n 0xC0) 27 26
  if !p.clientTx n || mode == 0 || mode == 3 || !p.legEnters n k || !p.weftRuns then p
  else
    let p := p.elimCount n 11
    let r := p.recovSt n
    match seq with
    | none =>
      if p.bit (macReg n 0xC0) 25 then p.rtagPass n
      else (p.addSatField (macReg n 0xD4) 31 16 1).elimCount n 14
    | some s =>
      if r.takeAny then
        (p.setRecov n { takeAny := false, seq := s, history := 1#32 }).rtagPass n
      else if mode = 2 then
        if s = r.seq then p.rtagDrop n else (p.setRecov n { r with seq := s }).rtagPass n
      else
        let h := p.field (macReg n 0xC0) 20 16
        let h := if h = 0 then 32 else h
        let d := (s - r.seq).toInt
        if d ≥ h ∨ d ≤ -(h : Int) then p.rtagDrop n
        else if d ≤ 0 then
          let i := (-d).toNat
          if r.history.getLsbD i then p.rtagDrop n
          else (p.setRecov n { r with history := r.history ||| (1#32 <<< i) }).rtagPass n
        else
          let k := d.toNat
          let lost := histLost r.history h k
          (((p.setRecov n { r with seq := s, history := (r.history <<< k) ||| 1#32 }).addSat
            (macReg n 0xD0) lost)).rtagPass n

/-- RTAG_RECOVERY_RESET (R306): RESET_MS passed with no frame accepted. -/
def rtagRecoveryReset (cp : Fin 48) (p : Part) : Part :=
  let n := cp.val
  let m := p.field (macReg n 0xC0) 27 26
  if m == 0 || m == 3 || (p.recovSt n).takeAny then p
  else (p.setRecov n {}).addSatField (macReg n 0xD4) 15 0 1

/-! ### Modes and stitches -/

/-- TX_DRIVEN follows the mode; RX_LF is 1 at an enabled port that is not aligned, and both fault bits are 0 where
no port is (R50, R406). -/
def Part.syncClients (p : Part) : Part :=
  (List.range 48).foldl (fun (x : Part) n =>
    let y := if x.bit (macReg n 8) 0 == x.clientTx n then x else x.setBit (macReg n 8) 0 (x.clientTx n)
    if y.clientOn n then (if y.clientAligned n then y else y.clientFault n 2)
    else if y.field (macReg n 8) 3 2 = 0 then y else y.setField (macReg n 8) 3 2 0) p

/-- The client ports at a mode change (R50): ports whose receivers stop lose alignment. -/
def Part.clientMode (p : Part) : Part :=
  ((List.range 48).foldl (fun (x : Part) n =>
    if x.clientAligned n && !x.clientRx n then x.clientLose n else x) p).syncClients

/-- The checks of a client port's configuration (R303, R305, R306, R360, R380), over the resulting words. -/
def validateClient (q : Part) : List StitchFault :=
  ((List.range 48).map fun n =>
    let c := macReg n 0xC0
    let w := q.clientW n
    let rc := q.field c 27 26
    let l := q.field c 20 16
    let port := if !q.clientOn n then []
      else
        failIf (n % w != 0) (paramFail (macReg n 0)) ++
        failIf (!((List.range w).all fun j => q.bit (laneReg (48 + n + j) 0) 31)) (paramFail (macReg n 0)) ++
        failIf ((List.range w).any fun j => decide (0 < j) && q.clientOn (n + j)) (paramFail (macReg n 0)) ++
        failIf (decide (q.field (macReg n 0) 13 0 < 1518) || decide (16000 < q.field (macReg n 0) 13 0))
          (paramFail (macReg n 0))
    port ++
      failIf (q.bit c 31 && q.bit c 30) (paramFail c) ++
      failIf (rc == 3 || l == 1 || q.field c 15 0 == 0) (paramFail c) ++
      failIf ((rc != 0) != (q.elimOf n).isSome) (paramFail c)).flatten

/-- Client ports at a stitch boundary: a port that changed RATE or ENABLE starts again (R381, R387), and a
generator starts at its last number. `old` reads the words before. -/
def clientStitched (p : Part) (old : Nat → Word) : Part :=
  ((List.range 48).foldl (fun (x : Part) n =>
    let o := old (macReg n 0)
    let w := x.reg (macReg n 0)
    let q := if fieldOf o 31 29 = fieldOf w 31 29 then x
      else
        let lanes := (List.range (2 ^ fieldOf o 30 29)).map fun j => 48 + n + j
        let y := if fieldOf o 31 31 = 0 then x
          else lanes.foldl (fun (z : Part) l => z.fallLane l 3) (x.clientUnalign n lanes)
        let y := y.setClient n { y.client n with holds := [] }
        y.clientLatChange n (joinWords (old (macReg n 0x50)) (old (macReg n 0x54)))
          (joinWords (old (macReg n 0x58)) (old (macReg n 0x5C)))
    let oc := old (macReg n 0xC0)
    if fieldOf oc 27 26 = x.field (macReg n 0xC0) 27 26 then q else q.setRecov n {}) p).syncClients

/-! ### The commands -/

/-- CLIENT_PORT_ALIGN. -/
def execClientPortAlign (n : Fin 48) (l : List Nat) (s : State) : Result := onReceivers (clientPortAlign n l) s
/-- CLIENT_FRAME_CLASSIFY. -/
def execClientFrameClassify (n : Fin 48) (f : ClientFrame) (s : State) : Result :=
  onClock (clientFrameClassify n f) s
/-- CLIENT_FRAME_END. -/
def execClientFrameEnd (n : Fin 48) (t : Bool) (f : ClientFrame) (s : State) : Result :=
  onClock (clientFrameEnd n t f) s
/-- TAP_FRAME_COMPLETE. -/
def execTapFrameComplete (n : Fin 48) (s : State) : Result := onClock (tapFrameComplete n) s
/-- RX_STARVE_TIMEOUT. -/
def execRxStarveTimeout (n : Fin 48) (s : State) : Result := onClock (rxStarveTimeout n) s
/-- POOL_ENTRY_READ. -/
def execPoolEntryRead (b : Fin 16) (e : Dword) (s : State) : Result := onClock (poolEntryRead b e) s
/-- TX_DESCRIPTOR_READ. -/
def execTxDescriptorRead (n : Fin 48) (d : TxDesc) (s : State) : Result := onClock (txDescriptorRead n d) s
/-- INJECT_PLACE. -/
def execInjectPlace (n : Fin 48) (r : IdleRun) (s : State) : Result := onClock (injectPlace n r) s
/-- INJECT_TIMEOUT. -/
def execInjectTimeout (n : Fin 48) (s : State) : Result := onClock (injectTimeout n) s
/-- CLIENT_ALIGN_LOSS. -/
def execClientAlignLoss (n : PortMember) (s : State) : Result := onReceivers (clientAlignLoss n) s
/-- FAULT_ORDERED_SETS_RX. -/
def execFaultOrderedSetsRx (n : Fin 48) (r on : Bool) (s : State) : Result :=
  onReceivers (faultOrderedSetsRx n r on) s
/-- RTAG_RECOVERY_FRAME. -/
def execRtagRecoveryFrame (n : Fin 48) (k : Fin 3) (q : Option (BitVec 16)) (s : State) : Result :=
  onClock (rtagRecoveryFrame n k q) s
/-- RTAG_RECOVERY_RESET. -/
def execRtagRecoveryReset (n : Fin 48) (s : State) : Result := onClock (rtagRecoveryReset n) s

end Sys2Proof.Machine
end

