-- ==== Sys2Proof/Machine/Mailbox.lean ====
section
/-! DEFINITION. Mailboxes MB0 to MB31 (R180 to R186): who sends and receives, what a write and a read do,
and the twin mailboxes' words and reports. -/

namespace Sys2Proof.Machine

/-- A register of mailbox `n` (R181). -/
def mbReg (n o : Nat) : Nat := 0x3000 + 16 * n + o

/-- A core as a requester. -/
def coreReq : Nat → Req
  | 0 => .mc0 | 1 => .mc1 | 2 => .mc2 | _ => .mc3

/-- The two ends of a pair's even mailbox: sender and receiver, `none` the twin (R180). -/
def mbEnds (k : Nat) : Option Req × Option Req :=
  if k < 8 then (some .host, some (coreReq (k / 2)))
  else if k = 8 then (some .mc0, some .mc1)
  else if k = 9 then (some .mc2, some .mc3)
  else if k = 10 then (some .mc0, some .mc2)
  else if k = 11 then (some .mc1, some .mc3)
  else if k < 14 then (some .host, none)
  else (some .mc3, none)

/-- The sender of a mailbox; `none` is the twin (R180). -/
def mbSender (n : Nat) : Option Req := if n % 2 = 0 then (mbEnds (n / 2)).1 else (mbEnds (n / 2)).2
/-- The receiver of a mailbox; `none` is the twin (R180). -/
def mbReceiver (n : Nat) : Option Req := if n % 2 = 0 then (mbEnds (n / 2)).2 else (mbEnds (n / 2)).1

/-- FULL (R181). -/
def Part.mbFull (p : Part) (n : Nat) : Bool := p.bit (mbReg n 4) 0

/-- CROSSED sets in both mailboxes of a pair while both are FULL; of a twin pair's outbound mailbox the FULL that
the twin reported counts (R185). -/
def Part.mbCross (p : Part) (n : Nat) : Part :=
  let a := n / 2 * 2
  let sent := if a < 24 then p.mbFull a else p.twin.mbFulls.getLsbD ((a - 24) / 2)
  if sent && p.mbFull (a + 1) then (p.raise (mbReg a 4) 2).raise (mbReg (a + 1) 4) 2 else p

/-- FULL rises: the vector of the mailbox while IRQ_EN is 1 (R182, R183). -/
def Part.mbRise (p : Part) (n : Nat) : Part :=
  let q := p.setBit (mbReg n 4) 0 true
  if p.mbFull n || !p.bit (mbReg n 0xC) 0 then q
  else if n < 16 ∧ n % 2 = 1 then q.message 3
  else if n = 25 ∨ n = 27 then q.message 11
  else q

/-- A word reaches a mailbox: stored, or overwritten with COLLISION (R182). -/
def Part.mbPut (p : Part) (n : Nat) (w : Word) : Part :=
  let q := (p.setReg (mbReg n 0) w).count (0x2000 + n) 0 1
  let q := if p.mbFull n then (q.raise (mbReg n 4) 1).count (0x2000 + n) 2 1 else q
  (q.mbRise n).mbCross n

/-- The place of a twin mailbox among the four of its direction (R413). -/
def twinIndex (n : Nat) : Nat := (n - 24) / 2

/-- A local write of an outbound twin mailbox (R184, R422): FULL at once; a word not sent yet is
overwritten, which is a collision. -/
def Part.mbPutTwin (p : Part) (n : Nat) (w : Word) : Part :=
  let k := twinIndex n
  let q := (p.setReg (mbReg n 0) w).count (0x2000 + n) 0 1
  let q := if p.twin.mbNew.getLsbD k then (q.raise (mbReg n 4) 1).count (0x2000 + n) 2 1 else q
  let q := { q with twin := { q.twin with mbNew := q.twin.mbNew ||| (1#4 <<< k) } }
  q.mbRise n

/-- A write of DATA by a requester (R182, R183). -/
def mailboxEffect (n : Nat) (req : Req) (w : Word) (p : Part) : Part :=
  if mbSender n ≠ some req then p.addSatField (mbReg n 4) 15 8 1
  else if 24 ≤ n then p.mbPutTwin n w
  else p.mbPut n w

/-- MAILBOX_READ (R182): a native read of DATA; the receiver empties the mailbox. -/
def mailboxRead (req : Req) (n : Fin 32) (p : Part) : Part :=
  let q := p.emit (.data req (p.reg (mbReg n 0)))
  if mbReceiver n = some req ∧ p.mbFull n then
    (q.setBit (mbReg n 4) 0 false).count (0x2000 + n) 1 1
  else q

/-- STAT as it reads: LINK_DOWN of a twin mailbox is 1 while the part is UNPAIRED (R184, R419). -/
def Part.mbStat (p : Part) (n : Nat) : Word :=
  if n < 24 then p.reg (mbReg n 4) else withBit (p.reg (mbReg n 4)) 3 (!p.bit 0xD110 31)

/-- MAILBOX_READ. -/
def execMailboxRead (req : Req) (n : Fin 32) (s : State) : Result := onPart (mailboxRead req n) s

end Sys2Proof.Machine
end

