-- ==== Sys2Proof/Machine/Cirumlink.lean ====
section
/-! DEFINITION. Cirumlink: ports, cycles and slots, speed levels, twin pairing, notices, wakes and mirroring
(R408 to R428, R439). -/

namespace Sys2Proof.Machine

/-! ### Registers and places (R409, R439) -/

/-- A register of Cirumlink port `k`: 0 CMA, 1 CMB. -/
def cirReg (k o : Nat) : Nat := 0xD000 + 0x80 * k + o
/-- A port's running state. -/
def Part.link (p : Part) (k : Nat) : LinkSt := SMap.get (fun _ => {}) p.links k
/-- A port's running state replaced. -/
def Part.setLink (p : Part) (k : Nat) (v : LinkSt) : Part :=
  { p with links := SMap.set (fun _ => {}) p.links k v }
/-- RING_SIZE (R409). -/
def Part.ringPorts (p : Part) : Nat := p.field 0xD100 2 0 + 1
/-- RING_POS (R409). -/
def Part.ringPos (p : Part) : Nat := p.field 0x10 2 0
/-- The twin link's port: CMA of an even position, CMB of an odd one (R409). -/
def Part.twinPort (p : Part) : Nat := if p.bit 0x10 0 then 1 else 0
/-- RING is powered: every mode but DORMANT, and the last gasp (R50, R514). -/
def Part.ringPowered (p : Part) : Bool :=
  (p.md.cur != .dormant || p.supply.loss.isSome) && p.selvState 28 == 0
/-- The port is in use (R409, R416). -/
def Part.linkUsed (p : Part) (k : Nat) : Bool :=
  p.bit (cirReg k 0) 31 && p.ringPowered && decide (1 < p.ringPorts)
/-- STATE: 0 OFF, 1 TRAIN, 2 RUN, 3 RAISING, 4 LOWERING, 5 DOWN. -/
def Part.linkState (p : Part) (k : Nat) : Nat := p.field (cirReg k 4) 2 0
/-- TX_LEVEL. -/
def Part.txLevel (p : Part) (k : Nat) : Nat := p.field (cirReg k 4) 5 4
/-- The port transmits slot frames. -/
def Part.linkSends (p : Part) (k : Nat) : Bool :=
  p.linkUsed k && (match p.linkState k with | 1 | 2 | 3 | 4 => true | _ => false)
/-- CIRUMLINK.HIST raises group 11: 0 TWIN_H, 1 LINK_H. -/
def Part.cirHist (p : Part) (b : Nat) : Part := p.hist 0xD11C b 11
/-- PAIRED (R419). -/
def Part.paired (p : Part) : Bool := p.bit 0xD110 31
/-- The direction stays at level 3: AUTO = 0, or the MEM island is lost (R416, R417). -/
def Part.linkFixed (p : Part) (k : Nat) : Bool := !p.bit (cirReg k 0) 30 || p.selvState 25 != 0

/-- SLOT[s] (R439). -/
def Part.slotWord (p : Part) (s : Nat) : Word := p.reg (0xD200 + 4 * s)
/-- The slots this part owns, of a class (R414). -/
def Part.ownSlots (p : Part) (cls : Nat) : List Nat :=
  (List.range 64).filter fun s =>
    decide (0 < s) && (p.slotWord s).getLsbD 31 && fieldOf (p.slotWord s) 17 16 == cls
      && fieldOf (p.slotWord s) 2 0 == p.ringPos
/-- Slot payload of a level (R411). -/
def slotPayload (l : Nat) : Nat := if l = 3 then 23980 else if l = 2 then 11980 else if l = 1 then 5980 else 2380
/-- Lanes of a level (R411). -/
def levelLanes (l : Nat) : Nat := if l = 3 then 0xF else if l = 2 then 3 else if l = 1 then 1 else 2

/-- Lanes' AM lock as a frame's markers come (R206, R408): a lane that brings none, or has drifted by more than 2 ns
against the lowest lane held, loses it; one newly found is held from here. DEDUCED (log 100): the lowest lane held is
what the others are measured against. -/
def laneHolds (old : SMap (Option Int)) (lanes : List (Option Nat)) : SMap (Option Int) :=
  let held := fun i => SMap.get (fun _ => none) old i
  let at_ := fun i : Nat => (lanes.getD i none).map fun a => (a : Int)
  let shift := (List.range 4).findSome? fun i =>
    match held i, at_ i with
    | some h, some a => some (h - a)
    | _, _ => none
  let base := shift.getD (-(((List.range 4).findSome? at_).getD 0))
  (List.range 4).foldl (fun m i =>
    SMap.set (fun _ => none) m i (match at_ i with
      | none => none
      | some a => match held i with
        | some h => if (a + base - h).natAbs ≤ 131072 then some h else none
        | none => some (a + base))) []

/-- LANES_LOCKED as a mask. -/
def lanesLocked (holds : SMap (Option Int)) : Nat :=
  (List.range 4).foldl (fun n i => if (SMap.get (fun _ => none) holds i).isSome then n + 2 ^ i else n) 0

/-- Does every lane of a level hold AM lock, within 40 ns of skew (R408, R411)? -/
def levelHeld (holds : SMap (Option Int)) (l : Nat) : Bool :=
  let ls := (List.range 4).filter fun i => (levelLanes l).testBit i
  let at_ := ls.filterMap fun i => SMap.get (fun _ => none) holds i
  at_.length == ls.length &&
    at_.all fun a => at_.all fun b => decide (a - b ≤ 2621440)

/-- READY: the highest level whose lanes hold AM lock. Lane 1 runs at the rate of level 0 while that is in force (R411,
R416). -/
def LinkSt.ready (c : LinkSt) : Nat :=
  let n := lanesLocked c.holds
  let at0 := match c.peer with | some f => f.txLevel == 0 | none => false
  if at0 then n % 2 else if n = 15 then 3 else if n % 4 = 3 then 2 else n % 2

/-- Bytes of a mirror record (R425). -/
def MirrorRec.size (r : MirrorRec) : Nat := 8 + 4 * r.body.length
/-- Bytes queued for the MIRROR slot. -/
def Part.mirrorBytes (p : Part) : Nat := p.twin.toSend.foldl (fun n r => n + r.size) 0
/-- Bytes queued for the NOTE slot. -/
def Part.ringBytes (p : Part) : Nat :=
  (List.range 8).foldl (fun n r => (p.noteQueue (32 + r)).foldl (fun m x => m + x.len) n) 0
/-- Bytes in the queue of the MIRROR slot: what the producer has fed of what waits (R417). -/
def Part.mirrorQueue (p : Part) : Nat := min p.twin.mirrorFed p.mirrorBytes
/-- Bytes in the queue of the NOTE slot. -/
def Part.noteSlotQueue (p : Part) : Nat := min p.twin.noteFed p.ringBytes
/-- Bytes in the queue of slot `s`: each class uses the lowest slot the part owns (log 19). -/
def Part.slotQueue (p : Part) (s : Nat) : Nat :=
  if (p.ownSlots 1).head? = some s then p.mirrorQueue
  else if (p.ownSlots 2).head? = some s then p.noteSlotQueue
  else 0
/-- An owned queue holds RAISE_FILL (R416, R417). -/
def Part.raiseDue (p : Part) : Bool :=
  let fill := p.field 0xD120 17 0
  ((p.ownSlots 1).head?.isSome && decide (fill ≤ p.mirrorQueue)) ||
    ((p.ownSlots 2).head?.isSome && decide (fill ≤ p.noteSlotQueue))

/-- A queue after one cycle of feeding: `total` waits in all, at most 1 Gb/s enters, or `cap` bytes while MEM is lost, and
the queue holds 1 MiB (R417). -/
def fedOf (fed total cap : Nat) : Nat := min (min total (fed + cap)) 0x100000

/-- What one cycle's feeding may add to a queue: 15,625 bytes, and without MEM the payload of the slot (R417). -/
def Part.feedCap (p : Part) (k : Nat) : Nat :=
  if p.selvState 25 = 0 then 15625 else min 15625 (slotPayload (p.txLevel k))

/-- The producers feed the slots' queues over the cycle that ends; each direction's cycles in a row that meet the
lowering test are counted: every demand below half the slot payload of the level below, every queue below a whole one
(R417, R418). -/
def Part.feedSlots (p : Part) : Part :=
  let cap := p.feedCap p.twinPort
  let m := fedOf p.mirrorQueue p.mirrorBytes cap
  let n := fedOf p.noteSlotQueue p.ringBytes cap
  let demands := [m - p.mirrorQueue, n - p.noteSlotQueue]
  let q : Part := { p with twin := { p.twin with mirrorFed := m, noteFed := n } }
  [0, 1].foldl (fun (x : Part) k =>
    let low := slotPayload (x.txLevel k - 1)
    let ok := x.linkState k == 2 && decide (0 < x.txLevel k) && demands.all (fun d => decide (2 * d < low)) &&
      [m, n].all fun d => decide (d < low)
    x.setLink k { x.link k with quiet := if ok then (x.link k).quiet + 1 else 0 }) q

/-! ### Mirror records (R424, R425, R427) -/

/-- The code of a record type (R424). -/
def MirrorKind.code : MirrorKind → Nat
  | .config => 1 | .timekeeper => 2 | .rtag => 3 | .pmSecond => 4 | .route => 5 | .checkpoint => 6
  | .resyncBegin => 7 | .resyncEnd => 8

/-- One record is made and queued. -/
def Part.mirrorOne (p : Part) (kind : MirrorKind) (last restore : Bool) (body : List Word) : Part :=
  let r : MirrorRec := { kind := kind, last := last, restore := restore, seq := p.twin.made + 1#32, body := body }
  { p.count 0xD001 0 1 with twin := { p.twin with
      made := r.seq, outst := p.twin.outst ++ [(r, p.clk)], toSend := p.twin.toSend ++ [r] } }

/-- Data is made into records of at most 2,368 bytes; the last has LAST (R425). -/
def Part.mirrorData (p : Part) (kind : MirrorKind) (restore : Bool) : Nat → List Word → Part
  | 0, _ => p
  | k + 1, ws =>
    if ws.length ≤ 592 then p.mirrorOne kind true restore ws
    else (p.mirrorOne kind false restore (ws.take 592)).mirrorData kind restore k (ws.drop 592)

/-- Data of any length. -/
def Part.mirrorPut (p : Part) (kind : MirrorKind) (restore : Bool) (ws : List Word) : Part :=
  p.mirrorData kind restore (ws.length / 592 + 1) ws

/-- The stitched set in force, as BASTE triples (R169, R424). -/
def Part.setTriples (p : Part) : List Word :=
  (p.regs.filterMap fun e =>
    let m := shMask e.1
    if m = 0#32 ∨ e.2 &&& m = regReset e.1 &&& m then none
    else some [BitVec.ofNat 32 e.1, m, e.2 &&& m]).flatten

/-- The body of a TIMEKEEPER record, 40 bytes in register order (R424). -/
def Part.tkBody (p : Part) : List Word :=
  [p.selectWord, p.reg (tkReg 0x10)] ++ timeWords p.now ++ [p.reg (tkReg 0x30), p.reg (tkReg 0x34),
    p.reg (tkReg 0x40), p.reg (tkReg 0x44), p.reg (tkReg 0x60)]

/-- The body of an RTAG record: ports whose GEN_TWIN generator advanced, or with `all` every GEN_TWIN port that has
numbered a frame (R424, R426, R427). -/
def Part.rtagBody (p : Part) (all : Bool) : List Word :=
  ((List.range 48).filterMap fun n =>
    let c := p.client n
    match c.moved || all && p.bit (macReg n 0xC0) 28, c.pairs with
    | true, e :: _ => some [BitVec.ofNat 32 (n * 2 ^ 24 + e.2.toNat), e.1]
    | _, _ => none).flatten

/-- The body of a PM_SECOND record for the last second that ended: an entry for each enabled point, zeros where it
counted nothing (R424). -/
def Part.pmBody (p : Part) : List Word :=
  match p.pm.last with
  | none => []
  | some sec =>
    BitVec.ofNat 32 sec :: p.pointsOn.flatMap fun q =>
      match (p.point q).lastSec.filter (fun r => r.sec == sec) with
      | some r => [BitVec.ofNat 32 (q * 2 ^ 16 + (r.tsf.toNat + 2 * r.bdi.toNat) * 2 ^ 8),
          BitVec.ofNat 32 r.n, BitVec.ofNat 32 r.e, BitVec.ofNat 32 r.f]
      | none => [BitVec.ofNat 32 (q * 2 ^ 16), 0#32, 0#32, 0#32]

/-- A ROUTE body: a range of next-hop words (R424). -/
def Part.routeBody (p : Part) (first n : Nat) : List Word :=
  BitVec.ofNat 32 (first * 2 ^ 16 + n) :: (List.range n).map fun i => p.route (first + i)

/-- Ranges of the routing table that hold entries, a record's body each. -/
def Part.routeRanges (p : Part) : List (Nat × Nat) := p.domain.routes.map fun e => (e.1, 1)

/-- A CHECKPOINT body: its serial and the image (R424, R462). -/
def Part.ckptBody (p : Part) : List Word := p.journal.ckptSerial :: p.journal.ckptImage

/-- Mirroring runs while PAIRED and not in RENEW (R70, R419, R424). -/
def Part.mirrors (p : Part) : Bool := p.paired && !p.coresAway

/-- Generators are told apart from the last RTAG record on. -/
def Part.clearMoved (p : Part) : Part :=
  (List.range 48).foldl (fun (x : Part) n =>
    if (x.client n).moved then x.setClient n { x.client n with moved := false } else x) p

/-- MIRROR_RECORD_SEND (R424): the data of one type, where there is something to send. -/
def mirrorRecordSend (kind : MirrorKind) (p : Part) : Part :=
  if !p.mirrors then p
  else match kind with
  | .config =>
    if p.twin.config.isEmpty then p
    else
      let q := p.mirrorPut .config false (p.reg stitchCountReg :: p.twin.config)
      { q with twin := { q.twin with config := [] } }
  | .timekeeper => p.mirrorPut .timekeeper false p.tkBody
  | .rtag =>
    if (p.rtagBody false).isEmpty then p else (p.mirrorPut .rtag false (p.rtagBody false)).clearMoved
  | .pmSecond => if p.pmBody.isEmpty then p else p.mirrorPut .pmSecond false p.pmBody
  | .route =>
    let q := p.twin.routes.foldl (fun (x : Part) e => x.mirrorPut .route false (x.routeBody e.1 e.2)) p
    { q with twin := { q.twin with routes := [] } }
  | .checkpoint =>
    if p.journal.ckptSerial = 0#32 then p else p.mirrorPut .checkpoint false p.ckptBody
  | .resyncBegin => p
  | .resyncEnd => p

/-- A full resynchronisation (R427): RESYNC_BEGIN, the current copy of every type but PM_SECOND,
RESYNC_END. Records not acknowledged before it are discarded, but what was restored goes again behind it (R428). -/
def Part.resync (p : Part) : Part :=
  let n := p.twin.outst.length
  let back := (p.twin.outst.map (·.1)).filter MirrorRec.restore
  let q : Part := { p.count 0xD001 2 n with twin := { p.twin with
    outst := [], toSend := [], due := false, deferred := false, stuck := 0, config := [], routes := [] } }
  let q := q.setBit 0xD110 30 true
  let q := q.mirrorOne .resyncBegin true false []
  let q := q.mirrorPut .config false (q.reg stitchCountReg :: q.setTriples)
  let q := q.mirrorPut .timekeeper false q.tkBody
  let q := if (q.rtagBody true).isEmpty then q else (q.mirrorPut .rtag false (q.rtagBody true)).clearMoved
  let q := q.routeRanges.foldl (fun (x : Part) e => x.mirrorPut .route false (x.routeBody e.1 e.2)) q
  let q := if q.journal.ckptSerial = 0#32 then q else q.mirrorPut .checkpoint false q.ckptBody
  let q := q.mirrorOne .resyncEnd true false []
  back.foldl (fun (x : Part) r => x.mirrorOne r.kind r.last true r.body) q

/-- A decision of function 7 closes (R427): 1 starts the resynchronisation, 0 defers it. -/
def applyResync (v : Nat) (p : Part) : Part :=
  if v = 1 then (if p.mirrors then p.resync else { p with twin := { p.twin with due := true } })
  else { p with twin := { p.twin with deferred := true } }

/-- MIRROR_RESYNC_START (R427): a full resynchronisation that is needed goes to function 7. -/
def mirrorResyncStart (p : Part) : Part :=
  if p.mirrors && p.twin.due && !p.twin.deferred && (p.openFor 7 0).isNone then p.offer 7 0 1 3#32 applyResync
  else p

/-- RESYNC_REOFFER (R427): 10 s after a deferral it is offered again. -/
def resyncReoffer (p : Part) : Part :=
  if p.mirrors && p.twin.deferred then
    { p with twin := { p.twin with deferred := false } }.offer 7 0 1 3#32 applyResync
  else p

/-- 5 s in register-clock edges (R427). -/
def edges5s : Nat := 1250000000

/-- MIRROR_RETRANSMIT (R427): MIRROR_ACK has not moved for 8 cycles. A record older than 5 s makes a full
resynchronisation due. -/
def mirrorRetransmit (p : Part) : Part :=
  if !p.mirrors || p.twin.stuck < 8 || p.twin.outst.isEmpty then p
  else if p.twin.outst.any (fun e => decide (edges5s < p.clk - e.2)) then
    { p with twin := { p.twin with due := true, stuck := 0 } }
  else { p with twin := { p.twin with toSend := p.twin.outst.map (·.1), stuck := 0 } }

/-- Records up to an acknowledged sequence leave (R427). -/
def Part.mirrorAcked (p : Part) (ack : Word) : Part :=
  if p.reg 0xD118 = ack then p
  else
    let gone : MirrorRec → Bool := fun r => !laterThan r.seq ack
    let l := p.twin.outst.filter fun e => !gone e.1
    let n := p.twin.outst.length - l.length
    let q : Part := { (p.setReg 0xD118 ack).count 0xD001 1 n with twin := { p.twin with
      outst := l, toSend := p.twin.toSend.filter fun r => !gone r, stuck := 0 } }
    if l.isEmpty then q.setBit 0xD110 30 false else q

/-! ### Records from the twin (R304, R427, R428) -/

/-- The follower aligns its generators with the leader's (R304): the twin of the lower node ID leads. -/
def Part.alignRtag (p : Part) : List Word → Part
  | w :: h :: r =>
    let n := (w.toNat / 2 ^ 24) % 64
    let s := w.setWidth 16
    let q :=
      if decide (n < 48) && p.bit (macReg n 0xC0) 28 && decide (p.field 0xD110 15 0 < p.field 0xE000 15 0) then
        match (p.client n).pairs.find? (fun e => e.1 == h) with
        | some e =>
          if e.2 = s then p
          else
            let c := p.client n
            let d := s - e.2
            ((p.addWrapField (macReg n 0xC4) 15 0 d.toNat).addWrapField (macReg n 0xC4) 31 16 1).setClient n
              { c with pairs := c.pairs.map fun (x : Word × BitVec 16) => (x.1, x.2 + d) }
        | none => p
      else p
    q.alignRtag r
  | _ => p

/-- The restored routing table is adopted only where the own one holds no valid entry (R428). -/
def Part.adoptRoutes (p : Part) (ws : List Word) : Part :=
  match ws with
  | h :: r =>
    let first := h.toNat / 2 ^ 16
    { p with domain := { p.domain with
      routes := (r.zipIdx).foldl (fun m e => SMap.set (fun _ => 0#32) m (first + e.2) e.1) p.domain.routes } }
  | [] => p

/-- Restored seconds of the current 15-minute bin are counted in it and join the points' seconds to be classified
(R428). -/
def Part.restorePoints (p : Part) (sec : Nat) : List Word → Part
  | w :: n :: e :: f :: r =>
    let q := w.toNat / 2 ^ 16
    let fl := w.toNat / 2 ^ 8
    let raw : RawSec := { sec := sec, n := n.toNat, e := e.toNat, f := f.toNat, tsf := fl % 2 == 1, bdi := fl / 2 % 2 == 1 }
    let c := p.point q
    let s := if decide (q < 2048) && p.bit (pointCfg q) 31 then (p.setPoint q { c with raws := c.raws ++ [raw] }).updBins q sec
          fun b => { b with seconds := b.seconds + 1 }
      else p
    s.restorePoints sec r
  | _ => p

/-- Triples as a set of changed registers, later ones over earlier ones (R169). -/
def triplesSet (b : SMap (Word × Word)) : List Word → SMap (Word × Word)
  | o :: m :: v :: r => triplesSet (basteOne b o.toNat m v) r
  | _ => b

/-- A CONFIG record joins the kept copy: its count, and the fields it changes over those held (R424, R428). -/
def mergeConfig (old new : List Word) : List Word :=
  new.take 1 ++ (triplesSet [] (old.drop 1 ++ new.drop 1)).flatMap fun e => [BitVec.ofNat 32 e.1, e.2.1, e.2.2]

/-- A whole datum from the twin: kept as the latest copy, and used where RESTORE asks (R428). -/
def Part.mirrorTake (p : Part) (kind : MirrorKind) (restore : Bool) (ws : List Word) : Part :=
  let key := match kind with
    | .route => 0x10000 + (ws.headD 0#32).toNat / 2 ^ 16
    | k => k.code
  let old := SMap.get (fun _ => []) p.twin.copies key
  let kept := SMap.set (fun _ => []) p.twin.copies key (if kind = .config then mergeConfig old ws else ws)
  let q : Part := if restore then p else { p with twin := { p.twin with copies := kept } }
  match kind, restore with
  | .rtag, false => q.alignRtag ws
  | .pmSecond, false =>
    let l := (p.twin.seconds ++ [ws]).drop (p.twin.seconds.length + 1 - 900)
    { p with twin := { p.twin with seconds := l } }
  | .pmSecond, true =>
    match ws with
    | s :: r => if p.binNo s.toNat = p.binNo p.nowSec then p.restorePoints s.toNat r else p
    | [] => p
  | .route, true => p.adoptRoutes ws
  | .config, true => { p with twin := { p.twin with adopt := p.twin.adopt ++ ws.drop 1 } }
  | .resyncBegin, _ => { p with twin := { p.twin with copies := [] } }
  | .resyncEnd, _ => p
  | .config, false => q
  | .timekeeper, _ => q
  | .checkpoint, _ => q
  | .rtag, true => q
  | .route, false => q

/-- Does the own table hold no valid entry as a restore begins (R428)? -/
def Part.noRoutes (p : Part) : Bool := p.domain.routes.all fun e => !e.2.getLsbD 31

/-- MIRROR_RECORD_RX (R427, R428): records are taken in order; RESYNC_BEGIN starts the order anew (log 20).
Chunks of a datum are joined until LAST. -/
def mirrorRecordRx (r : MirrorRec) (p : Part) : Part :=
  if !p.paired || !(r.seq == p.twin.inSeq + 1#32 || r.kind == .resyncBegin) then p
  else
    let part := SMap.get (fun _ => []) p.twin.copies (0x100 + r.kind.code)
    let q : Part := { p with twin := { p.twin with inSeq := r.seq } }
    if r.last then
      let q : Part := { q with twin := { q.twin with
        copies := SMap.set (fun _ => []) q.twin.copies (0x100 + r.kind.code) [] } }
      if r.kind == .route && r.restore && !(p.noRoutes || p.twin.adoptingRoutes) then q
      else
        let s := q.mirrorTake r.kind r.restore (part ++ r.body)
        { s with twin := { s.twin with adoptingRoutes := r.kind == .route && r.restore } }
    else { q with twin := { q.twin with
        copies := SMap.set (fun _ => []) q.twin.copies (0x100 + r.kind.code) (part ++ r.body) } }

/-- What the twin holds goes back after the peer has passed through DORMANT (R428). -/
def Part.restoreTwin (p : Part) : Part :=
  let copy : MirrorKind → Part → Part := fun k x =>
    let ws := SMap.get (fun _ => []) x.twin.copies k.code
    if ws.isEmpty then x else x.mirrorPut k true ws
  let q := copy .checkpoint (copy .rtag (copy .timekeeper (copy .config p)))
  let q := q.twin.copies.foldl (fun (x : Part) e => if 0x10000 ≤ e.1 then x.mirrorPut .route true e.2 else x) q
  q.twin.seconds.foldl (fun (x : Part) ws => x.mirrorPut .pmSecond true ws) q

/-! ### Pairing (R419) -/

/-- The conditions of PAIRED (R419): the other position of the pair exists; the peer's direction has reached RUN, and is
in RUN or LOWERING where it asks for no higher level than it sends at. -/
def Part.pairHolds (p : Part) : Bool :=
  let k := p.twinPort
  let tw := p.reg 0xD104
  match (p.link k).peer with
  | some f => tw.getLsbD 31 && p.linkUsed k && decide (p.ringPos ^^^ 1 < p.ringPorts) && (p.link k).peerRun && (p.linkState k == 2 || p.linkState k == 4)
      && decide (f.req ≤ f.txLevel) && f.twinEn && (tw.getLsbD 30 || f.node == tw.setWidth 16)
  | none => false

/-- Pairing follows its conditions: TWIN_H, a resynchronisation, and what was kept for a peer that lost its
state (R419, R427, R428). -/
def Part.syncPair (p : Part) : Part :=
  let b := p.pairHolds
  if b = p.paired then p
  else
    let q := (p.setBit 0xD110 31 b).cirHist 0
    if b then
      let q : Part := { q with twin := { q.twin with due := true, deferred := false } }
      if q.twin.lost then
        let r := q.restoreTwin
        { r with twin := { r.twin with lost := false } }
      else q
    else q.setBit 0xD110 29 false

/-! ### Speed states (R416 to R418) -/

/-- STATE replaced. -/
def Part.setLinkState (p : Part) (k s : Nat) : Part := p.setField (cirReg k 4) 2 0 s

/-- A level changes (R416, R439): LEVEL_CHG counts raises and lowerings. -/
def Part.setLevel (p : Part) (k l : Nat) : Part :=
  let o := p.txLevel k
  let q := p.setField (cirReg k 4) 5 4 l
  if o < l then q.addWrapField (cirReg k 0x14) 15 0 1
  else if l < o then q.addWrapField (cirReg k 0x14) 31 16 1 else q

/-- An open lowering decision ends with no choice: candidate L, empty ALT_MASK (R418). -/
def Part.voidLower (p : Part) (k : Nat) : Part :=
  if (p.openFor 6 k).isSome then p.offer 6 k (p.txLevel k) 0#32 (fun _ x => x) else p

/-- A direction goes DOWN (R416). -/
def Part.linkFall (p : Part) (k : Nat) : Part :=
  let q := ((p.voidLower k).setLinkState k 5).setField (cirReg k 4) 11 4 0
  (q.setLink k { sent := (q.link k).sent }).cirHist 1

/-- A direction enters TRAIN: all four lanes at 25.78125 Gb/s (R416). -/
def Part.linkTrain (p : Part) (k : Nat) : Part :=
  ((p.setLinkState k 1).setField (cirReg k 4) 5 4 3).setLink k { sent := (p.link k).sent }

/-- A direction's lanes go inert (R416). -/
def Part.linkOff (p : Part) (k : Nat) : Part :=
  (((p.voidLower k).setLinkState k 0).setField (cirReg k 4) 11 4 0).setLink k {}

/-- Ports follow their enables and the RING island (R416). -/
def Part.syncLinks (p : Part) : Part :=
  ([0, 1].foldl (fun (x : Part) k =>
    if x.linkUsed k then (if x.linkState k = 0 then x.linkTrain k else x)
    else if x.linkState k = 0 then x else x.linkOff k) p).syncPair

/-- The next level of a raise: 1 from 0, else 3 (R416). -/
def raiseStep (l : Nat) : Nat := if l = 0 then 1 else 3

/-- A raise starts (R416): REQ := 3, every lane woken. -/
def Part.raiseStart (p : Part) (k : Nat) : Part :=
  let q := (p.voidLower k).setLinkState k 3
  q.setLink k { q.link k with req := 3, switch := none }

/-- SWITCH_CYCLE is set once the peer's READY allows the step (R416). -/
def Part.askSwitch (p : Part) (k ready : Nat) : Part :=
  let c := p.link k
  let l := p.txLevel k
  match p.linkState k, c.switch with
  | 3, none => if raiseStep l ≤ ready then p.setLink k { c with switch := some (p.twin.cycle + 2, raiseStep l) } else p
  | 4, none => if c.req ≤ ready then p.setLink k { c with switch := some (p.twin.cycle + 2, c.req) } else p
  | _, _ => p

/-- SWITCH_CYCLE is reached (R416). -/
def Part.atSwitch (p : Part) (k : Nat) : Part :=
  let c := p.link k
  match c.switch with
  | none => p
  | some (at_, l) =>
    if 2 ^ 31 ≤ (BitVec.ofNat 32 p.twin.cycle - BitVec.ofNat 32 at_ : Word).toNat then p
    else
      let q := (p.setLevel k l).setLink k { c with switch := none }
      if p.linkState k = 4 ∨ l = 3 then q.setLinkState k 2 else q

/-- The end of a cycle for a direction that has run (R416): losses and raises. A raise condition at level 3
ends an open lowering decision (R418). -/
def Part.linkCycle (p : Part) (k : Nat) : Part :=
  let c := p.link k
  let c := if c.got then { c with got := false, missed := 0 } else { c with good := 0, missed := min (c.missed + 1) 8 }
  let q := p.setLink k c
  match q.linkState k with
  | 2 | 3 | 4 =>
    if 8 ≤ c.missed ∨ 8 ≤ c.noOk then q.linkFall k
    else
      let st := q.linkState k
      let due := q.raiseDue || q.linkFixed k
      if (st = 2 ∨ st = 4) ∧ q.txLevel k < 3 ∧ due = true then q.raiseStart k
      else if st = 4 ∧ due = true then q.raiseStart k
      else if due then q.voidLower k
      else q
  | _ => q

/-- A lowering that is decided starts (R416, R418). -/
def applyLower (k v : Nat) (p : Part) : Part :=
  let l := p.txLevel k
  if p.linkState k = 2 ∧ v + 1 = l ∧ p.linkFixed k = false then
    let q := p.setLinkState k 4
    let q := q.setLink k { q.link k with req := v, switch := none }
    match (q.link k).peer with
    | some f => q.askSwitch k f.ready
    | none => q
  else p

/-- LOWER_HOLD_EXPIRE (R418): the lowering test passed over LOWER_HOLD_S, 8,000 cycles a second. -/
def lowerHoldExpire (k : Fin 2) (p : Part) : Part :=
  let l := p.txLevel k
  if p.linkState k == 2 && decide (0 < l) && !p.linkFixed k
      && decide (8000 * p.field 0xD120 31 22 ≤ (p.link k).quiet) then
    p.offer 6 k (l - 1) (BitVec.ofNat 32 (2 ^ l + 2 ^ (l - 1))) (applyLower k)
  else p

/-- TRAIN_TIMEOUT (R416). -/
def trainTimeout (k : Fin 2) (p : Part) : Part := if p.linkState k = 1 then (p.linkFall k).syncPair else p
/-- RAISE_TIMEOUT (R416). -/
def raiseTimeout (k : Fin 2) (p : Part) : Part := if p.linkState k = 3 then (p.linkFall k).syncPair else p
/-- DOWN_RETRY (R416). -/
def downRetry (k : Fin 2) (p : Part) : Part := if p.linkState k = 5 then p.linkTrain k else p

/-! ### Slot frames sent (R410 to R415, R420, R422) -/

/-- The 16 header bytes as words: version, slot, places, class, cycle, length, CRC-32C (R412). -/
def slotHeader (s src dst : Nat) (bcast : Bool) (cls hops : Nat) (cycle : Word) (len : Nat) : List Word :=
  let h := [BitVec.ofNat 32 (2 ^ 24 + s * 2 ^ 16 + (src * 32 + dst * 4 + bcast.toNat * 2) * 2 ^ 8
      + cls * 16 + hops % 16), cycle, BitVec.ofNat 32 (len * 2 ^ 16)]
  h ++ [crc32c (netWords h)]

/-- A slot frame leaves on a port with its payload and the payload's CRC-32C (R412). -/
def Part.sendFrame (p : Part) (k s src dst : Nat) (bcast : Bool) (cls hops : Nat) (cycle : Word) (bs : List Byte) :
    Part :=
  let f := netWords (slotHeader s src dst bcast cls hops cycle bs.length) ++ bs ++ netBytes (crc32c bs)
  (p.snoop 0x27 s f).emit (.frame "SLOT" k f)

/-- One of the part's own slot frames leaves, in its cycle (R410, R412). -/
def Part.sendSlot (p : Part) (k s dst : Nat) (bcast : Bool) (cls hops : Nat) (bs : List Byte) : Part :=
  p.sendFrame k s p.ringPos dst bcast cls hops (BitVec.ofNat 32 p.twin.cycle) bs

/-- The words of the outbound twin mailboxes with their new-word bits (R413, R422). -/
def Part.twinWords (p : Part) : List Word := (List.range 4).map fun j => p.reg (mbReg (24 + 2 * j) 0)

/-- FULL of the inbound twin mailboxes (R413). -/
def Part.twinFulls (p : Part) : Nat :=
  (List.range 4).foldl (fun n j => n + (p.mbFull (25 + 2 * j)).toNat * 2 ^ j) 0

/-- The payload of slot 0 (R413). -/
def Part.slot0Words (p : Part) (k : Nat) : List Word :=
  let c := p.link k
  let sw := match c.switch with | some e => e.1 % 2 ^ 32 | none => 2 ^ 32 - 1
  let ready := c.ready
  let ack := match c.peer with | some f => f.drain | none => false
  let nt := (p.md.cur == .freeze).toNat * 128 + (p.md.cur == .drain).toNat * 64 + ack.toNat * 32
    + (p.md.cur == .prove).toNat * 16 + p.supply.loss.isSome.toNat * 8 + (decide (8 ≤ c.good)).toNat * 4
    + (p.bit 0xD104 31).toNat * 2
  let st := p.reg (tkReg 0x10)
  let tk := (st.getLsbD 5).toNat * 128 + (st.getLsbD 6).toNat * 64 + (p.tkState == 3).toNat * 32
    + (p.tkState == 1).toNat * 16 + (match p.phaseSrc with | some r => p.refType r | none => 15)
  let h := p.hopsOf
  let new_ := if k = p.twinPort ∧ p.paired = true then p.twin.mbNew.toNat else 0
  let rx := match c.peer with | some f => (f.cycle, f.arrival) | none => (0#32, 0)
  [BitVec.ofNat 32 (p.txLevel k * 2 ^ 28 + p.md.cur.code * 2 ^ 24 + c.req * 2 ^ 20 + ready * 2 ^ 16 + sw / 2 ^ 16),
    BitVec.ofNat 32 (sw % 2 ^ 16 * 2 ^ 16 + nt * 2 ^ 8 + tk),
    BitVec.ofNat 32 (p.field 0xE000 15 0 * 2 ^ 16 + h.1 * 2 ^ 8), hiWord h.2.1, loWord h.2.1] ++
  netTime p.now ++ [rx.1] ++ netTime rx.2 ++ p.twinWords ++
  [BitVec.ofNat 32 (new_ * 2 ^ 24 + (p.twinFulls + p.twin.mbColl.toNat * 16) * 2 ^ 16), p.twin.inSeq, 0#32, 0#32]

/-- Slot 0 leaves on a port; on the twin link of a PAIRED part the new mailbox words go with it (R184, R413,
R422). -/
def Part.sendSlot0 (p : Part) (k : Nat) : Part :=
  let q := p.sendSlot k 0 0 false 0 0 (netWords (p.slot0Words k))
  let c := q.link k
  let cyc : Word := BitVec.ofNat 32 q.twin.cycle
  let q := q.setLink k { c with sent := ((cyc, q.now) :: c.sent).take 8 }
  if k = p.twinPort ∧ p.paired = true then
    let at_ := (List.range 4).foldl (fun m j =>
      if p.twin.mbNew.getLsbD j then SMap.set (fun _ => none) m j (some cyc) else m) q.twin.mbSent
    { q with twin := { q.twin with mbNew := 0#4, mbColl := 0#4, mbSent := at_ } }
  else q

/-- The longest prefix whose sizes fit in a number of bytes. -/
def fitPrefix {α : Type} (size : α → Nat) : Nat → List α → List α
  | _, [] => []
  | n, x :: r => if size x ≤ n then x :: fitPrefix size (n - size x) r else []

/-- A mirror record in words (R425). -/
def MirrorRec.words (r : MirrorRec) : List Word :=
  BitVec.ofNat 32 (r.kind.code * 2 ^ 24 + (r.last.toNat + 2 * r.restore.toNat) * 2 ^ 16 + 4 * r.body.length)
    :: r.seq :: r.body

/-- The MIRROR slots of a cycle: records fill the frame of the first one, the others go empty, and all do in TRAIN (R414,
R415, R425). -/
def Part.sendMirror (p : Part) : Part :=
  let k := p.twinPort
  if !p.linkSends k then p
  else
    let dst := p.ringPos + 1 - 2 * (p.ringPos % 2)
    match p.ownSlots 1 with
    | [] => p
    | s :: rest =>
      let cap := min (slotPayload (p.txLevel k)) p.mirrorQueue
      let rs := if p.mirrors && p.linkState k != 1 then fitPrefix MirrorRec.size cap p.twin.toSend else []
      let bs := netWords (rs.map MirrorRec.words).flatten
      let q := p.sendSlot k s dst false 1 0 bs
      let q : Part := { q with twin := { q.twin with toSend := q.twin.toSend.drop rs.length,
                                                     mirrorFed := p.mirrorQueue - bs.length } }
      let q := match rs.getLast? with | some r => q.setReg 0xD114 r.seq | none => q
      let q := q.count (0xE000 + s) (if q.selvState 25 == 0 then 1 else 2) bs.length
      rest.foldl (fun (x : Part) t => x.sendSlot k t dst false 1 0 []) q

/-- The ports on which NOTE frames leave. -/
def Part.notePorts (p : Part) : List Nat := [0, 1].filter p.linkSends

/-- The NOTE slots of a cycle: whole notes of the first ring position that waits, on both ports; while a port is in TRAIN
its frames are empty, and with no port past it no note goes (R414, R415, R433). -/
def Part.sendNotes (p : Part) : Part :=
  match p.ownSlots 2, p.notePorts with
  | s :: rest, k :: ks =>
    let ports := k :: ks
    let up := ports.filter fun i => p.linkState i != 1
    let cap := if up.isEmpty then 0
      else up.foldl (fun n i => min n (slotPayload (p.txLevel i))) (min 23980 p.noteSlotQueue)
    let pos := ((List.range 8).find? fun r => !(p.noteQueue (32 + r)).isEmpty).getD 0
    let ns := fitPrefix Note.len cap (p.noteQueue (32 + pos))
    let bs := ns.flatMap Note.bytes
    let hops := p.ringPorts - 2
    let q := p.setNoteQueue (32 + pos) ((p.noteQueue (32 + pos)).drop ns.length)
    let q := ns.foldl (fun (x : Part) n => x.emit (.note (linkOf (32 + pos)) n)) q
    let q : Part := { q with twin := { q.twin with noteFed := p.noteSlotQueue - bs.length } }
    let q := q.count (0xE000 + s) (if q.selvState 25 == 0 then 1 else 2) bs.length
    ports.foldl (fun (x : Part) i =>
      rest.foldl (fun (y : Part) t => y.sendSlot i t pos false 2 hops [])
        (x.sendSlot i s pos false 2 hops (if up.contains i then bs else []))) q
  | _, _ => p

/-- NOTE frames kept from the last cycle go on, on the other port (R415). -/
def Part.sendRelay (p : Part) (k : Nat) : Part :=
  let c := p.link k
  let q := if p.linkSends k then
      c.relay.foldl (fun (x : Part) f => x.sendFrame k f.slot f.src f.dst f.bcast 2 f.hops f.cycle f.payload) p
    else p
  q.setLink k { q.link k with relay := [] }

/-- The cycle number (R410): the time scale's while the timekeeper runs, else one more. -/
def Part.nextCycle (p : Part) : Nat :=
  if p.tkState = 0 then (p.twin.cycle + 1) % 2 ^ 32 else p.now / 8192000000 % 2 ^ 32

/-- Ring positions that were silent for 8 cycles are down (R431). -/
def Part.ringSilence (p : Part) : Part :=
  (List.range 8).foldl (fun (x : Part) r =>
    let n := min (SMap.get (fun _ => 0) x.twin.silent r + 1) 8
    let upNow := if 8 ≤ n then x.domain.ringUp &&& ~~~(1#8 <<< r) else x.domain.ringUp
    let tw : TwinSt := { x.twin with silent := SMap.set (fun _ => 0) x.twin.silent r n }
    { x with twin := tw, domain := { x.domain with ringUp := upNow } }) p

/-- CIRUMLINK_CYCLE (R410): the cycle under way ends, and the next begins with its slots, at a level whose SWITCH_CYCLE
it is. Without the RING island no slot frame arrives, and ring positions go down (R431). -/
def cirumlinkCycle (p : Part) : Part :=
  if !p.ringPowered then (if p.md.cur = .dormant then p else p.ringSilence)
  else
    let q := ((p.feedSlots.linkCycle 0).linkCycle 1).ringSilence
    let n := q.nextCycle
    let held := if q.mirrors && !q.twin.outst.isEmpty then min (q.twin.stuck + 1) 8 else 0
    let q : Part := { q with twin := { q.twin with cycle := n, stuck := held } }
    let q := ((q.atSwitch 0).atSwitch 1).syncPair
    let q := [0, 1].foldl (fun (x : Part) k => if x.linkSends k then x.sendSlot0 k else x) q
    let q := ((q.sendRelay 0).sendRelay 1).sendMirror.sendNotes
    match q.supply.loss with
    | some l =>
      let n := l.notices + (q.linkSends 0).toNat + (q.linkSends 1).toNat
      { q with supply := { q.supply with loss := some { l with notices := n } } }
    | none => q

/-! ### Frames received (R412 to R415, R419 to R423) -/

/-- A slot frame of a ring position has arrived (R431). -/
def Part.heardRing (p : Part) (r : Nat) : Part :=
  { p with twin := { p.twin with silent := SMap.set (fun _ => 0) p.twin.silent r 0 },
           domain := { p.domain with ringUp := p.domain.ringUp ||| (1#8 <<< r) } }

/-- The ring position at the other end of a port: the next one on CMA, the last one on CMB (R409). -/
def Part.ringPeer (p : Part) (k : Nat) : Nat :=
  (p.ringPos + (if k = 0 then 1 else p.ringPorts - 1)) % p.ringPorts

/-- SLOT_FRAME_RX (R412, R414, R415, R433): the notes of a NOTE frame that is kept wait to be taken. -/
def slotFrameRx (k : Fin 2) (f : SlotFrame) (p : Part) : Part :=
  if !p.linkUsed k || p.linkState k == 0 then p
  else
    let h := slotHeader f.slot f.src f.dst f.bcast f.cls f.hops f.cycle f.payload.length
    let p := p.snoop 0x26 f.slot (netWords h ++ f.payload ++ netBytes (crc32c f.payload))
    let w := p.slotWord f.slot
    if !f.crcOk then p.addSat (cirReg k 0xC) 1
    else if f.slot.val = 0 then p
    else if !(w.getLsbD 31 && fieldOf w 2 0 == f.src.val) then p.addSat (cirReg k 0x10) 1
    else
      let q := p.heardRing f.src
      if f.cls.val = 2 then
        let mine := f.bcast || f.dst.val == p.ringPos
        let o := 1 - k.val
        let q := if (f.bcast || f.dst.val != p.ringPos) && decide (0 < f.hops) then
            q.setLink o { q.link o with relay := (q.link o).relay ++ [{ f with hops := f.hops - 1 }] }
          else q
        let id := (f.src.val, f.slot.val, f.cycle)
        if mine && !q.twin.kept.contains id then
          { q with twin := { q.twin with kept := (id :: q.twin.kept).take 1024 },
                   domain := { q.domain with inbox := q.domain.inbox ++
                     (notesOfBytes 749 f.payload).map fun n => (f.src.val, n) } }
        else q
      else q

/-- The modes in which the twin's timekeeper is STOPPED, by code (R49, R326). -/
def stoppedCode (m : BitVec 4) : Bool := m == 0#4 || m == 1#4 || m == 2#4 || m == 9#4 || m == 11#4

/-- One TWIN measurement (R312, R313, R423). One that is not valid is counted so by the activity monitor (R314). -/
def Part.twinMeasure (p : Part) (f : Slot0) : Part :=
  match p.refFor 6 0 with
  | none => p
  | some r =>
    if p.coresAway then p
    else match (p.link p.twinPort).sent.find? (fun e => e.1 == f.rxCycle) with
    | none => p.refInvalid r
    | some (c, t1) =>
      let d1 : Int := (f.tRx : Int) - t1
      let d2 : Int := (f.arrival : Int) - f.tTx
      let lim : Int := 655360000
      let back := (BitVec.ofNat 32 p.twin.cycle - c : Word).toNat
      if decide (4 < back) || decide (d1 < 0) || decide (lim < d1) || decide (d2 < 0) || decide (lim < d2)
          || !f.timeSet || stoppedCode f.mode || f.phaseType.val == 6 || f.phaseType.val == 15 then p.refInvalid r
      else p.refMeasured r (roundDiv (d2 - d1 - p.int64 0xD108) 2 - p.refDelay r) true

/-- Words of the peer's outbound mailboxes arrive in MB25, MB27, MB29 and MB31 (R184). -/
def Part.twinInbound (p : Part) (f : Slot0) : Part :=
  (f.words.zipIdx).foldl (fun (x : Part) e => match e.1 with
    | some w =>
      let n := 25 + 2 * e.2
      let y := x.mbPut n w
      if x.mbFull n then { y with twin := { y.twin with mbColl := y.twin.mbColl ||| (1#4 <<< e.2) } } else y
    | none => x) p

/-- Outbound FULL and COLLISION follow the peer's report, once it has seen the word (R184, R185). -/
def Part.twinReports (p : Part) (f : Slot0) : Part :=
  (List.range 4).foldl (fun (z : Part) j =>
    let x := z.mbCross (24 + 2 * j)
    let n := 24 + 2 * j
    let seen := match SMap.get (fun _ => none) x.twin.mbSent j with
      | some c => !laterThan c f.rxCycle
      | none => false
    let y := if f.colls.getLsbD j then (x.raise (mbReg n 4) 1).count (0x2000 + n) 2 1 else x
    if !seen || y.twin.mbNew.getLsbD j then y
    else if f.fulls.getLsbD j then y.mbRise n
    else if y.mbFull n then (y.setBit (mbReg n 4) 0 false).count (0x2000 + n) 1 1
    else y) { p with twin := { p.twin with mbFulls := f.fulls } }

/-- What a twin-link slot 0 brings: notices, mailboxes, acknowledgement and a measurement (R413, R420,
R423, R427). `old` is the peer's slot 0 before it. DESIGN CHOICE (log 105): an inbound word is judged against the FULL
report of the cycle before, and the new report is taken after it (R185). -/
def Part.twinSlot0 (p : Part) (old : Option Slot0) (f : Slot0) : Part :=
  let was : (Slot0 → Bool) → Bool := fun g => match old with | some o => g o | none => false
  let q := p.setField 0xD110 15 0 f.node.toNat
  let q := if (f.freeze && !was Slot0.freeze) || (f.prove && !was Slot0.prove) then
      match q.refFor 6 0 with | some r => q.refFailNow r | none => q
    else q
  let q := if f.supplyLoss && !was Slot0.supplyLoss then q.cirHist 0 else q
  let q := if f.supplyLoss || f.mode == 0#4 then { q with twin := { q.twin with lost := true } } else q
  let q := if f.drain && !was Slot0.drain then q.count 0xD001 0x40 1 else q
  let q := q.setBit 0xD110 29 f.drainAck
  let q := if f.drainAck && q.md.cur == .drain then
      { q with md := { q.md with unacked := q.md.unacked.filter fun u => u != 0xFFFF } } else q
  let q := q.syncPair
  if q.paired then (((q.twinInbound f).twinReports f).mirrorAcked f.mirrorAck).twinMeasure f else q

/-- SLOT0_RX (R206, R408, R413, R416): the frame counts where every lane of its level holds AM lock within the skew. -/
def slot0Rx (k : Fin 2) (f : Slot0) (p : Part) : Part :=
  if !p.linkUsed k || p.linkState k == 0 then p
  else
    let holds := laneHolds (p.link k).holds f.lanes
    let p := (p.setLink k { p.link k with holds := holds }).setField (cirReg k 4) 11 8 (lanesLocked holds)
    if !levelHeld holds f.txLevel then p
    else
    let p := (p.snoopOpen 0x26 0 100).heardRing (p.ringPeer k)
    let c := p.link k
    let old := c.peer
    let q := p.setLink k { c with got := true, good := if c.got then c.good else min (c.good + 1) 8,
                                  noOk := if f.rxOk then 0 else if c.got then c.noOk else min (c.noOk + 1) 8,
                                  peerRun := c.peerRun || f.rxOk && decide (8 ≤ c.good),
                                  peer := some f }
    let q := q.setField (cirReg k 4) 7 6 f.txLevel
    let q := q.askSwitch k f.ready
    let q := if q.linkState k = 1 ∧ 8 ≤ (q.link k).good ∧ f.rxOk = true then
        (q.setLinkState k 2).setLink k { q.link k with req := 3 } else q
    if k.val = p.twinPort then q.twinSlot0 old f else q

/-! ### Wakes (R421) -/

/-- A write of CTRL.WAKE (R421): one wake on the port, where RING is powered and the ring has another position (R409). -/
def wakeEffect (k : Nat) (w : Word) (p : Part) : Part :=
  if w.getLsbD 0 && p.ringPowered && decide (1 < p.ringPorts) then p.emit (.event "CIRUMLINK_WAKE" k 0#64) else p

/-- AUTO_WAKE_SEND (R421): a lost twin is woken over the twin link, once it is DOWN and until it reaches RUN. -/
def autoWakeSend (p : Part) : Part :=
  if p.bit 0xD104 29 && (p.linkState p.twinPort == 5 || p.linkState p.twinPort == 1) && p.twin.lost
      && p.ringPowered && decide (1 < p.ringPorts) then
    p.emit (.event "CIRUMLINK_WAKE" p.twinPort 0#64)
  else p

/-! ### Modes and stitches -/

/-- Cirumlink at a mode change: links, a resynchronisation after a long RENEW (R427), and a configuration to
adopt at the entry into FIT (R428). -/
def Part.ringMode (p : Part) (old : Mode) : Part :=
  let q := if old = .renew ∧ edges5s < p.clk - p.md.renewAt then { p with twin := { p.twin with due := true } } else p
  let q := if q.md.cur = .fit ∧ q.bit 0xD104 28 = true ∧ q.journal.hasSet = false ∧ q.twin.adopt ≠ [] then
      match basteTriples 0 q.stitch.basted [] q.twin.adopt with
      | .ok (b, _) => { q.setBasted b with twin := { q.twin with adopt := [] } }
      | .error _ => q
    else q
  q.syncLinks

/-- Validation of CIRUMLINK and DOMAIN (R409, R414, R417, R418, R440). -/
def validateCirumlink (q : Part) : List StitchFault :=
  let owners := (List.range 8).map fun r => ((List.range 64).filter fun s =>
    decide (0 < s) && (q.slotWord s).getLsbD 31 && fieldOf (q.slotWord s) 2 0 == r).length
  let fill := q.field 0xD120 17 0
  let hold := q.field 0xD120 31 22
  failIf (decide (q.ringPorts ≤ q.ringPos)) (paramFail 0xD100) ++
  failIf (q.bit 0xD104 31 && (q.ownSlots 1).isEmpty) (paramFail 0xD104) ++
  failIf (decide (fill < 16384) || decide (196608 < fill) || decide (hold < 1) || decide (600 < hold))
    (paramFail 0xD120) ++
  ((List.range 64).filterMap fun s =>
    let w := q.slotWord s
    if 0 < s ∧ w.getLsbD 31 = true ∧ ¬(fieldOf w 17 16 = 1 ∨ fieldOf w 17 16 = 2) then some (paramFail (0xD200 + 4 * s))
    else none) ++
  failIf (owners.any fun n => decide (32 < n)) (paramFail 0xD204) ++
  failIf (decide (252 < q.field 0xE004 23 16) || q.field 0xE004 7 0 == 0) (paramFail 0xE004)

/-- Cirumlink and the domain at a stitch boundary: ports start and stop, a node ID that changed clears the
replay state, and the changed fields are to be mirrored (R416, R424, R429). -/
def cirumlinkStitched (p : Part) (old : Nat → Word) (set : SMap (Word × Word)) : Part :=
  let q := if old 0xE000 = p.reg 0xE000 then p else { p with domain := { p.domain with replay := [] } }
  let ws := (set.map fun e => [BitVec.ofNat 32 e.1, e.2.1, e.2.2]).flatten
  { q with twin := { q.twin with config := q.twin.config ++ ws } }.syncLinks

/-! ### The commands -/

/-- CIRUMLINK_CYCLE. -/
def execCirumlinkCycle (s : State) : Result := onPart cirumlinkCycle s
/-- SLOT_FRAME_RX. -/
def execSlotFrameRx (k : Fin 2) (f : SlotFrame) (s : State) : Result := onPart (slotFrameRx k f) s
/-- SLOT0_RX. -/
def execSlot0Rx (k : Fin 2) (f : Slot0) (s : State) : Result := onPart (slot0Rx k f) s
/-- TRAIN_TIMEOUT. -/
def execTrainTimeout (k : Fin 2) (s : State) : Result := onPart (trainTimeout k) s
/-- RAISE_TIMEOUT. -/
def execRaiseTimeout (k : Fin 2) (s : State) : Result := onPart (raiseTimeout k) s
/-- DOWN_RETRY. -/
def execDownRetry (k : Fin 2) (s : State) : Result := onPart (downRetry k) s
/-- LOWER_HOLD_EXPIRE. -/
def execLowerHoldExpire (k : Fin 2) (s : State) : Result := onPart (lowerHoldExpire k) s
/-- AUTO_WAKE_SEND. -/
def execAutoWakeSend (s : State) : Result := onPart autoWakeSend s
/-- MIRROR_RECORD_SEND. -/
def execMirrorRecordSend (k : MirrorKind) (s : State) : Result := onPart (mirrorRecordSend k) s
/-- MIRROR_RECORD_RX. -/
def execMirrorRecordRx (r : MirrorRec) (s : State) : Result := onPart (mirrorRecordRx r) s
/-- MIRROR_RETRANSMIT. -/
def execMirrorRetransmit (s : State) : Result := onPart mirrorRetransmit s
/-- MIRROR_RESYNC_START. -/
def execMirrorResyncStart (s : State) : Result := onPart mirrorResyncStart s
/-- RESYNC_REOFFER. -/
def execResyncReoffer (s : State) : Result := onPart resyncReoffer s

end Sys2Proof.Machine
end

