-- ==== Sys2Proof/Machine/Domain.lean ====
section
/-! DEFINITION. Domain notes received and delivered, the host note ring, routes and remote records
(R430 to R438, R440). -/

namespace Sys2Proof.Machine

/-! ### The host note ring (R436) -/

/-- A note with its AUTH_OK and arrival link is written into the ring, or dropped where it is full. -/
def Part.noteRing (p : Part) (n : Note) (link : Nat) (authOk : Bool) : Part :=
  let size := 2 ^ p.field 0x79408 4 0
  if !p.bit 0x79408 31 || !p.host.linkUp || decide (size ≤ (p.reg 0x7940C - p.reg 0x79410).toNat) then
    (p.addSat 0x79414 1).count 0xA000 4 1
  else
    let i := (p.reg 0x7940C).toNat
    let a := (p.reg64 0x79400).toNat + 2048 * (i % size)
    let w0 := BitVec.ofNat 32 ((i / size % 2 == 0).toNat * 2 ^ 31 + authOk.toNat * 2 ^ 30 + link * 2 ^ 16
      + n.len % 2 ^ 11)
    (((p.hostWrite a (bytesOfWords (w0 :: List.replicate 7 0#32) ++ n.bytes)).addWrap 0x7940C 1).count 0xA000 2 1).message 11

/-- A write of NRX_CONS (R163, R436). -/
def nrxConsEffect (req : Req) (addr : BitVec 28) (w : Word) (p : Part) : Part :=
  if 2 ^ p.field 0x79408 4 0 < (p.reg 0x7940C - w).toNat then p.accessFault 5 req addr else p.setReg 0x79410 w

/-- A write of NRX_CFG (R178, R440). -/
def nrxCfgEffect (req : Req) (addr : BitVec 28) (w : Word) (p : Part) : Part :=
  let old := p.reg 0x79408
  let e := fieldOf w 4 0
  if e < 6 ∨ 12 < e ∨ (old.getLsbD 31 = true ∧ e ≠ fieldOf old 4 0) then p.accessFault 5 req addr
  else
    let q := p.setReg 0x79408 w
    if !old.getLsbD 31 && w.getLsbD 31 then (q.setReg 0x7940C 0#32).setReg 0x79410 0#32 else q

/-! ### Delivery (R434, R436, R437) -/

/-- The MAC holds (R434). -/
def Part.macGood (p : Part) (n : Note) : Bool :=
  n.auth && (match p.domainKey n.keyId with
    | some k => hmac128 k n.macInput == n.mac
    | none => false)

/-- The serial is later than the last one delivered from the source, or the source was silent for 60 s
(R434). -/
def Part.notReplayed (p : Part) (n : Note) : Bool :=
  match SMap.get (fun _ => none) p.domain.replay n.src.toNat with
  | some (s, at_) => laterThan n.serial s || decide (edges60s ≤ p.clk - at_)
  | none => true

/-- A FETCH_RESP meets the request it answers (R437). -/
def Part.takeFetch (p : Part) (n : Note) : Part :=
  let w := fun i => (netWordsOf n.body).getD i 0#32
  let serial := w 0
  let q := p.count 0xA000 2 1
  match q.domain.fetches.find? (fun e => e.2 == some serial) with
  | none => q
  | some e =>
    let q : Part := { q with domain := { q.domain with fetches := SMap.set (fun _ => none) q.domain.fetches e.1 none } }
    if (q.tag e.1).st = .committed ∧ q.opcode e.1 = 0x0D03 then
      let st := fieldOf (w 1) 31 24
      q.doneBulk e.1 (if st = 0 then n.body.drop 8 else []) (BitVec.ofNat 64 st) 0#32
    else q

/-- A SEAM note's body as the seam unit takes it (R297). -/
def seamNoteOf (n : Note) : Nat × SeamNote :=
  let w := fun i => (netWordsOf n.body).getD i 0#32
  let w0 := w 0
  let w1 := w 1
  (fieldOf w0 23 16,
    { version := w0.extractLsb' 24 8, srcNode := n.src, group := Fin.ofNat 512 (fieldOf w0 8 0),
      srcGroup := w1.extractLsb' 16 9, legs := w1.extractLsb' 8 3, active := w1.extractLsb' 0 3,
      serial := w 2 })

/-- A SEAM note at the seam unit (R297 to R299). -/
def Part.handSeam (p : Part) (n : Note) : Part :=
  let s := seamNoteOf n
  p.seamOp s.1 s.2

/-- A note that passed its checks goes to the unit that owns its kind (R436). The seam unit and the mappers stand
still in FREEZE, and a note for them is dropped (R72). A FETCH_REQ waits for Mbowyn's answer (R437). -/
def Part.handNote (p : Part) (n : Note) (link : Nat) (authOk : Bool) : Part :=
  match n.kind with
  | .general => p.noteRing n link authOk
  | .seam => if p.md.cur = .freeze then p.dropCause 0x44 else p.handSeam n
  | .mapCap =>
    if p.md.cur = .freeze then p.dropCause 0x44 else (p.mapCapRx link (netWordsOf n.body)).count 0xA000 2 1
  | .fetchReq => { p.count 0xA000 2 1 with domain := { p.domain with reqs := p.domain.reqs ++ [n] } }
  | .fetchResp => p.takeFetch n
  | .other => p.dropNote 7

/-- Delivery (R434, R436): the MAC, then the replay rule. -/
def Part.deliverNow (p : Part) (n : Note) (link : Nat) : Part :=
  let ok := p.macGood n
  if !ok && p.bit 0xE004 30 then p.dropNote 5
  else if !p.notReplayed n then p.dropNote 6
  else
    let m := SMap.set (fun _ => none) p.domain.replay n.src.toNat (some (n.serial, p.clk))
    let q : Part := { p with domain := { p.domain with replay := m } }
    q.handNote n link ok

/-- Delivery, which RENEW puts off for up to 256 notes (R70, R435). -/
def Part.deliver (p : Part) (n : Note) (link : Nat) : Part :=
  if p.coresAway then p.postpone (.note link n) else p.deliverNow n link

/-- handle(n, a) of R435. -/
def Part.handle (p : Part) (n : Note) (a : Nat) : Part :=
  if n.oneHop then p.deliver n a
  else if n.bcast then
    if p.seenNote n then p.dropNote 3
    else
      let q := (p.rememberNote n).deliver n a
      if 1 < n.ttl then q.flood n a else q
  else if n.dst = (p.reg 0xE000).setWidth 16 then p.deliver n a
  else (p.forward n).1

/-- A note that has come whole crosses its selvedge as a request; where that is shut the note is lost (R30, R432,
R435). -/
def Part.receiveNote (p : Part) (n : Note) (a : Nat) : Part :=
  let i := p.noteSelv a
  let q := (p.selvRequest i).count 0xA000 0 1
  if !p.selvOpen i then q.dropCause 0x45
  else if n.version ≠ 1#8 ∨ n.kind = .other then q.dropNote 7 else q.handle n a

/-- DOMAIN_NOTE_RX (R415, R433, R435): a note of this part to itself, or one of a kept NOTE frame, is taken; on a line
port the bytes between two flags are a note where they were not cut short, their CRC holds and the port is in frame. -/
def domainNoteRx (link : NoteLink) (bytes : List Byte) (cut : Bool) (p : Part) : Part :=
  if p.md.cur = .dormant then p
  else match link with
  | .loc => match p.domain.self_.find? fun n => n.bytes == bytes with
    | some n => { p with domain := { p.domain with self_ := p.domain.self_.erase n } }.deliver n 63
    | none => p
  | .ring r => match p.domain.inbox.find? fun e => e.1 == r.val && e.2.bytes == bytes with
    | some e => { p with domain := { p.domain with inbox := p.domain.inbox.erase e } }.receiveNote e.2 (32 + r.val)
    | none => p
  | .port q =>
    if p.linkDown q || p.portState q != 2 then p
    else match if cut then none else gccNote bytes with
    | none => p.addSat (0x7900C + 32 * q.val) 1
    | some n => ((p.addSat (0x79004 + 32 * q.val) 1).snoop 0x22 q n.bytes).receiveNote n q

/-! ### Remote records (R437) -/

/-- The words an object of FETCH_REQ names (R437): of a point, its last closed 15-minute record. -/
def Part.fetchObject (p : Part) (o : Nat) : Option (List Word) :=
  if o < 2048 then (p.point o).prev15.map fun e => p.binRecord o e.1 e.2
  else if 0x10000 ≤ o ∧ o < 0x10018 then
    let q := o - 0x10000
    some ([0x10, 0x18, 0x1C, 0x20, 0x24, 0x28, 0x2C].map fun r => p.reg (exReg q r))
  else none

/-- The body of the FETCH_RESP that answers a request (R437): serial, status, and the data. DESIGN CHOICE (log 99):
the data's words go in the byte order of their registers and records, least significant byte first (R7), though the
note's own fields are in network order. -/
def Part.fetchBody (p : Part) (n : Note) : List Byte :=
  let w := fun i => (netWordsOf n.body).getD i 0#32
  match p.fetchObject (w 1).toNat with
  | some ws => netWords [w 0, 0#32] ++ bytesOfWords ws
  | none => netWords [w 0, 0x01000000#32]

/-- FETCH_REQ_RX (R437): Mbowyn answers a delivered FETCH_REQ with a FETCH_RESP. -/
def fetchReqRx (n : Note) (p : Part) : Part :=
  if p.md.cur = .dormant ∨ p.coresAway = true ∨ p.domain.reqs.contains n = false then p
  else
    let q : Part := { p with domain := { p.domain with reqs := p.domain.reqs.erase n } }
    (q.originate .fetchResp false n.src (q.fetchBody n)).1

/-- DOMAIN.FETCH_PM (R437): the request goes, and commits the command where it is queued (R160); or 2 s pass without
its response. -/
def domainFetchPm (t : Fin 1024) (ph : FetchPhase) (p : Part) : Part :=
  match ph with
  | .send =>
    if !p.runs t 0x0D03 || (SMap.get (fun _ => none) p.domain.fetches t.val).isSome then p
    else
      let s := p.domain.fetchSerial
      let m := SMap.set (fun _ => none) p.domain.fetches t.val (some s)
      let q : Part := { p with domain := { p.domain with fetches := m, fetchSerial := s + 1#32 } }
      let r := q.originate .fetchReq false ((p.par t 0).setWidth 16) (netWords [s, p.par t 1])
      if r.2 then r.1.setTagState t .committed else r.1
  | .timeout =>
    match SMap.get (fun _ => none) p.domain.fetches t.val with
    | some _ =>
      let m := SMap.set (fun _ => none) p.domain.fetches t.val none
      let q : Part := { p with domain := { p.domain with fetches := m } }
      if ((q.tag t).st = .committed ∨ (q.tag t).st = .running) ∧ q.opcode t = 0x0D03 then q.reply t stTimeout 0 0#64 0#32 else q
    | none => p

/-! ### DOMAIN.SEND and DOMAIN.ROUTE (R430, R435) -/

/-- DOMAIN.SEND (R435): a GENERAL note to a node or to all. A body of more than 1,024 bytes does not pass acceptance
(R154). DESIGN CHOICE (log 99): the body holds each parameter word most significant byte first, as the note's own fields
go (R432). -/
def domainSend (t : Fin 1024) (p : Part) : Part :=
  if !p.runs t 0x0D01 then p
  else
    let body := netWords ((p.tag t).params.drop 1)
    let r := p.originate .general (bitAt (p.par t 0) 16) ((p.par t 0).setWidth 16) body
    if r.2 || decide (p.field 0xE004 7 0 ≤ 1) then (r.1.setTagState t .committed).done t 0#64 0#32
    else r.1.reject t stNoRes 0

/-- A next-hop word as it is stored: reserved bits and USING_ALT 0 (R430). -/
def routeWord (w : Word) : Word := w &&& 0xC31F031F#32

/-- A next-hop word that R430 rejects. -/
def routeBad (w : Word) : Bool := decide (1 < fieldOf w 25 24) || decide (1 < fieldOf w 9 8)

/-- Entries of the next-hop table are written, and are to be mirrored (R424, R430). -/
def Part.setRoutes (p : Part) (first : Nat) (ws : List Word) : Part :=
  let m := (ws.zipIdx).foldl (fun m e => SMap.set (fun _ => 0#32) m (first + e.2) e.1) p.domain.routes
  let l := p.twin.routes ++ [(first, ws.length)]
  { p with domain := { p.domain with routes := m }, twin := { p.twin with routes := l } }

/-- DOMAIN.ROUTE (R430). -/
def domainRoute (t : Fin 1024) (p : Part) : Part :=
  if !p.runs t 0x0D02 then p
  else
    let first := (p.par t 0).toNat
    let n := (p.par t 1).toNat
    let ws := ((p.tag t).params.drop 2).take n
    if 65536 < first + n then p.reject t stParam 0
    else match (ws.zipIdx).find? (fun e => routeBad e.1) with
      | some e => p.reject t stParam (min (2 + e.2) 0xFE)
      | none => ((p.setTagState t .committed).setRoutes first (ws.map routeWord)).done t 0#64 0#32

/-! ### Links (R431) -/

/-- INSTANCE of function 12 for a link. -/
def routeInst (c : Nat) : Nat := if c < 24 then c else 0x1000 + (c - 32)

/-- The link of an INSTANCE. -/
def routeLink (i : Nat) : Nat := if i < 0x1000 then i else 32 + i % 32

/-- A next-hop entry is in use on its primary link `c`. -/
def onPrimary (c : Nat) (w : Word) : Bool :=
  w.getLsbD 31 && fieldOf w 9 8 * 32 + fieldOf w 4 0 == c

/-- Every entry of a primary link with an alternate takes or leaves it (R431). -/
def Part.useAlt (p : Part) (c : Nat) (alt : Bool) : Part :=
  let hit : Word → Bool := fun w => onPrimary c w && w.getLsbD 30 && w.getLsbD 29 != alt
  let l := p.domain.routes.map fun e => if hit e.2 then (e.1, withBit e.2 29 alt) else e
  let changed := (p.domain.routes.filter fun e => hit e.2).map fun e => (e.1, 1)
  { p with domain := { p.domain with routes := l }, twin := { p.twin with routes := p.twin.routes ++ changed } }

/-- A decision of function 12 closes (R431): 1 moves the entries, while the link is still down. -/
def applyRoute (inst v : Nat) (p : Part) : Part :=
  if v = 1 ∧ p.linkDown (routeLink inst) = true then p.useAlt (routeLink inst) true else p

/-- ROUTE_LINK_DOWN (R431). -/
def routeLinkDown (link : NoteLink) (p : Part) : Part :=
  let c := link.code
  if c = 63 ∨ p.linkDown c = false ∨ p.domain.routes.any (fun e => onPrimary c e.2 && !e.2.getLsbD 29) = false then p
  else p.offer 12 (routeInst c) 1 3#32 (applyRoute (routeInst c))

/-- ROUTE_LINK_UP (R431): entries return to their primary link. -/
def routeLinkUp (link : NoteLink) (p : Part) : Part :=
  let c := link.code
  if c = 63 ∨ p.linkDown c = true then p else p.useAlt c false

/-- What RENEW put off is delivered (R70). -/
def Part.deliverHeld (p : Part) : HeldNote → Part
  | .note link n => p.deliverNow n link
  | .seam op n => if p.md.cur = .freeze then p.dropCause 0x44 else p.seamOp op n

/-- What waited for the end of RENEW is delivered (R70). -/
def Part.domainMode (p : Part) (old : Mode) : Part :=
  if old = .renew then
    p.domain.waiting.foldl Part.deliverHeld
      { p with domain := { p.domain with waiting := [] } }
  else p

/-! ### The commands -/

/-- DOMAIN_NOTE_RX. -/
def execDomainNoteRx (l : NoteLink) (bs : List Byte) (cut : Bool) (s : State) : Result :=
  onSignals (domainNoteRx l bs cut) s
/-- FETCH_REQ_RX. -/
def execFetchReqRx (n : Note) (s : State) : Result := onPart (fetchReqRx n) s
/-- ROUTE_LINK_DOWN. -/
def execRouteLinkDown (l : NoteLink) (s : State) : Result := onPart (routeLinkDown l) s
/-- ROUTE_LINK_UP. -/
def execRouteLinkUp (l : NoteLink) (s : State) : Result := onPart (routeLinkUp l) s
/-- DOMAIN_SEND. -/
def execDomainSend (t : Fin 1024) (s : State) : Result := onPart (domainSend t) s
/-- DOMAIN_ROUTE. -/
def execDomainRoute (t : Fin 1024) (s : State) : Result := onPart (domainRoute t) s
/-- DOMAIN_FETCH_PM. -/
def execDomainFetchPm (t : Fin 1024) (ph : FetchPhase) (s : State) : Result := onPart (domainFetchPm t ph) s

end Sys2Proof.Machine
end

