-- ==== Sys2Proof/Machine/Fabric.lean ====
section
/-! DEFINITION. Control selvedges: requests, commanded and fault fences, resumption (R442, R448 to R452,
R465). -/

namespace Sys2Proof.Machine

/-- STATE of a selvedge replaced: 0 ACTIVE, 1 FENCING, 2 FENCED, 3 RESUMING. -/
def Part.setSelv (p : Part) (i s : Nat) : Part := p.setField (selvReg i 0) 1 0 s

/-- FABRIC.HIST raises group 9: 0 FENCE_H, 1 FAULT_ABORT_H. -/
def Part.fabricHist (p : Part) (b : Nat) : Part := p.hist fabricHistReg b 9

/-- Requests that complete through a selvedge. -/
def Part.selvDone (p : Part) (i n : Nat) : Part :=
  (((p.addWrap (selvReg i 4) n).addWrap (selvReg i 8) n).count (0xB000 + i) 0 n).count (0xB000 + i) 1 n

/-- Requests answered ABORT_CLEAN (R450). -/
def Part.selvClean (p : Part) (i n : Nat) : Part :=
  (((p.addWrap (selvReg i 4) n).addWrap (selvReg i 0xC) n).count (0xB000 + i) 0 n).count (0xB000 + i) 2 n

/-- Requests answered ABORT_FAULT: a fault loss of the selvedge's ledger, cause 0x02 (R451, R460). -/
def Part.selvFault (p : Part) (i n : Nat) : Part :=
  if n = 0 then p
  else ((((p.addWrap (selvReg i 4) n).addWrap (selvReg i 0x10) n).count (0xB000 + i) 0 n).faultLoss
    (0xB000 + i) 2 n).fabricHist 1

/-- What stands behind a selvedge stops as it is fenced: receivers of a slice, Cirumlink, check units; without MEM every
delay-matched group falls back on its reference leg, which is held on die (R34, R288); the
words in its data stores are discarded, a number the spec leaves to the instant (R452, R456, log 2). -/
def Part.fenceIsland (p : Part) (i : Nat) : Part :=
  let q := (p.crcLost i).addWrap (selvReg i 0x18) (p.freshValue.toNat % 2 ^ 16)
  let q := q.useFree
  let q := if i < 24 then (q.stopReceivers [2 * i, 2 * i + 1, 48 + 2 * i, 49 + 2 * i]).syncTx else q
  let q := if i = 25 then (q.seamsOn.filter q.seamMatched).foldl Part.enterFallback q else q
  if i = 28 then q.syncLinks else q

/-- SELVEDGE_FENCE_REQUEST (R450): a reset, a power-down or an update is asked for. -/
def selvedgeFenceRequest (i : Fin 29) (p : Part) : Part :=
  if p.md.cur != .dormant && p.selvState i == 0 then
    ((p.setSelv i 1).addWrap (selvReg i 0x14) 1).fabricHist 0
  else p

/-- The requests a selvedge holds are answered (R450): those that complete, those not started ABORT_CLEAN, those
started and still open ABORT_FAULT. It holds at most 64 (R449). -/
def Part.selvDrain (p : Part) (i : Nat) (r : Held) : Part :=
  let d := min r.complete 64
  let c := min r.waiting (64 - d)
  ((p.selvDone i d).selvClean i c).selvFault i (min r.started (64 - d - c))

/-- SELVEDGE_FENCED (R450, R452): started requests complete in the drain, those not started are ABORT_CLEAN, and
those open after 2 µs ABORT_FAULT. -/
def selvedgeFenced (i : Fin 29) (r : Held) (p : Part) : Part :=
  if p.selvState i = 1 then ((p.selvDrain i r).setSelv i 2).fenceIsland i else p

/-- A fault fence (R450): completions inside the selvedge are delivered, requests not started are ABORT_CLEAN,
started ones ABORT_FAULT. -/
def Part.faultFence (p : Part) (i : Nat) (r : Held) : Part :=
  let st := p.selvState i
  if st = 2 then p
  else
    let q := p.selvDrain i r
    let q := if st = 1 then q else (q.addWrap (selvReg i 0x14) 1).fabricHist 0
    ((q.setSelv i 2).setBit (selvReg i 0) 8 true).fenceIsland i

/-- SELVEDGE_FAULT_FENCE (R450). -/
def selvedgeFaultFence (i : Fin 29) (r : Held) (p : Part) : Part :=
  if p.md.cur != .dormant && decide (p.selvState i < 2) then p.faultFence i r else p

/-- SELVEDGE_RESUME (R450, R452): the island is out of reset, powered and loaded, and is not held fenced
(R484). -/
def selvedgeResume (i : Fin 29) (p : Part) : Part :=
  if p.selvState i == 2 && !p.back.heldFenced.contains i.val then p.setSelv i 3 else p

/-- SELVEDGE_ACTIVE (R450): every credit loop of the island is full. -/
def selvedgeActive (i : Fin 29) (p : Part) : Part :=
  if p.selvState i = 3 then
    let q := (p.setSelv i 0).setBit (selvReg i 0) 8 false
    if i.val = 28 then q.syncLinks else if i.val < 24 then q.syncTx else q
  else p

/-- SELVEDGE_FENCE_REQUEST. -/
def execSelvedgeFenceRequest (i : Fin 29) (s : State) : Result := onPart (selvedgeFenceRequest i) s
/-- SELVEDGE_FENCED. -/
def execSelvedgeFenced (i : Fin 29) (r : Held) (s : State) : Result := onSignals (selvedgeFenced i r) s
/-- SELVEDGE_FAULT_FENCE. -/
def execSelvedgeFaultFence (i : Fin 29) (r : Held) (s : State) : Result := onSignals (selvedgeFaultFence i r) s
/-- SELVEDGE_RESUME. -/
def execSelvedgeResume (i : Fin 29) (s : State) : Result := onPart (selvedgeResume i) s
/-- SELVEDGE_ACTIVE. -/
def execSelvedgeActive (i : Fin 29) (s : State) : Result := onSignals (selvedgeActive i) s

end Sys2Proof.Machine
end

