-- ==== Sys2Proof/Machine/Ledgers.lean ====
section
/-! DEFINITION. The ledgers: terms, audits, images, checkpoints and the SEL window (R457 to R464, R467). -/

namespace Sys2Proof.Machine

/-! ### Ledgers and their terms (R457) -/

/-- Every ledger ID, ascending. -/
def allLedgers : List Nat :=
  let many : Nat → Nat → List Nat := fun base n => (List.range n).map (base + ·)
  [0, 0x1000] ++ many 0x2000 32 ++ [0x3000, 0x4000] ++ many 0x5000 512 ++ many 0x6000 48 ++ many 0x7000 48
    ++ many 0x8000 16 ++ many 0x9000 48 ++ [0xA000] ++ many 0xB000 29 ++ many 0xC000 29
    ++ many 0xD000 3 ++ many 0xE001 63

/-- A held quantity as a term value. -/
def held (n : Nat) : Dword := BitVec.ofNat 64 n

/-- Tags in flight (R149, R161). -/
def Part.tagsInFlight (p : Part) : Nat := (p.cmd.tags.filter fun e => e.2.st != .free).length

/-- The balance terms of a ledger: side (true is output) and value, in the order of its rule. -/
def Part.balance (p : Part) (id : Nat) : List (Bool × Dword) :=
  let t := fun k => p.term id k
  let n := id % 0x1000
  match id / 0x1000 with
  | 0 => [(false, t 0), (true, t 1), (true, held p.tagsInFlight), (true, t 3)]
  | 1 => [(false, t 0), (true, t 1), (true, t 2), (true, t 3), (true, t 4), (true, held p.steer.openDecs.length)]
  | 2 => [(false, t 0), (true, t 1), (true, t 2), (true, held (p.mbFull n).toNat), (true, 0#64)]
  | 3 => [(false, (p.reg 0x2210).setWidth 64), (true, (p.reg 0x2214).setWidth 64),
      (true, (p.reg 0x2218).setWidth 64), (true, (p.reg 0x221C).setWidth 64), (true, held p.access.owners.length)]
  | 4 => [(false, t 0), (true, BitVec.ofInt 64 p.pleatSum), (true, t 2), (true, t 3)]
  | 5 =>
    let s := p.seam n
    [(false, t 0), (true, t 1), (true, t 2), (true, t 3), (false, t 4), (true, t 5), (true, t 6), (true, t 7),
      (true, t 8), (true, t 9), (true, held (s.leg0.buf.length + s.leg1.buf.length + s.leg2.buf.length)),
      (false, t 11), (true, t 12), (true, t 13), (true, t 14)]
  | 6 => [(false, t 0), (true, t 1), (true, t 2), (true, held (p.stampSt n).fifo.length), (true, t 4)]
  | 7 => [(false, t 0), (true, t 1), (true, t 2), (true, t 3), (true, t 4), (true, t 5), (true, t 6),
      (true, held ((p.client n).frames.filter fun f => !f.dead).length)]
  | 8 =>
    let claims := (List.range 48).foldl (fun k c => (p.client c).frames.foldl (fun j f =>
      j + (f.claims.filter fun x => x.pool == n).length) k) 0
    [(false, t 0), (true, (p.reg (poolReg n 0xC) - p.reg (poolReg n 0x10)).setWidth 64), (true, t 2),
      (true, held (p.onDie n).length), (true, t 4), (true, t 5), (true, held claims), (true, t 7)]
  | 9 => [(false, t 0), (true, t 1), (true, t 2), (true, t 3),
      (true, held ((p.client n).tx.filter TxFrame.waits).length)]
  | 0xA => [(false, t 0), (false, t 1), (true, t 2), (true, t 3), (true, t 4),
      (true, held (p.domain.waiting.length + p.domain.self_.length))]
  | 0xB => [(false, t 0), (true, t 1), (true, t 2), (true, t 3), (true, held (p.field (selvReg n 0) 22 16))]
  | 0xC => [(false, held (Config.creditTotal n)), (true, held (Config.creditTotal n)), (true, 0#64), (true, 0#64)]
  | 0xD =>
    if n = 0 then [(false, t 0), (true, t 1), (true, t 2), (true, held p.steer.queue.length)]
    else if n = 1 then [(false, t 0), (true, t 1), (true, t 2), (true, held p.twin.outst.length)]
    else
      let a := (p.seamsOn.map p.seamUnits).sum
      [(false, held 16384), (true, held a), (true, held (16384 - a))]
  | 0xE => [(false, t 1 + t 2 + held (p.slotQueue n)), (true, t 1), (true, t 2), (true, held (p.slotQueue n))]
  | _ => []

/-- The terms of a ledger's own balance. -/
def Part.ownTerms (p : Part) (id : Nat) : List Term :=
  (p.balance id).zipIdx.map fun e => { out := e.1.1, cause := 0, code := e.2, value := e.1.2 }

/-- All terms of a ledger: its balance, and the fault losses and discards it has (R457, R460, R461, R463). -/
def Part.ledgerTerms (p : Part) (id : Nat) : List Term :=
  let side : List Nat → Nat → List Term := fun causes base =>
    (causes.zipIdx.map fun (e : Nat × Nat) =>
      { out := true, cause := e.1, code := base + e.2, value := p.term id (base + e.2) : Term }).filter
        fun t => t.value != 0#64
  p.ownTerms id ++ side [1, 2, 3, 4, 0xFF] 0x100 ++ side [0x20, 0x21, 0x22] 0x200

/-- The sum of one side, modulo 2^64. -/
def sideSum (out : Bool) (ts : List Term) : Dword :=
  ts.foldl (fun a t => if t.out == out then a + t.value else a) 0#64

/-- A fault-loss term is nonzero (R463). -/
def anyFault (ts : List Term) : Bool := ts.any fun t => t.code / 0x100 == 1 && t.value != 0#64

/-- LEDGER.HIST raises group 9: 0 IMBAL_H, 1 FAULT_H, 2 CKPT_H. -/
def Part.ledgerHist (p : Part) (b : Nat) : Part := p.hist ledgerHistReg b 9

/-- One ledger is audited (R458, R459): an imbalance joins its fault losses with cause 0xFF. The Bool says
that it balanced. -/
def Part.auditOne (p : Part) (id : Nat) : Part × Bool :=
  let ts := p.ledgerTerms id
  let d := sideSum false ts - sideSum true ts
  let ok := d == 0#64
  let img : AuditImg := { balanced := ok, faulted := anyFault ts || !ok, terms := ts }
  let q : Part := { p with ledger := { p.ledger with audits := SMap.set (fun _ => {}) p.ledger.audits id img } }
  if ok then (q, true)
  else
    ((((q.count id 0x104 d.toNat).addSat 0x9014 1).setReg 0x9018 (BitVec.ofNat 32 (2 ^ 31 + id))).ledgerHist 0,
      false)

/-- Ledgers are audited at one instant, under the next audit serial (R458, R462). -/
def Part.audit (p : Part) (ids : List Nat) : Part × Nat :=
  let r := ids.foldl (fun (a : Part × Nat) id =>
    let x := a.1.auditOne id
    (x.1, if x.2 then a.2 else a.2 + 1)) (p.addWrap 0x900C 1, 0)
  (r.1.setField 0x9008 15 0 r.2, r.2)

/-- Every ledger is audited (R458). -/
def Part.auditAll (p : Part) : Part := (p.audit allLedgers).1

/-! ### Images (R463) -/

/-- The word 0 of a term (R463). -/
def Term.tag (t : Term) : Word := BitVec.ofNat 32 (t.out.toNat * 2 ^ 31 + t.cause * 2 ^ 16 + t.code)

/-- The image of a ledger's last audit (R463). -/
def Part.image (p : Part) (ckpt : Word) (id : Nat) : List Word :=
  let g := SMap.get (fun _ => {}) p.ledger.audits id
  let time := if p.tkState = 0 then [0#32, 0#32, 0#32] else timeWords p.now
  let head := [BitVec.ofNat 32 (g.balanced.toNat * 2 ^ 31 + g.faulted.toNat * 2 ^ 30 + g.terms.length * 2 ^ 16 + id),
    ckpt] ++ time ++ [p.reg 0x900C, 0#32]
  let body := (g.terms.map fun t => [t.tag, 0#32, loWord t.value, hiWord t.value]).flatten
  head ++ [crc32c (bytesOfWords (head ++ body))] ++ body

/-- The ledgers P0 [15:0] names: one, or all with 0xFFFF; `none` outside R457 (R458). -/
def namedLedgers (n : Nat) : Option (List Nat) :=
  if n = 0xFFFF then some allLedgers else if ledgerIs n then some [n] else none

/-- LEDGER.AUDIT (R458). -/
def ledgerAudit (t : Fin 1024) (p : Part) : Part :=
  if !p.runs t 0x0E01 then p
  else match namedLedgers (fieldOf (p.par t 0) 15 0) with
    | none => p.reject t stParam 0
    | some ids =>
      let r := (p.setTagState t .committed).audit ids
      r.1.done t (BitVec.ofNat 64 r.2) 0#32

/-- LEDGER.READ (R463): the ledgers are audited and their images written. -/
def ledgerRead (t : Fin 1024) (p : Part) : Part :=
  if !p.runs t 0x0E02 then p
  else match namedLedgers (fieldOf (p.par t 0) 15 0) with
    | none => p.reject t stParam 0
    | some ids =>
      let r := (p.setTagState t .committed).audit ids
      r.1.doneBulk t (bytesOfWords (ids.map (r.1.image 0#32)).flatten) (BitVec.ofNat 64 ids.length) 0#32

/-- A checkpoint (R462): every ledger is audited, and the images go to the journal under the next serial. How long
their write takes is open (a free value, log 2). -/
def Part.checkpoint (p : Part) : Part :=
  let q := p.auditAll
  let s := q.journal.ckptSerial + 1#32
  let ws := (allLedgers.map (q.image s)).flatten
  let q : Part := { q.useFree with journal := { q.journal with ckptSerial := s, ckptImage := ws },
                                   ledger := { q.ledger with ckptEnd := q.clk + q.freshValue.toNat } }
  (q.journalWrites ((4 * ws.length + 4095) / 4096)).ledgerHist 2

/-- LEDGER.CHECKPOINT (R462): BUSY while one is being written. -/
def ledgerCheckpoint (t : Fin 1024) (p : Part) : Part :=
  if !p.runs t 0x0E03 then p
  else if p.clk < p.ledger.ckptEnd then p.reject t stBusy 0
  else
    let q := (p.setTagState t .committed).checkpoint
    q.done t (q.journal.ckptSerial.setWidth 64) 0#32

/-- LEDGER_AUDIT_PERIODIC (R458, R462): in every mode from INERT on. -/
def ledgerAuditPeriodic (p : Part) : Part := if p.md.cur = .dormant then p else p.auditAll

/-- LEDGER_CHECKPOINT_PERIODIC (R462). -/
def ledgerCheckpointPeriodic (p : Part) : Part := if p.md.cur = .dormant then p else p.checkpoint

/-! ### The SEL window (R467) -/

/-- A write of SEL captures the ledger's last audit (R467). -/
def ledgerSelEffect (w : Word) (p : Part) : Part :=
  let g := SMap.get (fun _ => {}) p.ledger.audits (fieldOf w 15 0)
  { p.setReg 0x9040 (w &&& 0xFFFF#32) with ledger := { p.ledger with shown := g } }

/-- The audit image that SEL shows: before the first audit every term is 0. -/
def Part.shownAudit (p : Part) : Option AuditImg :=
  let id := p.field 0x9040 15 0
  if !ledgerIs id then none
  else if p.ledger.shown.terms.isEmpty then
    some { balanced := true, faulted := false,
           terms := (p.ownTerms id).map fun (t : Term) => { t with value := 0#64 } }
  else some p.ledger.shown

/-- The SEL window's registers (R467): SEL_INFO, TERM and TERM_TAG at a byte offset of the block. -/
def Part.ledgerWindow (p : Part) (o : Nat) : Word :=
  match p.shownAudit with
  | none => 0#32
  | some g =>
    if o = 0x44 then
      BitVec.ofNat 32 (g.balanced.toNat * 2 ^ 31 + g.faulted.toNat * 2 ^ 30 + g.terms.length * 2 ^ 16)
    else if 0x80 ≤ o ∧ o < 0x180 then
      match g.terms[(o - 0x80) / 8]? with
      | some t => if o % 8 = 0 then loWord t.value else hiWord t.value
      | none => 0#32
    else if 0x200 ≤ o ∧ o < 0x280 then
      match g.terms[(o - 0x200) / 4]? with
      | some t => t.tag
      | none => 0#32
    else 0#32

/-- Validation of the LEDGER block (R467). -/
def validateLedger (q : Part) : List StitchFault :=
  let a := q.field 0x9000 11 0
  let c := q.field 0x9004 16 0
  failIf (decide (a < 1) || decide (3600 < a)) (paramFail 0x9000) ++
  failIf (decide (c < 60) || decide (86400 < c)) (paramFail 0x9004)

/-- LEDGER_AUDIT. -/
def execLedgerAudit (t : Fin 1024) (s : State) : Result := onPart (ledgerAudit t) s
/-- LEDGER_READ. -/
def execLedgerRead (t : Fin 1024) (s : State) : Result := onPart (ledgerRead t) s
/-- LEDGER_CHECKPOINT. -/
def execLedgerCheckpoint (t : Fin 1024) (s : State) : Result := onPart (ledgerCheckpoint t) s
/-- LEDGER_AUDIT_PERIODIC. -/
def execLedgerAuditPeriodic (s : State) : Result := onPart ledgerAuditPeriodic s
/-- LEDGER_CHECKPOINT_PERIODIC. -/
def execLedgerCheckpointPeriodic (s : State) : Result := onPart ledgerCheckpointPeriodic s

end Sys2Proof.Machine
end

