-- ==== Sys2Proof/Machine/Power.lean ====
section
/-! DEFINITION. Power domains: use, allocation and depths (R62 to R65, R522 to R526), per-domain reset (R527,
R528), and the loss of an island's state (R50, R74, R461). -/

namespace Sys2Proof.Machine

/-! ### Domains (R522) -/

/-- CLASS of a domain: 0 logic, 1 SerDes, 2 DRAM. -/
def pdClass (n : Nat) : Nat := fieldOf (pdReset n) 29 28
/-- Function group of a domain. -/
def pdGroup (n : Nat) : Nat := fieldOf (pdReset n) 26 24
/-- POWER.PD[n] (R529). -/
def pdReg (n : Nat) : Nat := 0x6100 + 4 * n

/-- The islands a domain lies in, by code (R449, R522). -/
def pdIslands (n : Nat) : List Nat :=
  let four : Nat → List Nat := fun g => (List.range 4).map (4 * g + ·)
  if n < 48 then [n / 2]
  else if n < 54 then four (n - 48)
  else if n < 102 then [(n - 54) / 2]
  else if n < 108 then four (n - 102)
  else if n < 114 then four (n - 108)
  else if n = 114 then [24]
  else if n < 121 then four (n - 115)
  else if n < 137 then [25]
  else if n < 145 then [28]
  else [26]

/-- The domains of an island. -/
def islandDomains (i : Nat) : List Nat := (List.range 148).filter fun n => (pdIslands n).contains i

/-- The line port that a PM point watches (R221). -/
def Part.pointPort (p : Part) (q : Nat) : Nat :=
  match pointKind q with
  | .sm => q
  | .odu => q - 24
  | _ => p.tribPort (p.pointTrib q)

/-- Any of the line lanes, client lanes, ports, tributaries and PM points of a slice is enabled (R523). -/
def Part.sliceUsed (p : Part) (k : Nat) : Bool :=
  [2 * k, 2 * k + 1, 48 + 2 * k, 49 + 2 * k].any (fun l => p.bit (laneReg l 0) 31) ||
    (List.range 24).any (fun q => p.portOn q && (p.portSlices q).contains k) ||
    p.tribsOn.any (fun t => (p.portSlices (p.tribPort t)).contains k) ||
    p.pointsOn.any fun q => (p.portSlices (p.pointPort q)).contains k

/-! ### Memory placed in the DRAM domains (R27, R524) -/

/-- GiB-sized regions the part uses itself, in bytes: seam, spill, PM history, firmware and state, reserve. -/
def Part.ownBytes (p : Part) : Nat := (p.seamsOn.map p.seamUnits).sum * 2 ^ 21 + 104 * 2 ^ 30

/-- Host scratch counts up to the size the HDM decoder has committed (R524). -/
def Part.scratchBytes (p : Part) : Nat :=
  if p.host.hdm.committed then
    min (p.host.hdm.size - (24 + p.traceGib) * 2 ^ 30) ((104 - p.traceGib) * 2 ^ 30)
  else 0

/-- All bytes placed. -/
def Part.placedBytes (p : Part) : Nat := p.ownBytes + p.traceGib * 2 ^ 30 + p.scratchBytes

/-- Bytes of a DRAM domain: eight channels of 3.75 GiB (R468). -/
def dramBytes : Nat := 30 * 2 ^ 30

/-- The DRAM domain, 0 to 7, a DRAM or controller domain belongs to. -/
def dramIndex (n : Nat) : Nat := (n - 121) % 8

/-- Is it a DRAM domain or a controller logic domain? -/
def isDram (n : Nat) : Bool := decide (121 ≤ n) && decide (n < 137)

/-- ALLOC of a domain (R524). -/
def Part.pdAlloc (p : Part) (n : Nat) : Bool := isDram n && decide (dramIndex n * dramBytes < p.placedBytes)

/-- USED of a domain (R523). -/
def Part.pdUsed (p : Part) (n : Nat) : Bool :=
  let lanes : Nat → Bool := fun b => (List.range 8).any fun j => p.bit (laneReg (b + j) 0) 31
  if n < 48 then p.bit (laneReg n 0) 31
  else if n < 54 then
    lanes (8 * (n - 48)) ||
      (List.range 24).any fun q => p.portOn q && (p.portLanes q).any fun l => l / 8 == n - 48
  else if n < 102 then p.bit (laneReg (n - 6) 0) 31
  else if n < 108 then lanes (48 + 8 * (n - 102))
  else if n < 114 then (List.range 4).any fun j => p.sliceUsed (4 * (n - 108) + j)
  else if n = 114 then p.tribsOn.any (fun t => p.destKind t != 0) || !p.seamsOn.isEmpty
  else if n < 121 then (List.range 8).any fun j => p.clientOn (8 * (n - 115) + j)
  else if n < 137 then decide (dramIndex n * dramBytes < p.ownBytes)
  else if n < 145 then p.linkUsed ((n - 137) / 4)
  else if n < 147 then p.bit (outReg (2 * (n - 145)) 0) 31 || p.bit (outReg (2 * (n - 145) + 1) 0) 31
  else p.bit (outReg 4 0) 31 || p.bit (outReg 5 0) 31

/-! ### Depths (R62 to R65) -/

/-- The wake latency of a depth for a class, in µs (R62). -/
def wakeLatency (cls d : Nat) : Nat :=
  if d = 0 then 0
  else if cls = 0 then (if d = 1 then 2 else if d = 2 then 150 else 5000)
  else if cls = 1 then (if d = 1 then 20 else if d = 2 then 2000 else 120000)
  else (if d = 1 then 4 else if d = 2 then 300 else 40000)

/-- The deepest depth within a tolerance (R64). -/
def deepest (cls tol : Nat) : Nat :=
  if wakeLatency cls 3 ≤ tol then 3
  else if wakeLatency cls 2 ≤ tol then 2
  else if wakeLatency cls 1 ≤ tol then 1
  else 0

/-- POWER.WAKE_TOL (R63). -/
def Part.wakeTol (p : Part) (g : Nat) : Nat := p.field (0x6010 + 4 * g) 17 0

/-- The Cirumlink lane domains sleep at D2 where the speed level in force does not use them (R416, R523). -/
def Part.linkDepth (p : Part) (n : Nat) : Nat :=
  let k := (n - 137) / 4
  if (p.linkState k = 2 ∨ p.linkState k = 4) ∧ (levelLanes (p.txLevel k)).testBit ((n - 137) % 4) = false then 2
  else 0

/-- The depth chosen for a domain (R64, R65, R523). -/
def Part.chosenDepth (p : Part) (n : Nat) : Nat :=
  let m := p.runMode
  let g := pdGroup n
  if g = 6 then p.linkDepth n
  else if m ≠ .trim ∧ m ≠ .doze then 0
  else if p.pdUsed n && !(decide (m = .doze) && (g == 1 || g == 4)) then 0
  else
    let d := deepest (pdClass n) (p.wakeTol g)
    if pdClass n = 2 ∧ p.pdAlloc n = true then min d 2 else d

/-- What the LPDDR5X holds in DRAM domain `n` is lost (R62, R528). -/
def Part.dramLost (p : Part) (n : Nat) : Part :=
  let seam := (p.seamsOn.map p.seamUnits).sum * 2 ^ 21
  let lo := dramIndex n * dramBytes
  let hi := lo + dramBytes
  let logs := p.dram.clearFrom (lo - seam) (min (hi - seam) 0x600000000 - (lo - seam))
  { p with dram := logs.clearFrom (0x600000000 + (lo - p.ownBytes)) ((hi - p.ownBytes) - (lo - p.ownBytes)) }

/-- A domain takes depth `d`; a DRAM channel loses its contents at D3 (R62). -/
def Part.setDepth (p : Part) (n d : Nat) : Part :=
  let q := p.setField (pdReg n) 1 0 d
  if pdClass n = 2 ∧ d = 3 then q.dramLost n else q

/-- DEPTH now in force. -/
def Part.pdDepth (p : Part) (n : Nat) : Nat := if pdGroup n = 6 then p.linkDepth n else p.field (pdReg n) 1 0

/-- Every domain takes its chosen depth. -/
def Part.syncDepths (p : Part) : Part :=
  (List.range 148).foldl (fun (x : Part) n =>
    if pdGroup n = 6 then x
    else
      let d := x.chosenDepth n
      (x.setField (pdReg n) 5 4 d).setDepth n d) p

/-- DRAM channels that have come to hold an allocation are not below D2 (R64). -/
def Part.limitDram (p : Part) : Part :=
  (List.range 8).foldl (fun (x : Part) i =>
    let n := 121 + i
    if x.pdAlloc n then
      (x.setField (pdReg n) 5 4 (min (x.field (pdReg n) 5 4) 2)).setField (pdReg n) 1 0 (min (x.field (pdReg n) 1 0) 2)
    else x) p

/-- The word of PD[n] (R529). -/
def Part.pdWord (p : Part) (n : Nat) : Word :=
  let w := withBit (withBit (p.reg (pdReg n)) 31 (p.pdUsed n)) 30 (p.pdAlloc n)
  if pdGroup n = 6 then withField (withField w 5 4 (p.linkDepth n)) 1 0 (p.linkDepth n) else w

/-- POWER.STATUS (R529). -/
def Part.powerStatus (p : Part) : Word :=
  let n := ((List.range 148).filter fun n => p.pdDepth n != 0).length
  BitVec.ofNat 32 (p.supply.pwrgood.toNat * 2 ^ 31 + p.supply.holdup.toNat * 2 ^ 30
    + p.supply.limiter.toNat * 2 ^ 29 + n)

/-- Demand wakes a domain (R525). A domain at D3 answers a register access as FENCED instead (R526). -/
def Part.wakeDomain (p : Part) (n : Nat) : Part := if p.pdDepth n = 0 then p else p.setField (pdReg n) 1 0 0

/-- A DRAM domain of a CXL.mem access to a DPA: where its region was placed (R524). -/
def Part.dramDomainOf (p : Part) (dpa : Nat) : Nat :=
  let seam := (p.seamsOn.map p.seamUnits).sum * 2 ^ 21
  let at_ := if dpa < 0x600000000 then seam + dpa else p.ownBytes + (dpa - 0x600000000)
  min (at_ / dramBytes) 7

/-- The channel of a DPA's line: within its domain, how lines lie in the eight channels is the part's own (R468, R524). -/
def Part.lineChannel (p : Part) (dpa : Nat) : Nat := 8 * p.dramDomainOf dpa + Config.lineChannel (dpa / 64)

/-- A CXL.mem access wakes its channel and the channel's controller (R525). -/
def Part.wakeDram (p : Part) (dpa : Nat) : Part :=
  let h := p.dramDomainOf dpa
  (p.wakeDomain (121 + h)).wakeDomain (129 + h)

/-- DOMAIN_IDLE_RETURN (R525): a domain woken on demand returns to its depth. In FREEZE nothing changes (R72). -/
def domainIdleReturn (d : Fin 148) (p : Part) : Part :=
  if pdGroup d = 6 ∨ p.md.cur = .freeze then p else p.setDepth d (p.field (pdReg d) 5 4)

/-! ### State that goes with an island (R50, R74, R461) -/

/-- A register back at reset, but for its SH fields, whose values the HUB island holds (R475). -/
def Part.resetWord (p : Part) (o : Nat) : Part :=
  match regInfo o with
  | some i => p.setReg o (mergeMask i.reset (p.reg o) i.sh)
  | none => p

/-- The listed registers of a set of offsets back at reset, but for SH fields. -/
def Part.resetWords (p : Part) (test : Nat → Bool) : Part :=
  (p.regs.filter fun e => test e.1).foldl (fun (x : Part) e => x.resetWord e.1) p

/-- An open decision whose instance is gone: superseded with an empty ALT_MASK; under a condition of R43 it closes as
missed, with nothing to apply to (R554). -/
def Part.voidDecision (p : Part) (serial : Word) : Part :=
  match p.steer.openDecs.find? (fun d => d.serial == serial) with
  | some d =>
    if p.steerForced then (p.dropDecision serial).countMissed d.func else p.supersede { d with alts := 0#32 }
  | none => p

/-- A held quantity is lost: a fault loss for causes below 0x20, else a discard (R460, R461). -/
def Part.loseTerm (p : Part) (led cause n : Nat) : Part :=
  if cause < 0x20 then p.faultLoss led cause n else p.discardTerm led cause n

/-- Held copies of a seam group are discarded, and its legs are DOWN (R276, R461). -/
def Part.dropSeam (p : Part) (cause g : Nat) : Part :=
  let s := p.seam g
  let n := s.leg0.buf.length + s.leg1.buf.length + s.leg2.buf.length
  let q := p.loseTerm (0x5000 + g) cause n
  let q := q.setSeam g { s with leg0 := { s.leg0 with buf := [] }, leg1 := { s.leg1 with buf := [] },
                                leg2 := { s.leg2 with buf := [] } }
  q.rebuildSeam g

/-- Frames and stamps a client port holds are discarded (R461). -/
def Part.dropClient (p : Part) (cause n : Nat) : Part :=
  let c := p.client n
  let q := p.loseTerm (0x7000 + n) cause (c.frames.filter fun f => !f.dead).length
  let q := q.loseTerm (0x9000 + n) cause (c.tx.filter TxFrame.waits).length
  let q := c.frames.foldl (fun (x : Part) f =>
    f.claims.foldl (fun (y : Part) cl => y.loseTerm (0x8000 + cl.pool) cause 1) x) q
  let q := c.frames.foldl (fun (x : Part) f => match f.dec with
    | some s => x.voidDecision s
    | none => x) q
  q.setClient n {}

/-- The stamp records a client port holds are discarded (R461). -/
def Part.dropStamps (p : Part) (cause n : Nat) : Part :=
  (p.loseTerm (0x6000 + n) cause (p.stampSt n).fifo.length).setStampSt n {}

/-- A register of the slice, WEFT or TIME islands, by offset (R28, R140). -/
def inDatapath (o : Nat) : Bool :=
  let b := o / 0x1000
  let low : Bool := decide (o % 0x1000 < 0xC00)
  [0x0F, 0x10, 0x12].contains b || (decide (0x20 ≤ b) && decide (b ≤ 0x6A)) ||
    (decide (0x6C ≤ b) && decide (b ≤ 0x6F) && low) || (decide (0x71 ≤ b) && decide (b ≤ 0x78)) ||
    (b == 0x11 && low) || (b == 0x79 && decide (o % 0x1000 < 0x300))

/-- The slices, WEFT and TIME lose their state (R50, R74): held quantities are discarded with a cause, and
every register but the set in force is at reset. -/
def Part.loseDatapath (p : Part) (cause : Nat) : Part :=
  let q := p.seams.foldl (fun (x : Part) e => x.dropSeam cause e.1) p
  let q := (List.range 48).foldl (fun (x : Part) n => (x.dropClient cause n).dropStamps cause n) q
  let q := (q.countPleat 3 q.pleatSum).resetWords inDatapath
  let q := if q.supply.warm then q.setBit (tkReg 0x10) 4 false else q
  let q : Part := { q with lanes := [], ports := [], tribs := [], points := [], seams := [], recov := [],
                           ptp := [], exch := [], stamps := [], clients := [] }
  { q with pm := { q.pm with cond := [], conseq := [] } }

/-! ### Per-domain reset (R527, R528) -/

/-- The domains a PD_RESET names; `none` where the target is refused (R527). -/
def Part.resetTargets (p : Part) (island domain : Nat) : Option (List Nat) :=
  let l := if domain = 0xFF then islandDomains island
    else if island = 0xFF ∨ (pdIslands domain).contains island = true then [domain]
    else []
  let modeOk := match p.md.cur with
    | .fit | .listen | .carry | .trim | .doze | .prove => true
    | _ => false
  if !modeOk || l.isEmpty || (decide (147 < domain) && domain != 0xFF) then none
  else if p.md.cur ≠ .prove ∧ (l.any fun n => pdClass n == 2 && p.pdAlloc n) = true then none
  else some l

/-- The lanes of a domain within the slices named. -/
def pdLanes (n : Nat) (sl : Nat → Bool) : List Nat :=
  let eight : Nat → List Nat := fun b => (List.range 8).map (b + ·)
  let l := if n < 48 then [n] else if n < 54 then eight (8 * (n - 48)) else if n < 102 then [n - 6]
    else if n < 108 then eight (48 + 8 * (n - 102)) else []
  l.filter fun l => sl (l % 48 / 2)

/-- The overhead and PM logic of slices is reset: the points of the ports there start anew (R522, R528). -/
def Part.resetPoints (p : Part) (sl : Nat → Bool) : Part :=
  let mine := p.pointsListed.filter fun q => (p.portSlices (p.pointPort q)).any sl
  mine.foldl (fun (x : Part) q =>
    (((x.pointOff q).setPoint q {}).resetWord (pointDef q)).resetWord (pointCfg q)) p

/-- What a reset does to one domain, within the slices named (R528): SerDes lanes restart from signal detect,
framing and PCS logic from marker lock, and the held quantities of the logic are discarded. -/
def Part.resetDomain (p : Part) (sl : Nat → Bool) (n : Nat) : Part :=
  let q := p.addWrapField (pdReg n) 15 8 1
  let lanes := pdLanes n sl
  if n < 108 then
    let step := if pdClass n = 1 then 0 else 3
    lanes.foldl (fun (x : Part) l => (x.fallLane l step).evalLane l) q
  else if n < 114 then
    let mine := q.tribsOn.filter fun t => (q.portSlices (q.tribPort t)).any fun k => k / 4 == n - 108 && sl k
    let q := mine.foldl (fun (x : Part) t => x.resetWords fun o => decide (tribReg t 0 ≤ o) && decide (o < tribReg t 64)) q
    (mine.foldl Part.stopTrib q).resetPoints fun k => k / 4 == n - 108 && sl k
  else if n = 114 then q.seamsOn.foldl (fun (x : Part) g => x.dropSeam 0x22 g) q
  else if n < 121 then
    let mine := ((List.range 8).map (8 * (n - 115) + ·)).filter fun c => sl (c / 2)
    mine.foldl (fun (x : Part) c => (x.dropClient 0x22 c).resetWords fun o =>
      (decide (macReg c 0 ≤ o) && decide (o < macReg c 256)) ||
        (decide (tapReg c 0 ≤ o) && decide (o < tapReg c 256))) q
  else if n < 129 then q.dramLost n
  else if n < 137 then q
  else if n < 145 then (if q.linkState ((n - 137) / 4) = 0 then q else q.linkFall ((n - 137) / 4)).syncPair
  else
    let outs : List (Fin 6) := if n = 145 then [0, 1] else if n = 146 then [2, 3] else [4, 5]
    { q with time := { q.time with realign := outs.foldl (fun b k => b ||| (1#6 <<< k.val)) q.time.realign } }

/-- POWER.HIST raises group 2: 0 RESET_H, 1 REFUSED_H, 2 LOSS_H. -/
def Part.powerHist (p : Part) (b : Nat) : Part := p.hist powerHistReg b 2

/-- A completed guarded write of PD_RESET (R527, R528): refused, or the target is fenced and reset. -/
def pdResetEffect (req : Req) (addr : BitVec 28) (w : Word) (p : Part) : Part :=
  let island := fieldOf w 23 16
  let domain := fieldOf w 7 0
  let last := 2 ^ 31 + island * 2 ^ 16 + domain
  match p.resetTargets island domain with
  | none => ((p.setReg 0x6048 (BitVec.ofNat 32 (last + 2 ^ 30))).powerHist 1).accessFault 5 req addr
  | some l =>
    let sl : Nat → Bool := fun k => island == 0xFF || k == island
    let q := p.setReg 0x6048 (BitVec.ofNat 32 last)
    let q := if domain = 0xFF ∧ q.selvState island = 0 then
        ((q.setSelv island 1).addWrap (selvReg island 0x14) 1).fabricHist 0 else q
    (l.foldl (fun (x : Part) n => x.resetDomain sl n) q).signals

/-- A reset of domain `n` alone, in island `i`, fences it until the reload ends (R528). -/
def Part.reloading (p : Part) (i n : Nat) : Bool :=
  let w := p.reg 0x6048
  w.getLsbD 31 && !w.getLsbD 30 && !w.getLsbD 29 && fieldOf w 7 0 == n &&
    (fieldOf w 23 16 == 0xFF || fieldOf w 23 16 == i)

/-- PD_RESET_RELOAD (R528): the reload of the last reset ends. -/
def pdResetReload (p : Part) : Part :=
  let w := p.reg 0x6048
  if w.getLsbD 31 && !w.getLsbD 30 && !w.getLsbD 29 then (p.setBit 0x6048 29 true).powerHist 0 else p

/-! ### Validation (R63) -/

/-- WAKE_TOL above 200,000 (R529). -/
def validatePower (q : Part) : List StitchFault :=
  (List.range 8).flatMap fun g => failIf (decide (200000 < q.wakeTol g)) (paramFail (0x6010 + 4 * g))

/-- DOMAIN_IDLE_RETURN. -/
def execDomainIdleReturn (d : Fin 148) (s : State) : Result := onPart (domainIdleReturn d) s
/-- PD_RESET_RELOAD. -/
def execPdResetReload (s : State) : Result := onPart pdResetReload s

end Sys2Proof.Machine
end

