-- ==== Sys2Proof/Machine/Enter.lean ====
section
/-! DEFINITION. Entering a mode: what every mode change does, entry into FREEZE and its record, entry into
DORMANT, and the restart of requesters (R50 to R59, R72, R74, R77, R137, R485, R553). -/

namespace Sys2Proof.Machine

/-! ### Requesters that restart (R111, R128, R137) -/

/-- Entries of a map outside a requester's range of keys. -/
def dropReq {α : Type} (q : Req) (m : SMap α) : SMap α := m.filter fun e => e.1 / 2 ^ 20 != q.code

/-- A requester restarts: its thimbles are released, its guard state is IDLE with no record, and its
captures and held words are gone. The completions it still had outstanding are discarded: how many is open (a free
value, R448, log 2). -/
def Part.restart (p : Part) (q : Req) : Part :=
  let n := (p.access.owners.filter fun e => e.2 == some q).length
  let r := ((p.addWrap 0x221C n).addSat 0x7004 (p.freshValue.toNat % 65)).useFree
  { r with access := { r.access with
      owners := r.access.owners.filter fun e => e.2 != some q,
      guards := r.access.guards.filter fun e => e.1 != q.code,
      captured := dropReq q r.access.captured, heldLow := dropReq q r.access.heldLow } }

/-- The four cores restart (R137). -/
def Part.restartCores (p : Part) : Part := (((p.restart .mc0).restart .mc1).restart .mc2).restart .mc3

/-! ### ALERT_N (R52) -/

/-- ALERT_N is asserted low. -/
def Part.alert (p : Part) : Bool :=
  p.supply.vin && (p.md.cur == .freeze || p.supply.noImage || p.supply.alertSensors != 0#16 ||
    p.supply.hostFenced)

/-! ### Scopes and stitches that a mode change ends (R58, R481) -/

/-- A test record (R482). -/
def Part.testRec (p : Part) (scope inst : Nat) : Option TestRec :=
  SMap.get (fun _ => none) p.back.tests (scope * 2 ^ 16 + inst)

/-- A test record replaced. -/
def Part.setTestRec (p : Part) (scope inst : Nat) (r : TestRec) : Part :=
  { p with back := { p.back with tests := SMap.set (fun _ => none) p.back.tests (scope * 2 ^ 16 + inst) (some r) } }

/-- The records of a scope's former runs go as it runs again: each scope keeps its most recent run (R482). -/
def Part.dropTests (p : Part) (scope : Nat) : Part :=
  { p with back := { p.back with tests := p.back.tests.filter fun e => e.1 / 2 ^ 16 != scope } }

/-- The lanes whose receivers do not run. -/
def Part.lanesOff (p : Part) : List Nat := (List.range 96).filter fun l => !p.laneOn l

/-- The lanes that an EXTPATTERN scope drove and tested go back to their inert state (R68). -/
def Part.endPattern (p : Part) : Part :=
  let q : Part := { p with back := { p.back with extLanes := 0#96 } }
  (q.stopReceivers q.lanesOff).syncTx

/-- A scope ends with a result: its running record closes, and TEST_H sets. -/
def Part.closeScope (p : Part) (scope inst result : Nat) (errors first : Word) : Part :=
  let start := match p.testRec scope 0xFFFF with | some r => r.started | none => p.clk
  let q := p.setTestRec scope inst { result := result, errors := errors, first := first, started := start,
                                     ended := p.clk, endTime := p.now }
  let q := if scope = 19 then q.endPattern else q
  (q.setBit 0xB050 scope false).hist backHistReg 4 2

/-- Every running scope ends with ABORTED (R481). -/
def Part.abortScopes (p : Part) : Part :=
  (List.range 20).foldl (fun (x : Part) b =>
    if x.bit 0xB050 b then x.closeScope b 0xFFFF 2 0#32 0#32 else x) p

/-- Does a stitch set change a field that only FIT lets change: TRACE_GIB or NODE_ID (R58, R94, R429)? -/
def Part.fitOnly (p : Part) (set : SMap (Word × Word)) : Bool :=
  fieldOf (afterSet p set 0xA100) 6 0 != p.field 0xA100 6 0 ||
    fieldOf (afterSet p set 0xE000) 15 0 != p.field 0xE000 15 0

/-- A STITCH that waits for its boundary is ABORTED by a change into a mode that cannot apply it (R58). -/
def Part.stopWaiting (p : Part) : Part :=
  match p.stitch.waiting with
  | some w => if p.md.cur.bastes && !(p.fitOnly w.set_ && p.md.cur != .fit) then p else p.stopTag w.tag stAborted 2
  | none => p

/-! ### Modes but DORMANT and FREEZE -/

/-- The part enters a mode (R50, R54, R58, R77): commands the mode does not let run end, receivers stop or
may start, islands lose their power, and the mode-change event is raised. -/
def Part.enterMode (p : Part) (m : Mode) : Part :=
  let old := p.md.cur
  let q : Part := { p with md := { p.md with cur := m, since := p.clk } }
  let q := q.stopWaiting.abortIllegal.abortScopes
  let q : Part := { q with back := { q.back with intrusive := false } }
  let q := q.tkMode old
  let q := if old.slicesOn && !m.slicesOn then q.loseDatapath (if old = .freeze then 0x21 else 0x22) else q
  let q := (q.stopReceivers q.lanesOff).clientMode
  let q := if m = .inert then q.pmInert else q
  let q := if m.slicesOn && !old.slicesOn then q.syncLats.syncTribs.evalPorts.transferStart else q.evalPorts
  let q := (((q.ringMode old).domainMode old).syncDepths).syncTx
  (q.announce 2 "MODE" m.code (BitVec.ofNat 64 old.code)).signals

/-! ### FREEZE (R57, R72, R485) -/

/-- A MODE.ENTER overtaken by FREEZE is ABORTED, and its transition is gone (R57). -/
def Part.overtake (p : Part) : Part :=
  match p.md.trans with
  | none => p
  | some tr =>
    let q : Part := { p with md := { p.md with trans := none, resuming := false } }
    match tr.tag with
    | some t => q.reject t stAborted 2
    | none => q

/-- MEMCTL.STATUS (R489): trained at the wake, MEM_OK while the MEM island is ACTIVE. -/
def Part.memStatus (p : Part) : Word :=
  if p.md.cur = .dormant then 0#32
  else BitVec.ofNat 32 ((p.selvState 25 == 0).toNat * 2 ^ 31 + (64 - p.back.badChannels.length))

/-- The registers a fault record names, in ascending offset order (R485), with their values. -/
def Part.recordEntries (p : Part) : List (Nat × Word) :=
  [(0x20, p.modeStatus)] ++ ((List.range 29).map fun i => (selvReg i 0, p.reg (selvReg i 0))) ++
    [(0xA000, p.memStatus), (0xB040, p.reg 0xB040), (0xB048, p.reg 0xB048), (tkReg 8, p.selectWord),
      (tkReg 0x10, p.reg (tkReg 0x10))] ++
    (List.range 24).map fun q => (lineReg q 0x20, p.reg (lineReg q 0x20))

/-- The fault record's words (R485). -/
def Part.faultWords (p : Part) (f : FaultInfo) : List Word :=
  let es := p.recordEntries
  let head := [BitVec.ofNat 32 (2 ^ 24 + f.code * 2 ^ 16 + f.island * 2 ^ 8 + f.mode.code * 16 + f.cls),
    p.journal.faultSerial + 1#32] ++ timeWords f.time ++ [f.detail, f.decision, p.reg 0x900C,
    p.journal.ckptSerial] ++ List.replicate 6 0#32 ++ [BitVec.ofNat 32 es.length]
  let body := head ++ es.flatMap fun e => [BitVec.ofNat 32 e.1, e.2]
  body ++ [crc32c (bytesOfWords body)]

/-- The part enters FREEZE (R72): outputs inert, the held state kept, every ledger audited (R458), the
record formed; open decisions stay as they are (R554). The notice to the twin goes with slot 0 (R413). -/
def Part.toFreeze (p : Part) (f : FaultInfo) : Part :=
  if p.md.cur = .dormant then p
  else if p.md.cur = .freeze then p.overtake
  else
    let old := p.md.cur
    let q := p.overtake
    let q : Part := { q with md := { q.md with cur := .freeze, since := q.clk, coresOut := false },
                             pm := { q.pm with conseq := [] } }
    let q := (q.stopWaiting.abortIllegal.abortScopes.tkMode old).auditAll.syncTx
    let q := ((q.ringMode old).announce 2 "MODE" 11 (BitVec.ofNat 64 old.code)).doeReturn
    { q with back := { q.back with record := q.faultWords f, contained := [], calLater := [] } }

/-- Open decisions and unread records go with the held state (R74, R461, R554). -/
def Part.dropDecisions (p : Part) : Part :=
  let q := (p.discardTerm 0x1000 0x21 p.steer.openDecs.length).discardTerm 0xD000 0x21 p.steer.queue.length
  { q with steer := { q.steer with openDecs := [], queue := [] } }

/-- FREEZE is left for INERT (R74): the held state is discarded and the cores restart. -/
def Part.leaveFreeze (p : Part) : Part := ((p.dropDecisions).restartCores).enterMode .inert

/-! ### DORMANT (R54, R57, R59, R131) -/

/-- Entry into DORMANT: every island but the supervisor's is off and its state is lost; the journal, the
supply and the pins, the test access port and what stands in host memory stay. Of the conditions of ALERT_N the
supervisor keeps those R52 does not release here: a HOST island that is not held fenced, and sensors. -/
def Part.toDormant (p : Part) : Part :=
  { md := { cur := .dormant, since := p.clk }, clk := p.clk, free := p.free, out := p.out,
    supply := { p.supply with hostFenced := p.supply.hostFenced && !p.back.heldFenced.contains 27 },
    journal := p.journal, jtag := p.jtag, hostMem := p.hostMem }

/-- The command window lies in the HOST island: it loses its contents as the part enters DORMANT. -/
def onPower (f : Part → Part) (s : State) : Result :=
  let q := f s.part
  .next { s with part := q, window := if q.md.cur = .dormant ∧ s.part.md.cur ≠ .dormant then [] else s.window }

end Sys2Proof.Machine
end

