-- ==== Sys2Proof/Machine/Background.lean ====
section
/-! DEFINITION. Background work, self-test scopes and the handling of part faults (R468 to R489). -/

namespace Sys2Proof.Machine

/-- MEMCTL.HIST raises group 10: 0 SPARE_LOW_H, 1 UNCORR_H, 2 RETIRE_H, 3 CHAN_H. -/
def Part.memHist (p : Part) (b : Nat) : Part := p.hist memHistReg b 10
/-- BACKGROUND.HIST raises group 2: 0 FAULT_H, 1 SCRUB_H, 2 JOURNAL_H, 3 CROSS_H, 4 TEST_H. -/
def Part.backHist (p : Part) (b : Nat) : Part := p.hist backHistReg b 2
/-- MEMCTL.CH[c] (R489). -/
def chReg (c : Nat) : Nat := 0xA200 + 4 * c

/-- The modes in which background tasks run (R473). -/
def Part.backRuns (p : Part) : Bool :=
  match p.md.cur with | .dormant | .prove | .freeze => false | _ => true

/-! ### Row retirement (R471, R472) -/

/-- A row as a number. -/
def rowKey (c row : Nat) : Nat := c * 2 ^ 24 + row % 2 ^ 24

/-- A retirement begins, where the channel has a spare left for it. -/
def Part.retireRow (p : Part) (c row : Nat) : Part :=
  let k := rowKey c row
  let taken := (p.back.retiring.filter fun e => e / 2 ^ 24 == c).length
  if p.field (chReg c) 28 16 ≤ taken ∨ (p.back.retiring ++ p.journal.retiredRows).contains k = true then p
  else { p with back := { p.back with retiring := p.back.retiring ++ [k] } }

/-- Function 8: 1 retires the row offered last, 0 keeps it. -/
def applyRetire (c v : Nat) (p : Part) : Part :=
  match SMap.get (fun _ => none) p.back.offered c with
  | none => p
  | some row =>
    let q : Part := { p with back := { p.back with offered := SMap.set (fun _ => none) p.back.offered c none } }
    if v = 1 then q.retireRow c row else q

/-- ROW_RETIRE_START (R471, R480): at once for a hard-failed symbol and for a row that MEMMARCH finds failing, else
through function 8. -/
def rowRetireStart (c : Fin 64) (row : Nat) (hard : Bool) (p : Part) : Part :=
  if !(p.backRuns || p.marching) || p.selvState 25 != 0 then p
  else if hard || p.marching then p.retireRow c row
  else
    let q : Part := { p with back := { p.back with
      offered := SMap.set (fun _ => none) p.back.offered c (some row) } }
    q.offer 8 c 1 3#32 (applyRetire c)

/-- ROW_RETIRE_COMPLETE (R472); in FREEZE nothing changes (R72). The DPA that the event carries is not stated (log 2). -/
def rowRetireComplete (c : Fin 64) (row : Nat) (p : Part) : Part :=
  let k := rowKey c row
  if !p.back.retiring.contains k || p.md.cur == .freeze then p
  else
    let left := p.field (chReg c) 28 16 - 1
    let q : Part := { p with
      back := { p.back with retiring := p.back.retiring.filter (· != k) },
      journal := { p.journal with retiredRows := p.journal.retiredRows ++ [k] } }
    let q := ((q.setField (chReg c) 28 16 left).addSat 0xA00C 1).logMedia false (q.freshValue.toNat % 2 ^ 37)
    let q := q.useFree.memHist 2
    if left = 0 then q.memHist 0 else q

/-! ### The journal (R477) -/

/-- Writes counted for a block. -/
def Part.wearOf (p : Part) (b : Nat) : Nat := SMap.get (fun _ => 0) p.journal.wear b

/-- A block's write count replaced. -/
def Part.setWear (p : Part) (b n : Nat) : Part :=
  { p with journal := { p.journal with wear := SMap.set (fun _ => 0) p.journal.wear b n } }

/-- The lowest count: 0 while any block has not been written. -/
def Part.wearMin (p : Part) : Nat :=
  if p.journal.wear.length < 16384 then 0
  else p.journal.wear.foldl (fun n e => min n e.2) (2 ^ 32)

/-- The highest count. -/
def Part.wearMax (p : Part) : Nat := p.journal.wear.foldl (fun n e => max n e.2) 0

/-- The least-worn block, the lowest-numbered of equals. -/
def Part.leastWorn (p : Part) : Nat :=
  match (List.range 16384).find? fun b => p.wearOf b == p.wearMin with
  | some b => b
  | none => 0

/-- A block is relocated to the least-worn block, which takes a write (R477). -/
def Part.relocate (p : Part) : Part :=
  let b := p.leastWorn
  let q := p.setWear b (p.wearOf b + 1)
  ({ q with journal := { q.journal with relocs := q.journal.relocs + 1 } }.journalWrites 1).backHist 2

/-- Function 10: 1 relocates the block while it is still worn too far ahead. -/
def applyRelocate (b v : Nat) (p : Part) : Part :=
  if v = 1 ∧ p.wearMin + 32768 < p.wearOf b then p.relocate else p

/-- JOURNAL_BLOCK_WRITE (R477): a verified write may be offered for relocation; a failed one moves to a spare
block, whose own count is not stated and starts at 1. -/
def journalBlockWrite (b : Fin 16384) (verified : Bool) (p : Part) : Part :=
  if !p.supply.holdup then p
  else if !verified then
    if p.journal.spares = 0 then p.backHist 2
    else
      let q := p.setWear b 1
      { q with journal := { q.journal with spares := q.journal.spares - 1,
                                           relocs := q.journal.relocs + 1 } }.backHist 2
  else
    let q := p.setWear b (p.wearOf b + 1)
    if q.wearMin + 65536 ≤ q.wearOf b then q.relocate
    else if q.wearMin + 32768 < q.wearOf b then q.offer 10 b 1 3#32 (applyRelocate b)
    else q

/-! ### Adaptation (R476) -/

/-- ADAPT_TRIM (R476): at most one step per 10 ms, on a lane whose adaptation is done. -/
def adaptTrim (l : Fin 96) (step : Int) (p : Part) : Part :=
  let s := p.lane l
  if p.backRuns && p.laneOn l && p.bit (laneReg l 0x10) 2 && decide (-1 ≤ step) && decide (step ≤ 1) &&
      (s.trimAt == 0 || decide (s.trimAt + 2500000 ≤ p.clk + 1)) then
    p.setLane l { s with trim := s.trim + step, trimAt := p.clk + 1 }
  else p

/-! ### Telemetry (R478) -/

/-- CROSSING of a sensor. -/
def Part.crossing (p : Part) (s : Nat) : Bool := p.bit 0xB02C s

/-- Function 11: 1 asserts ALERT_N for the sensor while its crossing is in force. -/
def applyAlert (s v : Nat) (p : Part) : Part :=
  if v = 1 ∧ p.crossing s = true then
    { p with supply := { p.supply with alertSensors := p.supply.alertSensors ||| (1#16 <<< s) } }
  else p

/-- A sensor's crossing starts or clears. An assertion kept from before a wake ends as the sensor is found clear
(R52). -/
def Part.crossStep (p : Part) (s : Nat) (start clear : Bool) : Part :=
  if !p.crossing s && start then
    let q := (p.setBit 0xB02C s true).backHist 3
    if q.bit 0xB028 s then q.offer 11 s 1 3#32 (applyAlert s) else q
  else if clear then
    let q := p.setBit 0xB02C s false
    { q with supply := { q.supply with alertSensors := q.supply.alertSensors &&& ~~~(1#16 <<< s) } }
  else p

/-- The signed upper or lower half of TEMP_THR, in 1/16 °C (R488). -/
def Part.tempThr (p : Part) (crit : Bool) : Int :=
  let w := p.reg 0xB020
  if crit then (w.extractLsb' 16 16).toInt else (w.extractLsb' 0 16).toInt

/-- TELEMETRY_SAMPLE (R478): sensors 0 and 9 make crossings; the case temperature goes to the timekeeper (R335).
P_IN is VIN times the input current (R529). -/
def telemetrySample (l : List Word) (p : Part) : Part :=
  if !p.backRuns then p
  else
    let q := l.zipIdx.foldl (fun (x : Part) e => if e.2 < 12 then x.setReg (0xB080 + 4 * e.2) e.1 else x) p
    let t := (l.getD 0 0#32).toInt
    let v := (l.getD 9 0#32).toNat
    let q := q.setReg 0x6004 (BitVec.ofNat 32 (v * (l.getD 10 0#32).toNat / 10000 % 2 ^ 16))
    let lo := q.field 0xB024 15 0
    let hi := q.field 0xB024 31 16
    let q := q.crossStep 0 (decide (q.tempThr false < t)) (decide (t ≤ q.tempThr false - 32))
    let q := q.crossStep 9 (decide (v < lo) || decide (hi < v)) (decide (lo + 100 ≤ v) && decide (v + 100 ≤ hi))
    if q.md.cur.slicesOn then q.tkTemp (l.getD 0 0#32) else q

/-! ### Part faults (R483, R484) -/

/-- A part fault is recorded (R484); in FREEZE it is counted only (R486). A core fault raises group 2 after
the restart. -/
def Part.partFault (p : Part) (code island : Nat) (detail : Word) : Part :=
  let q := p.addSat 0xB044 1
  if p.md.cur = .freeze then q
  else
    let q := (q.setReg 0xB040 (BitVec.ofNat 32 (2 ^ 31 + code * 2 ^ 16 + island * 2 ^ 8))).setReg 0xB048 detail
    (q.trace 18 0xF2 code island q.now (detail.setWidth 64)).setEvent backHistReg 0 2
      (q.bit backHistReg 31 && code != 7)

/-- Function 15 (R45, R483): 1 goes on into FREEZE with the fault that was offered. -/
def applyFreeze (inst : Nat) (serial : Word) (v : Nat) (p : Part) : Part :=
  match SMap.get (fun _ => none) p.back.contained inst with
  | none => p
  | some f =>
    let q : Part := { p with back := { p.back with contained := SMap.set (fun _ => none) p.back.contained inst none } }
    if v = 1 then q.toFreeze { f with decision := serial } else q

/-- An island fault-fenced for the same code twice within 60 s stays fenced (R484). -/
def Part.noteFence (p : Part) (code island : Nat) : Part :=
  let k := code * 256 + island
  let again := match SMap.get (fun _ => 0) p.back.lastFault k with
    | 0 => false
    | t + 1 => decide (p.clk - t ≤ edges60s)
  let hf := if again && !p.back.heldFenced.contains island then p.back.heldFenced ++ [island] else p.back.heldFenced
  { p with back := { p.back with heldFenced := hf,
                                 lastFault := SMap.set (fun _ => 0) p.back.lastFault k (p.clk + 1) } }

/-- The serial of the open decision of a function and instance, 0 with none. -/
def Part.openSerial (p : Part) (f inst : Nat) : Word :=
  match p.openFor f inst with | some d => d.serial | none => 0#32

/-- A contained fault is offered to function 15, whose instance is the fault's code and island (R45, R483). -/
def Part.offerFault (p : Part) (f : FaultInfo) (cand : Nat) : Part :=
  let inst := f.code * 256 + f.island
  { p with back := { p.back with contained := SMap.set (fun _ => none) p.back.contained inst (some f) } }.offer
    15 inst cand 3#32 (applyFreeze inst (p.openSerial 15 inst))

/-- What is said of a fault as it is detected (R485): the mode and time stand as they were then. -/
def Part.faultInfo (p : Part) (code island cls : Nat) (detail : Word) : FaultInfo :=
  { code := code, island := island, cls := cls, detail := detail, decision := 0#32, mode := p.md.cur, time := p.now }

/-- A contained fault (R483): recorded, contained, then offered to function 15. -/
def Part.containedFault (p : Part) (code island cand : Nat) (detail : Word) (contain : Part → Part) : Part :=
  if p.md.cur = .dormant then p
  else if p.md.cur = .freeze then p.partFault code island detail
  else (contain (p.partFault code island detail)).offerFault (p.faultInfo code island 0 detail) cand

/-- An uncontained fault enters FREEZE at once (R45, R483). -/
def Part.uncontainedFault (p : Part) (code island : Nat) (detail : Word) : Part :=
  if p.md.cur = .dormant then p
  else (p.partFault code island detail).toFreeze (p.faultInfo code island 1 detail)

/-- A slice is reset by containment: what it held is lost, its PM points with it (R460, R484). -/
def Part.resetSlice (p : Part) (k : Nat) : Part :=
  let mine := p.tribsOn.filter fun t => (p.portSlices (p.tribPort t)).contains k
  let lanes := [2 * k, 2 * k + 1, 48 + 2 * k, 49 + 2 * k]
  let q := mine.foldl Part.stopTrib p
  let q := [2 * k, 2 * k + 1].foldl (fun (x : Part) c => (x.dropClient 1 c).dropStamps 1 c) q
  let inLane : Nat → Nat → Bool := fun l o => decide (laneReg l 0 ≤ o) && decide (o < laneReg l 512)
  let inPort : Nat → Nat → Bool := fun c o => (decide (macReg c 0 ≤ o) && decide (o < macReg c 256)) ||
    (decide (tapReg c 0 ≤ o) && decide (o < tapReg c 256))
  let q := q.resetWords fun o => lanes.any (fun l => inLane l o) || [2 * k, 2 * k + 1].any fun c => inPort c o
  ((lanes.foldl (fun (x : Part) l => x.setLane l {}) (q.resetPoints (· == k))).syncLats.evalPorts).syncTx

/-- Codes 0x01 (slice) and 0x02 (WEFT): fault fence, reset and reload. -/
def Part.sliceFault (p : Part) (k : Nat) (detail : Word) : Part :=
  p.containedFault 1 k 0 detail fun (q : Part) => ((q.noteFence 1 k).faultFence k {}).resetSlice k

/-- Code 0x02: fault fence of WEFT; every seam group loses its copies. -/
def Part.weftFault (p : Part) (detail : Word) : Part :=
  p.containedFault 2 24 1 detail fun (q : Part) =>
    let r := (q.noteFence 2 24).faultFence 24 {}
    r.seamsOn.foldl (fun (x : Part) g => x.dropSeam 1 g) r

/-- Code 0x04: fault fence of MEM, at which delay-matched groups fall back; nothing spills (R288). -/
def Part.memFault (p : Part) (detail : Word) : Part :=
  p.containedFault 4 25 0 detail fun (q : Part) =>
    ((q.noteFence 4 25).faultFence 25 {}).announce 10 "MEM_FAULT" 25 (detail.setWidth 64)

/-- Code 0x06: fault fence of RING; the twin is UNPAIRED. -/
def Part.ringFault (p : Part) (detail : Word) : Part :=
  p.containedFault 6 28 0 detail fun (q : Part) => (q.noteFence 6 28).faultFence 28 {}

/-- Code 0x07: the cores restart on the running image, as in RENEW. -/
def Part.coreFault (p : Part) (detail : Word) : Part :=
  p.containedFault 7 0xFF 0 detail fun (q : Part) =>
    if q.md.coresOut then q
    else
      let r : Part := { q.restartCores with md := { q.md with coresOut := true, renewAt := q.clk },
                                            host := { q.host with sessions := 0 } }
      if r.md.cur.tkRunning then r.tkRenew else r

/-- Copies of a leg that memory has lost are absent for their counts (R288, R470): the oldest go. -/
def Part.loseCopies (p : Part) (g k n : Nat) : Part :=
  let c := p.leg g k
  (p.faultLoss (0x5000 + g) 4 (min n c.buf.length)).setLeg g k { c with buf := c.buf.drop n }

/-- Code 0x03: a channel goes out of service. -/
def Part.channelFault (p : Part) (c : Nat) (lost : List (Fin 512 × Fin 3 × Nat)) : Part :=
  p.containedFault 3 25 0 (BitVec.ofNat 32 c) fun (q : Part) =>
    if q.back.badChannels.contains c then q
    else
      let r : Part := { q with back := { q.back with badChannels := q.back.badChannels ++ [c] } }
      let r := (r.setBit (chReg c) 31 false).memHist 3
      lost.foldl (fun (x : Part) e => x.loseCopies e.1 e.2.1 e.2.2) r

/-- The effect of an uncorrectable codeword in its region (R470). -/
def Part.hitEffect (p : Part) (h : DramHit) : Part :=
  let q := p.uncorrectable
  match h with
  | .seam g k c => q.loseCopy g k c
  | .spill n i => (q.poisonLine ((n * 0x200000 + 32 * (i % 65536)) / 64)).faultLoss (0x6000 + n) 4 1
  | .window dpa => (q.poisonLine (dpa / 64)).logMedia false dpa
  | .state led => (match led with | some i => q.faultLoss i 1 1 | none => q).coreFault 0#32

/-- SCRUB_PASS_COMPLETE (R470, R474): the pass is counted, with the corrections of the last 24 h by channel
and the uncorrectable codewords found; or SCRUB_LATE sets. -/
def scrubPassComplete (late : Bool) (corr : List (Fin 64 × Nat)) (hits : List DramHit) (p : Part) : Part :=
  if !p.backRuns then p
  else if late then (if p.bit 0xB004 31 then p else (p.setBit 0xB004 31 true).backHist 1)
  else if p.selvState 25 != 0 then p
  else
    let q := (p.addWrap 0xB000 1).setReg 0xB004 0#32
    let q := (List.range 64).foldl (fun (x : Part) c =>
      let n := (corr.filter fun e => e.1.val == c).foldl (fun k e => k + e.2) 0
      (x.setField (chReg c) 15 0 (min n 0xFFFF)).addSat 0xA004 n) q
    hits.foldl Part.hitEffect q

/-! ### Self-test scopes (R479 to R482) -/

/-- The scopes of R480. -/
def scopeBits : List Nat := [0, 1, 2, 3, 4, 5, 6, 16, 17, 18, 19]

/-- Are a scope's islands powered (R481)? -/
def Part.scopePowered (p : Part) (b : Nat) : Bool :=
  if b = 6 then p.md.cur.slicesOn else if b = 1 ∨ b = 16 then p.selvState 25 == 0 else true

/-- The lanes that the parameters of an EXTPATTERN scope name (R480). -/
def Part.patternLanes (p : Part) (t : Nat) : BitVec 96 :=
  BitVec.ofNat 96 ((p.par64 t 1).toNat % 2 ^ 48 + (p.par64 t 3).toNat % 2 ^ 48 * 2 ^ 48)

/-- One scope starts (R481): its RUNNING record, or NOT_RUN at once. MEMMARCH destroys what the LPDDR5X holds: the
windows' contents, the next-hop table and the audit images (R27, R430, log 3). EXTPATTERN drives the transmitters and
tests the receivers of the lanes `ext` (R50, R68). -/
def Part.startScope (ext : BitVec 96) (p : Part) (b : Nat) : Part :=
  if !p.scopePowered b then (p.dropTests b).closeScope b 0xFFFF 3 0#32 0#32
  else
    let q := (p.dropTests b).setTestRec b 0xFFFF
      { result := 4, errors := 0#32, first := 0#32, started := p.clk, ended := p.clk, endTime := 0 }
    let q := q.setBit 0xB050 b true
    let q := if b = 2 then q.auditAll else q
    if b = 16 then { q with dram := [], domain := { q.domain with routes := [] },
                            ledger := { q.ledger with audits := [] } }
    else if b = 19 then { q with back := { q.back with extLanes := ext } }.syncTx
    else q

/-- TEST.RUN (R480, R481). -/
def testRun (t : Fin 1024) (p : Part) : Part :=
  if !p.runs t 0x0901 then p
  else
    let m := p.par t 0
    let new := scopeBits.filter fun b => m.getLsbD b && !p.bit 0xB050 b
    if fieldOf m 19 16 ≠ 0 ∧ p.md.cur ≠ .prove then p.reject t stMode p.md.cur.code
    else if new.isEmpty then p.reject t stBusy 0
    else
      let q := new.foldl (Part.startScope (p.patternLanes t)) (p.setTagState t .committed)
      let q : Part := if p.md.cur = .prove then { q with back := { q.back with intrusive := true } } else q
      q.done t (BitVec.ofNat 64 (new.foldl (fun n b => n + 2 ^ b) 0)) 0#32

/-- The result code of R482. -/
def ScopeResult.code : ScopeResult → Nat
  | .pass => 0 | .fail => 1 | .aborted => 2 | .notRun => 3

/-- A channel returns to service (R481). -/
def Part.channelBack (p : Part) (c : Nat) : Part :=
  if p.back.badChannels.contains c then
    ({ p with back := { p.back with badChannels := p.back.badChannels.filter (· != c) } }.setBit (chReg c) 31
      true).memHist 3
  else p

/-- What a passed MEMMARCH or LBIST returns to service (R481, R484): LBIST does not test HOST and RING. -/
def Part.backInService (p : Part) (scope inst : Nat) : Part :=
  if scope = 16 then
    if inst = 0xFFFF then p.back.badChannels.foldl Part.channelBack p else p.channelBack inst
  else if scope = 17 then
    { p with back := { p.back with heldFenced := p.back.heldFenced.filter fun i =>
        i == 27 || i == 28 || !(inst == 0xFFFF || inst == i) } }
  else p

/-- SCOPE_END (R481, R482): a record of one instance, or, for instance 0xFFFF, the scope's end; PROVE returns
to FIT when no requested scope runs. -/
def scopeEnd (scope : Fin 20) (inst : Nat) (res : ScopeResult) (errors first : Word) (p : Part) : Part :=
  if !p.bit 0xB050 scope then p
  else
    let q := if inst = 0xFFFF then p.closeScope scope 0xFFFF res.code errors first
      else
        let start := match p.testRec scope 0xFFFF with | some r => r.started | none => p.clk
        p.setTestRec scope (inst % 0xFFFF) { result := res.code, errors := errors, first := first,
                                              started := start, ended := p.clk, endTime := p.now }
    let q := if res = .pass then q.backInService scope inst else q
    if q.md.cur = .prove ∧ q.back.intrusive = true ∧ q.reg 0xB050 = 0#32 ∧ q.md.trans.isNone = true then
      { q with md := { q.md with trans := some { target := .fit, dest := .fit } },
               back := { q.back with intrusive := false } }
    else q

/-- A test result record (R482); a RUNNING scope has run until now. -/
def Part.testWords (p : Part) (key : Nat) (r : TestRec) : List Word :=
  let ended := if r.result = 4 then p.clk else r.ended
  let ws := [BitVec.ofNat 32 (key / 2 ^ 16 * 2 ^ 24 + r.result * 2 ^ 16 + key % 2 ^ 16), r.errors, r.first,
      BitVec.ofNat 32 ((ended - r.started) / 250000)]
    ++ (if r.result = 4 then [0#32, 0#32, 0#32] else timeWords r.endTime)
  ws ++ [crc32c (bytesOfWords ws)]

/-- Every result record held, by scope and instance (R482). -/
def Part.testRecords (p : Part) : List (List Word) :=
  p.back.tests.filterMap fun e => match e.2 with | some r => some (p.testWords e.1 r) | none => none

/-- TEST.RESULT (R482): the leading RESULT_LEN bytes are written (R151). DESIGN CHOICE (log 101): RESULT0 and RESULT1
count records, as R482 says, where R151 has the full length in bytes. -/
def testResult (t : Fin 1024) (p : Part) : Part :=
  if !p.runs t 0x0902 then p
  else
    let recs := p.testRecords
    let n := min recs.length (p.resultLen t / 32)
    let q := (p.setTagState t .committed).writeBulk t (bytesOfWords recs.flatten)
    q.reply t stDone (decide (n < recs.length)).toNat (BitVec.ofNat 64 n) (BitVec.ofNat 32 (recs.length - n))

/-! ### The fault record (R485, R486) -/

/-- FAULT_RECORD_WRITE (R72, R485). It waits for the journal's allowance (R477). -/
def faultRecordWrite (p : Part) : Part :=
  if p.back.record.isEmpty || !p.supply.holdup || p.journalFull 1 then p
  else
    let q : Part := { p with journal := { p.journal with faultRec := p.back.record,
                                                         faultSerial := p.journal.faultSerial + 1#32 } }
    { q with back := { q.back with record := [] } }.journalWrites 1

/-- MODE.HOLD (R167, R485): the record in the journal. -/
def modeHold (t : Fin 1024) (p : Part) : Part :=
  if !p.runs t 0x0104 then p
  else
    let bs := bytesOfWords p.journal.faultRec
    (p.setTagState t .committed).doneBulk t bs 0#64 (BitVec.ofNat 32 bs.length)

/-- Validation of BACKGROUND and MEMCTL (R94, R488). -/
def validateBackground (q : Part) : List StitchFault :=
  failIf (decide (q.tempThr true ≤ q.tempThr false)) (paramFail 0xB020) ++
    failIf (decide (104 < q.traceGib)) (paramFail 0xA100)

/-! ### Commands -/

/-- ADAPT_TRIM. -/
def execAdaptTrim (l : Fin 96) (k : Int) (s : State) : Result := onPart (adaptTrim l k) s
/-- ROW_RETIRE_START. -/
def execRowRetireStart (c : Fin 64) (r : Nat) (h : Bool) (s : State) : Result := onPart (rowRetireStart c r h) s
/-- ROW_RETIRE_COMPLETE. -/
def execRowRetireComplete (c : Fin 64) (r : Nat) (s : State) : Result := onPart (rowRetireComplete c r) s
/-- JOURNAL_BLOCK_WRITE. -/
def execJournalBlockWrite (b : Fin 16384) (v : Bool) (s : State) : Result := onPart (journalBlockWrite b v) s
/-- TELEMETRY_SAMPLE. -/
def execTelemetrySample (l : List Word) (s : State) : Result := onPart (telemetrySample l) s
/-- SCRUB_PASS_COMPLETE. -/
def execScrubPassComplete (late : Bool) (c : List (Fin 64 × Nat)) (h : List DramHit) (s : State) : Result :=
  onSignals (scrubPassComplete late c h) s
/-- TEST_RUN. -/
def execTestRun (t : Fin 1024) (s : State) : Result := onPart (testRun t) s
/-- TEST_RESULT. -/
def execTestResult (t : Fin 1024) (s : State) : Result := onPart (testResult t) s
/-- SCOPE_END. -/
def execScopeEnd (c : Fin 20) (i : Nat) (r : ScopeResult) (e f : Word) (s : State) : Result :=
  onPart (scopeEnd c i r e f) s
/-- MODE_HOLD. -/
def execModeHold (t : Fin 1024) (s : State) : Result := onPart (modeHold t) s
/-- FAULT_RECORD_WRITE. -/
def execFaultRecordWrite (s : State) : Result := onPart faultRecordWrite s
/-- SLICE_ISLAND_FAULT. -/
def execSliceIslandFault (k : Fin 24) (d : Word) (s : State) : Result := onSignals (fun p => p.sliceFault k d) s
/-- WEFT_ISLAND_FAULT. -/
def execWeftIslandFault (d : Word) (s : State) : Result := onSignals (fun p => p.weftFault d) s
/-- MEM_ISLAND_FAULT. -/
def execMemIslandFault (d : Word) (s : State) : Result := onSignals (fun p => p.memFault d) s
/-- RING_ISLAND_FAULT. -/
def execRingIslandFault (d : Word) (s : State) : Result := onSignals (fun p => p.ringFault d) s
/-- CORE_FAULT. -/
def execCoreFault (d : Word) (s : State) : Result := onSignals (fun p => p.coreFault d) s
/-- DRAM_CHANNEL_FAULT. -/
def execDramChannelFault (c : Fin 64) (l : List (Fin 512 × Fin 3 × Nat)) (s : State) : Result :=
  onSignals (fun p => p.channelFault c l) s
/-- OVER_TEMPERATURE (R478, R484): contained fault 0x08, decided in hardware for FREEZE. -/
def execOverTemperature (d : Word) (s : State) : Result :=
  onPart (fun p => p.containedFault 8 0xFF 1 d id) s
/-- JOURNAL_FAULT (R477, R484): a block verify failed and no spare block is left. -/
def execJournalFault (b : Fin 16384) (s : State) : Result :=
  onPart (fun p => if p.journal.spares = 0 then p.containedFault 9 0xFF 0 (BitVec.ofNat 32 b) id else p) s
/-- OSCILLATOR_FAULT (R484). -/
def execOscillatorFault (d : Word) (s : State) : Result := onPart (fun p => p.uncontainedFault 0x10 0xFF d) s
/-- TIME_ISLAND_FAULT (R484). -/
def execTimeIslandFault (d : Word) (s : State) : Result := onPart (fun p => p.uncontainedFault 0x11 26 d) s
/-- HUB_ISLAND_FAULT (R484). -/
def execHubIslandFault (d : Word) (s : State) : Result := onPart (fun p => p.uncontainedFault 0x12 0xFF d) s
/-- INTERNAL_RAIL_FAULT (R484, R519): PWRGOOD goes low with it. -/
def execInternalRailFault (d : Word) (s : State) : Result :=
  onPart (fun p => { p with supply := { p.supply with pwrgood := false } }.uncontainedFault 0x13 0xFF d) s

end Sys2Proof.Machine
end

