-- ==== Sys2Proof/Machine/Steer.lean ====
section
/-! DEFINITION. Closing steering decisions: the effect of a value by function, answers, deadlines, forced
closure and the decision queue (R38 to R46, R146, R147, R554). -/

namespace Sys2Proof.Machine

/-- The effect of a decided value (R38); `host` where an answer chose it. A decision that has no alternatives
left is about something gone, and for functions 0, 3, 6 and 14 its close has no effect. -/
def Part.applyDecision (p : Part) (d : Decision) (host : Bool) (v : Nat) : Part :=
  let i := d.inst
  let gone := d.alts == 0#32
  match d.func with
  | 0 => if gone then p else applyAlign i v p
  | 1 => applyConseq (i % 2 ^ 13) (i / 2 ^ 13) v p
  | 2 => applyClass (i % 2 ^ 15) (decide (2 ^ 15 ≤ i)) host v p
  | 3 => if gone then p else applyLeg (i % 2 ^ 12) (i / 2 ^ 12) v p
  | 4 => applySelect v p
  | 5 => if gone then p else applyDisqualify i v p
  | 6 => if gone then p else applyLower i v p
  | 7 => applyResync v p
  | 8 => applyRetire i v p
  | 9 =>
    if 0x2000 ≤ i then applyLearn (i - 0x2000) v p
    else applySegment (if 0x1000 ≤ i ∧ i < 0x1006 then 2241 + (i - 0x1000) else i) v p
  | 10 => applyRelocate i v p
  | 11 => applyAlert i v p
  | 12 => applyRoute i v p
  | 13 => if gone then p else applySpill i v p
  | 14 => if gone then p else applyTap i d.serial v p
  | _ => applyFreeze i d.serial v p

/-- Every decision open at the moment closes at once with its candidate and counts as missed (R43, R554): all of
them leave the open list before the first candidate is applied. DESIGN CHOICE (log 73): they are applied in the
order they were raised, function 15, which may enter FREEZE, last. -/
def Part.closeForced (p : Part) : Part :=
  if p.steerForced && p.md.cur != .freeze then
    let ds := p.steer.openDecs
    let q := ds.foldl (fun (x : Part) d => x.countMissed d.func) { p with steer := { p.steer with openDecs := [] } }
    ((ds.filter fun d => d.func != 15) ++ ds.filter fun d => d.func == 15).foldl (fun (x : Part) d =>
      x.applyDecision d false d.cand) q
  else p

/-- DECISION_DEADLINE (R40 to R42, R554): once the edge of its deadline has passed, the candidate is applied; an
answer at the very edge is on time. In FREEZE deadlines do not run. -/
def decisionDeadline (serial : Word) (p : Part) : Part :=
  if p.md.cur = .freeze then p
  else match p.steer.openDecs.find? (fun d => d.serial == serial) with
    | none => p
    | some d =>
      if d.deadline < p.clk then
        (((p.dropDecision serial).countMissed d.func).applyDecision d false d.cand).signals
      else p

/-- An answer of the host or another requester (R40, R41, R147, R554): DEC_ANSWER word 1 with the serial held
in word 0. An answer after the deadline's edge finds its decision closed. -/
def answerDecision (serial w : Word) (p : Part) : Part :=
  match p.steer.openDecs.find? (fun d => d.serial == serial) with
  | none => p.addSat 0x5124 1
  | some d =>
    if p.md.cur = .freeze ∨ d.deadline < p.clk then p.addSat 0x5124 1
    else
      let v := fieldOf w 4 0
      let q := p.dropDecision serial
      if w.getLsbD 31 && !d.alts.getLsbD v then
        (((q.addSat 0x5128 1).count 0x1000 2 1).applyDecision d false d.cand).signals
      else ((q.count 0x1000 1 1).applyDecision d true (if w.getLsbD 31 then v else d.cand)).signals

/-- TIME_LEFT_US of a record (R146); deadlines stand still in FREEZE. DESIGN CHOICE (log 74): whole microseconds,
a part of one is left out. -/
def Part.timeLeft (p : Part) (r : DecRec) : Nat :=
  let t := if p.md.cur = .freeze then p.md.since else p.clk
  min ((r.deadline - t) / edgesPerUs) (2 ^ 27 - 1)

/-- The four words of DEC_REC for the oldest unread record (R146). -/
def Part.decWords (p : Part) : List Word :=
  match p.steer.queue with
  | [] => [0#32, 0#32, 0#32, 0#32]
  | r :: _ =>
    let closed := !(p.steer.openDecs.any fun d => d.serial == r.serial)
    [r.serial, BitVec.ofNat 32 (closed.toNat * 2 ^ 31 + r.superseded.toNat * 2 ^ 30 + r.func * 2 ^ 16 + r.inst % 2 ^ 16),
      BitVec.ofNat 32 (p.timeLeft r * 32 + r.cand % 32), r.alts]

/-- A record leaves the queue: popped (R146, R457). -/
def Part.popDecision (p : Part) : Part :=
  match p.steer.queue with
  | [] => p
  | _ :: r => { p with steer := { p.steer with queue := r } }.count 0xD000 1 1

/-- Validation of STEER (R38): deadlines outside their range, in µs. -/
def steerRange (f : Nat) : Nat × Nat :=
  match f with
  | 0 => (100, 10000) | 1 => (100, 10000) | 2 => (10000, 900000) | 3 => (500, 20000)
  | 4 => (1000, 1000000) | 5 => (1000000, 100000000) | 6 => (1000, 100000) | 7 => (10000, 1000000)
  | 8 => (100000, 10000000) | 9 => (100000, 10000000) | 10 => (100000, 10000000) | 11 => (10000, 1000000)
  | 12 => (1000, 100000) | 13 => (5, 100) | 14 => (2, 50) | _ => (100, 10000)

/-- Validation of GLOBAL (R38, R67). -/
def validateGlobal (q : Part) : List StitchFault :=
  let d := q.field 0x028 15 0
  failIf (decide (d < 10) || decide (60000 < d)) (paramFail 0x028) ++
    (List.range 16).flatMap fun f =>
      let v := q.field (steerReg f) 26 0
      failIf (decide (v < (steerRange f).1) || decide ((steerRange f).2 < v)) (paramFail (steerReg f))

/-- DECISION_DEADLINE. -/
def execDecisionDeadline (serial : Word) (s : State) : Result := onPart (decisionDeadline serial) s

end Sys2Proof.Machine
end

