-- ==== Sys2Proof/Machine/Stitch.lean ====
section
/-! DEFINITION. STITCH: validation of the stitch set, its boundary and its journal write, and the latency of
a stitched path (R36, R66, R94, R170 to R173, R224, R556). -/

namespace Sys2Proof.Machine

/-- The part with the fields of a stitch set at their new values. -/
def Part.withSet (p : Part) (set : SMap (Word × Word)) : Part :=
  set.foldl (fun (x : Part) e => x.setReg e.1 (mergeMask (x.reg e.1) e.2.2 e.2.1)) p

/-- The offsets whose value in force a set changes (R173). -/
def Part.changedBy (p : Part) (set : SMap (Word × Word)) : List Nat :=
  (set.filter fun e => afterSet p set e.1 != p.reg e.1).map (·.1)

/-- LOCKED and REJECTED_MODE failures: STEER_FIX, and the fields that only FIT lets change (R94, R429). -/
def Part.lockFaults (p : Part) (set : SMap (Word × Word)) : List StitchFault :=
  let steer := (p.changedBy set).filter fun o => decide (0x040 ≤ o) && decide (o < 0x080)
  (if p.bit 0x038 0 then steer.map fun o => { status := stLocked, offset := o, detail := 0 } else []) ++
    (if p.md.cur = .fit then [] else
      let f := fun o : Nat => ({ status := stMode, offset := o, detail := p.md.cur.code } : StitchFault)
      failIf (fieldOf (afterSet p set 0xA100) 6 0 != p.field 0xA100 6 0) (f 0xA100) ++
        failIf (fieldOf (afterSet p set 0xE000) 15 0 != p.field 0xE000 15 0) (f 0xE000))

/-- Does the set include TTI_TX (R173, R224)? -/
def setsTti (set : SMap (Word × Word)) : Bool := set.any fun e => e.1 == 0x70010

/-- Every failure of validation (R171): the rules that the chapters place at STITCH, on the set that would
come into force. -/
def Part.stitchFaults (p : Part) (set : SMap (Word × Word)) : List StitchFault :=
  let q := p.withSet set
  p.lockFaults set ++ validateGlobal q ++ validateLine q.reg ++ validateMapping q ++
    validateOverhead q (setsTti set) ++ validateSeam q ++ validateTimekeeper q ++ validateTransfer q ++
    validateClient q ++ validateCirumlink q ++ validateLedger q ++ validatePower q ++ validateBackground q

/-- The rank of a status in R556. -/
def statusRank (st : Nat) : Nat := if st = stLocked then 0 else if st = stMode then 1 else if st = stParam then 2 else 3

/-- Is one failure reported before another (R556)? Among NO_RESOURCE failures the lowest DETAIL counts. -/
def StitchFault.before (a b : StitchFault) : Bool :=
  decide (statusRank a.status < statusRank b.status) || (statusRank a.status == statusRank b.status &&
    (if a.status = stNoRes then decide (a.detail < b.detail) else decide (a.offset < b.offset)))

/-- The failure that is reported (R556). -/
def firstFault : List StitchFault → Option StitchFault
  | [] => none
  | f :: r => match firstFault r with
    | none => some f
    | some g => if g.before f then some g else some f

/-- The named port, or PPS_OUT0, is enabled in the set in force when validation ends (R170). -/
def Part.boundaryOk (p : Part) (kind port : Nat) : Bool :=
  if kind = 1 ∨ kind = 2 then p.portOn port else if kind = 4 then p.bit (outReg 4 0) 31 else true


/-- In TRIM or DOZE the stitch wakes the domains it uses (R66). -/
def Part.wakeFor (p q : Part) : Part :=
  (List.range 148).foldl (fun (x : Part) n => if pdGroup n != 6 && q.pdUsed n then x.wakeDomain n else x) p

/-- STITCH (R171, R173, R556): another that waits, an empty set, the journal's allowance, validation. A
failure leaves the set basted. DESIGN CHOICE (log 103): RESULT0 is 0 where the set is empty and there is no boundary
(R173), and the offset reported is 0 where the named port or PPS_OUT0 is not enabled, of which no rule names the
faulty field (R170). -/
def stitch (t : Fin 1024) (p : Part) : Part :=
  let set := p.stitch.basted
  let kind := fieldOf (p.par t 0) 2 0
  let port := fieldOf (p.par t 0) 12 8
  if !p.runs t 0x0301 || p.waits t then p
  else if p.stitch.waiting.isSome then p.reject t stBusy 0
  else if set.isEmpty then (p.setTagState t .committed).done t 0#64 (p.reg stitchCountReg)
  else if p.journalFull (stitchBlocks set.length) then p.reject t stBusy 0
  else match firstFault (p.stitchFaults set ++ failIf (!p.boundaryOk kind port) (paramFail 0)) with
    | some f => p.reply t f.status f.detail (BitVec.ofNat 64 f.offset) 0#32
    | none =>
      let tti := if setsTti set then
          some (p.ttiTable (fieldOf (afterSet p set 0x70010) 30 0)) else none
      let at_ := (timeOfWords (p.par t 1) (p.par t 2) (p.par t 3)).getD 0
      let w : Waiting := { tag := t, kind := kind, port := port, time := at_, set_ := set, tti := tti, since := p.clk }
      let q : Part := { p with stitch := { p.stitch with waiting := some w, basted := [] } }
      q.wakeFor (p.withSet set)

/-- DPA ranges that change windows as TRACE_GIB changes read 0 (R94), and the CDAT entry-change indication is raised
(R96). -/
def Part.moveTrace (p : Part) (old : Nat) : Part :=
  if old = p.traceGib then p
  else
    let lo := min old p.traceGib
    let n := max old p.traceGib - lo
    { p with dram := p.dram.clearFrom (0x600000000 + lo * 2 ^ 30) (n * 2 ^ 30),
             host := { p.host with cdatChange := true } }

/-- A stitch set takes effect: every field at once, and what each chapter does at a stitch (R172). -/
def Part.applySet (p : Part) (set : SMap (Word × Word)) (tti : Option Memory) : Part :=
  let q := p.withSet set
  let q : Part := match tti with
    | some m => { q with pm := { q.pm with ttiTx := m } }
    | none => q
  let q := (q.moveTrace p.traceGib).lineStitched p.reg
  let q := ((((q.mappingStitched p).overheadStitched p).seamStitched p).timekeeperStitched p).transferStitched p
  let q := cirumlinkStitched (clientStitched q p.reg) p.reg set
  let q := (q.syncDepths.syncTx.addWrap stitchCountReg 1).signals
  { q with stitch := { q.stitch with inForce := true } }

/-- RESULT0 of a STITCH: nanoseconds and the seconds' low word of the boundary. -/
def Part.boundaryWord (p : Part) : Dword :=
  let ws := timeWords p.now
  joinWords (ws.getD 0 0#32) (ws.getD 1 0#32)

/-- Has the boundary that a waiting STITCH names come (R170)? A frame start, a frame start of MFAS 0 and a PPS edge
are taken 100 µs after validation at the earliest, a time boundary at or after its time. -/
def Part.boundaryDue (p : Part) (w : Waiting) : Bool :=
  match w.kind with
  | 0 => true
  | 3 => decide (w.time ≤ p.now)
  | k => decide (w.since + 25000 ≤ p.clk) && (k != 2 || (p.port w.port).txMfas == 0#8)

/-- STITCH_BOUNDARY (R170, R172): the boundary that the waiting STITCH names falls; an instant that is not one of
them changes nothing. -/
def stitchBoundary (p : Part) : Part :=
  match p.stitch.waiting with
  | none => p
  | some w =>
    if !p.boundaryDue w then p
    else
      let q : Part := { p.setTagState w.tag .committed with stitch := { p.stitch with waiting := none, unwritten := true } }
      let q := (q.applySet w.set_ w.tti).journalWrites (stitchBlocks w.set_.length)
      q.done w.tag q.boundaryWord (q.reg stitchCountReg)

/-- The SH fields in force that differ from reset, by register. -/
def Part.setInForce (p : Part) : SMap Word :=
  p.regs.filterMap fun e =>
    let m := shMask e.1
    if (e.2 ^^^ regReset e.1) &&& m = 0#32 then none else some (e.1, e.2 &&& m)

/-- STITCH_JOURNAL_WRITE (R172, R477): the stitched set is written; it needs HOLDUP_READY. -/
def stitchJournalWrite (p : Part) : Part :=
  if p.supply.holdup && p.stitch.unwritten then
    let q : Part := { p with journal := { p.journal with hasSet := true, set_ := p.setInForce } }
    { q with stitch := { p.stitch with unwritten := false } }
  else p

/-- The journaled set as a stitch set: every SH field at its journaled value (R61). -/
def Part.journalSet (p : Part) : SMap (Word × Word) :=
  let on := p.journal.set_.map fun e => (e.1, (shMask e.1, e.2))
  let off := p.regs.filterMap fun e =>
    let m := shMask e.1
    if (p.journal.set_.any fun f => f.1 == e.1) || (e.2 ^^^ regReset e.1) &&& m = 0#32 then none
    else some (e.1, (m, regReset e.1 &&& m))
  (on ++ off).foldl (fun b e => SMap.set (fun _ => (0#32, 0#32)) b e.1 e.2) []

/-! ### QUERY.LATENCY (R36, R300) -/

/-- An end of a path: a client port, or a tributary, with the latency outside the weft. -/
structure PathEnd where
  client : Bool
  num    : Nat
  lat    : Nat
  deriving DecidableEq, Repr

/-- The tributaries of a line port. -/
def Part.tribsOf (p : Part) (q : Nat) : List Nat := p.tribsOn.filter fun t => p.tribPort t == q

/-- The ends that a parameter word names: lanes, tributaries and client ports (R167). -/
def Part.pathEnds (p : Part) (w : Word) (rx : Bool) : List PathEnd :=
  let i := fieldOf w 11 0
  let o := fun a b : Nat => if rx then a else b
  let trib := fun (lat : Nat) (t : Nat) =>
    ({ client := false, num := t, lat := lat + (p.reg64 (tribReg t (o 0x38 0x30))).toNat } : PathEnd)
  match fieldOf w 15 12 with
  | 0 =>
    if 48 ≤ i then [] else match p.portOf i with
      | some q => (p.tribsOf q).map (trib (p.reg64 (laneReg i (o 0x50 0x58))).toNat)
      | none => []
  | 1 =>
    if 48 ≤ i then [] else match p.clientOf i with
      | some n => [{ client := true, num := n, lat := (p.reg64 (laneReg (48 + i) (o 0x50 0x58))).toNat }]
      | none => []
  | 2 =>
    if i < 1024 ∧ p.tribOn i = true then
      [trib (p.reg64 (lineReg (p.tribPort i) (o 0x40 0x48))).toNat i] else []
  | 3 =>
    if i < 48 ∧ p.clientOn i = true then
      [{ client := true, num := i, lat := (p.reg64 (macReg i (o 0x50 0x58))).toNat }] else []
  | _ => []

/-- The hold of a leg tributary in a delay-matched group, in 2^-16 ns (R300). -/
def Part.legHold (p : Part) (g t : Nat) : Nat :=
  match (List.range (p.seamLegs g)).find? fun k => p.legTrib g k == t with
  | some k => (p.reg (seamReg g (0x20 + 4 * k))).toNat * 4096
  | none => 0

/-- Is a tributary a leg of a group? -/
def Part.isLeg (p : Part) (g t : Nat) : Bool :=
  p.seamOn g && (List.range (p.seamLegs g)).any fun k => p.legTrib g k == t

/-- Is an end the END of a group? -/
def Part.isEnd (p : Part) (g : Nat) (e : PathEnd) : Bool :=
  p.seamOn g && p.endKind g == (if e.client then 1 else 2) && p.endIndex g == e.num

/-- The path from one end to the other through the weft, with the hold on it; none where it is not
stitched. -/
def Part.pathHold (p : Part) (a b : PathEnd) : Option Nat :=
  let leg := fun (x y : PathEnd) => !x.client && p.destKind x.num == 3 &&
    p.isLeg (p.destIndex x.num) x.num && p.isEnd (p.destIndex x.num) y
  let direct := fun (x y : PathEnd) => !x.client &&
    p.destKind x.num == (if y.client then 1 else 2) && p.destIndex x.num == y.num
  if direct a b || direct b a then some 0
  else if leg a b then some (if p.seamMatched (p.destIndex a.num) then p.legHold (p.destIndex a.num) a.num else 0)
  else if leg b a then some 0
  else none

/-- The latency of a path (R36): its ends, the weft and the hold. Among several, that of the lowest
tributaries (log 25). -/
def Part.pathLatency (p : Part) (a b : Word) : Option Nat :=
  ((p.pathEnds a true).flatMap fun x => (p.pathEnds b false).filterMap fun y =>
    (p.pathHold x y).map fun h => x.lat + (p.segDelay 2240).toNat + h + y.lat).head?

/-- QUERY.LATENCY (R36, R167). The faulty parameter word is P0 where it names no end of a stitched path, else P1
(R166). -/
def queryLatency (t : Fin 1024) (p : Part) : Part :=
  if !p.runs t 0x0501 then p
  else match p.pathLatency (p.par t 0) (p.par t 1) with
    | some n => p.done t (BitVec.ofNat 64 n) 0#32
    | none => p.reject t stParam (!(p.pathEnds (p.par t 0) true).isEmpty).toNat

/-! ### Meanings -/

/-- STITCH. -/
def execStitch (t : Fin 1024) (s : State) : Result := onPart (stitch t) s
/-- STITCH_BOUNDARY. -/
def execStitchBoundary (s : State) : Result := onPart stitchBoundary s
/-- STITCH_JOURNAL_WRITE. -/
def execStitchJournalWrite (s : State) : Result := onPart stitchJournalWrite s
/-- QUERY_LATENCY. -/
def execQueryLatency (t : Fin 1024) (s : State) : Result := onPart (queryLatency t) s

end Sys2Proof.Machine
end

