-- ==== Sys2Proof/Machine/Modes.lean ====
section
/-! DEFINITION. The MODE class and mode transitions: MODE.ENTER, DRAIN, RENEW and resume (R54 to R77, R167,
R299, R498). -/

namespace Sys2Proof.Machine

/-- Does R54 let a MODE.ENTER take the part from its mode to a target? FREEZE is always taken, and DRAIN is
left only as it ends (R76). -/
def Part.mayEnter (p : Part) (m : Mode) : Bool :=
  match p.md.cur with
  | .inert => [Mode.dormant, .attest, .fit, .prove].contains m
  | .attest => [Mode.inert, .fit].contains m
  | .fit => m == .inert || m == .prove || ((m == .listen || m == .carry) && p.stitch.inForce)
  | .listen => [Mode.carry, .fit, .inert, .drain, .prove].contains m
  | .carry => [Mode.trim, .doze, .drain].contains m || (m == .renew && p.otherBank.use == .staged)
  | .trim => [Mode.carry, .doze, .drain].contains m || (m == .renew && p.otherBank.use == .staged)
  | .doze => [Mode.carry, .trim, .drain].contains m || (m == .renew && p.otherBank.use == .staged)
  | .prove => m == .fit
  | .freeze => m == .inert
  | .drain => false
  | .renew => false
  | .dormant => false

/-- The fault information of MODE.ENTER FREEZE (R484, R485): code 0x20, software. -/
def Part.softFreeze (p : Part) : FaultInfo :=
  { code := 0x20, island := 0xFF, cls := 2, detail := 0#32, decision := 0#32, mode := p.md.cur, time := p.now }

/-- MODE.ENTER (R54, R56). -/
def modeEnter (t : Fin 1024) (p : Part) : Part :=
  if !p.runs t 0x0101 then p
  else match Mode.ofCode (fieldOf (p.par t 0) 3 0) with
    | none => p.reject t stParam 0
    | some m =>
      if m = .freeze then ((p.setTagState t .committed).toFreeze p.softFreeze).done t 11#64 0#32
      else if p.md.trans.isSome then p.reject t stBusy 0
      else if m = p.md.cur then p.done t (BitVec.ofNat 64 m.code) 0#32
      else if p.md.cur = .drain ∨ p.coresAway = true then p.reject t stBusy 0
      else if !p.mayEnter m then p.reject t stMode p.md.cur.code
      else
        let first := if p.md.cur = .fit ∧ m = .carry then Mode.listen else m
        let fin := (Mode.ofCode (fieldOf (p.par t 0) 7 4)).getD .inert
        let q := p.setTagState t .committed
        { q with md := { q.md with trans := some { target := first, dest := m, tag := some t.val },
                                   final := if m = .drain then fin else q.md.final } }

/-! ### DRAIN (R67) -/

/-- The drain ends: every ledger is audited (R458), the event names the notices still unacknowledged, the
transmitters go inert and the final mode is entered next. -/
def Part.drainDone (p : Part) : Part :=
  let left := p.md.unacked
  let q := p.auditAll.emit (.words "DRAIN_COMPLETE" p.md.final.code (left.map (BitVec.ofNat 32)))
  let q := q.announce 2 "DRAIN_COMPLETE" p.md.final.code (BitVec.ofNat 64 left.length)
  let q : Part := { q with md := { q.md with trans := some { target := q.md.final, dest := q.md.final } } }
  ((q.stopReceivers q.lanesOff).clientMode).syncTx.signals

/-- Entry into DRAIN: a leg-retire notice to the tail of every group headed, a notice to the twin in slot 0
(R420), and the end at once where none was sent. -/
def Part.beginDrain (p : Part) : Part :=
  let gs := p.seamsOn
  let q := gs.foldl (fun (x : Part) g =>
    x.announceRetire g (BitVec.ofNat 3 (2 ^ x.seamLegs g - 1))) p
  let q : Part := { q with md := { q.md with
    unacked := gs.map (· * 4) ++ (if q.paired then [0xFFFF] else []) } }
  if q.md.unacked.isEmpty then q.drainDone else q

/-- DRAIN_COMPLETE: every notice has been acknowledged. -/
def drainComplete (p : Part) : Part :=
  if p.md.cur = .drain ∧ p.md.trans.isNone = true ∧ p.md.unacked.isEmpty = true then p.drainDone else p

/-- DRAIN_TIMEOUT (R67, R299): each unacknowledged notice is counted, a retirement in the domain ledger. -/
def drainTimeout (p : Part) : Part :=
  if p.md.cur = .drain ∧ p.md.trans.isNone = true then
    (p.md.unacked.foldl (fun (x : Part) u =>
      if u = 0xFFFF then x.count 0xD001 0x41 1 else (x.endRetire (u / 4)).count 0xA000 0x40 1) p).drainDone
  else p

/-! ### RENEW (R69 to R71, R498) -/

/-- RENEW begins: the cores restart on the staged image and the SPDM sessions end with them. -/
def Part.beginRenew (p : Part) : Part :=
  let q := p.restartCores
  { q with md := { q.md with source := p.md.cur, renewAt := p.clk, restoring := false, coresOut := true },
           host := { q.host with sessions := 0 } }

/-- The cores are back after fault 0x07 (R484): what waited goes on, and the fault's message is raised. -/
def Part.coresBack (p : Part) : Part :=
  let q : Part := { p with md := { p.md with coresOut := false } }
  let q := (((q.tkMode .renew).ringMode .renew).domainMode .renew).coresReturn
  let q := if q.bit backHistReg 31 then q.message 2 else q
  q.signals

/-- RENEW_IMAGE_RUNNING (R70, R71, R498): the new image, or the restored one, runs on all four cores. -/
def renewImageRunning (p : Part) : Part :=
  if p.md.cur = .renew then
    let q := if p.md.restoring then p else p.adoptOther .previous
    let q : Part := { q with md := { q.md with coresOut := false, restoring := false } }
    (q.enterMode q.md.source).coresReturn.closeForced
  else if p.md.coresOut then p.coresBack
  else p

/-- RENEW_TIMEOUT (R71, R498): the staged image has failed, and the previous one is restored. -/
def renewTimeout (p : Part) : Part :=
  if p.md.cur = .renew ∧ p.md.restoring = false then
    let q := p.failStaged
    { q with md := { q.md with restoring := true } }.announce 2 "RENEW_FAILED" 0 0#64
  else p

/-- FIRMWARE_FAULT (R71, R484): the restored image does not run either. -/
def firmwareFault (p : Part) : Part :=
  if p.md.cur = .renew ∧ p.md.restoring = true then p.uncontainedFault 0x14 0xFF 0#32 else p

/-! ### Reaching a mode (R54, R61) -/

/-- The mode after `m` on the way to a destination (R54, R61). -/
def nextMode (m : Mode) : Mode :=
  match m with
  | .inert => .fit
  | .fit => .listen
  | _ => .carry

/-- Mode `m` is entered, with what its row of R54 does. -/
def Part.arrive (p : Part) (m : Mode) : Part :=
  match m with
  | .drain => (p.enterMode .drain).beginDrain
  | .renew => p.beginRenew.enterMode .renew
  | .inert => if p.md.cur = .freeze then p.leaveFreeze else p.enterMode .inert
  | _ => p.enterMode m

/-- Step 2 of resume (R61): the journaled set comes into force, and nothing is written. -/
def Part.resumeSet (p : Part) : Part := p.applySet p.journalSet none

/-- MODE_REACHED (R54, R61): the transition completes, or its next part begins. A wake ends by
WAKE_COMPLETE. -/
def modeReached (p : Part) : Part :=
  match p.md.trans with
  | none => p
  | some tr =>
    let reply := fun q : Part => match tr.tag with
      | some t => q.done t (BitVec.ofNat 64 tr.dest.code) 0#32
      | none => q
    if p.md.cur = .dormant then p
    else if tr.target = .dormant then (reply p).toDormant
    else
      let onward := if tr.target = tr.dest then none else some { tr with target := nextMode tr.target }
      let q := { p with md := { p.md with trans := onward } }.arrive tr.target
      let q := if q.md.resuming ∧ q.md.cur = .fit then q.resumeSet else q
      let q := if onward.isNone then reply { q with md := { q.md with resuming := false } } else q
      q.closeForced

/-- RESUME_START (R61): on reaching INERT after a wake with resume armed. With no stitched set in the journal
the part stops in FIT. -/
def resumeStart (p : Part) : Part :=
  if p.md.cur = .inert ∧ p.md.trans.isNone = true ∧ p.journal.resume = true ∧ p.md.woken = true then
    let dest := if !p.journal.hasSet then Mode.fit else if p.journal.resumeCarry then .carry else .listen
    { p with md := { p.md with woken := false, resuming := p.journal.hasSet, trans := some { target := .fit, dest := dest } } }
  else p

/-! ### MODE.STATE and MODE.RESUME (R167) -/

/-- MODE.STATE. -/
def modeState (t : Fin 1024) (p : Part) : Part :=
  if !p.runs t 0x0102 then p
  else p.done t (BitVec.ofNat 64 (fieldOf p.modeStatus 7 0)) p.modeSeconds

/-- MODE.RESUME (R61): the setting goes into the journal. -/
def modeResume (t : Fin 1024) (p : Part) : Part :=
  if !p.runs t 0x0103 then p
  else
    let w := p.par t 0
    let q := (p.setTagState t .committed).journalWrites 1
    { q with journal := { q.journal with resume := w.getLsbD 0,
                                         resumeCarry := w.getLsbD 0 && w.getLsbD 1 } }.done t 0#64 0#32

/-! ### Meanings -/

/-- MODE_ENTER. -/
def execModeEnter (t : Fin 1024) (s : State) : Result := onPart (modeEnter t) s
/-- MODE_REACHED. -/
def execModeReached (s : State) : Result := onPower modeReached s
/-- DRAIN_COMPLETE. -/
def execDrainComplete (s : State) : Result := onPart drainComplete s
/-- DRAIN_TIMEOUT. -/
def execDrainTimeout (s : State) : Result := onPart drainTimeout s
/-- RENEW_IMAGE_RUNNING. -/
def execRenewImageRunning (s : State) : Result := onPart renewImageRunning s
/-- RENEW_TIMEOUT. -/
def execRenewTimeout (s : State) : Result := onPart renewTimeout s
/-- FIRMWARE_FAULT. -/
def execFirmwareFault (s : State) : Result := onPart firmwareFault s
/-- RESUME_START. -/
def execResumeStart (s : State) : Result := onPart resumeStart s
/-- MODE_STATE. -/
def execModeState (t : Fin 1024) (s : State) : Result := onPart (modeState t) s
/-- MODE_RESUME. -/
def execModeResume (t : Fin 1024) (s : State) : Result := onPart (modeResume t) s

end Sys2Proof.Machine
end

