-- ==== Sys2Proof/Machine/Supply.lean ====
section
/-! DEFINITION. Power-on, supply loss and the last gasp, the reset pins, wakes and the boot ROM (R52 to R61,
R421, R498, R507 to R521, R541, R548). -/

namespace Sys2Proof.Machine

/-! ### Wakes (R55, R520, R541, R548) -/

/-- The TAP holds an instruction that holds a wake (R548). -/
def Part.tapHolds (p : Part) : Bool :=
  match p.jtag.instr with
  | .extest | .extestPulse | .extestTrain | .clamp | .highz => true
  | _ => false

/-- A wake event in DORMANT: the wake starts with the straps sampled, or is held until PWRGOOD or until the
TAP lets it. RST_N low prevents every wake. -/
def Part.startWake (p : Part) (strap : BitVec 3) : Part :=
  if p.md.cur ≠ .dormant ∨ p.md.trans.isSome = true ∨ p.supply.loss.isSome = true ∨ p.supply.vin = false ∨
      p.supply.rstN = false then p
  else if !p.supply.pwrgood || p.tapHolds then { p with supply := { p.supply with wakeHeld := true } }
  else
    ({ p with supply := { p.supply with wakeHeld := false, strap := strap },
              md := { p.md with trans := some { target := .inert, dest := .inert } },
              journal := { p.journal with fallback := false } }.setReg 0x010 (strap.setWidth 32)).setReg 0x004
      p.journal.subsys

/-- A held wake starts once nothing holds it; the straps are those sampled then. -/
def Part.heldWake (p : Part) (strap : BitVec 3) : Part := if p.supply.wakeHeld then p.startWake strap else p

/-! ### Power-on (R507, R510, R519, R520) -/

/-- VIN_RISE: the limiter starts; the part is in DORMANT with the test access port reset. During a last gasp
VIN recovers, and power-on follows the sequence's end (R517). -/
def vinRise (p : Part) : Part :=
  if p.supply.vin then p
  else if p.supply.loss.isSome then { p with supply := { p.supply with vin := true } }
  else { p with supply := { p.supply with vin := true, limiter := false, pwrgood := false, holdup := false },
                jtag := {} }

/-- LIMITER_ON. -/
def limiterOn (p : Part) : Part :=
  if p.supply.vin && p.supply.loss.isNone then { p with supply := { p.supply with limiter := true } } else p

/-- PWRGOOD_RELEASE (R55, R519, R520, R541): NODE_STRAP is sampled, and a held wake starts, or one that the pins
ask for. -/
def pwrgoodRelease (strap : BitVec 3) (p : Part) : Part :=
  if !p.supply.limiter || p.supply.pwrgood || p.supply.loss.isSome then p
  else
    let q : Part := { p with supply := { p.supply with pwrgood := true, strap := strap } }
    if q.supply.wakeHeld || (q.supply.rstN && q.supply.perstN) then q.startWake strap else q

/-- The usable hold-up energy of a charged store, in 0.1 mJ: between the 48 mJ that R515 guarantees and the
64 mJ of R509 (log 2). -/
def Part.chargeHoldup (p : Part) : Part :=
  (p.setReg 0x6008 (BitVec.ofNat 32 (480 + p.freshValue.toNat % 161))).useFree

/-- HOLDUP_READY (R520). POWER.HOLDUP lies in the HUB island, and shows the charge while that is powered. -/
def holdupReady (p : Part) : Part :=
  if !p.supply.pwrgood || p.supply.holdup || p.supply.loss.isSome then p
  else
    let q : Part := { p with supply := { p.supply with holdup := true } }
    if q.md.cur = .dormant ∧ q.md.trans.isNone = true then q else q.chargeHoldup

/-! ### Supply loss (R514 to R518) -/

/-- SUPPLY_LOSS (R507, R514): PWRGOOD low, every island off but HUB, TIME and RING, outputs inert; RING keeps
sending slot 0, from the ring position sampled. A journal write in progress completes. -/
def supplyLoss (overrange : Bool) (p : Part) : Part :=
  if !p.supply.vin || p.supply.loss.isSome then p
  else
    let l : LossSeq := { cause := if overrange then 2 else 1, mode := p.md.cur, time := p.now,
                         stitch := p.reg stitchCountReg, notices := 0, record := p.supply.holdup,
                         setPending := p.stitch.unwritten }
    let s : Supply := { p.supply with vin := false, limiter := false, pwrgood := false, holdup := false,
                                      wakeHeld := false, warm := false, noImage := false, loss := some l,
                                      alertSensors := 0#16, hostFenced := false }
    { p.toDormant with supply := s, regs := p.regs.filter fun e => e.1 == 0x10 || decide (0xD000 ≤ e.1) && decide (e.1 < 0x13000),
                       links := p.links, twin := p.twin, domain := p.domain, time := p.time }

/-- The last-gasp record (R518). -/
def Part.gaspWords (p : Part) (l : LossSeq) : List Word :=
  let ws := [BitVec.ofNat 32 (2 ^ 24 + l.cause * 2 ^ 16 + l.mode.code), p.journal.lossCount + 1#32] ++
    timeWords l.time ++ [l.stitch, BitVec.ofNat 32 (2 ^ 31 + l.setPending.toNat * 2 ^ 30 + l.notices % 2 ^ 16)]
  ws ++ [crc32c (bytesOfWords ws)]

/-- LAST_GASP_RECORD_WRITE (R517, R518): only where HOLDUP_READY was 1 at the loss. -/
def lastGaspRecordWrite (p : Part) : Part :=
  match p.supply.loss with
  | some l =>
    if l.record then
      { p with supply := { p.supply with loss := some { l with record := false } },
               journal := { p.journal with gasp := p.gaspWords l, gaspNew := true,
                                           lossCount := p.journal.lossCount + 1#32 } }
    else p
  | none => p

/-- LAST_GASP_POWER_OFF (R464, R514, R517): HUB, TIME and RING power off and the epoch ends. -/
def lastGaspPowerOff (p : Part) : Part :=
  if p.supply.loss.isNone then p
  else { p.toDormant with supply := { p.supply with loss := none }, jtag := {} }

/-! ### RST_N and PERST_N (R54, R55, R517, R521) -/

/-- RST_N_LOW (R521): the part enters DORMANT and a wake under way ends; a last gasp goes on. -/
def rstNLow (p : Part) : Part :=
  if p.supply.loss.isSome then { p with supply := { p.supply with rstN := false } }
  else
    let q := p.toDormant
    { q with supply := { q.supply with rstN := false, wakeHeld := false } }

/-- RST_N_RISE (R55): a wake event while PERST_N is released. -/
def rstNRise (strap : BitVec 3) (p : Part) : Part :=
  if p.supply.rstN then p
  else
    let q : Part := { p with supply := { p.supply with rstN := true } }
    if q.supply.perstN then q.startWake strap else q

/-- PERST_N_RELEASE (R55, R83, R503): the HOST island leaves reset where it is powered, and GLOBAL.IDENTITY
takes the journaled IDs; in DORMANT a wake event. -/
def perstNRelease (strap : BitVec 3) (p : Part) : Part :=
  if p.supply.perstN then p
  else
    let q : Part := { p with supply := { p.supply with perstN := true } }
    if q.md.cur = .dormant then q.startWake strap else q.setReg 0x004 q.journal.subsys

/-- CIRUMLINK_WAKE_RX (R55, R421). -/
def cirumlinkWakeRx (_ : Fin 2) (strap : BitVec 3) (p : Part) : Part := p.startWake strap

/-! ### Boot (R54, R84, R495, R498, R499) -/

/-- The HUB island's registers as Mbowyn reports running: what comes from the straps, the journal and the
trained memory. -/
def Part.startup (p : Part) : Part :=
  let q := (List.range 64).foldl (fun (x : Part) c =>
    let used := (x.journal.retiredRows.filter fun k => k / 2 ^ 24 == c).length
    (x.setField (chReg c) 28 16 (4096 - used)).setBit (chReg c) 31 true) p
  let q := q.setReg 0xA00C (BitVec.ofNat 32 q.journal.retiredRows.length)
  let q := if q.supply.holdup then q.chargeHoldup else q
  if q.journal.gaspNew then { q with journal := { q.journal with gaspNew := false } }.powerHist 2 else q

/-- The wake reaches INERT on the image that runs. WARMING reads 0 where the oven has stayed warm (R346). -/
def Part.booted (p : Part) : Part :=
  let p := if p.supply.warm then p.setBit (tkReg 0x10) 4 false else p
  let q : Part := { p with supply := { p.supply with noImage := false },
                           md := { p.md with trans := none, woken := p.journal.resume } }
  q.startup.enterMode .inert

/-- WAKE_COMPLETE (R54, R498): the boot ROM has checked the banks (CRC and signature good, by bank). The STAGED
image runs where it passes, else the ACTIVE one, else a PREVIOUS or STAGED one at or above the floor; with none
the part stays in DORMANT. -/
def wakeComplete (crc0 sig0 crc1 sig1 : Bool) (p : Part) : Part :=
  if p.md.cur ≠ .dormant ∨ p.md.trans.isNone = true then p
  else
    let bits := fun a b : Bool => BitVec.ofNat 2 (a.toNat + 2 * b.toNat)
    let q : Part := { p with supply := { p.supply with bootCrc := bits crc0 crc1, bootSig := bits sig0 sig1 } }
    let pass := fun one : Bool => if one then crc1 && sig1 else crc0 && sig0
    let o := q.otherBank
    let fine := pass (!q.journal.activeOne) && decide (q.journal.floor ≤ o.svn)
    if o.use = .staged ∧ fine = true then (q.adoptOther .previous).booted
    else if pass q.journal.activeOne && q.activeBank.use == .active then q.booted
    else if (o.use = .previous ∨ o.use = .staged) ∧ fine = true then
      let r := q.adoptOther .failed
      ({ r with journal := { r.journal with fallback := true } }.hist secHistReg 1 10).booted
    else
      let r := q.toDormant
      { r with supply := { r.supply with noImage := true } }

/-- BOOT_FALLBACK (R498): the staged image has not reported running; its bank is FAILED. -/
def bootFallback (p : Part) : Part :=
  if p.md.cur = .dormant ∧ p.md.trans.isSome = true ∧ p.otherBank.use = .staged then
    let q := p.failStaged
    { q with journal := { q.journal with fallback := true } }.hist secHistReg 1 10
  else p

/-! ### Meanings -/

/-- VIN_RISE. -/
def execVinRise (s : State) : Result := onPart vinRise s
/-- LIMITER_ON. -/
def execLimiterOn (s : State) : Result := onPart limiterOn s
/-- PWRGOOD_RELEASE. -/
def execPwrgoodRelease (strap : BitVec 3) (s : State) : Result := onPart (pwrgoodRelease strap) s
/-- HOLDUP_READY. -/
def execHoldupReady (s : State) : Result := onPart holdupReady s
/-- SUPPLY_LOSS. -/
def execSupplyLoss (high : Bool) (s : State) : Result := onPower (supplyLoss high) s
/-- LAST_GASP_RECORD_WRITE. -/
def execLastGaspRecordWrite (s : State) : Result := onPart lastGaspRecordWrite s
/-- LAST_GASP_POWER_OFF. -/
def execLastGaspPowerOff (s : State) : Result := onPart lastGaspPowerOff s
/-- RST_N_LOW. -/
def execRstNLow (s : State) : Result := onPower rstNLow s
/-- RST_N_RISE. -/
def execRstNRise (strap : BitVec 3) (s : State) : Result := onPart (rstNRise strap) s
/-- PERST_N_RELEASE. -/
def execPerstNRelease (strap : BitVec 3) (s : State) : Result := onPart (perstNRelease strap) s
/-- CIRUMLINK_WAKE_RX. -/
def execCirumlinkWakeRx (k : Fin 2) (strap : BitVec 3) (s : State) : Result := onPart (cirumlinkWakeRx k strap) s
/-- WAKE_COMPLETE. -/
def execWakeComplete (c0 s0 c1 s1 : Bool) (s : State) : Result := onPart (wakeComplete c0 s0 c1 s1) s
/-- BOOT_FALLBACK. -/
def execBootFallback (s : State) : Result := onPart bootFallback s

end Sys2Proof.Machine
end

