-- ==== Sys2Proof/Machine/HostReset.lean ====
section
/-! DEFINITION. The HOST island: the levels of the event groups, MSI-X set-up, its resets, its fault, and the
scrub of configuration and state SRAM (R43, R88, R90, R101, R102, R128, R137, R179, R399, R475, R484, R555). -/

namespace Sys2Proof.Machine

/-! ### Levels of the event groups (R555) -/

/-- The group and the set bits of a history or event register that its enable lets raise it; group 12 for any
other register. -/
def Part.histLevel (p : Part) (o : Nat) : Nat × Word :=
  let b := o / 0x1000
  let irq := fun (g hi : Nat) => (g, if p.bit o 31 then p.reg o &&& bitsMask hi 0 else 0#32)
  if o = powerHistReg then irq 2 2
  else if o = backHistReg then irq 2 4
  else if b = 3 ∧ o % 16 = 4 then
    let n := (o - 0x3000) / 16
    (if n < 16 ∧ n % 2 = 1 then 3 else if n = 25 ∨ n = 27 then 11 else 12,
      if p.bit (o + 8) 0 then p.reg o &&& 1#32 else 0#32)
  else if o = tkReg 0x14 then irq 4 8
  else if b = 0x10 ∧ o % 128 = 0x24 then irq 4 6
  else if b = 0x78 ∧ o < 0x78600 ∧ o % 64 = 0x14 then irq 4 2
  else if o = 0x11D90 then irq 5 3
  else if 0x20 ≤ b ∧ b ≤ 0x37 ∧ o % 0x1000 = 0x24 then (6, p.reg o &&& p.reg (o + 4))
  else if 0x50 ≤ b ∧ b ≤ 0x5F ∧ o % 64 = 0x18 then irq 6 2
  else if 0x68 ≤ b ∧ b ≤ 0x6A ∧ o % 256 = 0xC then irq 6 4
  else if 0x75 ≤ b ∧ b ≤ 0x76 then
    (6, if p.bit (pointCfg ((o - 0x75000) / 4)) 26 then p.reg o &&& bitsMask 31 16 else 0#32)
  else if b = 0x77 ∧ 0x77100 ≤ o ∧ o < 0x77300 then
    (6, if p.bit 0x77300 ((o - 0x77100) / 256) then p.reg o else 0#32)
  else if o = 0x7002C then (7, p.reg o &&& 1#32)
  else if 0x60 ≤ b ∧ b ≤ 0x67 ∧ o % 64 = 0x18 then irq 8 6
  else if o = ledgerHistReg then irq 9 2
  else if o = fabricHistReg then irq 9 1
  else if o = 0x1030 then (9, p.reg o &&& p.reg 0x1034)
  else if o = memHistReg then irq 10 3
  else if o = secHistReg then irq 10 3
  else if o = 0xD11C then irq 11 1
  else (12, 0#32)

/-- GROUP_PEND (R144, R555). -/
def Part.groupPend (p : Part) (g : Nat) : Bool :=
  if g = 0 then p.reg 0x4014 != p.reg 0x4018
  else if g = 1 then !p.steer.queue.isEmpty
  else p.regs.any fun e =>
    let l := p.histLevel e.1
    l.1 == g && l.2 != 0#32

/-- GROUP_PEND as a word. -/
def Part.pendWord (p : Part) : Word :=
  BitVec.ofNat 32 (((List.range 12).map fun g => (p.groupPend g).toNat * 2 ^ g).sum)

/-- A vector that its mask bit or its entry has opened is sent where its PBA bit is set, as PCIe has it (log 26). -/
def Part.sendPba (p : Part) (v : Fin 64) : Part :=
  if p.host.pba.getLsbD v && p.host.msixEn && !p.vectorShut v then
    { p with host := { p.host with pba := setBit64 p.host.pba v false } }.formVector v (p.holdoff v)
  else p

/-- MSIX_ENABLE_SET (R43, R88, R555): Message Control is written with MSI-X Enable and the Function Mask `fmask`, which
PCIe has beside it (PRESUMED, log 30): Enable that was clear forms a message for each group that is pending, a
Function Mask that clears lets vectors out whose PBA bit is set, and one that sets masks vector 1 with the others. -/
def msixEnableSet (fmask : Bool) (p : Part) : Part :=
  if !p.hostPowered || !p.host.linkUp then p
  else
    let was := p.host.msixEn
    let q : Part := { p with host := { p.host with msixEn := true, fmask := fmask } }
    let q := if p.host.fmask && !fmask then (List.finRange 64).foldl Part.sendPba q else q
    let q := if was then q
      else (List.range 12).foldl (fun (x : Part) g => if x.groupPend g then x.message g else x) q
    q.closeForced

/-- A word of BAR4: the MSI-X table from 0x0000, 16 bytes a vector, and the PBA from 0x8000 (R85, R88). -/
def Part.bar4Word (p : Part) (o : Nat) : Word :=
  let v := o / 16
  let e := SMap.get (fun _ => (0#64, 0#32)) p.host.table v
  if o < 0x400 then
    match o / 4 % 4 with
    | 0 => loWord e.1
    | 1 => hiWord e.1
    | 2 => e.2
    | _ => BitVec.ofNat 32 (p.host.masked.getLsbD v).toNat
  else if o / 4 = 0x2000 then loWord p.host.pba
  else if o / 4 = 0x2001 then hiWord p.host.pba
  else 0#32

/-- MSIX_VECTOR_MASK_WRITE: an access to BAR4 (R43, R85, R88). A write may open its vector; masking vector 1 closes
every open decision. -/
def msixAccess (a : MsixAccess) (p : Part) : Part :=
  if !p.bar4Up then p
  else match a with
    | .mask v m =>
      ({ p with host := { p.host with masked := setBit64 p.host.masked v m } }.sendPba v).closeForced
    | .entry v addr d =>
      { p with host := { p.host with table := SMap.set (fun _ => (0#64, 0#32)) p.host.table v (addr, d),
                                     programmed := setBit64 p.host.programmed v true } }.sendPba v
    | .read o => p.emit (.words "BAR4" o [p.bar4Word o])

/-! ### Reset of the HOST island (R101, R102, R128, R137, R179, R399) -/

/-- Every tag in flight is closed with one outcome: a held reply goes to the undelivered list, a tag before its
commit point is ABORTED, and a committed one runs on (R102, R159). -/
def Part.closeTags (p : Part) : Part :=
  let q := p.cmd.held.foldl (fun (x : Part) h => x.undeliver h.tag h.words)
    { p with cmd := { p.cmd with held := [] } }
  q.cmd.tags.foldl (fun (x : Part) e => if x.abortable e.1 then x.stopTag e.1 stAborted 3
    else if (x.tag e.1).st = .committed then x.setTag e.1 { x.tag e.1 with late := true } else x) q

/-- The HOST island is reset: link, configuration space, MSI-X, HDM decoder, IDE streams, SPDM sessions and the
reply ring's registers. DESIGN CHOICE (log 80): the CDAT entry-change indication stays. -/
def Part.hostReset (p : Part) : Part :=
  let q : Part := { p with host := { cdatChange := p.host.cdatChange } }
  (q.closeTags.clearRegs 0x4008 0x401C).closeForced

/-- CXL_LINK_DOWN (R101): a hot reset or a link-down. -/
def cxlLinkDown (p : Part) : Part := if p.host.linkUp then p.hostReset else p

/-- PERST_N_ASSERT (R55, R59, R101): the HOST island is reset, the host restarts as a requester, and its rings
and pools are disabled; the mode stays, and a wake under way goes on. -/
def perstNAssert (p : Part) : Part :=
  let q : Part := { p with supply := { p.supply with perstN := false } }
  if q.hostPowered then (q.hostReset.restart .host).tapsOff else q

/-- Fault 0x05 (R52, R484): fault fence and reset of the HOST island; ALERT_N asserts. -/
def hostIslandFault (detail : Word) (p : Part) : Part :=
  p.containedFault 5 27 0 detail fun (q : Part) =>
    let r := (((q.noteFence 5 27).faultFence 27 {}).hostReset.restart .host).tapsOff
    { r with supply := { r.supply with hostFenced := true } }

/-! ### Scrub of SRAM (R475) -/

/-- The fault that an island's code stands for (R475, R484). -/
def Part.islandFault (p : Part) (i : Nat) : Part :=
  if i < 24 then p.sliceFault i 0#32
  else match i with
    | 24 => p.weftFault 0#32
    | 25 => p.memFault 0#32
    | 26 => p.uncontainedFault 0x11 26 0#32
    | 27 => hostIslandFault 0#32 p
    | _ => p.ringFault 0#32

/-- SRAM_SCRUB_PASS (R475): the pass and its reloads of stitched fields; a word of running state that cannot be
corrected makes its island's fault, with fault loss 0x03 where it held a counted quantity. -/
def sramScrubPass (reloads : Nat) (words : List (Fin 29 × Option Nat)) (p : Part) : Part :=
  if !p.backRuns then p
  else
    let q := (p.addWrapField 0xB008 15 0 1).addSatField 0xB008 31 16 reloads
    let q := if reloads = 0 then q else q.backHist 1
    words.foldl (fun (x : Part) w =>
      (match w.2 with | some led => x.faultLoss led 3 1 | none => x).islandFault w.1) q

/-! ### Meanings -/

/-- CXL_LINK_DOWN. -/
def execCxlLinkDown (s : State) : Result := onSignals cxlLinkDown s
/-- PERST_N_ASSERT. -/
def execPerstNAssert (s : State) : Result := onSignals perstNAssert s
/-- MSIX_ENABLE_SET. -/
def execMsixEnableSet (fmask : Bool) (s : State) : Result := onPart (msixEnableSet fmask) s
/-- MSIX_VECTOR_MASK_WRITE. -/
def execMsixVectorMaskWrite (a : MsixAccess) (s : State) : Result := onSignals (msixAccess a) s
/-- HDM_COMMIT. -/
def execHdmCommit (base size ways : Nat) (lock : Bool) (s : State) : Result :=
  onPart (fun p => (hdmSet base size ways lock p).limitDram) s
/-- HOST_ISLAND_FAULT. -/
def execHostIslandFault (d : Word) (s : State) : Result := onSignals (hostIslandFault d) s
/-- SRAM_SCRUB_PASS. -/
def execSramScrubPass (n : Nat) (ws : List (Fin 29 × Option Nat)) (s : State) : Result :=
  onSignals (sramScrubPass n ws) s

end Sys2Proof.Machine
end

