-- ==== Sys2Proof/Machine/Bus.lean ====
section
/-! DEFINITION. The register space as its requesters reach it: reads and writes through every path, held
and captured words, guards, thimbles, locks, basted writes, and the selvedges an access crosses (R84, R105 to
R147, R441 to R452, R525, R526, R551, R552). -/

namespace Sys2Proof.Machine

/-! ### Where a register lies (R444, R449, R526) -/

/-- The control selvedge a register lies behind, and the power domain that holds it; `none` is the HUB island
and no domain. -/
def Part.regPlace (p : Part) (o : Nat) : Option (Nat × Option Nat) :=
  let b := o / 0x1000
  let r := o % 0x1000
  let port : Nat → Nat → Option (Nat × Option Nat) := fun q pd =>
    let s := p.portFirst q / 2
    some (s, some (pd + s / 4))
  if b = 0xA then
    some (25, if 0x200 ≤ r ∧ r < 0x300 then some (129 + (r - 0x200) / 32) else none)
  else if b = 0xD then some (28, none)
  else if b = 0xF ∨ b = 0x10 then some (26, none)
  else if b = 0x12 then some (26, some (if r < 0x100 then 145 + r / 128 else 147))
  else if b = 0x11 then
    if r < 0xC00 then some (r / 128, some (115 + r / 512)) else none
  else if 0x20 ≤ b ∧ b ≤ 0x37 then port (b - 0x20) 48
  else if 0x40 ≤ b ∧ b ≤ 0x45 then
    let l := 8 * (b - 0x40) + r / 512
    some (l / 2, some l)
  else if 0x46 ≤ b ∧ b ≤ 0x4B then
    let l := 8 * (b - 0x46) + r / 512
    some (l / 2, some (54 + l))
  else if 0x50 ≤ b ∧ b ≤ 0x5F then port (p.tribPort ((o - 0x50000) / 64)) 108
  else if 0x60 ≤ b ∧ b ≤ 0x67 then some (24, some 114)
  else if 0x68 ≤ b ∧ b ≤ 0x6A then
    let n := (o - 0x68000) / 256
    some (n / 2, some (115 + n / 8))
  else if 0x6C ≤ b ∧ b ≤ 0x6F then
    let n := 12 * (b - 0x6C) + r / 256
    if r < 0xC00 then some (n / 2, some (115 + n / 8)) else none
  else if 0x71 ≤ b ∧ b ≤ 0x76 then
    let q := if b < 0x75 then (o - 0x71000) / 8 else (o - 0x75000) / 4
    match pointKind q with
    | .sm => port q 108
    | .odu => port (q - 24) 108
    | _ => port (p.tribPort (p.pointTrib q)) 108
  else if b = 0x78 then port (r / 64) 108
  else if b = 0x79 then if r < 0x300 then port (r / 32) 108 else none
  else none

/-- An access crosses the selvedge of its register: `true` where it is carried, which wakes a sleeping domain;
`false` where it is answered ABORT_CLEAN, by a fence, for a domain at D3, or for one that is being reset (R444, R450,
R525, R526, R528). -/
def Part.cross (p : Part) (o : Nat) : Part × Bool :=
  match p.regPlace o with
  | none => (p, true)
  | some (i, d) =>
    let asleep := match d with
      | some n => p.mode.slicesOn && p.pdDepth n == 3 || p.reloading i n
      | none => false
    if p.selvState i = 1 ∨ p.selvState i = 2 ∨ asleep = true then (p.selvClean i 1, false)
    else
      let q := match d with | some n => p.wakeDomain n | none => p
      (q.selvRequest i, true)

/-! ### What a register reads as -/

/-- The PEEK word of a thimble (R143). -/
def Part.peekWord (p : Part) (n : Nat) : Word :=
  match SMap.get (fun _ => none) p.access.owners n with
  | none => 0x10#32
  | some r => BitVec.ofNat 32 (2 ^ 31 + r.code)

/-- A word whose bit `j` is a test of `32 * k + j`. -/
def mapWord (k : Nat) (test : Nat → Bool) : Word :=
  BitVec.ofNat 32 (((List.range 32).map fun j => (test (32 * k + j)).toNat * 2 ^ j).sum)

/-- The value of a register word at this moment, with what other state shows in it. -/
def Part.readWord (p : Part) (o : Nat) : Word :=
  let b := o / 0x1000
  let r := o % 0x1000
  match regInfo o with
  | none => 0#32
  | some i =>
    match i.kind with
    | .thimble => p.peekWord (r / 4)
    | .guardVal => p.reg o
    | .guardCpl => ~~~(p.reg (o - 4))
    | .plain =>
      if b = 3 ∧ r % 16 = 4 then p.mbStat (r / 16)
      else if o = 0xF008 then p.selectWord
      else if b = 6 ∧ 0x100 ≤ r then p.pdWord ((r - 0x100) / 4)
      else if 0x20 ≤ b ∧ b ≤ 0x37 ∧ r = 0x10 then withBit (p.reg o) 4 (p.openFor 0 (b - 0x20)).isSome
      else if 0x20 ≤ b ∧ b ≤ 0x37 ∧ 0x80 ≤ r ∧ r < 0xA0 then p.memberWord (b - 0x20) ((r - 0x80) / 4)
      else if 0x40 ≤ b ∧ b ≤ 0x45 ∧ r % 512 = 0x10 then
        withField (p.reg o) 23 16 (p.txPid (8 * (b - 0x40) + r / 512))
      else if 0x46 ≤ b ∧ b ≤ 0x4B ∧ 0x20 ≤ r % 512 ∧ r % 512 < 0x48 then
        let l := 48 + 8 * (b - 0x46) + r / 512
        if p.fecLane l = l then p.reg o else 0#32
      else if b = 0x11 ∧ r < 0xC00 ∧ r % 64 = 0x10 then p.stampStatus (r / 64)
      else p.reg o &&& ~~~i.wo
    | .calc =>
      if o = 0x020 then p.modeStatus
      else if o = 0x024 then p.modeSeconds
      else if o = 0x030 then
        BitVec.ofNat 32 (p.stitch.waiting.isSome.toNat * 2 + (!p.stitch.basted.isEmpty).toNat)
      else if o = 0x1000 then mapWord 0 fun c => (SMap.get (fun _ => none) p.access.guards c).isSome
      else if b = 2 then p.peekWord ((r - 0x100) / 4)
      else if b = 3 then p.reg (mbReg (r / 16) 0)
      else if o = 0x4020 then BitVec.ofNat 32 p.tagsInFlight
      else if o = 0x4024 then BitVec.ofNat 32 p.cmd.held.length
      else if o = 0x4028 then BitVec.ofNat 32 p.cmd.undelivered.length
      else if b = 4 then mapWord ((r - 0x80) / 4) p.inFlight
      else if o = 0x5000 then p.pendWord
      else if 0x5100 ≤ o ∧ o < 0x5110 then p.decWords.getD ((r - 0x100) / 4) 0#32
      else if o = 0x5118 then BitVec.ofNat 32 p.steer.openDecs.length
      else if o = 0x511C then BitVec.ofNat 32 p.steer.queue.length
      else if o = 0x6000 then p.powerStatus
      else if o = 0x6054 then p.journal.lossCount
      else if b = 6 then p.journal.gasp.getD ((r - 0x60) / 4) 0#32
      else if o = 0x9008 then withBit (p.reg o) 30 (decide (p.clk < p.ledger.ckptEnd))
      else if o = 0x9010 then p.journal.ckptSerial
      else if b = 9 then p.ledgerWindow r
      else if o = 0xA000 then p.memStatus
      else if o = 0xB010 then BitVec.ofNat 32 (p.journal.spares % 2 ^ 10 + p.journal.relocs * 2 ^ 16)
      else if o = 0xB014 then BitVec.ofNat 32 p.wearMax
      else if o = 0xB018 then BitVec.ofNat 32 p.wearMin
      else if o = 0xC000 then p.fwStatusWord
      else if o = 0xC004 then p.activeBank.version
      else if o = 0xC008 then if p.otherBank.use = .empty then 0#32 else p.otherBank.version
      else if o = 0xC00C then p.svnWord
      else if o = 0xC0A4 then
        let k := p.keySlot (p.field 0xC0A0 7 0)
        BitVec.ofNat 32 ((k.kind != 0).toNat * 2 ^ 31 + k.kind % 256)
      else if o = 0xC0A8 then (p.keySlot (p.field 0xC0A0 7 0)).tag
      else if b = 0xC then mapWord ((r - 0x80) / 4) fun n => (p.keySlot n).kind != 0
      else if o = 0xE00C then SMap.get (fun _ => 0#32) p.domain.routes (p.field 0xE008 15 0)
      else if b = 0xF then (timeWords p.now).getD i.idx 0#32
      else if b = 0x11 then
        match p.spilling (r / 64), (p.stampSt (r / 64)).fifo with
        | false, e :: _ => e.getD i.idx 0#32
        | _, _ => 0#32
      else if b = 0x77 then mapWord (r / 4) fun q => p.reg (pointDef q) &&& bitsMask 31 16 != 0#32
      else 0#32

/-- The basted view of a register: its SH bits that are basted, else what it reads as (R125). -/
def Part.bastedWord (p : Part) (o : Nat) : Word :=
  let c := SMap.get (fun _ => (0#32, 0#32)) p.stitch.basted o
  mergeMask (p.readWord o) c.2 c.1

/-! ### Who can reach the register space -/

/-- Is an access of this requester carried (R50, R83, R98, R103, R448, R544)? -/
def Part.reaches (p : Part) (q : Req) : Bool :=
  match q with
  | .host => p.bar0Up
  | .mc0 | .mc1 | .mc2 | .mc3 => p.md.cur != .dormant && !p.coresAway
  | .smb | .jtag => p.md.cur != .dormant

/-- A granted access (R139, R445, R446). -/
def Part.granted (p : Part) (q : Req) : Part := p.grantTo (.req q)

/-- A host access before the part reaches INERT (R84). -/
def Part.early (p : Part) (q : Req) : Bool := q == .host && p.md.cur == .dormant

/-- The register-space offset a target names, if it names one. -/
def Target.off : Target → Option Nat
  | .native o => some o
  | .mask _ o => some o
  | .basted o => some o
  | .bit _ o => some o
  | .cxl _ => none
  | .unbacked => none

/-! ### Thimbles (R132 to R138) -/

/-- A thimble's owner replaced. -/
def Part.setOwner (p : Part) (n : Nat) (q : Option Req) : Part :=
  { p with access := { p.access with owners := SMap.set (fun _ => none) p.access.owners n q } }

/-- A native read of a thimble (R132, R133): the word and the part after it. -/
def Part.takeThimble (p : Part) (q : Req) (n : Nat) : Part × Word :=
  match q with
  | .smb | .jtag => (p, p.peekWord n)
  | _ =>
    match SMap.get (fun _ => none) p.access.owners n with
    | none => (((p.setOwner n (some q)).addWrap 0x2210 1).count 0x3000 0 1, BitVec.ofNat 32 (2 ^ 31 + 16 + q.code))
    | some r =>
      (p, BitVec.ofNat 32 ((if r = q then 2 ^ 31 else 0) + r.code))

/-- A native write of a thimble (R134). -/
def Part.leaveThimble (p : Part) (q : Req) (addr : BitVec 28) (n : Nat) : Part :=
  if SMap.get (fun _ => none) p.access.owners n = some q then
    ((p.setOwner n none).addWrap 0x2214 1).count 0x3000 1 1
  else p.lockViolation 2 q addr

/-- A completed guarded write of THIMBLE.BREAK (R136). -/
def Part.breakThimble (p : Part) (w : Word) : Part :=
  let n := fieldOf w 5 0
  match SMap.get (fun _ => none) p.access.owners n with
  | none => p
  | some r =>
    (((p.setOwner n none).addWrap 0x2218 1).count 0x3000 2 1).announce 9 "THIMBLE_BREAK" n (BitVec.ofNat 64 r.code)

/-! ### Reads -/

/-- Key of a requester's captured or held words. -/
def Req.key (q : Req) (o : Nat) : Nat := q.code * 2 ^ 20 + o

/-- A native read of a register word: what it returns, and its side effects (R108, R111, R132, R146, R182). -/
def Part.nativeRead (p : Part) (q : Req) (i : RegInfo) (o : Nat) : Part × Word :=
  if i.kind = .thimble then p.takeThimble q (o % 0x1000 / 4)
  else if i.words ≤ 1 ∨ i.kind = .guardVal ∨ i.kind = .guardCpl then (p, p.readWord o)
  else if i.idx = 0 then
    let ws := (List.range i.words).map fun k => p.readWord (o + 4 * k)
    let r : Part := { p with access := { p.access with
      captured := SMap.set (fun _ => []) p.access.captured (q.key o) (ws.drop 1) } }
    (if o = 0x5100 ∧ q = .host then r.popDecision else r, ws.getD 0 0#32)
  else
    (p, (SMap.get (fun _ => []) p.access.captured (q.key (o - 4 * i.idx))).getD (i.idx - 1) 0#32)

/-- The data of a read reaches its requester, and the check units that snoop it. -/
def Part.answer (p : Part) (q : Req) (addr : Nat) (w : Word) : Part :=
  (p.snoopBus q addr false w).emit (.data q w)

/-- A read that crosses a selvedge: the higher words of a captured register stand in the HUB island. -/
def Part.readAcross (p : Part) (q : Req) (addr : BitVec 28) (o : Nat) (f : Part → Part × Word) : Part :=
  let c := p.cross o
  if c.2 then
    let r := f c.1
    r.1.answer q addr.toNat r.2
  else (c.1.accessFault 6 q addr).answer q addr.toNat 0#32

/-- A read of BAR0 (R84, R105, R108, R111, R118, R120, R125). -/
def busRead (q : Req) (addr : BitVec 28) (p : Part) : Part :=
  if !p.reaches q then p
  else
    let p := p.granted q
    let t := decodeAddr addr.toNat
    match t.off with
    | none => p.answer q addr.toNat (match t with | .cxl o => p.cxlWord o | _ => 0#32)
    | some o =>
      match regInfo o with
      | none => p.answer q addr.toNat 0#32
      | some i =>
        if p.early q && o / 0x1000 != 0 then
          p.answer q addr.toNat (match t with | .bit b _ => BitVec.ofNat 32 (i.reset.getLsbD b).toNat | _ => i.reset)
        else
          match t with
          | .native _ =>
            if o / 0x1000 = 3 ∧ o % 16 = 0 then
              (mailboxRead q ⟨o / 16 % 32, Nat.mod_lt _ (by decide)⟩ p).snoopBus q addr.toNat false (p.reg o)
            else if 0 < i.idx ∧ i.idx < i.words ∧ i.kind ≠ .guardVal ∧ i.kind ≠ .guardCpl then
              let r := p.nativeRead q i o
              r.1.answer q addr.toNat r.2
            else if i.kind = .calc ∧ o / 0x1000 = 0x11 ∧ q = .host then
              let c := p.cross o
              if c.2 then (stampFifoPop ⟨o % 0x1000 / 64 % 48, Nat.mod_lt _ (by decide)⟩ c.1).snoopBus q addr.toNat false
                (c.1.readWord o)
              else (c.1.accessFault 6 q addr).answer q addr.toNat 0#32
            else p.readAcross q addr o fun x => x.nativeRead q i o
          | .bit b _ => p.readAcross q addr o fun x => (x, BitVec.ofNat 32 ((x.readWord o).getLsbD b).toNat)
          | .basted _ => p.readAcross q addr o fun x => (x, x.bastedWord o)
          | _ => p.readAcross q addr o fun x => (x, x.readWord o)

/-! ### Writes: the bits an access selects -/

/-- A write as it reaches a register: the bits it selects, their values, and whether it comes natively or
through a bit alias (R119, R120). -/
structure BusWrite where
  req    : Req
  addr   : BitVec 28
  direct : Bool
  alias_ : Bool
  deriving DecidableEq, Repr

/-- The selected bits and values of a mask-window write (R120). -/
def maskBits (high : Bool) (w : Word) : Word × Word :=
  let m := (w >>> 16)
  let d := w &&& 0xFFFF#32
  if high then (m <<< 16, d <<< 16) else (m, d)

/-- The selected bit and value of a bit-alias write (R119). -/
def aliasBits (b : Nat) (w : Word) : Word × Word :=
  (1#32 <<< b, if w.getLsbD 0 then 1#32 <<< b else 0#32)

/-- A register word after a write of its RW and W1C fields (R13, R122). A clear of the W1C bits in `keep`, which the
part has set at the same edge, loses (R110). -/
def mergedWord (i : RegInfo) (cur sel val keep : Word) (alias_ : Bool) : Word :=
  mergeMask cur val (sel &&& i.rw) &&& ~~~(i.w1c &&& sel &&& (if alias_ then ~~~val else val) &&& ~~~keep)

/-- Is a write to this register accepted in FREEZE (R112)? -/
def freezeAccepts (i : RegInfo) (o : Nat) : Bool :=
  let b := o / 0x1000
  b == 4 || ((b == 1 || b == 5) && i.w1c != 0#32) || o == 0x5004 || (decide (0x100 ≤ o) && decide (o < 0x110)) ||
    o == 0x70030 || o == 0x9040 || o == 0xE008 || o == 0xC0A0 || o == 0x79410 ||
    (b == 0x11 && decide (o % 0x1000 < 0xC00) && o % 64 == 0x1C) ||
    (decide (0x6C ≤ b) && decide (b ≤ 0x6F) && decide (o % 0x1000 < 0xC00) && o % 256 == 0x10)

/-- A register whose write takes effect through a base check: the CFG that must not be enabled (R178, R392,
R407). DESIGN CHOICE (log 82): NRX_BASE, for which R440 names no rule, is checked as RING_BASE is. -/
def baseCfg (o : Nat) : Option Nat :=
  let b := o / 0x1000
  let r := o % 0x1000
  if o = 0x4008 ∨ o = 0x400C then some 0x4010
  else if o = 0x79400 ∨ o = 0x79404 then some 0x79408
  else if 0x6C ≤ b ∧ b ≤ 0x6F then
    if r % 256 = 0 ∨ r % 256 = 4 then some (o / 256 * 256 + 8)
    else if r < 0xC00 ∧ (r % 256 = 0x20 ∨ r % 256 = 0x24) then some (o / 256 * 256 + 0x28)
    else none
  else none

/-! ### Effects of a write -/

/-- A write of GROUP_EN (R145, R555): a group that is pending as its bit rises has one message formed; bit 1 at
0 closes every open decision (R43). -/
def groupEnEffect (w : Word) (p : Part) : Part :=
  let old := p.reg groupEnReg
  let q := p.setReg groupEnReg w
  let q := (List.range 12).foldl (fun (x : Part) g =>
    if w.getLsbD g && !old.getLsbD g && x.groupPend g then x.message g else x) q
  q.closeForced

/-- What a single-word write does: `w` is the register word after its RW and W1C fields, `trig` the WO bits
written 1. Registers with no effect of their own take `w`. DESIGN CHOICE (log 105): CROSSED cleared by W1C while both
mailboxes of the pair are FULL stays 0 until the next fill or report (R185). -/
def wordEffect (a : BusWrite) (o : Nat) (w trig : Word) (p : Part) : Part :=
  let b := o / 0x1000
  let r := o % 0x1000
  let acts := a.direct || trig != 0#32
  if o = 0x4000 then if acts then doorbellEffect trig p else p
  else if o = 0x4010 then ringCfgEffect a.req a.addr w p
  else if o = 0x4018 then replyConsEffect a.req a.addr w p
  else if o = 0x4040 then if acts then abortReqEffect trig p else p
  else if o = groupEnReg then groupEnEffect w p
  else if b = 3 ∧ r % 16 = 0 then mailboxEffect (r / 16) a.req w p
  else if b = 8 ∧ r % 32 = 0 then crcCfgEffect (r / 32) ((w &&& ~~~0x40000000#32) ||| trig) p
  else if b = 8 ∧ (r % 32 = 0x10 ∨ r % 32 = 0x18) then crcValueEffect (r / 32) (r % 32) a.req a.addr w p
  else if o = 0x9040 then ledgerSelEffect w p
  else if o = 0xD008 ∨ o = 0xD088 then wakeEffect (r / 0x80) trig p
  else if o = 0xF018 then reacquireEffect trig p
  else if o = 0xF060 then p.setUtc w
  else if b = 0x10 ∧ r % 128 = 0x28 then (p.setReg o w).syncLockout (r / 128)
  else if b = 0x11 ∧ r < 0xC00 ∧ r % 64 = 0x1C then spillConsEffect (r / 64) a.req a.addr w p
  else if 0x40 ≤ b ∧ b ≤ 0x4B ∧ r % 512 = 8 then
    adaptRestartEffect (8 * (b - 0x40) + r / 512) a.req a.addr trig p
  else if 0x6C ≤ b ∧ b ≤ 0x6F then
    if r < 0xC00 then
      let n := 12 * (b - 0x6C) + r / 256
      if r % 256 = 8 then rxCfgEffect n a.req a.addr w p
      else if r % 256 = 0x10 then rxConsEffect n a.req a.addr w p
      else if r % 256 = 0x28 then txCfgEffect n a.req a.addr w p
      else if r % 256 = 0x2C then txProdEffect n a.req a.addr w p
      else if (r % 256 = 0x18 ∧ 10000 < fieldOf w 13 0) ∨
          (r % 256 = 0x34 ∧ (fieldOf w 19 0 = 0 ∨ 1000000 < fieldOf w 19 0)) then p.accessFault 5 a.req a.addr
      else p.setReg o w
    else
      let n := 4 * (b - 0x6C) + (r - 0xC00) / 256
      if r % 256 = 8 then poolCfgEffect n a.req a.addr w p
      else if r % 256 = 0xC then poolProdEffect n a.req a.addr w p
      else p.setReg o w
  else if o = 0x70030 then snapSelEffect w p
  else if o = 0x79408 then nrxCfgEffect a.req a.addr w p
  else if o = 0x79410 then nrxConsEffect a.req a.addr w p
  else p.setReg o w

/-- One word of a register being written: its offset, the bits selected and their values. -/
structure WordWrite where
  off : Nat
  sel : Word
  val : Word
  deriving DecidableEq, Repr

/-- A register of a pool, whose BASE takes no write at all while the pool is enabled (R392). -/
def isPool (o : Nat) : Bool := decide (0x6C000 ≤ o) && decide (o < 0x70000) && decide (0xC00 ≤ o % 0x1000)

/-- The register word after its RW and W1C fields are written. -/
def Part.mergeOf (p : Part) (a : BusWrite) (x : WordWrite) : Word :=
  match regInfo x.off with
  | some i => mergedWord i (p.reg x.off) x.sel x.val (p.justSet x.off) a.alias_
  | none => 0#32

/-- The WO bits a write sets. -/
def trigOf (x : WordWrite) : Word :=
  match regInfo x.off with
  | some i => i.wo &&& x.sel &&& x.val
  | none => 0#32

/-- A register whose RW fields the part updates as well: the CFGs of the taps, injection rings and pools, the check
units' CFG, and UTC (R345, R399, R456). -/
def partWrites (o : Nat) : Bool :=
  o == 0xF060 || (o / 0x1000 == 8 && o % 32 == 0) ||
    (decide (0x6C000 ≤ o) && decide (o < 0x70000) &&
      (o % 256 == 8 || (o % 256 == 0x28 && decide (o % 0x1000 < 0xC00))))

/-- A requester has written a register that the part updates as well: its value stands at this edge (R110). -/
def Part.noteRw (p : Part) (x : WordWrite) : Part :=
  match regInfo x.off with
  | some i => if partWrites x.off then p.noteWrite x.off (i.rw &&& x.sel) else p
  | none => p

/-- The RW, W1C and WO fields of a register's words are written together (R111, R122). -/
def Part.writeFields (p : Part) (a : BusWrite) (l : List WordWrite) : Part :=
  match l with
  | [] => p
  | x :: r =>
    match baseCfg x.off with
    | some cfg =>
      let q := l.foldl (fun (y : Part) e => y.setReg e.off (y.mergeOf a e)) p
      if p.bit cfg 31 && (isPool x.off || q != p) then p.accessFault 5 a.req a.addr else q
    | none =>
      if 0x70100 ≤ x.off ∧ x.off < 0x70300 ∧ x.off % 8 = 4 then p.setReg x.off (p.mergeOf a x)
      else if 0x70100 ≤ x.off ∧ x.off < 0x70300 then
        let o := x.off / 8 * 8
        let w : Nat → Word := fun k => match l.find? (fun e => e.off == k) with
          | some e => p.mergeOf a e
          | none => p.reg k
        apsTxEffect ((o - 0x70100) / 8) a.req a.addr (w o) (w (o + 4)) p
      else if x.off = 0x5110 ∨ x.off = 0x5114 then
        match r with
        | y :: _ => answerDecision x.val (trigOf y) p
        | [] => if x.off = 0x5114 ∧ trigOf x ≠ 0#32 then answerDecision 0#32 (trigOf x) p else p
      else l.foldl (fun (y : Part) e => (wordEffect a e.off (y.mergeOf a e) (trigOf e) y).noteRw e) p

/-- The SH fields of a write reach the basted set, or are discarded with a record (R123, R124, R552). -/
def Part.writeShadow (p : Part) (a : BusWrite) (l : List WordWrite) : Part :=
  let sel := fun x : WordWrite => x.sel &&& shMask x.off
  if l.all fun x => sel x == 0#32 then p
  else if !p.column.bastes then p.accessFault 3 a.req a.addr
  else
    let b := l.foldl (fun m x => if sel x = 0#32 then m else basteOne m x.off (sel x) x.val) p.stitch.basted
    if basteLimit < b.length then p.accessFault 7 a.req a.addr else p.setBasted b

/-- The bits of a write outside SH fields, which the register itself holds or acts on. -/
def writesBeyond (l : List WordWrite) : Bool :=
  l.any fun x => match regInfo x.off with
    | some i => (i.rw ||| i.w1c ||| i.wo) &&& x.sel != 0#32 || i.sh == 0#32
    | none => false

/-- Were the SH fields of a write discarded, with their record (R124, R552)? -/
def Part.shadowFails (p : Part) (l : List WordWrite) : Bool :=
  let sel := fun x : WordWrite => x.sel &&& shMask x.off
  !(l.all fun x => sel x == 0#32) && (!p.column.bastes ||
    decide (basteLimit < (l.foldl (fun m x => if sel x = 0#32 then m else basteOne m x.off (sel x) x.val)
      p.stitch.basted).length))

/-- The words of a register are written: SH fields in the HUB island, the others behind their selvedge. A value
that is not valid is recorded first, and a write whose SH fields were recorded makes no second record (R552).
DESIGN CHOICE (log 83): a selvedge that is closed discards its other fields all the same. -/
def Part.writeWords (p : Part) (a : BusWrite) (l : List WordWrite) : Part :=
  let q := p.writeShadow a l
  if !writesBeyond l then q
  else
    let c := q.cross (match l with | x :: _ => x.off | [] => 0)
    if c.2 then c.1.writeFields a l
    else if p.shadowFails l then c.1
    else if q.writeFields a l = q.accessFault 5 a.req a.addr then q.accessFault 5 a.req a.addr
    else c.1.accessFault 6 a.req a.addr

/-- A write to an LK register (R129, R130): the one write applies its bits and locks; others are dropped. -/
def Part.writeLocked (p : Part) (a : BusWrite) (i : RegInfo) (x : WordWrite) : Part :=
  if !a.direct && x.sel &&& i.lk == 0#32 then p
  else if p.bit x.off 31 then p.lockViolation 1 a.req a.addr
  else p.setReg x.off (mergeMask (p.reg x.off) x.val (x.sel &&& i.lk) ||| 0x80000000#32)

/-! ### Guards (R126 to R128) -/

/-- A window that ended before this edge has expired (R126, R551). -/
def Part.guardNow (p : Part) (q : Req) : Part := p.endGuard 251 q

/-- What a completed guarded write does (R126, R136, R527). -/
def Part.guardApply (p : Part) (q : Req) (addr : BitVec 28) (x : Nat) (v : Word) : Part :=
  if x = 0x2200 then (p.setReg x (v &&& 0x3F#32)).breakThimble v
  else if x = 0x6040 then pdResetEffect q addr v (p.setReg x (v &&& 0x00FF00FF#32))
  else p.setReg x v

/-- A native write of a value word: the window opens, abandoning an open one (R126). -/
def Part.guardValue (p : Part) (q : Req) (addr : BitVec 28) (o : Nat) (v : Word) : Part :=
  let p := p.guardNow q
  let r := match p.guardOf q with
    | some g => p.guardFail 4 q g.addr
    | none => p
  r.setGuard q (some { off := o, addr := addr, value := v, at_ := p.clk })

/-- A native write of a complement word (R126). -/
def Part.guardComplement (p : Part) (q : Req) (addr : BitVec 28) (o : Nat) (v : Word) : Part :=
  let p := p.guardNow q
  match p.guardOf q with
  | none => p.guardFail 3 q addr
  | some g =>
    if o ≠ g.off + 4 then p.guardFail 3 q addr
    else if v = ~~~g.value then (p.setGuard q none).guardApply q addr g.off g.value
    else (p.setGuard q none).guardFail 1 q addr

/-! ### The write of one word (R105, R108, R111, R112, R552) -/

/-- A native write of a word of a register wider than 32 bits (R111): lower words are held for the requester;
the highest applies the whole value. DESIGN CHOICE (log 84): a lower word that the requester has not written counts as
the value in force, and after a write that is discarded the held words are the value in force too. -/
def Part.wideWrite (p : Part) (a : BusWrite) (i : RegInfo) (o : Nat) (v : Word) : Part :=
  let base := o - 4 * i.idx
  let heldAt : Nat → Nat := fun k => a.req.key (base + 4 * k)
  if i.idx + 1 < i.words then
    { p with access := { p.access with
      heldLow := SMap.set (fun _ => none) p.access.heldLow (heldAt i.idx) (some v) } }
  else
    let low := (List.range (i.words - 1)).map fun k =>
      ({ off := base + 4 * k, sel := full,
         val := (SMap.get (fun _ => none) p.access.heldLow (heldAt k)).getD (p.reg (base + 4 * k)) } : WordWrite)
    let l := low ++ [{ off := o, sel := full, val := v }]
    let q := p.writeWords a l
    let held := low.foldl (fun m (x : WordWrite) =>
      let w := match regInfo x.off with | some j => mergeMask (q.reg x.off) x.val j.wo | none => x.val
      SMap.set (fun _ => none) m (a.req.key x.off) (some w)) q.access.heldLow
    { q with access := { q.access with heldLow := held } }

/-- The conditions of R552 from the fourth on, for a write that reaches a register. -/
def Part.regWrite (p : Part) (a : BusWrite) (win : Bool) (i : RegInfo) (x : WordWrite) : Part :=
  if win && p.bit 0x038 1 then p.lockViolation 3 a.req a.addr
  else match i.kind with
    | .guardVal => if a.direct then p.guardValue a.req a.addr x.off x.val else p.guardFail 5 a.req a.addr
    | .guardCpl => if a.direct then p.guardComplement a.req a.addr x.off x.val else p.guardFail 5 a.req a.addr
    | .thimble =>
      if a.direct then p.leaveThimble a.req a.addr (x.off % 0x1000 / 4)
      else if x.sel &&& 0x8000001F#32 = 0#32 then p
      else p.lockViolation 2 a.req a.addr
    | _ =>
      if i.lk ≠ 0#32 then p.writeLocked a i x
      else if a.direct && decide (1 < i.words) then p.wideWrite a i x.off x.val
      else p.writeWords a [x]

/-- A single-word write access to BAR0 as issued. DESIGN CHOICE (log 85): an SH field of a GLOBAL write before INERT,
which R84 discards with an access fault, is not counted as an early write. -/
def busWrite (c : Access) (p : Part) : Part :=
  if !p.reaches c.req then p
  else
    let p := (p.granted c.req).snoopBus c.req c.addr.toNat true c.val c.be
    let t := decodeAddr c.addr.toNat
    let early := p.early c.req && (match t.off with | some o => o / 0x1000 != 0 | none => false)
    if early then p.addSat 0x403C 1
    else
      let a : BusWrite := { req := c.req, addr := c.addr, direct := true, alias_ := false }
      let at_ : Nat → BusWrite → Bool → Word × Word → Part := fun o a win m =>
        if c.be ≠ 0xF#4 then p.accessFault 1 c.req c.addr
        else match regInfo o with
          | none => p
          | some i =>
            if p.md.cur = .freeze ∧ freezeAccepts i o = false then p.accessFault 4 c.req c.addr
            else p.regWrite a win i { off := o, sel := m.1, val := m.2 }
      match t with
      | .unbacked => p.accessFault 2 c.req c.addr
      | .basted _ => p.accessFault 2 c.req c.addr
      | .cxl o => if c.be ≠ 0xF#4 then p.accessFault 1 c.req c.addr else (p.cxlWrite o c.val).limitDram
      | .native o => at_ o a false (full, c.val)
      | .mask h o => at_ o { a with direct := false } true (maskBits h c.val)
      | .bit b o => at_ o { a with direct := false, alias_ := true } false (aliasBits b c.val)

/-! ### Accesses that meet (R108, R139, R442, R445, R446, R551) -/

/-- Cycles after which the upward bridge port is granted ahead of the rotation (R446). -/
def sideLimit : Nat := 64

/-- The masters of a cycle in rotation after the last granted (R139, R445). -/
def rotation (last : Nat) (l : List BusOp) : List BusOp :=
  (List.range 7).flatMap fun k => l.filter fun o => !o.master.sideband && (o.master.code + 13 - last) % 7 == k

/-- The order of grants among the requests of one cycle for one target. A port grants one request per cycle; the sideband
comes after the masters, or ahead of those left once it has waited 64 cycles (R445, R446). -/
def grantOrder (last waited : Nat) (l : List BusOp) : List BusOp :=
  let m := rotation last l
  m.take (sideLimit - waited) ++ l.filter (·.master.sideband) ++ m.drop (sideLimit - waited)

/-- The words after the first of a multi-word write, each a write of its own with its byte enables (R108). -/
def Part.writeMore (a : Access) (p : Part) : List (BitVec 4 × Word) → Part
  | [] => p
  | w :: r =>
    let b := { a with addr := a.addr + 4#28, be := w.1, val := w.2 }
    Part.writeMore b (busWrite b p) r

/-- The words after the first of a multi-word read. -/
def Part.readMore (q : Req) (addr : BitVec 28) (p : Part) : Nat → Part
  | 0 => p
  | n + 1 => Part.readMore q (addr + 4#28) (busRead q (addr + 4#28) p) n

/-- Is a request of this master carried? The HUB's DMA engine runs while the part is awake, the HOST island's engines
while its link is up. -/
def Part.carriesFrom (p : Part) : Master → Bool
  | .req q => p.reaches q
  | .dma => p.md.cur != .dormant
  | .engines => p.md.cur != .dormant && p.host.linkUp

/-- A granted request for a target other than the register space. On an absent path it reaches no target: it is counted,
and ends in a bus error, or for the sideband in data 0 (R442). On a path of R441 it is granted, and one for the LPDDR5X or
for host memory crosses the selvedge of that island (R30); what it moves is the master's own. -/
def Part.runOther (p : Part) (m : Master) (t : BusTarget) (write : Bool) : Part :=
  if m.hasPath t write then
    let r := p.grantTo m
    if t == .dram then r.selvRequest 25 else if t == .hostMem && m != .engines then r.selvRequest 27 else r
  else
    let r := p.addSat 0x7000 1
    match m with
    | .req q => if m.sideband then r.emit (.data q 0#32) else r.emit (.event "BUS_ERROR" m.code 0#64)
    | _ => r.emit (.event "BUS_ERROR" m.code 0#64)

/-- One request that has its grant. -/
def BusOp.run (p : Part) : BusOp → Part
  | .write a more => Part.writeMore a (busWrite a p) more
  | .read q addr more => Part.readMore q addr (busRead q addr p) more
  | .other m t w => if m == .req .host || !p.carriesFrom m then p else p.runOther m t w

/-- The cycles that a sideband request of this cycle waits in all: those before it, and one for each master that is granted
the same target ahead of it (R446). -/
def sideWait (waited : Nat) (l : List BusOp) (o : BusOp) : Nat :=
  waited + min (sideLimit - waited)
    (l.filter fun x => !x.master.sideband && x.target == o.target && x.hasPath).length

/-- Requests of one cycle run in the order of their grants, target by target; SIDE_WAIT holds the longest wait of the
sideband (R446, R465). -/
def busRun (c : BusCycle) (p : Part) : Part :=
  let l := c.ops.filter fun o => p.carriesFrom o.master
  let q := (l.filter (·.master.sideband)).foldl (fun (x : Part) o =>
    x.setReg 0x7008 (BitVec.ofNat 32 (max (x.reg 0x7008).toNat (sideWait c.waited l o)))) p
  [none, some BusTarget.journal, some .dram, some .hostMem, some .coreMem, some .periph].foldl (fun (x : Part) t =>
    (grantOrder p.bus.lastGrant c.waited (l.filter fun o => o.target == t)).foldl BusOp.run x) q

/-! ### The rows of the register path

A row that names a register acts on an access that reaches that register, by any path; its write is the write
of the bus. An access that does not reach it is no such command, and changes nothing. -/

/-- A row's access, where its register is the one the access reaches. -/
def atReg (c : Access) (test : Nat → Bool) (p : Part) : Part :=
  match (decodeAddr c.addr.toNat).off with
  | some o => if test o then busWrite c p else p
  | none => p

/-- The register word of an access, where it reaches one. -/
def infoOf (o : Nat) (test : RegInfo → Bool) : Bool :=
  match regInfo o with
  | some i => test i
  | none => false

/-- A row whose register lies in a tap or a pool block at the given place. -/
def inTap (pool : Bool) (k o : Nat) : Bool :=
  decide (0x6C000 ≤ o) && decide (o < 0x70000) && decide (0xC00 ≤ o % 0x1000) == pool && o % 256 == k

/-- DOORBELL (R152, R153). -/
def execDoorbell (c : Access) (s : State) : Result := onBus (atReg c (· == 0x4000)) s
/-- REPLY_CONS_WRITE (R163). -/
def execReplyConsWrite (c : Access) (s : State) : Result := onBus (atReg c (· == 0x4018)) s
/-- RING_CFG_WRITE (R178). -/
def execRingCfgWrite (c : Access) (s : State) : Result := onBus (atReg c (· == 0x4010)) s
/-- ABORT_REQ_WRITE (R177). -/
def execAbortReqWrite (c : Access) (s : State) : Result := onBus (atReg c (· == 0x4040)) s

/-- REGISTER_WRITE (R108, R551, R552): the requests of one cycle. -/
def execRegisterWrite (c : BusCycle) (s : State) : Result := onBus (busRun c) s
/-- SH_FIELD_WRITE (R123, R124). -/
def execShFieldWrite (c : Access) (s : State) : Result :=
  onBus (atReg c fun o => infoOf o fun i => i.sh != 0#32) s
/-- BIT_ALIAS_WRITE (R119, R122). -/
def execBitAliasWrite (c : Access) (s : State) : Result :=
  onBus (fun p => match decodeAddr c.addr.toNat with | .bit _ _ => busWrite c p | _ => p) s
/-- MASK_WINDOW_WRITE (R120 to R122). -/
def execMaskWindowWrite (c : Access) (s : State) : Result :=
  onBus (fun p => match decodeAddr c.addr.toNat with | .mask _ _ => busWrite c p | _ => p) s
/-- BASTED_VIEW_WRITE (R125). -/
def execBastedViewWrite (c : Access) (s : State) : Result :=
  onBus (fun p => match decodeAddr c.addr.toNat with | .basted _ => busWrite c p | _ => p) s
/-- MULTIWORD_CAPTURE_READ (R111): a read access to BAR0; of the lowest word of a wide register, it captures. -/
def execMultiwordCaptureRead (q : Req) (addr : BitVec 28) (s : State) : Result := onPart (busRead q addr) s
/-- MULTIWORD_APPLY_WRITE (R111): a write of a word of a wide register. -/
def execMultiwordApplyWrite (c : Access) (s : State) : Result :=
  onBus (atReg c fun o => infoOf o fun i => decide (1 < i.words)) s
/-- GUARD_VALUE_WRITE (R126). -/
def execGuardValueWrite (c : Access) (s : State) : Result :=
  onBus (atReg c fun o => infoOf o fun i => i.kind == .guardVal) s
/-- GUARD_COMPLEMENT_WRITE (R126). -/
def execGuardComplementWrite (c : Access) (s : State) : Result :=
  onBus (atReg c fun o => infoOf o fun i => i.kind == .guardCpl) s
/-- GUARD_WINDOW_EXPIRE (R126): at the 251st edge after the value word the window expires. -/
def execGuardWindowExpire (q : Req) (s : State) : Result := onPart (fun p => p.guardNow q) s
/-- LK_REGISTER_WRITE (R129). -/
def execLkRegisterWrite (c : Access) (s : State) : Result :=
  onBus (atReg c fun o => infoOf o fun i => i.lk != 0#32) s
/-- THIMBLE_READ (R132, R133): a read access that reaches a thimble. -/
def execThimbleRead (q : Req) (addr : BitVec 28) (s : State) : Result :=
  onPart (fun p => match (decodeAddr addr.toNat).off with
    | some o => if infoOf o fun i => i.kind == .thimble then busRead q addr p else p
    | none => p) s
/-- THIMBLE_WRITE (R134). -/
def execThimbleWrite (c : Access) (s : State) : Result :=
  onBus (atReg c fun o => infoOf o fun i => i.kind == .thimble) s
/-- GROUP_EN_WRITE (R145, R555). -/
def execGroupEnWrite (c : Access) (s : State) : Result := onBus (atReg c (· == groupEnReg)) s
/-- STAMP_FIFO_POP: the native host read of FIFO_POP word 0. -/
def execStampFifoPop (n : Fin 48) (s : State) : Result :=
  onPart (busRead .host (BitVec.ofNat 28 (tsReg n 0x20))) s
/-- DEC_REC_POP (R146): a native host read of DEC_REC word 0. -/
def execDecRecPop (s : State) : Result := onPart (busRead .host 0x5100#28) s
/-- DECISION_ANSWER (R40, R147): a write of DEC_ANSWER. -/
def execDecisionAnswer (c : Access) (s : State) : Result :=
  onBus (atReg c fun o => o == 0x5110 || o == 0x5114) s
/-- MAILBOX_WRITE (R182). -/
def execMailboxWrite (c : Access) (s : State) : Result :=
  onBus (atReg c fun o => o / 0x1000 == 3 && o % 16 == 0) s
/-- ADAPT_RESTART (R190). -/
def execAdaptRestart (c : Access) (s : State) : Result :=
  onBus (fun p => (atReg c (fun o => decide (0x40000 ≤ o) && decide (o < 0x4C000) && o % 512 == 8) p).signals) s
/-- REACQUIRE (R330). -/
def execReacquire (c : Access) (s : State) : Result := onBus (atReg c (· == 0xF018)) s
/-- LOCKOUT_WRITE (R320). -/
def execLockoutWrite (c : Access) (s : State) : Result :=
  onBus (atReg c fun o => o / 0x1000 == 0x10 && o % 128 == 0x28) s
/-- WAKE_WRITE (R421). -/
def execWakeWrite (c : Access) (s : State) : Result := onBus (atReg c fun o => o == 0xD008 || o == 0xD088) s
/-- The CFG of a check unit (R466). -/
def isCrcCfg (o : Nat) : Bool := o / 0x1000 == 8 && o % 32 == 0
/-- CRC_START (R455): a write of CRC.CFG that sets RUN. -/
def execCrcStart (c : Access) (s : State) : Result := onBus (atReg c isCrcCfg) s
/-- CRC_STOP (R455): a write of CRC.CFG that clears RUN. -/
def execCrcStop (c : Access) (s : State) : Result := onBus (fun p => atReg c isCrcCfg p) s
/-- CRC_INIT (R455): a write of CRC.CFG with INIT. -/
def execCrcInit (c : Access) (s : State) : Result := onBus (atReg c fun o => isCrcCfg o) s
/-- SNAP_SEL_WRITE (R248). -/
def execSnapSelWrite (c : Access) (s : State) : Result := onBus (atReg c (· == 0x70030)) s
/-- LEDGER_SEL_WRITE (R467). -/
def execLedgerSelWrite (c : Access) (s : State) : Result := onBus (atReg c (· == 0x9040)) s
/-- ROUTE_SEL_WRITE (R440). -/
def execRouteSelWrite (c : Access) (s : State) : Result := onBus (atReg c (· == 0xE008)) s
/-- KEY_SEL_WRITE (R506). -/
def execKeySelWrite (c : Access) (s : State) : Result := onBus (atReg c (· == 0xC0A0)) s
/-- APS_TX_WRITE (R226, R248). -/
def execApsTxWrite (c : Access) (s : State) : Result :=
  onBus (atReg c fun o => decide (0x70100 ≤ o) && decide (o < 0x70300)) s
/-- SPILL_CONS_WRITE (R371). -/
def execSpillConsWrite (c : Access) (s : State) : Result :=
  onBus (atReg c fun o => o / 0x1000 == 0x11 && decide (o % 0x1000 < 0xC00) && o % 64 == 0x1C) s
/-- RX_CFG_ENABLE_SET (R399): a write of RX_CFG that sets ENABLE. -/
def execRxCfgEnableSet (c : Access) (s : State) : Result := onBus (atReg c (inTap false 8)) s
/-- RX_CFG_ENABLE_CLEAR (R399): a write of RX_CFG that clears ENABLE. -/
def execRxCfgEnableClear (c : Access) (s : State) : Result := onBus (fun p => atReg c (inTap false 8) p) s
/-- RX_CONS_WRITE (R393). -/
def execRxConsWrite (c : Access) (s : State) : Result := onBus (atReg c (inTap false 0x10)) s
/-- TX_PROD_WRITE (R400). -/
def execTxProdWrite (c : Access) (s : State) : Result := onBus (atReg c (inTap false 0x2C)) s
/-- POOL_PROD_WRITE (R392). -/
def execPoolProdWrite (c : Access) (s : State) : Result := onBus (atReg c (inTap true 0xC)) s
/-- POOL_ENABLE_CLEAR (R392): a write of a pool's CFG. -/
def execPoolEnableClear (c : Access) (s : State) : Result := onBus (atReg c (inTap true 8)) s
/-- NRX_CONS_WRITE (R436). -/
def execNrxConsWrite (c : Access) (s : State) : Result := onBus (atReg c (· == 0x79410)) s

/-! ### CXL.mem accesses, which wake their channel (R525) -/

/-- A CXL.mem request that is served wakes the channel of its line. -/
def Part.memDemand (p : Part) (hpa : Nat) : Part :=
  if p.memServes hpa && p.memActive && !p.marching then p.wakeDram (p.dpaOf hpa) else p

/-- Is a line that a read would fetch in a channel out of service (R484)? -/
def Part.deadLine (p : Part) (hpa : Nat) : Bool :=
  p.memServes hpa && p.memActive && !p.marching && p.selvOpen 25 &&
    p.back.badChannels.contains (p.lineChannel (p.dpaOf hpa))

/-- A correction counts for the channel of its line (R489). -/
def Part.countChannel (p : Part) (dpa : Nat) : Part := p.addSatField (chReg (p.lineChannel dpa)) 15 0 1

/-- A CXL.mem read of a channel out of service is poison; else it is served, and a correction counts for its channel
too (R470, R484, R489). -/
def Part.readLine (p : Part) (hpa : Nat) (ecc : EccResult) : Part :=
  let dpa := p.dpaOf hpa
  if p.deadLine hpa then (p.selvRequest 25).memAnswer true dpa (p.lineBytes dpa)
  else
    let q := cxlmemRead hpa ecc p
    match ecc with
    | .corrected => if p.memServes hpa && p.memActive && !p.marching && p.selvOpen 25 then q.countChannel dpa else q
    | _ => q

/-- CXLMEM_READ. -/
def execCxlmemRead (hpa : Nat) (ecc : EccResult) (s : State) : Result :=
  onPart (fun p => (p.memDemand hpa).readLine hpa ecc) s
/-- CXLMEM_WRITE. -/
def execCxlmemWrite (hpa : Nat) (line : BitVec 512) (s : State) : Result :=
  onPart (fun p => cxlmemWrite hpa line (p.memDemand hpa)) s

end Sys2Proof.Machine
end

