-- ==== Sys2Proof/Machine/Sideband.lean ====
section
/-! DEFINITION. The sideband: the SMBus target and the test access port (R442, R446, R544 to R549). -/

namespace Sys2Proof.Machine

/-! ### Register accesses of the sideband -/

/-- The data word the last access returned. -/
def Part.lastData (p : Part) : Word :=
  match p.out.getLast? with
  | some (.data _ w) => w
  | _ => 0#32

/-- The status of a sideband access (R545, R549): 0 done, 1 aborted at a selvedge, 2 unbacked. A captured
higher word, a held lower word and a write of SH fields alone cross no selvedge. -/
def Part.sideStatus (p : Part) (write : Bool) (addr : BitVec 28) : Nat :=
  match decodeAddr addr.toNat with
  | .unbacked => 2
  | .cxl _ => 0
  | t =>
    match t.off with
    | none => 0
    | some o =>
      match regInfo o with
      | none => 0
      | some i =>
        let wide := decide (1 < i.words) && (match t with | .native _ => true | _ => false)
        let stays := match t with
          | .basted _ => write
          | _ =>
            if write then (wide && decide (i.idx + 1 < i.words)) || (i.sh != 0#32 && i.rw ||| i.w1c ||| i.wo == 0#32)
            else wide && decide (0 < i.idx)
        if stays || (p.cross o).2 then 0 else 1

/-! ### SMBus (R544, R545) -/

/-- The supervisor answers the SMBus once the part has its input. -/
def State.smbAlive (s : State) : Bool := s.part.supply.vin

/-- The 7-bit SMBus address (R544): 0x58 + NODE_STRAP as sampled last. -/
def Part.smbAddress (p : Part) : BitVec 7 := 0x58#7 + p.supply.strap.setWidth 7

/-- Does the part answer a command sent to an SMBus address (R544)? -/
def State.smbHears (s : State) (target : BitVec 7) : Bool := s.smbAlive && target == s.part.smbAddress

/-- Do the register commands 0x01 to 0x03 answer (R545)? -/
def State.smbRegs (s : State) (target : BitVec 7) : Bool := s.smbHears target && s.part.md.cur != .dormant

/-- The BAR0 offset under the pointer. -/
def State.smbAt (s : State) : BitVec 28 := s.smb.pointer.setWidth 28

/-- The pointer rises by 4 after a register command. -/
def State.smbNext (s : State) : SmbSt := { s.smb with pointer := s.smb.pointer + 4#32 }

/-- The boot status record (R545). -/
def Part.bootStatus (p : Part) : List Word :=
  let bank := fun (k : Nat) (b : Bank) =>
    (p.supply.bootCrc.getLsbD k).toNat + (p.supply.bootSig.getLsbD k).toNat * 2
      + (decide (b.use ≠ .empty) && decide (p.journal.floor ≤ b.svn)).toNat * 4
  let ws := [BitVec.ofNat 32 (bank 0 p.journal.bank0 + bank 1 p.journal.bank1 * 256),
    p.journal.bank0.version, p.journal.bank1.version]
  ws ++ [crc32c (bytesOfWords ws)]

/-- The bytes of the record that REC_SEL names (R545). -/
def Part.smbRecord (p : Part) (sel : Byte) : Option (List Byte) :=
  if sel = 0#8 then some (bytesOfWords p.journal.faultRec)
  else if sel = 1#8 then some (bytesOfWords p.journal.gasp)
  else if sel = 2#8 then some (bytesOfWords p.bootStatus)
  else none

/-- The word of STATUS (R545). -/
def Part.smbStatusWord (p : Part) : Word :=
  BitVec.ofNat 32 (p.md.cur.code + p.supply.noImage.toNat * 16 + (p.md.cur == .freeze).toNat * 32
    + (!p.journal.faultRec.isEmpty).toNat * 64)

/-- SMB_ADDR. -/
def execSmbAddr (target : BitVec 7) (offset : Word) (pec : Bool) (s : State) : Result :=
  if s.smbRegs target && pec then .next { s with smb := { s.smb with pointer := offset } } else .next s

/-- SMB_READ. -/
def execSmbRead (target : BitVec 7) (s : State) : Result :=
  if s.smbRegs target then
    let q := busRead .smb s.smbAt s.part
    .next { s with part := q.emit (.words "SMB_READ" (s.part.sideStatus false s.smbAt) [q.lastData]), smb := s.smbNext }
  else .next s

/-- SMB_WRITE. -/
def execSmbWrite (target : BitVec 7) (value : Word) (pec : Bool) (s : State) : Result :=
  if s.smbRegs target && pec then
    let q := busWrite { req := .smb, addr := s.smbAt, be := 0xF#4, val := value } s.part
    .next { s with part := q.copyQueued s.window, smb := s.smbNext }
  else .next s

/-- SMB_REC_SEL. -/
def execSmbRecSel (target : BitVec 7) (sel : Byte) (pec : Bool) (s : State) : Result :=
  match s.part.smbRecord sel with
  | some l => if s.smbHears target && pec then .next { s with smb := { s.smb with snapshot := l, cursor := 0 } } else .next s
  | none => .next s

/-- SMB_REC_READ. -/
def execSmbRecRead (target : BitVec 7) (s : State) : Result :=
  if s.smbHears target then
    .next { s with
      part := s.part.emit (.bytes "SMB_REC_READ" (((s.smb.snapshot.drop s.smb.cursor) ++ List.replicate 32 0#8).take 32)),
      smb := { s.smb with cursor := s.smb.cursor + 32 } }
  else .next s

/-- SMB_STATUS. -/
def execSmbStatus (target : BitVec 7) (s : State) : Result :=
  onPart (fun p => if s.smbHears target then p.emit (.words "SMB_STATUS" 0 [p.smbStatusWord]) else p) s

/-- SMB_SCL_TIMEOUT (R544): the interface is reset. -/
def execSmbSclTimeout (s : State) : Result := if s.smbAlive then .next { s with smb := {} } else .next s

/-! ### The test access port (R546 to R549) -/

/-- The TAP runs once the part has its input. -/
def Part.tapAlive (p : Part) : Bool := p.supply.vin

/-- An instruction is loaded: a wake that the last one held starts, unless this one holds it too (R548). -/
def Part.loadTap (p : Part) (i : TapInstr) : Part :=
  { p with jtag := { p.jtag with instr := i } }.heldWake p.supply.strap

/-- Do the test instructions take effect (R548)? -/
def Part.tapActs (p : Part) : Bool := p.md.cur == .dormant

/-- The 250 cells of the boundary register, in its order, 0 or 1 each (R547). -/
def Part.boundaryCells (p : Part) : List Byte :=
  (p.jtag.boundary.map fun b => if b then 1#8 else 0#8).take 250

/-- EXTEST and its pulse forms: in DORMANT the outputs are driven from the boundary register and the pins are
captured; in other modes they act as BYPASS. -/
def drivePins (i : TapInstr) (nm : String) (pins : List Bool) (p : Part) : Part :=
  if !p.tapAlive then p
  else
    let q := p.loadTap i
    if q.tapActs then { q with jtag := { q.jtag with captured := pins } }.emit (.bytes nm q.boundaryCells) else q

/-- CLAMP and HIGHZ: in DORMANT the outputs are held from the boundary register, or float. -/
def holdPins (i : TapInstr) (nm : String) (p : Part) : Part :=
  if !p.tapAlive then p
  else
    let q := p.loadTap i
    if q.tapActs then q.emit (.bytes nm (if i = .highz then [] else q.boundaryCells)) else q

/-- SAMPLE/PRELOAD: the pins are sampled, and the boundary register may be preloaded. -/
def samplePreload (preload : Option (List Bool)) (pins : List Bool) (p : Part) : Part :=
  if !p.tapAlive then p
  else
    let q := p.loadTap .sample
    { q with jtag := { q.jtag with captured := pins, boundary := preload.getD q.jtag.boundary } }

/-- The value of the IDCODE register (R547). -/
def idcodeWord : Word := 0x196480F1#32

/-- IDCODE. -/
def readIdcode (p : Part) : Part :=
  if !p.tapAlive then p else (p.loadTap .idcode).emit (.words "IDCODE" 0 [idcodeWord])

/-- The opcodes of R546 that name another instruction than BYPASS. -/
def tapOpcodes : List Byte := [0x00#8, 0x01#8, 0x02#8, 0x03#8, 0x04#8, 0x05#8, 0x06#8, 0x20#8]

/-- BYPASS, or an opcode that is not in the table. -/
def bypassTap (opcode : Byte) (p : Part) : Part :=
  if !p.tapAlive || tapOpcodes.contains opcode then p else p.loadTap .bypass

/-- REG_ACCESS (R549): the access of Update-DR and its result for the next Capture-DR; none in DORMANT. -/
def regAccess (write : Bool) (offset : BitVec 28) (data : Word) (p : Part) : Part :=
  if !p.tapAlive then p
  else
    let q := p.loadTap .regAccess
    if q.md.cur = .dormant then { q with jtag := { q.jtag with done := false } }
    else
      let st := q.sideStatus write offset
      let r := if write then busWrite { req := .jtag, addr := offset, be := 0xF#4, val := data } q
        else busRead .jtag offset q
      { r with jtag := { r.jtag with done := true, status := st, data := if write then data else r.lastData } }

/-- Test-Logic-Reset: IDCODE is the instruction, and a held wake starts (R548). -/
def testLogicReset (p : Part) : Part := if !p.tapAlive then p else p.loadTap .idcode

/-- EXTEST. -/
def execExtest (pins : List Bool) (s : State) : Result := onPart (drivePins .extest "EXTEST" pins) s
/-- EXTEST_PULSE. -/
def execExtestPulse (pins : List Bool) (s : State) : Result := onPart (drivePins .extestPulse "EXTEST_PULSE" pins) s
/-- EXTEST_TRAIN. -/
def execExtestTrain (pins : List Bool) (s : State) : Result := onPart (drivePins .extestTrain "EXTEST_TRAIN" pins) s
/-- CLAMP. -/
def execClamp (s : State) : Result := onPart (holdPins .clamp "CLAMP") s
/-- HIGHZ. -/
def execHighz (s : State) : Result := onPart (holdPins .highz "HIGHZ") s
/-- SAMPLE_PRELOAD. -/
def execSamplePreload (b : Option (List Bool)) (pins : List Bool) (s : State) : Result :=
  onPart (samplePreload b pins) s
/-- IDCODE. -/
def execIdcode (s : State) : Result := onPart readIdcode s
/-- BYPASS. -/
def execBypass (opcode : Byte) (s : State) : Result := onPart (bypassTap opcode) s
/-- REG_ACCESS. -/
def execRegAccess (write : Bool) (offset : BitVec 28) (data : Word) (s : State) : Result :=
  onBus (regAccess write offset data) s
/-- JTAG_TEST_LOGIC_RESET. -/
def execJtagTestLogicReset (s : State) : Result := onPart testLogicReset s

end Sys2Proof.Machine
end

