-- ==== Sys2Proof/Machine/Dispatch.lean ====
section
/-! DEFINITION. The dispatch: one arm per command, each a direct call of its meaning. -/

namespace Sys2Proof.Machine

def exec (i : Instr) (s : State) : Host.Outcome State Fault Refusal :=
  match i with
  | .vinRise => Sys2Proof.Machine.execVinRise s
  | .limiterOn => Sys2Proof.Machine.execLimiterOn s
  | .pwrgoodRelease strap => Sys2Proof.Machine.execPwrgoodRelease strap s
  | .holdupReady => Sys2Proof.Machine.execHoldupReady s
  | .supplyLoss overrange => Sys2Proof.Machine.execSupplyLoss overrange s
  | .lastGaspRecordWrite => Sys2Proof.Machine.execLastGaspRecordWrite s
  | .lastGaspPowerOff => Sys2Proof.Machine.execLastGaspPowerOff s
  | .internalRailFault detail => Sys2Proof.Machine.execInternalRailFault detail s
  | .rstNLow => Sys2Proof.Machine.execRstNLow s
  | .rstNRise strap => Sys2Proof.Machine.execRstNRise strap s
  | .perstNAssert => Sys2Proof.Machine.execPerstNAssert s
  | .perstNRelease strap => Sys2Proof.Machine.execPerstNRelease strap s
  | .cirumlinkWakeRx port strap => Sys2Proof.Machine.execCirumlinkWakeRx port strap s
  | .wakeComplete crc0 sig0 crc1 sig1 => Sys2Proof.Machine.execWakeComplete crc0 sig0 crc1 sig1 s
  | .bootFallback => Sys2Proof.Machine.execBootFallback s
  | .resumeStart => Sys2Proof.Machine.execResumeStart s
  | .cxlLinkUp width gts cxl => Sys2Proof.Machine.execCxlLinkUp width gts cxl s
  | .cxlLinkDown => Sys2Proof.Machine.execCxlLinkDown s
  | .configRequest op => Sys2Proof.Machine.execConfigRequest op s
  | .msixEnableSet programmed => Sys2Proof.Machine.execMsixEnableSet programmed s
  | .d3hotEntry => Sys2Proof.Machine.execD3hotEntry s
  | .hdmCommit base size ways lock => Sys2Proof.Machine.execHdmCommit base size ways lock s
  | .cxlmemRead hpa ecc => Sys2Proof.Machine.execCxlmemRead hpa ecc s
  | .cxlmemWrite hpa line => Sys2Proof.Machine.execCxlmemWrite hpa line s
  | .ideIntegrityFail stream => Sys2Proof.Machine.execIdeIntegrityFail stream s
  | .ideKmKeyInstall stream skid key => Sys2Proof.Machine.execIdeKmKeyInstall stream skid key s
  | .doeDiscovery r => Sys2Proof.Machine.execDoeDiscovery r s
  | .cdatTableAccess entry => Sys2Proof.Machine.execCdatTableAccess entry s
  | .spdmGetCertificate slot offset len => Sys2Proof.Machine.execSpdmGetCertificate slot offset len s
  | .spdmChallenge slot nonce => Sys2Proof.Machine.execSpdmChallenge slot nonce s
  | .spdmGetMeasurements index nonce => Sys2Proof.Machine.execSpdmGetMeasurements index nonce s
  | .spdmKeyExchange => Sys2Proof.Machine.execSpdmKeyExchange s
  | .getEventRecords => Sys2Proof.Machine.execGetEventRecords s
  | .clearEventRecords all handles => Sys2Proof.Machine.execClearEventRecords all handles s
  | .getEventInterruptPolicy => Sys2Proof.Machine.execGetEventInterruptPolicy s
  | .setEventInterruptPolicy msix vector => Sys2Proof.Machine.execSetEventInterruptPolicy msix vector s
  | .getTimestamp => Sys2Proof.Machine.execGetTimestamp s
  | .setTimestamp value => Sys2Proof.Machine.execSetTimestamp value s
  | .getSupportedLogs => Sys2Proof.Machine.execGetSupportedLogs s
  | .getLog cel => Sys2Proof.Machine.execGetLog cel s
  | .identifyMemoryDevice => Sys2Proof.Machine.execIdentifyMemoryDevice s
  | .getPartitionInfo => Sys2Proof.Machine.execGetPartitionInfo s
  | .getHealthInfo => Sys2Proof.Machine.execGetHealthInfo s
  | .getPoisonList => Sys2Proof.Machine.execGetPoisonList s
  | .commandSlotWrite a => Sys2Proof.Machine.execCommandSlotWrite a s
  | .doorbell a => Sys2Proof.Machine.execDoorbell a s
  | .slotCopy tag => Sys2Proof.Machine.execSlotCopy tag s
  | .commandTimeout tag => Sys2Proof.Machine.execCommandTimeout tag s
  | .replyConsWrite a => Sys2Proof.Machine.execReplyConsWrite a s
  | .ringCfgWrite a => Sys2Proof.Machine.execRingCfgWrite a s
  | .abortReqWrite a => Sys2Proof.Machine.execAbortReqWrite a s
  | .modeEnter tag => Sys2Proof.Machine.execModeEnter tag s
  | .modeReached => Sys2Proof.Machine.execModeReached s
  | .drainComplete => Sys2Proof.Machine.execDrainComplete s
  | .drainTimeout => Sys2Proof.Machine.execDrainTimeout s
  | .renewImageRunning => Sys2Proof.Machine.execRenewImageRunning s
  | .renewTimeout => Sys2Proof.Machine.execRenewTimeout s
  | .firmwareFault => Sys2Proof.Machine.execFirmwareFault s
  | .modeState tag => Sys2Proof.Machine.execModeState tag s
  | .modeResume tag => Sys2Proof.Machine.execModeResume tag s
  | .modeHold tag => Sys2Proof.Machine.execModeHold tag s
  | .basteFields tag => Sys2Proof.Machine.execBasteFields tag s
  | .basteImage tag => Sys2Proof.Machine.execBasteImage tag s
  | .stitch tag => Sys2Proof.Machine.execStitch tag s
  | .stitchBoundary => Sys2Proof.Machine.execStitchBoundary s
  | .stitchJournalWrite => Sys2Proof.Machine.execStitchJournalWrite s
  | .tribRebuild t => Sys2Proof.Machine.execTribRebuild t s
  | .unpick tag => Sys2Proof.Machine.execUnpick tag s
  | .queryLatency tag => Sys2Proof.Machine.execQueryLatency tag s
  | .queryUndelivered tag => Sys2Proof.Machine.execQueryUndelivered tag s
  | .queryRecords tag => Sys2Proof.Machine.execQueryRecords tag s
  | .pleatStep tag => Sys2Proof.Machine.execPleatStep tag s
  | .pleatSlew tag => Sys2Proof.Machine.execPleatSlew tag s
  | .pleatSum tag => Sys2Proof.Machine.execPleatSum tag s
  | .seamAdmit tag => Sys2Proof.Machine.execSeamAdmit tag s
  | .seamRetire tag => Sys2Proof.Machine.execSeamRetire tag s
  | .seamStatus tag => Sys2Proof.Machine.execSeamStatus tag s
  | .refSelect tag => Sys2Proof.Machine.execRefSelect tag s
  | .refAuto tag => Sys2Proof.Machine.execRefAuto tag s
  | .refStatus tag => Sys2Proof.Machine.execRefStatus tag s
  | .testRun tag => Sys2Proof.Machine.execTestRun tag s
  | .testResult tag => Sys2Proof.Machine.execTestResult tag s
  | .scopeEnd scope inst res errors first => Sys2Proof.Machine.execScopeEnd scope inst res errors first s
  | .calRun tag => Sys2Proof.Machine.execCalRun tag s
  | .calRead tag => Sys2Proof.Machine.execCalRead tag s
  | .fwStage tag => Sys2Proof.Machine.execFwStage tag s
  | .fwStatus tag => Sys2Proof.Machine.execFwStatus tag s
  | .keyInstall tag => Sys2Proof.Machine.execKeyInstall tag s
  | .keyRetire tag => Sys2Proof.Machine.execKeyRetire tag s
  | .keySubsys tag => Sys2Proof.Machine.execKeySubsys tag s
  | .keyZeroise tag => Sys2Proof.Machine.execKeyZeroise tag s
  | .domainSend tag => Sys2Proof.Machine.execDomainSend tag s
  | .domainRoute tag => Sys2Proof.Machine.execDomainRoute tag s
  | .domainFetchPm tag phase => Sys2Proof.Machine.execDomainFetchPm tag phase s
  | .ledgerAudit tag => Sys2Proof.Machine.execLedgerAudit tag s
  | .ledgerRead tag => Sys2Proof.Machine.execLedgerRead tag s
  | .ledgerCheckpoint tag => Sys2Proof.Machine.execLedgerCheckpoint tag s
  | .abort tag => Sys2Proof.Machine.execAbort tag s
  | .registerWrite ops => Sys2Proof.Machine.execRegisterWrite ops s
  | .shFieldWrite a => Sys2Proof.Machine.execShFieldWrite a s
  | .bitAliasWrite a => Sys2Proof.Machine.execBitAliasWrite a s
  | .maskWindowWrite a => Sys2Proof.Machine.execMaskWindowWrite a s
  | .bastedViewWrite a => Sys2Proof.Machine.execBastedViewWrite a s
  | .multiwordCaptureRead req addr => Sys2Proof.Machine.execMultiwordCaptureRead req addr s
  | .multiwordApplyWrite a => Sys2Proof.Machine.execMultiwordApplyWrite a s
  | .guardValueWrite a => Sys2Proof.Machine.execGuardValueWrite a s
  | .guardComplementWrite a => Sys2Proof.Machine.execGuardComplementWrite a s
  | .guardWindowExpire req => Sys2Proof.Machine.execGuardWindowExpire req s
  | .lkRegisterWrite a => Sys2Proof.Machine.execLkRegisterWrite a s
  | .thimbleRead req addr => Sys2Proof.Machine.execThimbleRead req addr s
  | .thimbleWrite a => Sys2Proof.Machine.execThimbleWrite a s
  | .groupEnWrite a => Sys2Proof.Machine.execGroupEnWrite a s
  | .msixHoldoffEnd v => Sys2Proof.Machine.execMsixHoldoffEnd v s
  | .decRecPop => Sys2Proof.Machine.execDecRecPop s
  | .decisionAnswer a => Sys2Proof.Machine.execDecisionAnswer a s
  | .decisionDeadline serial => Sys2Proof.Machine.execDecisionDeadline serial s
  | .mailboxWrite a => Sys2Proof.Machine.execMailboxWrite a s
  | .mailboxRead req n => Sys2Proof.Machine.execMailboxRead req n s
  | .adaptRestart a => Sys2Proof.Machine.execAdaptRestart a s
  | .reacquire a => Sys2Proof.Machine.execReacquire a s
  | .lockoutWrite a => Sys2Proof.Machine.execLockoutWrite a s
  | .wakeWrite a => Sys2Proof.Machine.execWakeWrite a s
  | .crcStart a => Sys2Proof.Machine.execCrcStart a s
  | .crcStop a => Sys2Proof.Machine.execCrcStop a s
  | .crcInit a => Sys2Proof.Machine.execCrcInit a s
  | .snapSelWrite a => Sys2Proof.Machine.execSnapSelWrite a s
  | .ledgerSelWrite a => Sys2Proof.Machine.execLedgerSelWrite a s
  | .routeSelWrite a => Sys2Proof.Machine.execRouteSelWrite a s
  | .keySelWrite a => Sys2Proof.Machine.execKeySelWrite a s
  | .apsTxWrite a => Sys2Proof.Machine.execApsTxWrite a s
  | .apsTxInsert k => Sys2Proof.Machine.execApsTxInsert k s
  | .spillConsWrite a => Sys2Proof.Machine.execSpillConsWrite a s
  | .stampFifoPop cp => Sys2Proof.Machine.execStampFifoPop cp s
  | .rxCfgEnableSet a => Sys2Proof.Machine.execRxCfgEnableSet a s
  | .rxCfgEnableClear a => Sys2Proof.Machine.execRxCfgEnableClear a s
  | .rxConsWrite a => Sys2Proof.Machine.execRxConsWrite a s
  | .txProdWrite a => Sys2Proof.Machine.execTxProdWrite a s
  | .poolProdWrite a => Sys2Proof.Machine.execPoolProdWrite a s
  | .poolEnableClear a => Sys2Proof.Machine.execPoolEnableClear a s
  | .nrxConsWrite a => Sys2Proof.Machine.execNrxConsWrite a s
  | .pdResetReload => Sys2Proof.Machine.execPdResetReload s
  | .domainIdleReturn d => Sys2Proof.Machine.execDomainIdleReturn d s
  | .laneSignalDetect l => Sys2Proof.Machine.execLaneSignalDetect l s
  | .laneSignalLoss l => Sys2Proof.Machine.execLaneSignalLoss l s
  | .laneCdrLock l offset => Sys2Proof.Machine.execLaneCdrLock l offset s
  | .laneAdaptDone l => Sys2Proof.Machine.execLaneAdaptDone l s
  | .adaptTrim l step => Sys2Proof.Machine.execAdaptTrim l step s
  | .fecCodeword l r => Sys2Proof.Machine.execFecCodeword l r s
  | .fecDegSecond l => Sys2Proof.Machine.execFecDegSecond l s
  | .flexoFrameRx l f => Sys2Proof.Machine.execFlexoFrameRx l f s
  | .flexoMultiframeRx p => Sys2Proof.Machine.execFlexoMultiframeRx p s
  | .otucnFramePeriod p f => Sys2Proof.Machine.execOtucnFramePeriod p f s
  | .dlofSet p => Sys2Proof.Machine.execDlofSet p s
  | .dlofClear p => Sys2Proof.Machine.execDlofClear p s
  | .dlomSet p => Sys2Proof.Machine.execDlomSet p s
  | .dlomClear p => Sys2Proof.Machine.execDlomClear p s
  | .loOduFrameRx t f => Sys2Proof.Machine.execLoOduFrameRx t f s
  | .dloflomTimer t => Sys2Proof.Machine.execDloflomTimer t s
  | .consequentActionApply q act => Sys2Proof.Machine.execConsequentActionApply q act s
  | .pmSecondEnd second => Sys2Proof.Machine.execPmSecondEnd second s
  | .pmClassify q => Sys2Proof.Machine.execPmClassify q s
  | .pmBinClose => Sys2Proof.Machine.execPmBinClose s
  | .mapperPeriodEnd t q => Sys2Proof.Machine.execMapperPeriodEnd t q s
  | .jcRx t j => Sys2Proof.Machine.execJcRx t j s
  | .mapCapSend p => Sys2Proof.Machine.execMapCapSend p s
  | .capSeenExpire t => Sys2Proof.Machine.execCapSeenExpire t s
  | .methodChange t => Sys2Proof.Machine.execMethodChange t s
  | .seamRelease g c bad => Sys2Proof.Machine.execSeamRelease g c bad s
  | .seamCopyRx g leg c => Sys2Proof.Machine.execSeamCopyRx g leg c s
  | .seamBuild g leads => Sys2Proof.Machine.execSeamBuild g leads s
  | .seamSlewEnd g leg => Sys2Proof.Machine.execSeamSlewEnd g leg s
  | .seamFallbackExit g => Sys2Proof.Machine.execSeamFallbackExit g s
  | .seamWtrExpire g leg => Sys2Proof.Machine.execSeamWtrExpire g leg s
  | .seamAdmission g leg hold => Sys2Proof.Machine.execSeamAdmission g leg hold s
  | .seamDegradeTimer g leg => Sys2Proof.Machine.execSeamDegradeTimer g leg s
  | .seamRefitTimer g leg => Sys2Proof.Machine.execSeamRefitTimer g leg s
  | .seamStatusNoteSend g => Sys2Proof.Machine.execSeamStatusNoteSend g s
  | .seamStatusNoteRx n => Sys2Proof.Machine.execSeamStatusNoteRx n s
  | .seamRetireNoteRx n => Sys2Proof.Machine.execSeamRetireNoteRx n s
  | .seamRetireAckRx n => Sys2Proof.Machine.execSeamRetireAckRx n s
  | .seamRetireResend g => Sys2Proof.Machine.execSeamRetireResend g s
  | .seamRetireGiveup g => Sys2Proof.Machine.execSeamRetireGiveup g s
  | .notesStaleSet g => Sys2Proof.Machine.execNotesStaleSet g s
  | .rtagRecoveryFrame cp leg seq => Sys2Proof.Machine.execRtagRecoveryFrame cp leg seq s
  | .rtagRecoveryReset cp => Sys2Proof.Machine.execRtagRecoveryReset cp s
  | .ppsInEdge j at_ => Sys2Proof.Machine.execPpsInEdge j at_ s
  | .todInMessage j bytes => Sys2Proof.Machine.execTodInMessage j bytes s
  | .actWindowEnd r ok => Sys2Proof.Machine.execActWindowEnd r ok s
  | .freqGateEnd r df => Sys2Proof.Machine.execFreqGateEnd r df s
  | .refMeasurement r ferr => Sys2Proof.Machine.execRefMeasurement r ferr s
  | .refWtrExpire r => Sys2Proof.Machine.execRefWtrExpire r s
  | .driftWindowEnd means osc temp steady => Sys2Proof.Machine.execDriftWindowEnd means osc temp steady s
  | .tkLock => Sys2Proof.Machine.execTkLock s
  | .tkLockLoss => Sys2Proof.Machine.execTkLockLoss s
  | .pullEnd => Sys2Proof.Machine.execPullEnd s
  | .slewEnd => Sys2Proof.Machine.execSlewEnd s
  | .warmingClear => Sys2Proof.Machine.execWarmingClear s
  | .ppsOutEdge j => Sys2Proof.Machine.execPpsOutEdge j s
  | .todOutSend j => Sys2Proof.Machine.execTodOutSend j s
  | .outputRealign k => Sys2Proof.Machine.execOutputRealign k s
  | .segmentRemeasure seg value => Sys2Proof.Machine.execSegmentRemeasure seg value s
  | .segmentStale seg => Sys2Proof.Machine.execSegmentStale seg s
  | .ptpSyncRx pt h oneStep t1 t2 corr => Sys2Proof.Machine.execPtpSyncRx pt h oneStep t1 t2 corr s
  | .ptpFollowUpRx pt h t1 corr => Sys2Proof.Machine.execPtpFollowUpRx pt h t1 corr s
  | .ptpDelayReqRx pt h t4 => Sys2Proof.Machine.execPtpDelayReqRx pt h t4 s
  | .ptpDelayRespRx pt h t3 t4 => Sys2Proof.Machine.execPtpDelayRespRx pt h t3 t4 s
  | .ptpAnnounceRx pt h cls states utc => Sys2Proof.Machine.execPtpAnnounceRx pt h cls states utc s
  | .ptpAnnounceTimeout pt => Sys2Proof.Machine.execPtpAnnounceTimeout pt s
  | .ptpSyncTx pt => Sys2Proof.Machine.execPtpSyncTx pt s
  | .ptpAnnounceTx pt => Sys2Proof.Machine.execPtpAnnounceTx pt s
  | .ptpDelayReqTx pt => Sys2Proof.Machine.execPtpDelayReqTx pt s
  | .txMessageSend p stamp => Sys2Proof.Machine.execTxMessageSend p stamp s
  | .txMessageRx p m t4 => Sys2Proof.Machine.execTxMessageRx p m t4 s
  | .stampRecord cp time ptp => Sys2Proof.Machine.execStampRecord cp time ptp s
  | .stampSpillMove cp => Sys2Proof.Machine.execStampSpillMove cp s
  | .clientPortAlign cp arrivals => Sys2Proof.Machine.execClientPortAlign cp arrivals s
  | .clientFrameClassify cp f => Sys2Proof.Machine.execClientFrameClassify cp f s
  | .clientFrameEnd cp toClient f => Sys2Proof.Machine.execClientFrameEnd cp toClient f s
  | .tapFrameComplete cp => Sys2Proof.Machine.execTapFrameComplete cp s
  | .rxStarveTimeout cp => Sys2Proof.Machine.execRxStarveTimeout cp s
  | .poolEntryRead bp entry => Sys2Proof.Machine.execPoolEntryRead bp entry s
  | .txDescriptorRead cp d => Sys2Proof.Machine.execTxDescriptorRead cp d s
  | .injectPlace cp run => Sys2Proof.Machine.execInjectPlace cp run s
  | .injectTimeout cp => Sys2Proof.Machine.execInjectTimeout cp s
  | .cirumlinkCycle => Sys2Proof.Machine.execCirumlinkCycle s
  | .slotFrameRx k f => Sys2Proof.Machine.execSlotFrameRx k f s
  | .slot0Rx k f => Sys2Proof.Machine.execSlot0Rx k f s
  | .trainTimeout k => Sys2Proof.Machine.execTrainTimeout k s
  | .raiseTimeout k => Sys2Proof.Machine.execRaiseTimeout k s
  | .downRetry k => Sys2Proof.Machine.execDownRetry k s
  | .lowerHoldExpire k => Sys2Proof.Machine.execLowerHoldExpire k s
  | .autoWakeSend => Sys2Proof.Machine.execAutoWakeSend s
  | .mirrorRecordSend kind => Sys2Proof.Machine.execMirrorRecordSend kind s
  | .mirrorRecordRx r => Sys2Proof.Machine.execMirrorRecordRx r s
  | .mirrorRetransmit => Sys2Proof.Machine.execMirrorRetransmit s
  | .mirrorResyncStart => Sys2Proof.Machine.execMirrorResyncStart s
  | .domainNoteRx link n crcOk => Sys2Proof.Machine.execDomainNoteRx link n crcOk s
  | .fetchReqRx n => Sys2Proof.Machine.execFetchReqRx n s
  | .routeLinkDown link => Sys2Proof.Machine.execRouteLinkDown link s
  | .routeLinkUp link => Sys2Proof.Machine.execRouteLinkUp link s
  | .selvedgeFenceRequest j => Sys2Proof.Machine.execSelvedgeFenceRequest j s
  | .selvedgeFenced j r => Sys2Proof.Machine.execSelvedgeFenced j r s
  | .selvedgeFaultFence j r => Sys2Proof.Machine.execSelvedgeFaultFence j r s
  | .selvedgeResume j => Sys2Proof.Machine.execSelvedgeResume j s
  | .selvedgeActive j => Sys2Proof.Machine.execSelvedgeActive j s
  | .ledgerAuditPeriodic => Sys2Proof.Machine.execLedgerAuditPeriodic s
  | .ledgerCheckpointPeriodic => Sys2Proof.Machine.execLedgerCheckpointPeriodic s
  | .rowRetireStart ch row hard => Sys2Proof.Machine.execRowRetireStart ch row hard s
  | .rowRetireComplete ch row => Sys2Proof.Machine.execRowRetireComplete ch row s
  | .scrubPassComplete late corr hits => Sys2Proof.Machine.execScrubPassComplete late corr hits s
  | .sramScrubPass reloads state => Sys2Proof.Machine.execSramScrubPass reloads state s
  | .journalBlockWrite block verified => Sys2Proof.Machine.execJournalBlockWrite block verified s
  | .telemetrySample sensors => Sys2Proof.Machine.execTelemetrySample sensors s
  | .sliceIslandFault sl detail => Sys2Proof.Machine.execSliceIslandFault sl detail s
  | .weftIslandFault detail => Sys2Proof.Machine.execWeftIslandFault detail s
  | .dramChannelFault ch lost => Sys2Proof.Machine.execDramChannelFault ch lost s
  | .memIslandFault detail => Sys2Proof.Machine.execMemIslandFault detail s
  | .hostIslandFault detail => Sys2Proof.Machine.execHostIslandFault detail s
  | .ringIslandFault detail => Sys2Proof.Machine.execRingIslandFault detail s
  | .coreFault detail => Sys2Proof.Machine.execCoreFault detail s
  | .overTemperature detail => Sys2Proof.Machine.execOverTemperature detail s
  | .journalFault block => Sys2Proof.Machine.execJournalFault block s
  | .oscillatorFault detail => Sys2Proof.Machine.execOscillatorFault detail s
  | .timeIslandFault detail => Sys2Proof.Machine.execTimeIslandFault detail s
  | .hubIslandFault detail => Sys2Proof.Machine.execHubIslandFault detail s
  | .faultRecordWrite => Sys2Proof.Machine.execFaultRecordWrite s
  | .smbAddr target offset pec => Sys2Proof.Machine.execSmbAddr target offset pec s
  | .smbRead target => Sys2Proof.Machine.execSmbRead target s
  | .smbWrite target value pec => Sys2Proof.Machine.execSmbWrite target value pec s
  | .smbRecSel target sel pec => Sys2Proof.Machine.execSmbRecSel target sel pec s
  | .smbRecRead target => Sys2Proof.Machine.execSmbRecRead target s
  | .smbStatus target => Sys2Proof.Machine.execSmbStatus target s
  | .smbSclTimeout => Sys2Proof.Machine.execSmbSclTimeout s
  | .extest pins => Sys2Proof.Machine.execExtest pins s
  | .idcode => Sys2Proof.Machine.execIdcode s
  | .samplePreload preload pins => Sys2Proof.Machine.execSamplePreload preload pins s
  | .extestPulse pins => Sys2Proof.Machine.execExtestPulse pins s
  | .extestTrain pins => Sys2Proof.Machine.execExtestTrain pins s
  | .clamp => Sys2Proof.Machine.execClamp s
  | .highz => Sys2Proof.Machine.execHighz s
  | .bypass opcode => Sys2Proof.Machine.execBypass opcode s
  | .regAccess write offset data => Sys2Proof.Machine.execRegAccess write offset data s
  | .jtagTestLogicReset => Sys2Proof.Machine.execJtagTestLogicReset s
  | .msixVectorMaskWrite a => Sys2Proof.Machine.execMsixVectorMaskWrite a s
  | .exchValidExpire p => Sys2Proof.Machine.execExchValidExpire p s
  | .clientAlignLoss cp => Sys2Proof.Machine.execClientAlignLoss cp s
  | .faultOrderedSetsRx cp remote on => Sys2Proof.Machine.execFaultOrderedSetsRx cp remote on s
  | .resyncReoffer => Sys2Proof.Machine.execResyncReoffer s

end Sys2Proof.Machine
end

