-- ==== Sys2Proof/Machine/Tick.lean ====
section
/-! DEFINITION. What the part does when no command waits: one edge of the register clock (R551) passes. -/

namespace Sys2Proof.Machine

/-- One register-clock edge, 4 ns, with the time scale (log 6): a guard window whose 250 edges have passed expires
(R126), and TX_CONS passes injected frames that have left (R400). -/
def Part.tick (p : Part) : Part :=
  ([Req.host, .mc0, .mc1, .mc2, .mc3, .smb, .jtag].foldl (fun (x : Part) q => x.endGuard 251 q)
    { p with clk := p.clk + 1 }).drainAll.tickTime

/-- The idle step's effect on the machine. -/
def State.tick (s : State) : State := { s with part := s.part.tick }

end Sys2Proof.Machine
end

