-- ==== Sys2Proof/WellFormed.lean ====
section
/-! DEFINITION. What a command's operands must be before it can be a command at all: the lengths and ranges
the spec's layouts fix. Register offsets, instances and codes are Fin or BitVec types, so only these remain. -/

namespace Sys2Proof

open Sys2Proof.Machine

/-- Correctable counts of a codeword (R198): 1 to 15 symbols, each with 1 to 10 bits. -/
def codewordOk : CodewordResult → Bool
  | .corrected sy bi => decide (1 ≤ sy) && decide (sy ≤ 15) && decide (sy ≤ bi) && decide (bi ≤ 10 * sy)
  | _ => true

/-- Overhead of a layer: 0 to 8 BIP-8 violations a slice (R231), a BEI nibble, and a TTI of 64 bytes (R224). -/
def layerOk (l : LayerOh) : Bool :=
  l.bip.all (fun n => decide (n ≤ 8)) && l.bei.all (fun n => decide (n ≤ 15)) &&
    (match l.tti with | some t => t.length == 64 | none => true)

/-- A GMP stage has six JC bytes; ODTU12 has JC1 to JC3, in the first three places (R255, R260). -/
def jcOk : JcIn → Bool
  | .carrier jc _ => jc.length == 6 || jc.length == 3
  | .client jc _ => jc.length == 6
  | .blocks _ _ => true

/-- A note's body is at most 1,024 bytes, and TTL is a byte (R432). -/
def noteOk (n : Note) : Bool := decide (n.body.length ≤ 1024) && decide (n.ttl ≤ 255)

/-- A client frame as long as a MAC can be told of (R379, R384). -/
def frameOk (f : ClientFrame) : Bool := decide (f.bytes.length ≤ 65535)

/-- A write access names a BAR0 word (R106). -/
def accessOk (a : Access) : Bool := a.addr.toNat % 4 == 0

/-- An access is 1 to 16 words in BAR0; the host reaches no target but the register space (R108, R442). -/
def busOpOk : BusOp → Bool
  | .write a more => accessOk a && decide (more.length < 16) && decide (a.addr.toNat + 4 * more.length < 2 ^ 28)
  | .read _ addr more => addr.toNat % 4 == 0 && decide (more < 16) && decide (addr.toNat + 4 * more < 2 ^ 28)
  | .other m _ _ => m != .req .host

/-- BAR2 takes writes of 4 to 64 bytes in its 8 MiB (R85, R87). -/
def slotAccessOk : SlotAccess → Bool
  | .write o ws => o % 4 == 0 && decide (1 ≤ ws.length) && decide (ws.length ≤ 16) &&
      decide (o + 4 * ws.length ≤ 8 * 2 ^ 20)
  | .read o n => o % 4 == 0 && decide (1 ≤ n) && decide (n ≤ 16) && decide (o + 4 * n ≤ 8 * 2 ^ 20)

/-- The layouts of slot frames and of slot 0 (R412, R413). -/
def slotFrameOk (f : SlotFrame) : Bool := decide (f.payload.length ≤ 23980) && decide (f.hops ≤ 15)

/-- A mirror record's body is at most 2,368 bytes (R425). -/
def mirrorOk (r : MirrorRec) : Bool := decide (r.body.length ≤ 592)

/-- A command whose operands keep the layouts the spec fixes. -/
def Instr.wf : Instr → Bool
  | .commandSlotWrite a => slotAccessOk a
  | .cxlmemRead hpa _ => hpa % 64 == 0
  | .cxlmemWrite hpa _ => hpa % 64 == 0
  | .fecCodeword _ r => codewordOk r
  | .flexoFrameRx _ f => decide (f.map.length ≤ 24)
  | .otucnFramePeriod _ f => layerOk f.sm && layerOk f.odu && f.sites.all (fun x => decide (x.off < 122368))
  | .loOduFrameRx _ f => layerOk f.oh && f.tcm.all (fun e => decide (1 ≤ e.1) && decide (e.1 ≤ 6) && layerOk e.2)
  | .jcRx _ j => jcOk j
  | .seamBuild _ l => decide (l.length ≤ 3)
  | .todInMessage _ b => b.length == 16
  | .driftWindowEnd l _ _ _ => l.length == 16
  | .clientPortAlign _ l => decide (1 ≤ l.length) && decide (l.length ≤ 8)
  | .clientFrameClassify _ f => frameOk f
  | .clientFrameEnd _ _ f => frameOk f
  | .txDescriptorRead _ d => d.words.length == 8
  | .slotFrameRx _ f => slotFrameOk f
  | .slot0Rx _ f => f.words.length == 4 && f.lanes.length == 4 && decide (f.hops ≤ 255)
  | .mirrorRecordRx r => mirrorOk r
  | .domainNoteRx _ bs _ => decide (bs.length ≤ 2120)
  | .fetchReqRx n => noteOk n
  | .telemetrySample l => l.length == 16
  | .extest l => l.length == 250
  | .extestPulse l => l.length == 250
  | .extestTrain l => l.length == 250
  | .samplePreload d l => l.length == 250 && (match d with | some b => b.length == 250 | none => true)
  | .registerWrite c => c.ops.all busOpOk && decide ((c.ops.map BusOp.master).Nodup) && decide (c.waited ≤ 64)
  | .shFieldWrite a => accessOk a
  | .bitAliasWrite a => accessOk a
  | .maskWindowWrite a => accessOk a
  | .bastedViewWrite a => accessOk a
  | .multiwordApplyWrite a => accessOk a
  | .guardValueWrite a => accessOk a
  | .guardComplementWrite a => accessOk a
  | .lkRegisterWrite a => accessOk a
  | .thimbleWrite a => accessOk a
  | .groupEnWrite a => accessOk a
  | .decisionAnswer a => accessOk a
  | .mailboxWrite a => accessOk a
  | .adaptRestart a => accessOk a
  | .reacquire a => accessOk a
  | .lockoutWrite a => accessOk a
  | .wakeWrite a => accessOk a
  | .crcStart a => accessOk a
  | .crcStop a => accessOk a
  | .crcInit a => accessOk a
  | .snapSelWrite a => accessOk a
  | .ledgerSelWrite a => accessOk a
  | .routeSelWrite a => accessOk a
  | .keySelWrite a => accessOk a
  | .apsTxWrite a => accessOk a
  | .spillConsWrite a => accessOk a
  | .rxCfgEnableSet a => accessOk a
  | .rxCfgEnableClear a => accessOk a
  | .rxConsWrite a => accessOk a
  | .txProdWrite a => accessOk a
  | .poolProdWrite a => accessOk a
  | .poolEnableClear a => accessOk a
  | .nrxConsWrite a => accessOk a
  | .doorbell a => accessOk a
  | .replyConsWrite a => accessOk a
  | .ringCfgWrite a => accessOk a
  | .abortReqWrite a => accessOk a
  | _ => true

end Sys2Proof
end

