-- ==== Sys2Proof/Safety.lean ====
section
/-! DEFINITION. What counts as a safe run, in the terms claims use. -/

namespace Sys2Proof

open Sys2Proof.Machine

/-- A step that goes on: it answers a next state. -/
def StepsOn (s : State) : Prop := ∃ t, Machine.step s = .next t

/-- A command completes: its meaning answers a next state, and that state has a property. -/
def Completes (c : Instr) (s : State) (P : State → Prop) : Prop := ∃ t, Machine.exec c s = .next t ∧ P t

/-- A command completes and acts on the part alone: its meaning answers a next state in which the part is `p`, and
the queue, the command window and the SMBus target are as they were. -/
def Yields (c : Instr) (s : State) (p : Part) : Prop := Machine.exec c s = .next { s with part := p }

/-- No register changes but those at the offsets listed. -/
def KeepsRegsBut (l : List Nat) (s t : State) : Prop := ∀ o, o ∉ l → t.part.reg o = s.part.reg o

/-! ### Wakes (R54, R55, R520, R548) -/

/-- Does a wake event start a wake, or wait for one: DORMANT with the input applied, RST_N high, no wake under way and
no last gasp? -/
def MayWake (p : Part) : Prop :=
  p.md.cur = .dormant ∧ p.md.trans = none ∧ p.supply.loss = none ∧ p.supply.vin = true ∧ p.supply.rstN = true

/-- The part as a wake starts with the straps sampled: on its way to INERT, STRAPS and IDENTITY loaded, FALLBACK
clear. -/
def wakeStarted (strap : BitVec 3) (p : Part) : Part :=
  { p with
    supply := { p.supply with wakeHeld := false, strap := strap },
    md := { p.md with trans := some { target := .inert, dest := .inert } },
    journal := { p.journal with fallback := false },
    regs := SMap.set regReset (SMap.set regReset p.regs 0x010 (strap.setWidth 32)) 0x004 p.journal.subsys }

/-- A command that leaves the part as `p` and is a wake event there: the wake starts, or is held while PWRGOOD is low or
a test instruction holds it; where no wake may start nothing more happens. -/
def Wakes (c : Instr) (s : State) (strap : BitVec 3) (p : Part) : Prop :=
  (MayWake p → p.supply.pwrgood = true → p.tapHolds = false → Yields c s (wakeStarted strap p)) ∧
  (MayWake p → (p.supply.pwrgood = false ∨ p.tapHolds = true) →
    Yields c s { p with supply := { p.supply with wakeHeld := true } }) ∧
  (¬ MayWake p → Yields c s p)

/-! ### Register accesses -/

/-- A native word write that is carried: a requester that reaches the register space, four byte enables, an address
that leads to the register at `o`, and a mode that takes writes. -/
abbrev NativeWrite (c : Access) (o : Nat) (s : State) : Prop :=
  s.part.reaches c.req = true ∧ decodeAddr c.addr.toNat = .native o ∧ c.be = 0xF#4 ∧
    s.part.md.cur ≠ .dormant ∧ s.part.md.cur ≠ .freeze

/-- The part as a write access passes the bus: the grant is remembered and the check units have snooped it. -/
def passed (c : Access) (p : Part) : Part := (p.granted c.req).snoopBus c.req c.addr.toNat true c.val c.be

/-- The part after a write has crossed the selvedge of the register at `o`. -/
def arrived (c : Access) (o : Nat) (p : Part) : Part := ((passed c p).cross o).1

/-- The write's selvedge carries it: the register's island answers. -/
abbrev Carried (c : Access) (o : Nat) (s : State) : Prop := ((passed c s.part).cross o).2 = true

/-- A command of the bus completes and acts on the part alone: the part becomes `p`, with every slot submitted by it
copied from the command window. -/
def YieldsBus (i : Instr) (s : State) (p : Part) : Prop :=
  Machine.exec i s = .next { s with part := p.copyQueued s.window }

/-! ### Frames: the parts of the machine that a command leaves as they were -/

/-- The mode, the supply and reset pins, the journal and the test access port stay. -/
def KeepsPower (s t : State) : Prop :=
  t.part.md = s.part.md ∧ t.part.supply = s.part.supply ∧ t.part.journal = s.part.journal ∧ t.part.jtag = s.part.jtag

/-- The queue, the command window, the SMBus target, host memory and the media records stay. -/
def KeepsHost (s t : State) : Prop :=
  t.pending = s.pending ∧ t.window = s.window ∧ t.smb = s.smb ∧ t.part.hostMem = s.part.hostMem ∧
    t.part.media = s.part.media

/-- Accesses, decisions, tags, the basted set, faults and tests, and the check units stay. -/
def KeepsHub (s t : State) : Prop :=
  t.part.access = s.part.access ∧ t.part.steer = s.part.steer ∧ t.part.cmd = s.part.cmd ∧
    t.part.stitch = s.part.stitch ∧ t.part.back = s.part.back ∧ t.part.crc = s.part.crc

/-- Lanes, line ports, tributaries, points, performance monitoring and the seam stay. -/
def KeepsLines (s t : State) : Prop :=
  t.part.lanes = s.part.lanes ∧ t.part.ports = s.part.ports ∧ t.part.tribs = s.part.tribs ∧
    t.part.points = s.part.points ∧ t.part.pm = s.part.pm ∧ t.part.seams = s.part.seams ∧ t.part.recov = s.part.recov

/-- Client ports and pools, the time scale and its references, time transfer and stamps stay. -/
def KeepsClients (s t : State) : Prop :=
  t.part.clients = s.part.clients ∧ t.part.bobbins = s.part.bobbins ∧ t.part.time = s.part.time ∧
    t.part.ptp = s.part.ptp ∧ t.part.exch = s.part.exch ∧ t.part.stamps = s.part.stamps ∧
    t.part.segs = s.part.segs ∧ t.part.segRecs = s.part.segRecs

/-- Cirumlink, the twin and domain notes stay. -/
def KeepsTwin (s t : State) : Prop :=
  t.part.links = s.part.links ∧ t.part.twin = s.part.twin ∧ t.part.domain = s.part.domain

/-- The whole data path and everything that hangs on it stays. -/
def KeepsPath (s t : State) : Prop := KeepsLines s t ∧ KeepsClients s t ∧ KeepsTwin s t

/-- Everything but registers, ledger terms, messages and what traces them stays: the frame of a command that
only counts, records or announces. -/
def KeepsAllButRecords (s t : State) : Prop := KeepsPower s t ∧ KeepsHost s t ∧ KeepsHub s t ∧ KeepsPath s t

/-! ### Invariants -/

/-- The command window is in its canonical form and within BAR2's 8 MiB, and every waiting command keeps the layouts
the spec fixes. -/
abbrev WindowInv (s : State) : Prop :=
  s.window.wf = true ∧ (∀ e ∈ s.window, e.1 < 8 * 2 ^ 20) ∧ ∀ c ∈ s.pending, c.wf = true

/-- The thimble counters balance: acquisitions are releases, force releases, reset releases and thimbles held, modulo
2^32, with the owners in their canonical form. -/
abbrev ThimblesBalance (p : Part) : Prop :=
  SMap.wf (fun _ => none) p.access.owners = true ∧
    p.reg 0x2210 = p.reg 0x2214 + p.reg 0x2218 + p.reg 0x221C + BitVec.ofNat 32 p.access.owners.length

/-- Reached from a state by steps that all go on. -/
inductive Reach (s : State) : State → Prop where
  | refl : Reach s s
  | next {t u : State} : Reach s t → Machine.step t = .next u → Reach s u

end Sys2Proof
end

