-- ==== Sys2Proof/Certificates/Slice0/Obligations.lean ====
section
/-! DEFINITION. The statements for the provers. Each docstring says what is stated; OBLIGATIONS.json says which
rules it cites. -/

open Sys2Proof Sys2Proof.Machine

/-- A step runs the command at the front of the queue on the queue's rest, and gives its outcome. -/
def Obligations.StepRunsFront : Prop :=
  ∀ (c : Instr) (r : List Instr) (s : State),
    Machine.step { s with pending := c :: r } = Machine.exec c { s with pending := r }

/-- With an empty queue a step is one edge of the register clock, 4 ns (the model's choice, log 6): the edge count
rises by one and nothing outside the part changes. With no guard window open, no injected frame under way and the
timekeeper stopped nothing else does; with the timekeeper running free of a slew or a pull, OCK0 to OCK3 not running
and no pulse ending, the time scale moves on by 4 ns at the loop's frequency, in units of 2^-16 ns with the rest
carried, and nothing else changes. -/
def Obligations.IdleStepTicks : Prop :=
  ∀ s : State, s.pending = [] → ∃ p, Machine.step s = .next { s with part := p } ∧ p.clk = s.part.clk + 1 ∧
    (s.part.access.guards = [] → (∀ e ∈ s.part.clients, e.2.tx = []) → s.part.tkState = 0 →
      p = { s.part with clk := s.part.clk + 1 }) ∧
    (s.part.access.guards = [] → (∀ e ∈ s.part.clients, e.2.tx = []) → s.part.tkState ≠ 0 →
      s.part.pulling = false → s.part.slewing = false → (∀ k, k < 4 → s.part.outRuns k = false) →
      (∀ e ∈ s.part.time.high, e.2 ≠ s.part.clk + 1) →
      let a := s.part.time.loopAcc + s.part.loopFreq
      p = { s.part with
        clk := s.part.clk + 1,
        time := { s.part.time with now := s.part.time.now + 262144 + a / 2 ^ 30, loopAcc := a % 2 ^ 30 } })

/-- Every step goes on, whatever waits, and takes one command from the queue; no other command joins it. The SMBus
target changes by SMBus commands alone. The command window changes by a write of COMMAND_SLOT_WRITE, and otherwise
only where the part enters DORMANT, which may empty it. -/
def Obligations.StepGoesOn : Prop :=
  ∀ s : State, ∃ t, Machine.step s = .next t ∧ t.pending = s.pending.tail ∧
    ((∀ a o b, s.pending.head? ≠ some (.smbAddr a o b)) → (∀ a, s.pending.head? ≠ some (.smbRead a)) →
      (∀ a v b, s.pending.head? ≠ some (.smbWrite a v b)) → (∀ a k b, s.pending.head? ≠ some (.smbRecSel a k b)) →
      (∀ a, s.pending.head? ≠ some (.smbRecRead a)) → s.pending.head? ≠ some .smbSclTimeout → t.smb = s.smb) ∧
    ((∀ o ws, s.pending.head? ≠ some (.commandSlotWrite (.write o ws))) →
      t.window = s.window ∨ (s.part.md.cur ≠ .dormant ∧ t.part.md.cur = .dormant ∧ t.window = []))

/-- Every step keeps the command window canonical and within 8 MiB, and every waiting command well-formed. -/
def Obligations.StepKeepsWindow : Prop :=
  ∀ s t : State, WindowInv s → Machine.step s = .next t → WindowInv t

/-- After reset the window invariant holds and the thimbles balance. -/
def Obligations.ResetMeetsInvariants : Prop := WindowInv State.reset ∧ ThimblesBalance State.reset.part

/-- What reset leaves: DORMANT with no transition and an empty queue, every register at its reset value, every
thimble free, no tag in flight, nothing basted or waiting, and no byte of the command window written. -/
def Obligations.ResetLeaves : Prop :=
  let p := State.reset.part
  State.reset.pending = [] ∧ p.md.cur = .dormant ∧ p.md.trans = none ∧ p.supply.rstN = false ∧
    p.supply.perstN = false ∧ p.supply.pwrgood = false ∧ (∀ o, p.reg o = regReset o) ∧
    (∀ n, p.peekWord n = 0x10#32) ∧ (∀ t, p.inFlight t = false) ∧ p.stitch.basted = [] ∧ p.stitch.waiting = none ∧
    ∀ a, State.reset.window.byteAt a = 0#8

/-- THIMBLE_READ, THIMBLE_WRITE, GUARD_COMPLEMENT_WRITE of BREAK and a requester's restart keep the thimble counters
in balance, by whatever path and requester the access comes. -/
def Obligations.ThimbleCountersBalance : Prop :=
  ∀ s : State, ThimblesBalance s.part →
    (∀ (q : Req) (addr : BitVec 28) (t : State),
      Machine.exec (.thimbleRead q addr) s = .next t → ThimblesBalance t.part) ∧
    (∀ (c : Access) (t : State), Machine.exec (.thimbleWrite c) s = .next t → ThimblesBalance t.part) ∧
    (∀ (c : Access) (t : State), decodeAddr c.addr.toNat = .native 0x2204 →
      Machine.exec (.guardComplementWrite c) s = .next t → ThimblesBalance t.part) ∧
    ∀ q : Req, ThimblesBalance (s.part.restart q)

/-- VIN_RISE, LIMITER_ON, PWRGOOD_RELEASE and HOLDUP_READY: what each power-on event sets, and what stays.
PWRGOOD_RELEASE samples NODE_STRAP, and starts the wake that a held event or the released pins ask for.
WAKE_COMPLETE and BOOT_FALLBACK: with no STAGED image the ACTIVE one that passes the ROM's checks runs, and the wake
goes on to INERT; with no image that passes the part stays in DORMANT and ALERT_N's condition is set. A staged image
that does not report running leaves its bank FAILED, and FALLBACK is set. -/
def Obligations.PowerOnAndBoot : Prop :=
  ((∀ s : State, s.part.supply.vin = false → s.part.supply.loss = none →
     Completes .vinRise s fun t =>
       t = { s with part := { s.part with
         supply := { s.part.supply with vin := true, limiter := false, pwrgood := false, holdup := false },
         jtag := {} } }) ∧
   (∀ s : State, s.part.supply.vin = true → s.part.supply.loss = none →
     Completes .limiterOn s fun t =>
       t = { s with part := { s.part with supply := { s.part.supply with limiter := true } } }) ∧
   (∀ (s : State) (strap : BitVec 3), s.part.supply.limiter = true → s.part.supply.pwrgood = false →
     s.part.supply.loss = none →
     (s.part.supply.wakeHeld = false → ¬ (s.part.supply.rstN = true ∧ s.part.supply.perstN = true) →
       Completes (.pwrgoodRelease strap) s fun t =>
         t = { s with part := { s.part with supply := { s.part.supply with pwrgood := true, strap := strap } } }) ∧
     (s.part.supply.wakeHeld = true ∨ (s.part.supply.rstN = true ∧ s.part.supply.perstN = true) →
       Wakes (.pwrgoodRelease strap) s strap
         { s.part with supply := { s.part.supply with pwrgood := true, strap := strap } })) ∧
   (∀ s : State, s.part.supply.pwrgood = true → s.part.supply.holdup = false → s.part.supply.loss = none →
     Completes .holdupReady s fun t =>
       t.part.supply = { s.part.supply with holdup := true } ∧ t.part.md = s.part.md ∧
       t.part.journal = s.part.journal ∧ t.part.dram = s.part.dram ∧ t.part.out = s.part.out ∧
       KeepsHost s t ∧ KeepsHub s t ∧ KeepsPath s t ∧
       (s.part.md.cur = .dormant → s.part.md.trans = none → t.part.regs = s.part.regs))) ∧
  ((∀ (s : State) (c0 g0 c1 g1 : Bool), s.part.md.cur = .dormant → s.part.md.trans.isSome = true →
     s.part.otherBank.use ≠ .staged → s.part.activeBank.use = .active →
     (if s.part.journal.activeOne then c1 && g1 else c0 && g0) = true →
     Completes (.wakeComplete c0 g0 c1 g1) s fun t =>
       t = { s with part := { s.part with supply := { s.part.supply with
         bootCrc := BitVec.ofNat 2 (c0.toNat + 2 * c1.toNat),
         bootSig := BitVec.ofNat 2 (g0.toNat + 2 * g1.toNat) } }.booted }) ∧
   (∀ s : State, s.part.md.cur = .dormant → s.part.md.trans.isSome = true →
     Completes (.wakeComplete false false false false) s fun t =>
       t.part.md.cur = .dormant ∧ t.part.md.trans = none ∧ t.part.supply.noImage = true ∧
       t.part.journal = s.part.journal ∧ t.part.regs = [] ∧ t.part.hostMem = s.part.hostMem ∧
       t.window = s.window ∧ t.smb = s.smb ∧ t.pending = s.pending) ∧
   (∀ s : State, s.part.md.cur = .dormant → s.part.md.trans.isSome = true → s.part.otherBank.use = .staged →
     Completes .bootFallback s fun t =>
       t.part.otherBank = { s.part.otherBank with use := .failed } ∧ t.part.activeBank = s.part.activeBank ∧
       t.part.journal.fallback = true ∧ t.part.md = s.part.md ∧ t.part.supply = s.part.supply ∧
       KeepsHost s t ∧ KeepsHub s t ∧ KeepsPath s t))

/-- SUPPLY_LOSS, LAST_GASP_RECORD_WRITE and LAST_GASP_POWER_OFF (at once, and what stays, are the model's choices of
log 40). SUPPLY_LOSS puts the part in DORMANT with the input, PWRGOOD and HOLDUP_READY low and the loss noted; the
registers of blocks 0x0D to 0x12, the links, the twin, the domain and the time scale stay as they are until power-
off, the journal, the test access port, host memory, the messages sent and the counts of edges and free values stay,
and all else is as in an unpowered part. LAST_GASP_RECORD_WRITE writes, where HOLDUP_READY was 1 at the loss, the
eight words of the record and counts the loss, and nothing where it was 0. LAST_GASP_POWER_OFF ends the sequence:
the registers, the links, the twin, the domain, the time scale and the test access port too are as in an unpowered
part. -/
def Obligations.LastGaspSequence : Prop :=
  (∀ (s : State) (high : Bool), s.part.supply.vin = true → s.part.supply.loss = none →
    Completes (.supplyLoss high) s fun t =>
      t.part = {
        md := { since := s.part.clk }, clk := s.part.clk, free := s.part.free, out := s.part.out,
        journal := s.part.journal, jtag := s.part.jtag, hostMem := s.part.hostMem,
        regs := s.part.regs.filter fun e => e.1 == 0x10 || decide (0xD000 ≤ e.1) && decide (e.1 < 0x13000),
        links := s.part.links, twin := s.part.twin, domain := s.part.domain, time := s.part.time,
        supply := { s.part.supply with
          vin := false, limiter := false, pwrgood := false, holdup := false, wakeHeld := false, warm := false,
          noImage := false, alertSensors := 0#16, hostFenced := false,
          loss := some {
            cause := if high then 2 else 1, mode := s.part.md.cur, time := s.part.now,
            stitch := s.part.reg stitchCountReg, notices := 0, record := s.part.supply.holdup,
            setPending := s.part.stitch.unwritten } } } ∧
      t.window = (if s.part.md.cur = .dormant then s.window else []) ∧ t.smb = s.smb ∧ t.pending = s.pending) ∧
  (∀ (s : State) (l : LossSeq), s.part.supply.loss = some l → l.record = true →
    ∀ w : List Word,
      w = [BitVec.ofNat 32 (2 ^ 24 + l.cause * 2 ^ 16 + l.mode.code), s.part.journal.lossCount + 1#32] ++
        timeWords l.time ++ [l.stitch,
          BitVec.ofNat 32 (2 ^ 31 + l.setPending.toNat * 2 ^ 30 + l.notices % 2 ^ 16)] →
      Yields .lastGaspRecordWrite s { s.part with
        supply := { s.part.supply with loss := some { l with record := false } },
        journal := { s.part.journal with gasp := w ++ [crc32c (bytesOfWords w)], gaspNew := true,
                                         lossCount := s.part.journal.lossCount + 1#32 } }) ∧
  (∀ (s : State) (l : LossSeq), s.part.supply.loss = some l → l.record = false →
    Machine.exec .lastGaspRecordWrite s = .next s) ∧
  (∀ (s : State) (l : LossSeq), s.part.supply.loss = some l →
    Yields .lastGaspPowerOff s {
      md := { since := s.part.clk }, clk := s.part.clk, free := s.part.free, out := s.part.out,
      journal := s.part.journal, hostMem := s.part.hostMem,
      supply := { s.part.supply with loss := none } })

/-- RST_N_LOW, RST_N_RISE, PERST_N_RELEASE and CIRUMLINK_WAKE_RX. RST_N low enters DORMANT, outside a last gasp,
with a held wake dropped; the supply, the journal, the test access port, host memory and the messages sent stay and
all else is as in an unpowered part (what stays is the model's choice, log 40); in a last gasp only the pin's level
changes. RST_N rising while PERST_N is released, PERST_N released in DORMANT, and a wake received on Cirumlink are
wake events: in DORMANT with the input applied and RST_N high the wake starts with the straps sampled, or is held
while PWRGOOD is low or a test instruction holds it. RST_N rising while PERST_N is low changes the pin's level
alone, and PERST_N released outside DORMANT loads GLOBAL.IDENTITY from the journal. -/
def Obligations.ResetPinsAndWakes : Prop :=
  (∀ s : State, s.part.supply.loss = none →
    Completes .rstNLow s fun t =>
      t.part = {
        md := { since := s.part.clk }, clk := s.part.clk, free := s.part.free, out := s.part.out,
        journal := s.part.journal, jtag := s.part.jtag, hostMem := s.part.hostMem,
        supply := { s.part.supply with
          rstN := false, wakeHeld := false,
          hostFenced := s.part.supply.hostFenced && !s.part.back.heldFenced.contains 27 } } ∧
      t.window = (if s.part.md.cur = .dormant then s.window else []) ∧ t.smb = s.smb ∧ t.pending = s.pending) ∧
  (∀ (s : State) (l : LossSeq), s.part.supply.loss = some l → s.part.md.cur = .dormant →
    Yields .rstNLow s { s.part with supply := { s.part.supply with rstN := false } }) ∧
  (∀ (s : State) (strap : BitVec 3), s.part.supply.rstN = false →
    (s.part.supply.perstN = true → Wakes (.rstNRise strap) s strap
      { s.part with supply := { s.part.supply with rstN := true } }) ∧
    (s.part.supply.perstN = false → Yields (.rstNRise strap) s
      { s.part with supply := { s.part.supply with rstN := true } })) ∧
  (∀ (s : State) (strap : BitVec 3), s.part.supply.perstN = false →
    (s.part.md.cur = .dormant → Wakes (.perstNRelease strap) s strap
      { s.part with supply := { s.part.supply with perstN := true } }) ∧
    (s.part.md.cur ≠ .dormant → Yields (.perstNRelease strap) s { s.part with
      supply := { s.part.supply with perstN := true },
      regs := SMap.set regReset s.part.regs 0x004 s.part.journal.subsys })) ∧
  ∀ (s : State) (k : Fin 2) (strap : BitVec 3), Wakes (.cirumlinkWakeRx k strap) s strap s.part

/-- MODE_ENTER: a tag that runs MODE.ENTER starts the transition that R54's table lets it, through LISTEN from FIT
to CARRY, and is past its commit point; in the mode named it is DONE at once; a transition under way, DRAIN, or
cores that are away answer BUSY, a target the table does not give REJECTED_MODE with the mode's code, and a P0 that
names no mode REJECTED_PARAM; FREEZE is entered at once, whatever is under way, and answered DONE. -/
def Obligations.ModeEnterAnswers : Prop :=
  (∀ (s : State) (t : Fin 1024) (m : Mode), s.part.runs t 0x0101 = true →
    Mode.ofCode (fieldOf (s.part.par t 0) 3 0) = some m → m ≠ .freeze →
    (s.part.md.trans = none → m ≠ s.part.md.cur → s.part.md.cur ≠ .drain → s.part.coresAway = false →
      s.part.mayEnter m = true →
      Yields (.modeEnter t) s { s.part.setTagState t .committed with
        md := { s.part.md with
          trans := some {
            target := if s.part.md.cur = .fit ∧ m = .carry then .listen else m, dest := m, tag := some t.val },
          final := if m = .drain then (Mode.ofCode (fieldOf (s.part.par t 0) 7 4)).getD .inert
            else s.part.md.final } }) ∧
    (s.part.md.trans = none → m = s.part.md.cur →
      Yields (.modeEnter t) s (s.part.done t (BitVec.ofNat 64 m.code) 0#32)) ∧
    (s.part.md.trans.isSome = true → Yields (.modeEnter t) s (s.part.reject t 0x12 0)) ∧
    (s.part.md.trans = none → m ≠ s.part.md.cur → s.part.md.cur = .drain ∨ s.part.coresAway = true →
      Yields (.modeEnter t) s (s.part.reject t 0x12 0)) ∧
    (s.part.md.trans = none → m ≠ s.part.md.cur → s.part.md.cur ≠ .drain → s.part.coresAway = false →
      s.part.mayEnter m = false → Yields (.modeEnter t) s (s.part.reject t 0x10 s.part.md.cur.code))) ∧
  (∀ (s : State) (t : Fin 1024), s.part.runs t 0x0101 = true →
    Mode.ofCode (fieldOf (s.part.par t 0) 3 0) = none → Yields (.modeEnter t) s (s.part.reject t 0x11 0)) ∧
  (∀ (s : State) (t : Fin 1024), s.part.runs t 0x0101 = true →
    Mode.ofCode (fieldOf (s.part.par t 0) 3 0) = some .freeze →
    Yields (.modeEnter t) s (((s.part.setTagState t .committed).toFreeze s.part.softFreeze).done t 11#64 0#32))

/-- MODE_REACHED: the next mode of a transition is entered (`arrive`), with the journaled set coming into force
(`resumeSet`) where a resume arrives in FIT. At the destination the transition is over and a MODE.ENTER that waits
is DONE with the mode's code; before it the next part of the transition begins. Then decisions that may not stay
open close (`closeForced`). A transition to DORMANT answers its MODE.ENTER first, enters DORMANT, and empties the
command window. -/
def Obligations.ModeReachedEnters : Prop :=
  (∀ (s : State) (tr : Trans) (p q : Machine.Part), s.part.md.cur ≠ .dormant → s.part.md.trans = some tr →
    tr.target ≠ .dormant →
    p = Part.arrive { s.part with md := { s.part.md with
      trans := if tr.target = tr.dest then none else some { tr with target := nextMode tr.target } } } tr.target →
    q = (if p.md.resuming = true ∧ p.md.cur = .fit then p.resumeSet else p) →
    Completes .modeReached s fun u =>
      u.part = (if tr.target = tr.dest then
          match tr.tag with
          | some t => Part.done { q with md := { q.md with resuming := false } } t (BitVec.ofNat 64 tr.dest.code) 0#32
          | none => { q with md := { q.md with resuming := false } }
        else q).closeForced ∧
      (u.part.md.cur ≠ .dormant → u.window = s.window) ∧ u.smb = s.smb ∧ u.pending = s.pending) ∧
  (∀ (s : State) (tr : Trans), s.part.md.cur ≠ .dormant → s.part.md.trans = some tr → tr.target = .dormant →
    Completes .modeReached s fun u =>
      u.part = Part.toDormant (match tr.tag with
        | some t => s.part.done t (BitVec.ofNat 64 tr.dest.code) 0#32
        | none => s.part) ∧
      u.part.md.cur = .dormant ∧ u.part.regs = [] ∧ u.part.dram = [] ∧ u.window = [] ∧ u.smb = s.smb ∧
      u.pending = s.pending)

/-- MODE_STATE, MODE_RESUME and RESUME_START: STATE answers bits 7 to 0 of MODE_STATUS and the seconds in the mode;
RESUME sets what is armed in the journal, with one block write; in INERT after a wake with resume armed a resume
starts, for LISTEN or CARRY with a stitched set in the journal and for FIT without one. -/
def Obligations.ModeStateAndResume : Prop :=
  (∀ (s : State) (t : Fin 1024), s.part.runs t 0x0102 = true →
    Yields (.modeState t) s
      (s.part.done t (BitVec.ofNat 64 (fieldOf s.part.modeStatus 7 0)) s.part.modeSeconds)) ∧
  (∀ (s : State) (t : Fin 1024), s.part.runs t 0x0103 = true →
    Yields (.modeResume t) s (Part.done { (s.part.setTagState t .committed).journalWrites 1 with
      journal := { ((s.part.setTagState t .committed).journalWrites 1).journal with
        resume := (s.part.par t 0).getLsbD 0,
        resumeCarry := (s.part.par t 0).getLsbD 0 && (s.part.par t 0).getLsbD 1 } } t 0#64 0#32)) ∧
  (∀ s : State, s.part.md.cur = .inert → s.part.md.trans = none → s.part.journal.resume = true →
    s.part.md.woken = true →
    Yields .resumeStart s { s.part with md := { s.part.md with
      woken := false, resuming := s.part.journal.hasSet,
      trans := some { target := .fit, dest :=
        if s.part.journal.hasSet = false then .fit else if s.part.journal.resumeCarry then .carry else .listen } } })

/-- DRAIN_COMPLETE and DRAIN_TIMEOUT: with no notice left the drain ends (`drainDone`); a timeout first counts each
notice left, the twin's in ledger 0xD001 and a seam group's, whose retirement ends, in ledger 0xA000, and then ends
it. RENEW_IMAGE_RUNNING: in RENEW the new image is adopted (`adoptOther .previous`), or the restored one runs on,
and the part enters the mode RENEW left with the work that waited for the cores (`coresReturn`); after fault 0x07
the cores are back (`coresBack`). RENEW_TIMEOUT and FIRMWARE_FAULT: on timeout the staged bank fails (`failStaged`)
and the former image is being restored, which is announced in group 2; where that does not run either, uncontained
fault 0x14. DOMAIN_IDLE_RETURN and PD_RESET_RELOAD: a domain woken on demand takes its chosen depth as its depth
again, with which a DRAM domain at D3 loses what it holds (`setDepth`), but for the Cirumlink lane domains (the
model's reading, log 48) and any domain in FREEZE, which change nothing; the reload of a reset not refused and not
done sets DONE of RESET_LAST and RESET_H of POWER.HIST. -/
def Obligations.DrainRenewAndReturns : Prop :=
  ((∀ s : State, s.part.md.cur = .drain → s.part.md.trans = none → s.part.md.unacked = [] →
     Yields .drainComplete s s.part.drainDone) ∧
   (∀ s : State, s.part.md.cur = .drain → s.part.md.trans = none →
     Yields .drainTimeout s (s.part.md.unacked.foldl (fun (x : Part) u =>
       if u = 0xFFFF then x.count 0xD001 0x41 1 else (x.endRetire (u / 4)).count 0xA000 0x40 1) s.part).drainDone)) ∧
  ((∀ s : State, s.part.md.cur = .renew → s.part.md.restoring = false →
     Yields .renewImageRunning s (Part.enterMode
       { s.part.adoptOther .previous with
         md := { (s.part.adoptOther .previous).md with coresOut := false, restoring := false } }
       (s.part.adoptOther .previous).md.source).coresReturn.closeForced) ∧
   (∀ s : State, s.part.md.cur = .renew → s.part.md.restoring = true →
     Yields .renewImageRunning s (Part.enterMode
       { s.part with md := { s.part.md with coresOut := false, restoring := false } }
       s.part.md.source).coresReturn.closeForced) ∧
   (∀ s : State, s.part.md.cur ≠ .renew → s.part.md.coresOut = true →
     Yields .renewImageRunning s s.part.coresBack) ∧
   (∀ s : State, s.part.md.cur = .renew → s.part.md.restoring = false →
     Yields .renewTimeout s (Part.announce
       { s.part.failStaged with md := { s.part.failStaged.md with restoring := true } } 2 "RENEW_FAILED" 0 0#64)) ∧
   (∀ s : State, s.part.md.cur = .renew → s.part.md.restoring = true →
     Yields .firmwareFault s (s.part.uncontainedFault 0x14 0xFF 0#32))) ∧
  ((∀ (s : State) (d : Fin 148), pdGroup d ≠ 6 → s.part.md.cur ≠ .freeze →
     Yields (.domainIdleReturn d) s (s.part.setDepth d (s.part.field (pdReg d) 5 4))) ∧
   (∀ (s : State) (d : Fin 148), pdGroup d = 6 ∨ s.part.md.cur = .freeze →
     Yields (.domainIdleReturn d) s s.part) ∧
   (∀ s : State, s.part.bit 0x6048 31 = true → s.part.bit 0x6048 30 = false → s.part.bit 0x6048 29 = false →
     Yields .pdResetReload s ((s.part.setBit 0x6048 29 true).hist 0x6050 0 2)))

/-- ROW_RETIRE_START, ROW_RETIRE_COMPLETE and JOURNAL_BLOCK_WRITE. With background tasks running and MEM not fenced
a hard-failed row begins to retire (`retireRow`), and another row is offered to function 8; with MEMMARCH running
every row begins to retire; with neither running, or MEM fenced, nothing changes. A row begins to retire where its
channel has a spare that no retirement under way takes, and it is not retired or retiring. A retirement that ends
takes a spare, counts the row in SPARE_USED and in the journal's map, logs a media event, whose address is a free
value (the model's choice, log 2), raises RETIRE_H, and SPARE_LOW_H with the last spare; in FREEZE none ends. A
verified block write counts in the block's wear; a block 65,536 or more ahead of the lowest is relocated, one more
than 32,768 ahead is offered to function 10, and another stays. A failed write takes a spare block, with a count of
1 (the model's choice, log 51), and sets JOURNAL_H; with no spare block left it sets JOURNAL_H alone. -/
def Obligations.RetireAndJournalBlocks : Prop :=
  (∀ (s : State) (c : Fin 64) (row : Nat),
    (s.part.backRuns = false → s.part.marching = false → ∀ h : Bool, Yields (.rowRetireStart c row h) s s.part) ∧
    (s.part.selvState 25 ≠ 0 → ∀ h : Bool, Yields (.rowRetireStart c row h) s s.part) ∧
    (s.part.marching = true → s.part.selvState 25 = 0 →
      ∀ h : Bool, Yields (.rowRetireStart c row h) s (s.part.retireRow c row))) ∧
  (∀ (s : State) (c : Fin 64) (row : Nat), s.part.backRuns = true → s.part.marching = false → s.part.selvState 25 = 0 →
    Yields (.rowRetireStart c row true) s (s.part.retireRow c row) ∧
    Yields (.rowRetireStart c row false) s
      (Part.offer { s.part with back := { s.part.back with
        offered := SMap.set (fun _ => none) s.part.back.offered c (some row) } } 8 c 1 3#32 (applyRetire c))) ∧
  (∀ (p : Machine.Part) (c : Fin 64) (row : Nat),
    (p.back.retiring.filter fun e => e / 2 ^ 24 == c.val).length < p.field (chReg c) 28 16 →
    (p.back.retiring ++ p.journal.retiredRows).contains (rowKey c row) = false →
    p.retireRow c row = { p with back := { p.back with retiring := p.back.retiring ++ [rowKey c row] } }) ∧
  (∀ (p : Machine.Part) (c : Fin 64) (row : Nat),
    (p.field (chReg c) 28 16 ≤ (p.back.retiring.filter fun e => e / 2 ^ 24 == c.val).length ∨
      (p.back.retiring ++ p.journal.retiredRows).contains (rowKey c row) = true) → p.retireRow c row = p) ∧
  (∀ (s : State) (c : Fin 64) (row : Nat), s.part.back.retiring.contains (rowKey c row) = true →
    s.part.md.cur ≠ .freeze →
    let left := s.part.field (chReg c) 28 16 - 1
    let q : Machine.Part := { s.part with
      back := { s.part.back with retiring := s.part.back.retiring.filter (· != rowKey c row) },
      journal := { s.part.journal with retiredRows := s.part.journal.retiredRows ++ [rowKey c row] } }
    let q := (q.setField (chReg c) 28 16 left).addSat 0xA00C 1
    let q := (q.logMedia false (q.freshValue.toNat % 2 ^ 37)).useFree.hist 0xA010 2 10
    Yields (.rowRetireComplete c row) s (if left = 0 then q.hist 0xA010 0 10 else q)) ∧
  (∀ (s : State) (c : Fin 64) (row : Nat), s.part.md.cur = .freeze → Yields (.rowRetireComplete c row) s s.part) ∧
  (∀ (s : State) (b : Fin 16384), s.part.supply.holdup = true →
    let q := s.part.setWear b (s.part.wearOf b + 1)
    (q.wearMin + 65536 ≤ q.wearOf b → Yields (.journalBlockWrite b true) s q.relocate) ∧
    (q.wearOf b < q.wearMin + 65536 → q.wearMin + 32768 < q.wearOf b →
      Yields (.journalBlockWrite b true) s (q.offer 10 b 1 3#32 (applyRelocate b))) ∧
    (q.wearOf b ≤ q.wearMin + 32768 → Yields (.journalBlockWrite b true) s q) ∧
    (s.part.journal.spares ≠ 0 →
      Yields (.journalBlockWrite b false) s (Part.hist { s.part.setWear b 1 with
        journal := { (s.part.setWear b 1).journal with
          spares := s.part.journal.spares - 1, relocs := s.part.journal.relocs + 1 } } 0xB030 2 2)) ∧
    (s.part.journal.spares = 0 → Yields (.journalBlockWrite b false) s (s.part.hist 0xB030 2 2)))

/-- SLICE_ISLAND_FAULT, WEFT_ISLAND_FAULT, MEM_ISLAND_FAULT and RING_ISLAND_FAULT: outside DORMANT and FREEZE the
fault is recorded, its island fault-fenced (`faultFence`), the slice reset, the seam groups' copies dropped for
WEFT, and the fault offered to function 15 with the candidate of R484; a fault fence of MEM, where it is not fenced
already, counts the fence, stops the check units of the island and puts every matched seam group into FALLBACK; in
FREEZE a fault is recorded by `partFault` alone, which counts it. -/
def Obligations.IslandFaultsContained : Prop :=
  (∀ s : State, s.part.md.cur ≠ .dormant → s.part.md.cur ≠ .freeze →
    let offered : Nat → Nat → Nat → Word → Part → Part := fun code island cand d q =>
      (q.offerFault (s.part.faultInfo code island 0 d) cand).signals
    (∀ (k : Fin 24) (d : Word), Yields (.sliceIslandFault k d) s (offered 1 k 0 d
      ((((s.part.partFault 1 k d).noteFence 1 k).faultFence k {}).resetSlice k))) ∧
    (∀ d : Word, Yields (.weftIslandFault d) s (offered 2 24 1 d
      (((((s.part.partFault 2 24 d).noteFence 2 24).faultFence 24 {}).seamsOn).foldl
        (fun (x : Part) g => x.dropSeam 1 g) (((s.part.partFault 2 24 d).noteFence 2 24).faultFence 24 {})))) ∧
    (∀ d : Word, Yields (.ringIslandFault d) s (offered 6 28 0 d
      (((s.part.partFault 6 28 d).noteFence 6 28).faultFence 28 {}))) ∧
    (∀ d : Word, Yields (.memIslandFault d) s (offered 4 25 0 d
      ((((s.part.partFault 4 25 d).noteFence 4 25).faultFence 25 {}).announce 10 "MEM_FAULT" 25 (d.setWidth 64))))) ∧
  (∀ p : Machine.Part, (p.selvState 25 = 0 ∨ p.selvState 25 = 1) →
    let q := p.selvDrain 25 {}
    let q := if p.selvState 25 = 1 then q else (q.addWrap (selvReg 25 0x14) 1).fabricHist 0
    let a := (q.setSelv 25 2).setBit (selvReg 25 0) 8 true
    let r := ((a.crcLost 25).addWrap (selvReg 25 0x18) (a.freshValue.toNat % 2 ^ 16)).useFree
    p.faultFence 25 {} = (r.seamsOn.filter r.seamMatched).foldl Part.enterFallback r) ∧
  (∀ (s : State) (k : Fin 24) (d : Word), s.part.md.cur = .freeze →
    Yields (.sliceIslandFault k d) s (s.part.partFault 1 k d).signals ∧
    Yields (.weftIslandFault d) s (s.part.partFault 2 24 d).signals ∧
    Yields (.memIslandFault d) s (s.part.partFault 4 25 d).signals ∧
    Yields (.ringIslandFault d) s (s.part.partFault 6 28 d).signals)

/-- CORE_FAULT, DRAM_CHANNEL_FAULT, OVER_TEMPERATURE and JOURNAL_FAULT: outside DORMANT and FREEZE each is recorded
and offered to function 15 as a contained fault with its code and candidate. The cores restart and their sessions
end, but for cores that are already away, which stay so; a channel in service goes out of service, sets CHAN_H and
loses the copies named; a journal fault is one only with no spare block left, and with one left nothing changes. -/
def Obligations.PartFaultsContained : Prop :=
  (∀ s : State, s.part.md.cur ≠ .dormant → s.part.md.cur ≠ .freeze →
    let offered : Nat → Nat → Nat → Word → Part → Part := fun code island cand d q =>
      q.offerFault (s.part.faultInfo code island 0 d) cand
    (∀ d : Word,
      let q := s.part.partFault 7 0xFF d
      (q.md.coresOut = false →
        Yields (.coreFault d) s (offered 7 0xFF 0 d
          (let r : Part := { q.restartCores with
            md := { q.restartCores.md with coresOut := true, renewAt := q.clk },
            host := { q.restartCores.host with sessions := 0 } }
          if r.md.cur.tkRunning then r.tkRenew else r)).signals) ∧
      (q.md.coresOut = true → Yields (.coreFault d) s (offered 7 0xFF 0 d q).signals)) ∧
    (∀ (c : Fin 64) (lost : List (Fin 512 × Fin 3 × Nat)),
      let q := s.part.partFault 3 25 (BitVec.ofNat 32 c)
      (q.back.badChannels.contains c.val = false →
        Yields (.dramChannelFault c lost) s (offered 3 25 0 (BitVec.ofNat 32 c)
          (lost.foldl (fun (x : Part) e => x.loseCopies e.1 e.2.1 e.2.2)
            ((Part.setBit { q with back := { q.back with badChannels := q.back.badChannels ++ [c.val] } }
              (chReg c) 31 false).hist 0xA010 3 10))).signals) ∧
      (q.back.badChannels.contains c.val = true →
        Yields (.dramChannelFault c lost) s (offered 3 25 0 (BitVec.ofNat 32 c) q).signals)) ∧
    (∀ d : Word, Yields (.overTemperature d) s (offered 8 0xFF 1 d (s.part.partFault 8 0xFF d))) ∧
    (∀ b : Fin 16384, s.part.journal.spares = 0 →
      Yields (.journalFault b) s (offered 9 0xFF 0 (BitVec.ofNat 32 b) (s.part.partFault 9 0xFF (BitVec.ofNat 32 b))))) ∧
  (∀ (s : State) (b : Fin 16384), s.part.journal.spares ≠ 0 → Yields (.journalFault b) s s.part)

/-- OSCILLATOR_FAULT, TIME_ISLAND_FAULT, HUB_ISLAND_FAULT and INTERNAL_RAIL_FAULT: outside DORMANT each is recorded
with its code and island and enters FREEZE as an uncontained fault (`toFreeze`); the rail fault takes PWRGOOD low
first. -/
def Obligations.UncontainedFaultsFreeze : Prop :=
  ∀ (s : State) (d : Word), s.part.md.cur ≠ .dormant →
    Yields (.oscillatorFault d) s ((s.part.partFault 0x10 0xFF d).toFreeze (s.part.faultInfo 0x10 0xFF 1 d)) ∧
    Yields (.timeIslandFault d) s ((s.part.partFault 0x11 26 d).toFreeze (s.part.faultInfo 0x11 26 1 d)) ∧
    Yields (.hubIslandFault d) s ((s.part.partFault 0x12 0xFF d).toFreeze (s.part.faultInfo 0x12 0xFF 1 d)) ∧
    Yields (.internalRailFault d) s
      ((Part.partFault { s.part with supply := { s.part.supply with pwrgood := false } } 0x13 0xFF d).toFreeze
        (s.part.faultInfo 0x13 0xFF 1 d))

/-- TEST_RUN, TEST_RESULT, SCOPE_END, MODE_HOLD and FAULT_RECORD_WRITE. A test run starts each idle scope it names
(`startScope`) and answers their mask; one that names none is BUSY, and an intrusive one outside PROVE
REJECTED_MODE. TEST_RESULT writes the leading RESULT_LEN bytes of the result records (`writeBulk`) and answers how
many are whole and how many are left, with DETAIL 1 where some are, and MODE_HOLD the journal's fault record. A
scope's end, or one instance's, is recorded with its result, a pass returns what it tested to service
(`backInService`), and PROVE with no scope left starts the return to FIT. The fault record goes from the part to the
journal, with its serial, once HOLDUP_READY and the journal's allowance let it, and waits until then. -/
def Obligations.TestsAndRecords : Prop :=
  (∀ (s : State) (t : Fin 1024), s.part.runs t 0x0901 = true →
    let new := scopeBits.filter fun b => (s.part.par t 0).getLsbD b && !s.part.bit 0xB050 b
    let q := new.foldl (Part.startScope (s.part.patternLanes t)) (s.part.setTagState t .committed)
    (fieldOf (s.part.par t 0) 19 16 ≠ 0 → s.part.md.cur ≠ .prove →
      Yields (.testRun t) s (s.part.reject t 0x10 s.part.md.cur.code)) ∧
    (fieldOf (s.part.par t 0) 19 16 = 0 ∨ s.part.md.cur = .prove → new = [] →
      Yields (.testRun t) s (s.part.reject t 0x12 0)) ∧
    (s.part.md.cur = .prove → new ≠ [] →
      Yields (.testRun t) s (Part.done { q with back := { q.back with intrusive := true } }
        t (BitVec.ofNat 64 (new.foldl (fun n b => n + 2 ^ b) 0)) 0#32)) ∧
    (s.part.md.cur ≠ .prove → fieldOf (s.part.par t 0) 19 16 = 0 → new ≠ [] →
      Yields (.testRun t) s (q.done t (BitVec.ofNat 64 (new.foldl (fun n b => n + 2 ^ b) 0)) 0#32))) ∧
  (∀ (s : State) (t : Fin 1024), s.part.runs t 0x0902 = true →
    let recs := s.part.testRecords
    let n := min recs.length (s.part.resultLen t / 32)
    Yields (.testResult t) s
      (((s.part.setTagState t .committed).writeBulk t (bytesOfWords recs.flatten)).reply t 0
        (if n < recs.length then 1 else 0) (BitVec.ofNat 64 n) (BitVec.ofNat 32 (recs.length - n)))) ∧
  (∀ (s : State) (b : Fin 20) (inst : Nat) (r : ScopeResult) (e f : Word), s.part.bit 0xB050 b = true →
    let q := if inst = 0xFFFF then s.part.closeScope b 0xFFFF r.code e f
      else s.part.setTestRec b (inst % 0xFFFF) {
        result := r.code, errors := e, first := f, ended := s.part.clk, endTime := s.part.now,
        started := match s.part.testRec b 0xFFFF with | some x => x.started | none => s.part.clk }
    let q := if r = .pass then q.backInService b inst else q
    (q.md.cur = .prove → q.back.intrusive = true → q.reg 0xB050 = 0#32 → q.md.trans = none →
      Yields (.scopeEnd b inst r e f) s { q with
        md := { q.md with trans := some { target := .fit, dest := .fit } },
        back := { q.back with intrusive := false } }) ∧
    (q.md.cur ≠ .prove ∨ q.back.intrusive = false ∨ q.reg 0xB050 ≠ 0#32 ∨ q.md.trans ≠ none →
      Yields (.scopeEnd b inst r e f) s q)) ∧
  (∀ (s : State) (t : Fin 1024), s.part.runs t 0x0104 = true →
    Yields (.modeHold t) s ((s.part.setTagState t .committed).doneBulk t (bytesOfWords s.part.journal.faultRec) 0#64
      (BitVec.ofNat 32 (bytesOfWords s.part.journal.faultRec).length))) ∧
  (∀ s : State, s.part.back.record ≠ [] →
    (s.part.supply.holdup = true → s.part.journalFull 1 = false →
      Yields .faultRecordWrite s (Part.journalWrites { s.part with
        journal := { s.part.journal with
          faultRec := s.part.back.record, faultSerial := s.part.journal.faultSerial + 1#32 },
        back := { s.part.back with record := [] } } 1)) ∧
    (s.part.supply.holdup = false ∨ s.part.journalFull 1 = true → Yields .faultRecordWrite s s.part))

/-- ADAPT_TRIM, TELEMETRY_SAMPLE and SCRUB_PASS_COMPLETE: one step of trim at most and none within 10 ms of the
last, on a lane that runs and has adapted; a sample is stored in the twelve sensor registers, gives P_IN, crosses
the thresholds and, with the slices powered, goes to the timekeeper; a late scrub sets SCRUB_LATE and SCRUB_H where
it was clear, and a pass counts, with its corrections by channel, before the hits take effect. -/
def Obligations.BackgroundTasks : Prop :=
  (∀ (s : State) (l : Fin 96) (k : Int), s.part.backRuns = true → s.part.laneOn l = true →
    s.part.bit (laneReg l 0x10) 2 = true → -1 ≤ k → k ≤ 1 →
    ((s.part.lane l).trimAt = 0 ∨ (s.part.lane l).trimAt + 2500000 ≤ s.part.clk + 1 →
      Yields (.adaptTrim l k) s (s.part.setLane l { s.part.lane l with
        trim := (s.part.lane l).trim + k, trimAt := s.part.clk + 1 })) ∧
    ((s.part.lane l).trimAt ≠ 0 → s.part.clk + 1 < (s.part.lane l).trimAt + 2500000 →
      Yields (.adaptTrim l k) s s.part)) ∧
  (∀ (s : State) (l : List Word), s.part.backRuns = true →
    let q := l.zipIdx.foldl (fun (x : Part) e => if e.2 < 12 then x.setReg (0xB080 + 4 * e.2) e.1 else x) s.part
    let q := q.setReg 0x6004
      (BitVec.ofNat 32 ((l.getD 9 0#32).toNat * (l.getD 10 0#32).toNat / 10000 % 2 ^ 16))
    let v := (l.getD 9 0#32).toNat
    let lo := q.field 0xB024 15 0
    let hi := q.field 0xB024 31 16
    let q := q.crossStep 0 (decide (q.tempThr false < (l.getD 0 0#32).toInt))
      (decide ((l.getD 0 0#32).toInt ≤ q.tempThr false - 32))
    let q := q.crossStep 9 (decide (v < lo) || decide (hi < v)) (decide (lo + 100 ≤ v) && decide (v + 100 ≤ hi))
    Yields (.telemetrySample l) s (if q.md.cur.slicesOn then q.tkTemp (l.getD 0 0#32) else q)) ∧
  (∀ (s : State) (c : List (Fin 64 × Nat)) (h : List DramHit), s.part.backRuns = true →
    (s.part.bit 0xB004 31 = false →
      Yields (.scrubPassComplete true c h) s ((s.part.setBit 0xB004 31 true).hist 0xB030 1 2).signals) ∧
    (s.part.bit 0xB004 31 = true → Yields (.scrubPassComplete true c h) s s.part.signals) ∧
    (s.part.selvState 25 = 0 →
      Yields (.scrubPassComplete false c h) s (h.foldl Part.hitEffect ((List.range 64).foldl (fun (x : Part) i =>
        let n := (c.filter fun e => e.1.val == i).foldl (fun k e => k + e.2) 0
        (x.setField (chReg i) 15 0 (min n 0xFFFF)).addSat 0xA004 n)
          ((s.part.addWrap 0xB000 1).setReg 0xB004 0#32))).signals))

/-- COMMAND_SLOT_WRITE, where BAR2 is assigned and serves (`bar2Up`). With Memory_Active set, each word of a write
whose slot is not in flight is stored at its place, each word whose slot is in flight is dropped, and a write that
touches a slot in flight is counted once in CMDQ.SLOT_WRITE_DROP; every byte of the window outside the write reads
as before. A write before Memory_Active is counted in CMDQ.EARLY_WRITE and stores nothing. A read answers what was
last stored and changes nothing. Where BAR2 does not serve, a write and a read change nothing. -/
def Obligations.SlotWriteStores : Prop :=
  ∀ (s : State) (o : Nat) (ws : List Word),
    (s.part.bar2Up = true → s.part.memActive = true →
      Completes (.commandSlotWrite (.write o ws)) s fun t =>
        t = { s with
          window := storeWords s.part s.window o ws,
          part := if touchesFlight s.part o ws then s.part.addSat 0x4038 1 else s.part } ∧
        ∀ a : Nat, a < o ∨ o + 4 * ws.length ≤ a → t.window.byteAt a = s.window.byteAt a) ∧
    (∀ (w : Word) (m : Memory),
      storeWords s.part m o (w :: ws) =
        storeWords s.part (if s.part.inFlight (o / 0x2000) then m else m.writeWord o w) (o + 4) ws ∧
      storeWords s.part m o [] = m ∧ touchesFlight s.part o [] = false ∧
      touchesFlight s.part o (w :: ws) = (s.part.inFlight (o / 0x2000) || touchesFlight s.part (o + 4) ws)) ∧
    (s.part.bar2Up = true → s.part.memActive = false →
      Yields (.commandSlotWrite (.write o ws)) s (s.part.addSat 0x403C 1)) ∧
    (∀ n : Nat, s.part.bar2Up = true →
      Yields (.commandSlotWrite (.read o n)) s (s.part.emit (.words "BAR2" o (s.window.readWords o n)))) ∧
    (s.part.bar2Up = false →
      Yields (.commandSlotWrite (.write o ws)) s s.part ∧
      ∀ n : Nat, Yields (.commandSlotWrite (.read o n)) s s.part)

/-- SLOT_COPY, COMMAND_TIMEOUT and ABORT. A queued tag is checked once (`acceptance`): one that fails is rejected
with the status and detail found, and one that passes is RUNNING if the ordering lets it start (`mayStart`), an
ABORT past its commit point, and else stays queued; for a tag checked earlier the row starts it if the ordering does
(the model's choice, log 11). A timeout of a tag before its commit point ends it with TIMEOUT where its TIMEOUT_MS
is not 0. An ABORT that names its own tag or a free one is REJECTED_PARAM; of a tag before its commit point it ends
that tag with ABORTED, detail 1, and is DONE; of any other it is ALREADY_DONE. -/
def Obligations.TagLifeCycle : Prop :=
  (∀ (s : State) (t : Fin 1024), (s.part.tag t).st = .queued →
    let started : Part → Part := fun q =>
      if q.mayStart t then q.setTagState t (if q.opcode t / 256 = 0x0F then .committed else .running) else q
    ((s.part.tag t).checked = false → s.part.acceptance t = none →
      Yields (.slotCopy t) s (started (s.part.setTag t { s.part.tag t with checked := true }))) ∧
    (∀ st d : Nat, (s.part.tag t).checked = false → s.part.acceptance t = some (st, d) →
      Yields (.slotCopy t) s (s.part.reject t st d)) ∧
    ((s.part.tag t).checked = true → Yields (.slotCopy t) s (started s.part))) ∧
  (∀ (s : State) (t : Fin 1024), s.part.abortable t = true → fieldOf (s.part.hdr t 4) 23 0 ≠ 0 →
    Yields (.commandTimeout t) s (s.part.stopTag t 0x15 0)) ∧
  (∀ (s : State) (t : Fin 1024), (s.part.tag t).st = .committed → s.part.opcode t = 0x0F01 →
    let u := fieldOf (s.part.par t 0) 9 0
    (u = t.val ∨ (s.part.tag u).st = .free → Yields (.abort t) s (s.part.reject t 0x11 0)) ∧
    (u ≠ t.val → (s.part.tag u).st ≠ .free → s.part.abortable u = true →
      Yields (.abort t) s ((s.part.stopTag u 0x13 1).done t 0#64 0#32)) ∧
    (u ≠ t.val → (s.part.tag u).st ≠ .free → s.part.abortable u = false →
      Yields (.abort t) s (s.part.reject t 0x14 0)))

/-- BASTE_FIELDS, BASTE_IMAGE and UNPICK. The triples join the basted set together and the answer counts the fields
they select; a bad triple changes no basted field and is answered REJECTED_PARAM with its index in RESULT0 and, for
BASTE_FIELDS, its parameter word, at most 0xFE, in DETAIL (0 for an image); more than 65,536 changed registers are
NO_RESOURCE. An image is read through MEM's selvedge (`memRead`); outside host scratch it is REJECTED_PARAM, and
with another CRC-32C than the one named it is INTEGRITY with detail 2. Unpicking empties the basted set, leaves the
waiting one and answers how many fields it held. -/
def Obligations.BasteAndUnpick : Prop :=
  (∀ (q : Machine.Part) (t : Nat) (first : Option Nat) (ws : List Word),
    (∀ b sel : SMap (Word × Word), basteTriples 0 q.stitch.basted [] ws = .ok (b, sel) →
      (b.length ≤ 65536 → q.baste t first ws =
        ((q.setTagState t .committed).setBasted b).done t (BitVec.ofNat 64 (fieldCount sel)) 0#32) ∧
      (65536 < b.length → q.baste t first ws = q.reject t 0x18 0)) ∧
    (∀ k j : Nat, basteTriples 0 q.stitch.basted [] ws = .error (k, j) → q.baste t first ws =
      q.reply t 0x11 (match first with | some f => min (f + 3 * k + j) 0xFE | none => 0) (BitVec.ofNat 64 k) 0#32)) ∧
  (∀ (s : State) (t : Fin 1024), s.part.runs t 0x0201 = true →
    Yields (.basteFields t) s
      (s.part.baste t (some 1) (((s.part.tag t).params.drop 1).take (3 * (s.part.par t 0).toNat)))) ∧
  (∀ (s : State) (t : Fin 1024), s.part.runs t 0x0202 = true →
    let a := (s.part.par64 t 0).toNat
    let n := (s.part.par t 2).toNat
    let r := s.part.memRead a n
    (s.part.inScratch a n = false → Yields (.basteImage t) s (s.part.reject t 0x11 0)) ∧
    (s.part.inScratch a n = true → crc32c r.2 ≠ s.part.par t 3 → Yields (.basteImage t) s (r.1.reject t 0x19 2)) ∧
    (s.part.inScratch a n = true → crc32c r.2 = s.part.par t 3 →
      Yields (.basteImage t) s (r.1.baste t none (wordsOfBytes r.2)))) ∧
  (∀ (s : State) (t : Fin 1024), s.part.runs t 0x0401 = true →
    Yields (.unpick t) s (((s.part.setTagState t .committed).setBasted []).done t
      (BitVec.ofNat 64 (fieldCount s.part.stitch.basted)) 0#32))

/-- MAILBOX_READ, DECISION_DEADLINE, QUERY_LATENCY, QUERY_UNDELIVERED and QUERY_RECORDS. The receiver's read of a
full mailbox answers its word, empties it and is counted; any other read answers the word and changes nothing else.
An open decision outside FREEZE whose deadline's edge has passed closes, counts as missed and its candidate is
applied; before that the row changes nothing. QUERY_LATENCY answers the latency of the path between its two ends,
and REJECTED_PARAM with the first faulty parameter word where there is none. The leading RESULT_LEN bytes of the
undelivered records are written (`writeBulk`), the records written whole leave the list, and the answer says how
many went, how many stay and, in DETAIL, whether any stay. A copy of a log window is read through MEM's selvedge
(`memRead`), its poisoned records with a wrong CRC word (`recordBytes`); it is cut to the buffer with the full
length in RESULT1 (`doneBulkOf`), and an offset or length past the window is REJECTED_PARAM with detail 1 or 3. -/
def Obligations.QueriesAndDecisions : Prop :=
  ((∀ (s : State) (r : Req) (n : Fin 32),
     (mbReceiver n = some r → s.part.mbFull n = true →
       Yields (.mailboxRead r n) s
         (((s.part.emit (.data r (s.part.reg (mbReg n 0)))).setBit (mbReg n 4) 0 false).count (0x2000 + n) 1 1)) ∧
     (mbReceiver n ≠ some r ∨ s.part.mbFull n = false →
       Yields (.mailboxRead r n) s (s.part.emit (.data r (s.part.reg (mbReg n 0)))))) ∧
   (∀ (s : State) (serial : Word) (d : Decision), s.part.md.cur ≠ .freeze →
     s.part.steer.openDecs.find? (fun d => d.serial == serial) = some d →
     (d.deadline < s.part.clk → Yields (.decisionDeadline serial) s
       (((s.part.dropDecision serial).countMissed d.func).applyDecision d false d.cand).signals) ∧
     (s.part.clk ≤ d.deadline → Yields (.decisionDeadline serial) s s.part))) ∧
  ((∀ (s : State) (t : Fin 1024), s.part.runs t 0x0501 = true →
     (∀ n : Nat, s.part.pathLatency (s.part.par t 0) (s.part.par t 1) = some n →
       Yields (.queryLatency t) s (s.part.done t (BitVec.ofNat 64 n) 0#32)) ∧
     (s.part.pathLatency (s.part.par t 0) (s.part.par t 1) = none →
       Yields (.queryLatency t) s
         (s.part.reject t 0x11 (if s.part.pathEnds (s.part.par t 0) true = [] then 0 else 1)))) ∧
   (∀ (s : State) (t : Fin 1024), s.part.runs t 0x0502 = true →
     let n := min s.part.cmd.undelivered.length (s.part.resultLen t / 32)
     let q := s.part.writeBulk t (bytesOfWords s.part.cmd.undelivered.flatten)
     Yields (.queryUndelivered t) s
       (Part.reply { q with cmd := { q.cmd with undelivered := q.cmd.undelivered.drop n } } t 0x00
         (if n < s.part.cmd.undelivered.length then 1 else 0) (BitVec.ofNat 64 n)
         (BitVec.ofNat 32 (s.part.cmd.undelivered.length - n)))) ∧
   (∀ (s : State) (t : Fin 1024), s.part.runs t 0x0503 = true →
     let w := s.part.recordWindow (s.part.par t 0).toNat
     let o := (s.part.par64 t 1).toNat
     let n := (s.part.par t 3).toNat
     let r := s.part.memRead (w.1 + o) (min n (s.part.resultLen t))
     (o < w.2 → o + n ≤ w.2 → Yields (.queryRecords t) s
       (r.1.doneBulkOf t (s.part.recordBytes (if s.part.par t 0 = 1#32 then 64 else 32) (w.1 + o) r.2) n 0#64 0#32)) ∧
     (w.2 ≤ o → Yields (.queryRecords t) s (s.part.reject t 0x11 1)) ∧
     (o < w.2 → w.2 < o + n → Yields (.queryRecords t) s (s.part.reject t 0x11 3))))

/-- CXL_LINK_UP, CXL_LINK_DOWN, PERST_N_ASSERT and CONFIG_REQUEST. With the HOST island powered and not fenced and
PERST_N high, a link that comes up at a supported width and rate is recorded and ends the fenced-HOST alert, and one
that is not x8 at 32 GT/s in CXL mode is announced as degraded. A link-down resets the HOST island (`hostReset`).
PERST_N low is recorded and, with the island powered, resets it, restarts the host as a requester and takes the
rings and pools down. With the link up, a configuration request has its effect (a BAR assigned, its address bits
below its size 0, or unassigned, D0, MSI-X off) and is answered once the configuration space is loaded; until then
it is answered with CRS, and which request finds it loaded is a free value (the model's choice, log 2). -/
def Obligations.HostLinkEvents : Prop :=
  (∀ (s : State) (w g : Nat) (c : Bool), s.part.hostPowered = true → s.part.supply.perstN = true →
    s.part.host.linkUp = false → s.part.selvState 27 = 0 → [1, 2, 4, 8].contains w = true →
    [8, 16, 32].contains g = true →
    let q : Part := { s.part with host := { s.part.host with linkUp := true, width := w, gts := g, cxl := c },
                                  supply := { s.part.supply with hostFenced := false } }
    (w = 8 ∧ g = 32 ∧ c = true → Yields (.cxlLinkUp w g c) s q) ∧
    (w ≠ 8 ∨ g ≠ 32 ∨ c = false → Yields (.cxlLinkUp w g c) s
      (q.announce 10 "LINK_DEGRADED" 0 (BitVec.ofNat 64 (w + g * 256 + c.toNat * 65536))))) ∧
  (∀ s : State, (s.part.host.linkUp = true → Yields .cxlLinkDown s s.part.hostReset.signals) ∧
    (s.part.host.linkUp = false → Yields .cxlLinkDown s s.part.signals)) ∧
  (∀ s : State, (s.part.hostPowered = true →
      Yields .perstNAssert s (((Part.hostReset { s.part with
        supply := { s.part.supply with perstN := false } }).restart .host).tapsOff).signals) ∧
    (s.part.hostPowered = false →
      Yields .perstNAssert s (Part.signals { s.part with supply := { s.part.supply with perstN := false } }))) ∧
  (∀ (s : State) (op : ConfigOp), s.part.hostPowered = true → s.part.host.linkUp = true →
    let answered : HostIf → Part → Part := fun h x =>
      Part.emit { x with host := h.config op }
        (.words "CFG" 0 (if op = .read then Part.configWords { x with host := h.config op } else []))
    (s.part.host.cfgLoaded = true → Yields (.configRequest op) s (answered s.part.host s.part)) ∧
    (s.part.host.cfgLoaded = false → s.part.freshValue.getLsbD 0 = true → Yields (.configRequest op) s
      (answered { s.part.useFree.host with cfgLoaded := true } s.part.useFree)) ∧
    (s.part.host.cfgLoaded = false → s.part.freshValue.getLsbD 0 = false → Yields (.configRequest op) s
      (s.part.useFree.emit (.words "CRS" 0 [])))) ∧
  (∀ (h : HostIf) (b : Option Nat),
    h.config .read = h ∧ h.config (.bar 0 b) = { h with bar0 := barBase 0x10000000 b } ∧
    h.config (.bar 1 b) = { h with bar2 := barBase 0x800000 b } ∧
    h.config (.bar 2 b) = { h with bar4 := barBase 0x10000 b } ∧ h.config .toD0 = { h with d3hot := false } ∧
    h.config .msixOff = { h with msixEn := false })

/-- MSIX_ENABLE_SET, MSIX_VECTOR_MASK_WRITE and MSIX_HOLDOFF_END. Where the link is up, MSI-X Enable and the
Function Mask (its bit, the model's choice, log 30) are set; a Function Mask that clears sends the vectors whose PBA
bit is set (`sendPba`), enabling sends a message for each group that is pending then, and open decisions close where
steering is forced. Where BAR4 serves, a write sets a vector's mask bit or its address and data, a vector that this
opens is sent where its PBA bit is set (`sendPba`, the model's choice, log 26), and the mask write ends by closing
the open decisions where steering is forced (`closeForced`); a read answers the word. Where BAR4 does not serve,
none of them acts. The end of a hold-off, of a group's vector or a tap's, clears its two bits and sends what was
formed in it as one message. -/
def Obligations.MsixMessages : Prop :=
  (∀ (s : State) (fm : Bool), s.part.hostPowered = true → s.part.host.linkUp = true →
    let q : Part := { s.part with host := { s.part.host with msixEn := true, fmask := fm } }
    let q := if s.part.host.fmask && !fm then (List.finRange 64).foldl Part.sendPba q else q
    (s.part.host.msixEn = false → Yields (.msixEnableSet fm) s
      ((List.range 12).foldl (fun (x : Part) g => if x.groupPend g then x.message g else x) q).closeForced) ∧
    (s.part.host.msixEn = true → Yields (.msixEnableSet fm) s q.closeForced)) ∧
  (∀ s : State, s.part.bar4Up = true →
    (∀ (v : Fin 64) (m : Bool), Yields (.msixVectorMaskWrite (.mask v m)) s
      ((Part.sendPba { s.part with host := { s.part.host with
        masked := setBit64 s.part.host.masked v m } } v).closeForced).signals) ∧
    (∀ (v : Fin 64) (a : Dword) (d : Word), Yields (.msixVectorMaskWrite (.entry v a d)) s
      (Part.sendPba { s.part with host := { s.part.host with
        table := SMap.set (fun _ => (0#64, 0#32)) s.part.host.table v (a, d),
        programmed := setBit64 s.part.host.programmed v true } } v).signals) ∧
    (∀ o : Nat, Yields (.msixVectorMaskWrite (.read o)) s (s.part.emit (.words "BAR4" o [s.part.bar4Word o])).signals)) ∧
  (∀ (s : State) (a : MsixAccess), s.part.bar4Up = false → Yields (.msixVectorMaskWrite a) s s.part.signals) ∧
  (∀ (p : Machine.Part) (v : Fin 64),
    (p.host.pba.getLsbD v = true → p.host.msixEn = true → p.vectorShut v = false →
      p.sendPba v = Part.formVector { p with host := { p.host with pba := setBit64 p.host.pba v false } } v (p.holdoff v)) ∧
    (p.host.pba.getLsbD v = false ∨ p.host.msixEn = false ∨ p.vectorShut v = true → p.sendPba v = p)) ∧
  (∀ (p : Machine.Part) (g : Fin 12) (n : Fin 48), p.holdoff g = p.field (holdoffReg g) 9 0 ∧
    p.holdoff (16 + n) = p.field (tapReg n 0x14) 9 0) ∧
  (∀ (s : State) (v : Fin 64),
    let q : Part := { s.part with host := { s.part.host with
      holdOpen := setBit64 s.part.host.holdOpen v false, holdFormed := setBit64 s.part.host.holdFormed v false } }
    (s.part.host.holdOpen.getLsbD v = true → Yields (.msixHoldoffEnd v) s
      (if s.part.host.holdFormed.getLsbD v then q.formVector v (q.holdoff v) else q)) ∧
    (s.part.host.holdOpen.getLsbD v = false → Yields (.msixHoldoffEnd v) s s.part))

/-- HDM_COMMIT, IDE_KM_KEY_INSTALL, IDE_INTEGRITY_FAIL, DOE_DISCOVERY and CDAT_TABLE_ACCESS. Where BAR0 serves and
no locked commit stands, a decoder of one way whose size is a multiple of 256 MiB up to 128 GiB is committed, with
its lock; other ways or a greater size leave no decoder committed and show Error Not Committed, and so does any
other size (the model's choice, log 79); the DRAM channels that then hold an allocation do not stay below D2
(`limitDram`). A key installed over a session, with the cores there, makes its stream secure; a failure of a keyed
stream makes it insecure and is announced. With the cores there, discovery answers the objects of the mailbox in
order, with the numbers of log 9, and a CDAT access answers the entry of a window and clears the entry-change
indication (log 80); an index past them, and an unsupported object type, is a DOE error. With the cores away the
first DOE request is held, and each is answered DOE Busy. -/
def Obligations.DecoderIdeAndDoe : Prop :=
  (∀ (s : State) (base size ways : Nat) (lock : Bool), s.part.bar0Up = true →
    (s.part.host.hdm.committed && s.part.host.hdm.locked) = false →
    (ways = 1 → size ≤ 128 * 2 ^ 30 → size % (256 * 2 ^ 20) = 0 →
      Yields (.hdmCommit base size ways lock) s (Part.limitDram { s.part with host := { s.part.host with
        hdm := { committed := true, locked := lock, base := base, size := size } } })) ∧
    (ways ≠ 1 ∨ 128 * 2 ^ 30 < size ∨ size % (256 * 2 ^ 20) ≠ 0 →
      Yields (.hdmCommit base size ways lock) s
        (Part.limitDram { s.part with host := { s.part.host with hdm := { err := true } } }))) ∧
  (∀ (s : State) (skid : Bool) (key : BitVec 256), s.part.host.sessions ≠ 0 → s.part.coresAway = false →
    s.part.spdmReady = true →
    Yields (.ideKmKeyInstall .mem skid key) s { s.part with host := { s.part.host with
      ideMem := { keyed := true, insecure := false, failed := false, skid := skid, key := key } } } ∧
    Yields (.ideKmKeyInstall .io skid key) s { s.part with host := { s.part.host with
      ideIo := { keyed := true, insecure := false, failed := false, skid := false, key := key } } }) ∧
  (∀ s : State,
    (s.part.host.ideIo.keyed = true → Yields (.ideIntegrityFail .io) s
      (Part.announce { s.part with host := { s.part.host with
        ideIo := { s.part.host.ideIo with insecure := true, failed := true } } } 10 "INTEGRITY" 0 0#64)) ∧
    (s.part.host.ideMem.keyed = true → Yields (.ideIntegrityFail .mem) s
      (Part.announce { s.part with host := { s.part.host with
        ideMem := { s.part.host.ideMem with insecure := true, failed := true } } } 10 "INTEGRITY" 1 0#64))) ∧
  (∀ s : State, s.part.spdmReady = true → s.part.coresAway = false →
    (∀ (k : Nat) (w : Word), [0x00000001#32, 0x00010001#32, 0x00020001#32, 0x00021E98#32][k]? = some w →
      Yields (.doeDiscovery (.discovery k)) s (s.part.emit (.words "DOE_DISCOVERY" k [w]))) ∧
    (∀ k : Nat, 4 ≤ k → Yields (.doeDiscovery (.discovery k)) s (s.part.emit (.words "DOE_ERROR" k []))) ∧
    (∀ w : Word,
      (w ∈ [0x00000001#32, 0x00010001#32, 0x00020001#32, 0x00021E98#32] → Yields (.doeDiscovery (.object w)) s s.part) ∧
      (w ∉ [0x00000001#32, 0x00010001#32, 0x00020001#32, 0x00021E98#32] →
        Yields (.doeDiscovery (.object w)) s (s.part.emit (.words "DOE_ERROR" 0 [w])))) ∧
    (∀ e : Nat, e < 4 →
      let b := BitVec.ofNat 64 (s.part.cdatRange e).1
      let n := BitVec.ofNat 64 (s.part.cdatRange e).2
      Yields (.cdatTableAccess e) s (Part.emit { s.part with host := { s.part.host with cdatChange := false } }
        (.words "CDAT" e ([BitVec.ofNat 32 e, b.extractLsb' 0 32, b.extractLsb' 32 32, n.extractLsb' 0 32,
          n.extractLsb' 32 32, 400#32, 28#32] ++ if e = 3 then [300#32, 28#32] else [0#32, 0#32])))) ∧
    (∀ e : Nat, 4 ≤ e → Yields (.cdatTableAccess e) s (s.part.emit (.words "DOE_ERROR" e [])))) ∧
  (∀ s : State, s.part.spdmReady = true → s.part.coresAway = true →
    let busy := s.part.emit (.words "DOE Busy" 0 [])
    let held : DoeCall → Part := fun c =>
      if s.part.host.doeHeld.isSome then busy
      else { busy with host := { busy.host with doeBusy := true, doeHeld := some c } }
    (∀ r : DoeRequest, Yields (.doeDiscovery r) s (held (.plain r))) ∧
    (∀ e : Nat, Yields (.cdatTableAccess e) s (held (.cdat e))))

/-- GET_EVENT_RECORDS, CLEAR_EVENT_RECORDS, the interrupt policy, the time stamp, GET_SUPPORTED_LOGS, GET_LOG,
IDENTIFY_MEMORY_DEVICE, GET_PARTITION_INFO, GET_HEALTH_INFO and GET_POISON_LIST of the memory-device mailbox, where
BAR0 serves: the exact state each leaves, with its answer (the payload's word layout, the health word and the poison
list as DPAs of lines are the model's choice, log 9; an interrupt policy of another vector than 10 is an invalid
input, log 81). With the cores away each is answered Busy, and nothing else changes. -/
def Obligations.MediaMailbox : Prop :=
  (∀ s : State, s.part.bar0Up = true → s.part.coresAway = false →
     Yields .getEventRecords s (s.part.emit (.words "EVENT_RECORDS" s.part.media.events.length
       (s.part.media.events.foldr (fun r l => [BitVec.ofNat 32 r.handle, BitVec.ofNat 32 r.dram.toNat,
         loWord (BitVec.ofNat 64 r.dpa), hiWord (BitVec.ofNat 64 r.dpa), loWord r.stamp, hiWord r.stamp] ++ l) []))) ∧
     (∀ hs : List Nat, Yields (.clearEventRecords false hs) s
       (Part.emit { s.part with media := { s.part.media with
         events := s.part.media.events.filter fun r => !hs.contains r.handle } } (.words "MB_OK" 0x101 [])) ∧
       Yields (.clearEventRecords true hs) s
         (Part.emit { s.part with media := { s.part.media with events := [] } } (.words "MB_OK" 0x101 []))) ∧
     Yields .getEventInterruptPolicy s
       (s.part.emit (.words "INT_POLICY" 0x102 [BitVec.ofNat 32 (s.part.media.policyMsix.toNat + 10 * 16)])) ∧
     Yields (.setEventInterruptPolicy true 10) s
       (Part.emit { s.part with media := { s.part.media with policyMsix := true } } (.words "MB_OK" 0x103 [])) ∧
     (∀ v : Nat, v ≠ 10 → Yields (.setEventInterruptPolicy true v) s (s.part.emit (.words "MB_INVALID" 0x103 []))) ∧
     (∀ v : Nat, Yields (.setEventInterruptPolicy false v) s
       (Part.emit { s.part with media := { s.part.media with policyMsix := false } } (.words "MB_OK" 0x103 []))) ∧
     Yields .getTimestamp s
       (s.part.emit (.words "TIMESTAMP" 0x300 [loWord s.part.stampClock, hiWord s.part.stampClock])) ∧
     (∀ v : Dword, Yields (.setTimestamp v) s
       (Part.emit { s.part with media := { s.part.media with stampBase := v, stampAt := s.part.clk } }
         (.words "MB_OK" 0x301 [])))) ∧
  (∀ s : State, s.part.bar0Up = true → s.part.coresAway = false →
     Yields .getSupportedLogs s (s.part.emit (.words "SUPPORTED_LOGS" 0x400 [1#32])) ∧
     Yields (.getLog true) s (s.part.emit (.words "LOG" 0x401 mailboxOpcodes)) ∧
     Yields (.getLog false) s (s.part.emit (.words "MB_INVALID" 0x401 [])) ∧
     Yields .identifyMemoryDevice s
       (s.part.emit (.words "IDENTIFY" 0x4000 [512#32, 512#32, 0#32, 0#32, 256#32, 0#32])) ∧
     Yields .getPartitionInfo s (s.part.emit (.words "PARTITION" 0x4100 [512#32, 0#32, 0#32, 0#32])) ∧
     Yields .getHealthInfo s (s.part.emit (.words "HEALTH" 0x4200
       [BitVec.ofNat 32 (s.part.selvState 25 == 0).toNat, s.part.reg 0xB080, s.part.reg 0xA004])) ∧
     Yields .getPoisonList s (s.part.emit (.words "POISON_LIST" s.part.media.poisonOver.toNat
       (s.part.media.poison.foldr (fun l r =>
         [loWord (BitVec.ofNat 64 (64 * l)), hiWord (BitVec.ofNat 64 (64 * l))] ++ r) [])))) ∧
  (∀ (s : State) (c : Instr), s.part.bar0Up = true → s.part.coresAway = true →
     (c ∈ [.getEventRecords, .getEventInterruptPolicy, .getTimestamp, .getSupportedLogs, .identifyMemoryDevice,
         .getPartitionInfo, .getHealthInfo, .getPoisonList] ∨ (∃ b l, c = .clearEventRecords b l) ∨
       (∃ b v, c = .setEventInterruptPolicy b v) ∨ (∃ v, c = .setTimestamp v) ∨ (∃ b, c = .getLog b)) →
     Yields c s (s.part.emit (.words "MB_BUSY" 0 [])))

/-- HOST_ISLAND_FAULT and SRAM_SCRUB_PASS. Outside DORMANT and FREEZE the host fault is recorded, fenced
(`faultFence`) and resets the HOST island as PERST_N low does, sets ALERT_N's fenced-HOST condition and is offered
to function 15; in FREEZE it is recorded alone. With background tasks running a scrub pass is counted with its
reloads, which set SRAM_SCRUB_H where there are any, and each word that cannot be corrected is its island's fault,
with a fault loss of one unit where the word held a counted quantity. -/
def Obligations.HostFaultAndSramScrub : Prop :=
  (∀ (s : State) (d : Word), s.part.md.cur ≠ .dormant → s.part.md.cur ≠ .freeze →
    let r := (((((s.part.partFault 5 27 d).noteFence 5 27).faultFence 27 {}).hostReset).restart .host).tapsOff
    Yields (.hostIslandFault d) s ((Part.offerFault { r with supply := { r.supply with hostFenced := true } }
      (s.part.faultInfo 5 27 0 d) 0).signals)) ∧
  (∀ (s : State) (d : Word), s.part.md.cur = .freeze →
    Yields (.hostIslandFault d) s (s.part.partFault 5 27 d).signals) ∧
  (∀ (s : State) (n : Nat) (ws : List (Fin 29 × Option Nat)), s.part.backRuns = true →
    let q := (s.part.addWrapField 0xB008 15 0 1).addSatField 0xB008 31 16 n
    Yields (.sramScrubPass n ws) s (ws.foldl (fun (x : Part) w =>
      (match w.2 with | some led => x.faultLoss led 3 1 | none => x).islandFault w.1)
      (if n = 0 then q else q.hist 0xB030 1 2)).signals)

/-- D3HOT_ENTRY disables the BAR decoders and CXL.mem and nothing else: in any state in D3hot no host access reaches
the register space through BAR0, BAR2 and BAR4 do not serve and no address is served by CXL.mem, and entry changes
nothing but that state, so that the mode, the datapath, the registers and the LPDDR5X stay as they were. -/
def Obligations.D3hotDisables : Prop :=
  (∀ s : State, s.part.hostPowered = true → s.part.host.linkUp = true →
    Completes .d3hotEntry s fun t => t = { s with part := { s.part with host := { s.part.host with d3hot := true } } } ∧
      t.part.md = s.part.md ∧ t.part.dram = s.part.dram ∧ t.part.regs = s.part.regs ∧ KeepsPath s t) ∧
  (∀ p : Part, p.host.d3hot = true → p.reaches .host = false ∧ p.bar0Up = false ∧ p.bar2Up = false ∧
    p.bar4Up = false ∧ ∀ hpa : Nat, p.memServes hpa = false)

/-- STITCH, STITCH_BOUNDARY and STITCH_JOURNAL_WRITE. A STITCH is BUSY while another waits or where the journal's
allowance for its set is used up; an empty set is DONE with STITCH_COUNT as it is; a set that fails is answered with
the status, detail and offset of its first failure (`firstFault`) and stays basted; one that validates becomes the
waiting set, with the TTI table where it includes TTI_TX, the basted set is emptied and the domains the set uses
wake in TRIM and DOZE. At the boundary, which for a time word is not before it, for a frame, a multiframe or a PPS
edge not within 100 µs of validation, and for a multiframe at MFAS 0 of the named port, the set takes effect
(`applySet`), is owed to the journal, and the command is DONE with the boundary's time; at another instant nothing
changes. With HOLDUP_READY the journal then holds the SH fields in force. -/
def Obligations.StitchStages : Prop :=
  (∀ (s : State) (t : Fin 1024), s.part.runs t 0x0301 = true → s.part.waits t = false →
    let set := s.part.stitch.basted
    let kind := fieldOf (s.part.par t 0) 2 0
    let port := fieldOf (s.part.par t 0) 12 8
    let faults := s.part.stitchFaults set ++ failIf (!s.part.boundaryOk kind port) (paramFail 0)
    (s.part.stitch.waiting.isSome = true → Yields (.stitch t) s (s.part.reject t 0x12 0)) ∧
    (s.part.stitch.waiting = none → set = [] →
      Yields (.stitch t) s ((s.part.setTagState t .committed).done t 0#64 (s.part.reg 0x034))) ∧
    (s.part.stitch.waiting = none → set ≠ [] → s.part.journalFull (stitchBlocks set.length) = true →
      Yields (.stitch t) s (s.part.reject t 0x12 0)) ∧
    (s.part.stitch.waiting = none → set ≠ [] → s.part.journalFull (stitchBlocks set.length) = false →
      (∀ f : StitchFault, firstFault faults = some f →
        Yields (.stitch t) s (s.part.reply t f.status f.detail (BitVec.ofNat 64 f.offset) 0#32)) ∧
      (firstFault faults = none → Yields (.stitch t) s (Part.wakeFor
        { s.part with stitch := { s.part.stitch with basted := [], waiting := some {
            tag := t, kind := kind, port := port,
            time := (timeOfWords (s.part.par t 1) (s.part.par t 2) (s.part.par t 3)).getD 0, set_ := set,
            since := s.part.clk, tti := if setsTti set then
              some (s.part.ttiTable (fieldOf (afterSet s.part set 0x70010) 30 0)) else none } } }
        (s.part.withSet set))))) ∧
  (∀ (s : State) (w : Waiting), s.part.stitch.waiting = some w →
    let q := (Part.applySet { s.part.setTagState w.tag .committed with
        stitch := { s.part.stitch with waiting := none, unwritten := true } } w.set_ w.tti).journalWrites
      (stitchBlocks w.set_.length)
    let late := s.part.clk < w.since + 25000
    (w.kind = 0 ∨ (w.kind = 3 ∧ w.time ≤ s.part.now) ∨ ((w.kind = 1 ∨ w.kind = 4) ∧ ¬ late) ∨
        (w.kind = 2 ∧ ¬ late ∧ (s.part.port w.port).txMfas = 0#8) →
      Yields .stitchBoundary s (q.done w.tag q.boundaryWord (q.reg 0x034))) ∧
    ((w.kind = 3 ∧ s.part.now < w.time) ∨ ((w.kind = 1 ∨ w.kind = 2 ∨ w.kind = 4) ∧ late) ∨
        (w.kind = 2 ∧ (s.part.port w.port).txMfas ≠ 0#8) →
      Yields .stitchBoundary s s.part)) ∧
  (∀ s : State, s.part.supply.holdup = true → s.part.stitch.unwritten = true →
    Yields .stitchJournalWrite s { s.part with
      journal := { s.part.journal with hasSet := true, set_ := s.part.setInForce },
      stitch := { s.part.stitch with unwritten := false } })

/-- FW_STAGE, FW_STATUS, KEY_RETIRE, KEY_SUBSYS and KEY_ZEROISE. FW_STAGE reads an image in scratch through MEM's
selvedge (`memRead`), its bytes 0 while the selvedge is not open; one with another length or a bad header is
REJECTED_PARAM, one with a bad CRC or signature INTEGRITY, one below the floor REJECTED_PARAM and any under the lock
LOCKED; else it is STAGED in the bank that is not ACTIVE. STATUS answers the versions and SVNs. A locked slot
refuses KEY_RETIRE, and another is emptied; the subsystem IDs go to the journal unless their lock is set; zeroise
takes its pass word, empties every key slot, the subsystem IDs and the journaled set, drops the IDE keys and
sessions and is counted, with KEY_H where a key slot was full; another pass word is REJECTED_PARAM. -/
def Obligations.FirmwareAndKeys : Prop :=
  (∀ (s : State) (t : Fin 1024), s.part.runs t 0x0B01 = true →
    let a := (s.part.par64 t 0).toNat
    let len := (s.part.par t 2).toNat
    let m : Memory := if s.part.selvOpen 25 then s.part.dram else []
    let q := (s.part.memRead a len).1
    (s.part.inScratch a len = false → Yields (.fwStage t) s (s.part.reject t 0x11 2)) ∧
    (s.part.inScratch a len = true → Yields (.fwStage t) s (
      if m.readWord (a + 12) ≠ s.part.par t 2 then q.reject t 0x11 2
      else if imageHeaderGood m a len = false then q.reject t 0x11 0
      else if crc32c (m.readBytes a (len - 100)) ≠ m.readWord (a + len - 100) then q.reject t 0x19 2
      else if Config.signatureGood (m.readBytes a len) = false then q.reject t 0x19 3
      else if fieldOf (m.readWord (a + 4)) 21 16 < q.journal.floor then q.reject t 0x11 0
      else if q.bit 0xC010 0 = true then q.reject t 0x17 0
      else (((q.setTagState t .committed).setBank (!q.journal.activeOne)
        { use := .staged, version := m.readWord (a + 8), svn := fieldOf (m.readWord (a + 4)) 21 16,
          digest := sha384 (m.readBytes a (len - 96)), whole := sha384 (m.readBytes a len) }).hist 0xC0B0 0 10).done t
        (BitVec.ofNat 64 ((m.readWord (a + 8)).toNat + fieldOf (m.readWord (a + 4)) 21 16 * 2 ^ 32)) 0#32))) ∧
  (∀ (s : State) (t : Fin 1024), s.part.runs t 0x0B02 = true →
    Yields (.fwStatus t) s (s.part.done t (joinWords s.part.activeBank.version
      (if s.part.otherBank.use = .staged then s.part.otherBank.version else 0#32)) s.part.svnWord)) ∧
  (∀ (s : State) (t : Fin 1024), s.part.runs t 0x0C02 = true →
    (s.part.slotLocked (fieldOf (s.part.par t 0) 7 0) = false → Yields (.keyRetire t) s
      ((((s.part.setTagState t .committed).setKeySlot (fieldOf (s.part.par t 0) 7 0) {}).addWrapField
        0xC0B4 15 0 1).done t 0#64 0#32)) ∧
    (s.part.slotLocked (fieldOf (s.part.par t 0) 7 0) = true → Yields (.keyRetire t) s (s.part.reject t 0x17 0))) ∧
  (∀ (s : State) (t : Fin 1024), s.part.runs t 0x0C03 = true →
    (s.part.bit 0xC010 2 = false → Yields (.keySubsys t) s (((Part.journalWrites { s.part.setTagState t .committed with
      journal := { s.part.journal with subsys := s.part.par t 0 } } 1).addWrapField 0xC0B4 15 0 1).done t 0#64
      0#32)) ∧
    (s.part.bit 0xC010 2 = true → Yields (.keySubsys t) s (s.part.reject t 0x17 0))) ∧
  (∀ (s : State) (t : Fin 1024), s.part.runs t 0x0C04 = true →
    let w := Part.journalWrites { s.part.setTagState t .committed with
      host := { s.part.host with ideIo := {}, ideMem := {} } } (2 + stitchBlocks s.part.journal.set_.length)
    let q : Part := { w with
      host := { w.host with sessions := 0 },
      journal := { w.journal with keys := [], subsys := 0#32, hasSet := false, set_ := [], resume := false } }
    (s.part.par t 0 = 0x5A45524F#32 → Yields (.keyZeroise t) s
      (((((if s.part.journal.keys = [] then q else q.hist 0xC0B0 2 10).hist 0xC0B0 3 10).addWrapField 0xC0B4 31 16 1).addWrapField
        0xC0B4 15 0 1).done t 0#64 0#32)) ∧
    (s.part.par t 0 ≠ 0x5A45524F#32 → Yields (.keyZeroise t) s (s.part.reject t 0x11 0)))

/-- KEY_INSTALL and the SPDM requests. A key object with a kind of 1 or 2, its length, its reserved bits 0 and its
CRC goes into its slot; a bad one is REJECTED_PARAM or INTEGRITY, and a locked slot, or IDE required and not secure,
is LOCKED. While the link is up and the cores are there, slot 0 of a certificate chain is served and signed for, and
other slots are errors; one measurement block, or all eight for index 0, is signed with the nonce
(`measurementBlock`); a third session is refused. With the cores away the request is held and answered DOE Busy. -/
def Obligations.KeyInstallAndSpdm : Prop :=
  (∀ (s : State) (t : Fin 1024), s.part.runs t 0x0C01 = true →
    let n := fieldOf (s.part.par t 0) 7 0
    let kind := fieldOf (s.part.par t 1) 7 0
    let ob := ((s.part.tag t).params.drop 1).take 11
    ((kind ≠ 1 ∧ kind ≠ 2) ∨ fieldOf (s.part.par t 1) 15 8 ≠ 8 ∨ fieldOf (s.part.par t 1) 31 16 ≠ 0 →
      Yields (.keyInstall t) s (s.part.reject t 0x11 1)) ∧
    ((kind = 1 ∨ kind = 2) → fieldOf (s.part.par t 1) 15 8 = 8 → fieldOf (s.part.par t 1) 31 16 = 0 →
      (crc32c (bytesOfWords (ob.take 10)) ≠ s.part.par t 11 → Yields (.keyInstall t) s (s.part.reject t 0x19 2)) ∧
      (crc32c (bytesOfWords (ob.take 10)) = s.part.par t 11 →
        (s.part.slotLocked n = true ∨
            (s.part.bit 0xC010 3 = true ∧ (s.part.host.ideIo.insecure = true ∨ s.part.host.ideIo.keyed = false)) →
          Yields (.keyInstall t) s (s.part.reject t 0x17 0)) ∧
        (s.part.slotLocked n = false →
          (s.part.bit 0xC010 3 = false ∨ (s.part.host.ideIo.insecure = false ∧ s.part.host.ideIo.keyed = true)) →
          Yields (.keyInstall t) s ((((s.part.setTagState t .committed).setKeySlot n
            { kind := kind, tag := s.part.par t 2, key := wordsToKey ((ob.drop 2).take 8) }).addWrapField
              0xC0B4 15 0 1).done t 0#64 0#32))))) ∧
  (∀ s : State, s.part.host.linkUp = true → s.part.md.cur ≠ .dormant → s.part.coresAway = false →
    (∀ o n : Nat, Yields (.spdmGetCertificate 0 o n) s
      (s.part.emit (.bytes "CERTIFICATE" ((Config.certChain.drop o).take n)))) ∧
    (∀ (k : Fin 8) (o n : Nat), k ≠ 0 →
      Yields (.spdmGetCertificate k o n) s (s.part.emit (.bytes "CERTIFICATE" (spdmError "InvalidRequest")))) ∧
    (∀ nonce : BitVec 256,
      let body := bytesBE (sha384 Config.certChain).toNat 48 ++ bytesBE nonce.toNat 32
      Yields (.spdmChallenge 0 nonce) s
        (s.part.emit (.bytes "CHALLENGE_AUTH" (body ++ bytesBE (Config.identitySign body).toNat 96)))) ∧
    (∀ (k : Fin 8) (nonce : BitVec 256), k ≠ 0 → Yields (.spdmChallenge k nonce) s
      (s.part.emit (.bytes "CHALLENGE_AUTH" (spdmError "InvalidRequest")))) ∧
    (∀ (k : Fin 9) (nonce : BitVec 256),
      let blocks := if k = 0 then [1, 2, 3, 4, 5, 6, 7, 8] else [k.val]
      let body := blocks.flatMap s.part.measurementBlock ++ bytesBE nonce.toNat 32
      Yields (.spdmGetMeasurements k nonce) s
        (s.part.emit (.bytes "MEASUREMENTS" (body ++ bytesBE (Config.identitySign body).toNat 96)))) ∧
    (s.part.host.sessions < 2 → Yields .spdmKeyExchange s
      (Part.emit { s.part with host := { s.part.host with sessions := s.part.host.sessions + 1 } }
        (.bytes "KEY_EXCHANGE_RSP" []))) ∧
    (2 ≤ s.part.host.sessions → Yields .spdmKeyExchange s
      (s.part.emit (.bytes "ERROR" (spdmError "SessionLimitExceeded"))))) ∧
  (∀ s : State, s.part.host.linkUp = true → s.part.md.cur ≠ .dormant → s.part.coresAway = true →
    let busy := s.part.emit (.words "DOE Busy" 0 [])
    let held : DoeCall → Part := fun c =>
      if s.part.host.doeHeld.isSome then busy
      else { busy with host := { busy.host with doeBusy := true, doeHeld := some c } }
    (∀ (k : Fin 8) (o n : Nat), Yields (.spdmGetCertificate k o n) s (held (.certificate k o n))) ∧
    (∀ (k : Fin 8) (x : BitVec 256), Yields (.spdmChallenge k x) s (held (.challenge k x))) ∧
    (∀ (k : Fin 9) (x : BitVec 256), Yields (.spdmGetMeasurements k x) s (held (.measurements k x))) ∧
    Yields .spdmKeyExchange s (held .keyExchange))

/-- SELVEDGE_FENCE_REQUEST, SELVEDGE_FENCED, SELVEDGE_FAULT_FENCE, SELVEDGE_RESUME and SELVEDGE_ACTIVE: the four
states of a control selvedge in turn, with what each step counts; the requests it holds, at most 64, complete or are
answered ABORT_CLEAN or ABORT_FAULT (`selvDrain`), and its island stops (`fenceIsland`); an island held fenced does
not resume; with RING or a slice active again its links or its transmitters follow. LEDGER_AUDIT, LEDGER_READ,
LEDGER_CHECKPOINT and their periodic forms: the ledgers named are audited under the next serial and the answer
counts the imbalances; READ returns their images; a checkpoint journals every image and is BUSY while one is being
written; names outside R457 fail acceptance (`paramFault`) and are REJECTED_PARAM; outside DORMANT the periodic
forms do the same without a command, and in DORMANT nothing. -/
def Obligations.SelvedgesAndLedgers : Prop :=
  (∀ (s : State) (i : Fin 29),
     (s.part.md.cur ≠ .dormant → s.part.selvState i = 0 →
       Yields (.selvedgeFenceRequest i) s
         (((s.part.setField (selvReg i 0) 1 0 1).addWrap (selvReg i 0x14) 1).hist 0x700C 0 9)) ∧
     (∀ r : Held, s.part.selvState i = 1 → Yields (.selvedgeFenced i r) s
       ((((s.part.selvDrain i r).setField (selvReg i 0) 1 0 2).fenceIsland i).signals)) ∧
     (∀ r : Held, s.part.md.cur ≠ .dormant →
       (s.part.selvState i = 1 → Yields (.selvedgeFaultFence i r) s ((((s.part.selvDrain i r).setField
         (selvReg i 0) 1 0 2).setBit (selvReg i 0) 8 true).fenceIsland i).signals) ∧
       (s.part.selvState i = 0 → Yields (.selvedgeFaultFence i r) s (((((((s.part.selvDrain i r).addWrap
         (selvReg i 0x14) 1).hist 0x700C 0 9).setField (selvReg i 0) 1 0 2).setBit (selvReg i 0) 8 true).fenceIsland
         i).signals))) ∧
     (s.part.selvState i = 2 → s.part.back.heldFenced.contains i.val = false →
       Yields (.selvedgeResume i) s (s.part.setField (selvReg i 0) 1 0 3)) ∧
     (s.part.back.heldFenced.contains i.val = true → Yields (.selvedgeResume i) s s.part) ∧
     (s.part.selvState i = 3 →
       let q := (s.part.setField (selvReg i 0) 1 0 0).setBit (selvReg i 0) 8 false
       Yields (.selvedgeActive i) s (if i.val = 28 then q.syncLinks else if i.val < 24 then q.syncTx else q).signals)) ∧
  (∀ (p : Machine.Part) (i : Nat) (r : Held),
     let done := min r.complete 64
     let clean := min r.waiting (64 - done)
     p.selvDrain i r = ((p.selvDone i done).selvClean i clean).selvFault i (min r.started (64 - done - clean))) ∧
  ((∀ (s : State) (t : Fin 1024) (ids : List Nat), s.part.runs t 0x0E01 = true →
     namedLedgers (fieldOf (s.part.par t 0) 15 0) = some ids →
     Yields (.ledgerAudit t) s (((s.part.setTagState t .committed).audit ids).1.done t
       (BitVec.ofNat 64 ((s.part.setTagState t .committed).audit ids).2) 0#32)) ∧
   (∀ (s : State) (t : Fin 1024), namedLedgers (fieldOf (s.part.par t 0) 15 0) = none →
     (s.part.runs t 0x0E01 = true → Yields (.ledgerAudit t) s (s.part.reject t 0x11 0)) ∧
     (s.part.runs t 0x0E02 = true → Yields (.ledgerRead t) s (s.part.reject t 0x11 0)) ∧
     (s.part.opcode t = 0x0E01 ∨ s.part.opcode t = 0x0E02 → s.part.paramFault t = some 0)) ∧
   (∀ (s : State) (t : Fin 1024) (ids : List Nat), s.part.runs t 0x0E02 = true →
     namedLedgers (fieldOf (s.part.par t 0) 15 0) = some ids →
     let q := ((s.part.setTagState t .committed).audit ids).1
     Yields (.ledgerRead t) s
       (q.doneBulk t (bytesOfWords (ids.map (q.image 0#32)).flatten) (BitVec.ofNat 64 ids.length) 0#32)) ∧
   (∀ (s : State) (t : Fin 1024), s.part.runs t 0x0E03 = true →
     let q := (s.part.setTagState t .committed).checkpoint
     (s.part.ledger.ckptEnd ≤ s.part.clk →
       Yields (.ledgerCheckpoint t) s (q.done t (q.journal.ckptSerial.setWidth 64) 0#32)) ∧
     (s.part.clk < s.part.ledger.ckptEnd → Yields (.ledgerCheckpoint t) s (s.part.reject t 0x12 0))) ∧
   (∀ s : State, s.part.md.cur ≠ .dormant →
     Yields .ledgerAuditPeriodic s (s.part.audit allLedgers).1 ∧ Yields .ledgerCheckpointPeriodic s s.part.checkpoint) ∧
   (∀ s : State, s.part.md.cur = .dormant →
     Yields .ledgerAuditPeriodic s s.part ∧ Yields .ledgerCheckpointPeriodic s s.part))

/-- DOMAIN_NOTE_RX, FETCH_REQ_RX, MAP_CAP_SEND, ROUTE_LINK_DOWN and ROUTE_LINK_UP. Outside DORMANT a note of a kept
frame of a ring link, or between two flags on a line port that is up and in frame, only whole and under its CRC
(`gccNote`), is received (`receiveNote`), and one of the part to itself is delivered; with the cores there a fetch
request that was delivered is answered once, with the object or an error (`fetchBody`, whose data's byte order is
the model's choice, log 99); the capability note goes one hop on an enabled port whose GCC0 runs; a link that is
down is offered to function 12 where an entry is on it, and entries return to a link that is up. DOMAIN_SEND,
DOMAIN_ROUTE and DOMAIN_FETCH_PM: a note is originated, its words most significant byte first (the model's choice,
log 99), and DONE where it was queued or delivered, or its life was at an end, and else NO_RESOURCE, and one with
more than 256 words fails acceptance (`paramFault`); next-hop words of known links are stored with reserved bits 0
and to be mirrored, and a range past the table, or a bad word, is REJECTED_PARAM; a fetch sends its request and
keeps its serial, is past its commit point once that is queued, and without a response ends with TIMEOUT. -/
def Obligations.DomainNotesAndCommands : Prop :=
  ((∀ (s : State) (bs : List Byte) (cut : Bool), s.part.md.cur ≠ .dormant →
     (∀ (r : Fin 8) (e : Nat × Note),
       s.part.domain.inbox.find? (fun x => x.1 == r.val && x.2.bytes == bs) = some e →
       Yields (.domainNoteRx (.ring r) bs cut) s (Part.signals (Part.receiveNote
         { s.part with domain := { s.part.domain with inbox := s.part.domain.inbox.erase e } } e.2 (32 + r.val)))) ∧
     (∀ q : Fin 24, s.part.linkDown q = false → s.part.portState q = 2 →
       (∀ n : Note, cut = false → gccNote bs = some n → Yields (.domainNoteRx (.port q) bs cut) s
         ((((s.part.addSat (0x79004 + 32 * q.val) 1).snoop 0x22 q n.bytes).receiveNote n q).signals)) ∧
       (cut = true ∨ gccNote bs = none →
         Yields (.domainNoteRx (.port q) bs cut) s ((s.part.addSat (0x7900C + 32 * q.val) 1).signals))) ∧
     (∀ n : Note, s.part.domain.self_.find? (fun n => n.bytes == bs) = some n →
       Yields (.domainNoteRx .loc bs cut) s (Part.signals (Part.deliver
         { s.part with domain := { s.part.domain with self_ := s.part.domain.self_.erase n } } n 63)))) ∧
   (∀ (s : State) (n : Note), s.part.md.cur ≠ .dormant → s.part.coresAway = false →
     (s.part.domain.reqs.contains n = true →
       let q : Part := { s.part with domain := { s.part.domain with reqs := s.part.domain.reqs.erase n } }
       Yields (.fetchReqRx n) s (q.originate .fetchResp false n.src (q.fetchBody n)).1) ∧
     (s.part.domain.reqs.contains n = false → Yields (.fetchReqRx n) s s.part)) ∧
   (∀ (p : Machine.Part) (n : Note),
     let w := fun i => (netWordsOf n.body).getD i 0#32
     (∀ ws : List Word, p.fetchObject (w 1).toNat = some ws →
       p.fetchBody n = netWords [w 0, 0#32] ++ bytesOfWords ws) ∧
     (p.fetchObject (w 1).toNat = none → p.fetchBody n = netWords [w 0, 0x01000000#32])) ∧
   (∀ (s : State) (q : Fin 24) (body : List Word), s.part.md.cur ≠ .freeze → s.part.portOn q = true →
     s.part.bit (0x79000 + 32 * q.val) 31 = true → s.part.runMode.carries = true → s.part.mapCapBody q = some body →
     Yields (.mapCapSend q) s (s.part.originateHop .mapCap q (netWords body))) ∧
   (∀ (s : State) (l : NoteLink), l.code ≠ 63 →
     (s.part.linkDown l.code = true →
       s.part.domain.routes.any (fun e => onPrimary l.code e.2 && !e.2.getLsbD 29) = true →
       Yields (.routeLinkDown l) s (s.part.offer 12 (routeInst l.code) 1 3#32 (applyRoute (routeInst l.code)))) ∧
     (s.part.linkDown l.code = false → Yields (.routeLinkUp l) s (s.part.useAlt l.code false)))) ∧
  ((∀ (s : State) (t : Fin 1024), s.part.runs t 0x0D01 = true →
     let r := s.part.originate .general (bitAt (s.part.par t 0) 16) ((s.part.par t 0).setWidth 16)
       (netWords ((s.part.tag t).params.drop 1))
     (r.2 = true ∨ s.part.field 0xE004 7 0 ≤ 1 →
       Yields (.domainSend t) s ((r.1.setTagState t .committed).done t 0#64 0#32)) ∧
     (r.2 = false → 1 < s.part.field 0xE004 7 0 → Yields (.domainSend t) s (r.1.reject t 0x18 0))) ∧
   (∀ (p : Machine.Part) (t : Nat), p.opcode t = 0x0D01 → p.par t 0 &&& ~~~0x1FFFF#32 = 0#32 →
     257 < (p.tag t).params.length → p.paramFault t = some 0xFF) ∧
   (∀ (s : State) (t : Fin 1024), s.part.runs t 0x0D02 = true →
     let first := (s.part.par t 0).toNat
     let n := (s.part.par t 1).toNat
     let ws := ((s.part.tag t).params.drop 2).take n
     (65536 < first + n → Yields (.domainRoute t) s (s.part.reject t 0x11 0)) ∧
     (∀ e : Word × Nat, first + n ≤ 65536 → (ws.zipIdx).find? (fun e => routeBad e.1) = some e →
       Yields (.domainRoute t) s (s.part.reject t 0x11 (min (2 + e.2) 0xFE))) ∧
     (first + n ≤ 65536 → (ws.zipIdx).find? (fun e => routeBad e.1) = none →
       Yields (.domainRoute t) s
         (((s.part.setTagState t .committed).setRoutes first (ws.map (· &&& 0xC31F031F#32))).done t 0#64 0#32))) ∧
   (∀ (s : State) (t : Fin 1024), s.part.runs t 0x0D03 = true →
     SMap.get (fun _ => none) s.part.domain.fetches t.val = none →
     let q : Part := { s.part with domain := { s.part.domain with
       fetches := SMap.set (fun _ => none) s.part.domain.fetches t.val (some s.part.domain.fetchSerial),
       fetchSerial := s.part.domain.fetchSerial + 1#32 } }
     let r := q.originate .fetchReq false ((s.part.par t 0).setWidth 16)
       (netWords [s.part.domain.fetchSerial, s.part.par t 1])
     Yields (.domainFetchPm t .send) s (if r.2 then r.1.setTagState t .committed else r.1)) ∧
   (∀ (s : State) (t : Fin 1024) (w : Word), SMap.get (fun _ => none) s.part.domain.fetches t.val = some w →
     (s.part.tag t).st = .committed ∨ (s.part.tag t).st = .running → s.part.opcode t = 0x0D03 →
     Yields (.domainFetchPm t .timeout) s (Part.reply { s.part with domain := { s.part.domain with
       fetches := SMap.set (fun _ => none) s.part.domain.fetches t.val none } } t 0x15 0 0#64 0#32)))

/-- DOORBELL, REPLY_CONS_WRITE, RING_CFG_WRITE and ABORT_REQ_WRITE by a native write outside DORMANT and FREEZE. An
enabled ring's doorbell submits the tags it counts from the first, and a disabled one's is counted; a consumer index
within the ring is stored and held replies are written, and any other is an access fault; a ring setting of a good
size, unchanged while enabled, is stored, and where ENABLE rises the indices are 0 and held replies are written; any
other is an access fault; an abort request ends a tag before its commit point with ABORTED, and its answer says so,
or that the tag is free, or that it is past that point. A row whose access reaches no register changes nothing. -/
def Obligations.CommandRingWrites : Prop :=
  ∀ (s : State) (c : Access),
    let p := passed c s.part
    (NativeWrite c 0x4000 s →
      (p.bit 0x4010 31 = true →
        YieldsBus (.doorbell c) s (p.submitRun (fieldOf c.val 9 0) (fieldOf c.val 25 16 + 1))) ∧
      (p.bit 0x4010 31 = false → YieldsBus (.doorbell c) s (p.addSat 0x4034 1))) ∧
    (NativeWrite c 0x4018 s →
      ((p.reg 0x4014 - c.val).toNat ≤ p.ringSize →
        YieldsBus (.replyConsWrite c) s
          ((p.setReg 0x4018 c.val).flushHeld (p.setReg 0x4018 c.val).cmd.held.length)) ∧
      (p.ringSize < (p.reg 0x4014 - c.val).toNat →
        YieldsBus (.replyConsWrite c) s (p.accessFault 5 c.req c.addr))) ∧
    (NativeWrite c 0x4010 s →
      let size := fieldOf c.val 4 0
      let q := p.setReg 0x4010 (mergeMask (p.reg 0x4010) c.val 0x8000001F#32)
      let fresh := (q.setReg 0x4014 0#32).setReg 0x4018 0#32
      (size < 10 ∨ 16 < size ∨ (p.bit 0x4010 31 = true ∧ size ≠ p.field 0x4010 4 0) →
        YieldsBus (.ringCfgWrite c) s (p.accessFault 5 c.req c.addr)) ∧
      (10 ≤ size → size ≤ 16 → p.bit 0x4010 31 = false → c.val.getLsbD 31 = true →
        YieldsBus (.ringCfgWrite c) s (fresh.flushHeld fresh.cmd.held.length)) ∧
      (10 ≤ size → size ≤ 16 → p.bit 0x4010 31 = false → c.val.getLsbD 31 = false → YieldsBus (.ringCfgWrite c) s q) ∧
      (10 ≤ size → size ≤ 16 → p.bit 0x4010 31 = true → size = p.field 0x4010 4 0 →
        YieldsBus (.ringCfgWrite c) s q)) ∧
    (NativeWrite c 0x4040 s →
      let u := fieldOf c.val 9 0
      (p.abortable u = true → YieldsBus (.abortReqWrite c) s ((p.stopTag u 0x13 1).setReg 0x4044
        (BitVec.ofNat 32 (2 ^ 31 + u * 2 ^ 16)))) ∧
      (p.abortable u = false → YieldsBus (.abortReqWrite c) s (p.setReg 0x4044
        (BitVec.ofNat 32 (2 ^ 31 + u * 2 ^ 16 + if (p.tag u).st = .free then 0x11 else 0x14))))) ∧
    ((decodeAddr c.addr.toNat).off = none →
      YieldsBus (.doorbell c) s s.part ∧ YieldsBus (.replyConsWrite c) s s.part ∧
      YieldsBus (.ringCfgWrite c) s s.part ∧ YieldsBus (.abortReqWrite c) s s.part)

/-- REGISTER_WRITE, BIT_ALIAS_WRITE, MASK_WINDOW_WRITE and BASTED_VIEW_WRITE on GLOBAL.SCRATCH, outside DORMANT and
FREEZE, with the exact state each leaves: a native write stores the word (one from the sideband also keeps in
SIDE_WAIT the longest wait of a sideband request), a bit alias its one bit, a mask window the half-word's masked
bits, unless the window is locked, which is a lock violation, and the basted view takes no write. Each word of a
multi-word write after the first is a write of its own at the next address, with its own byte enables, and each word
of a multi-word read a read of its own. A request of a core, the HUB DMA engine or the sideband on an absent path is
counted and ends in a bus error, or for the sideband in data 0; on a path of the bus it is granted and nothing else
changes but at the selvedge of memory or the host. -/
def Obligations.ScratchByEveryPath : Prop :=
  (∀ (s : State) (c : Access) (k : Fin 4), s.part.reaches c.req = true → c.be = 0xF#4 → s.part.md.cur ≠ .dormant →
    s.part.md.cur ≠ .freeze →
    let p := passed c s.part
    let o := 0x100 + 4 * k.val
    (decodeAddr c.addr.toNat = .native o →
      ∀ w : Nat,
        ((Master.req c.req).sideband = false → YieldsBus (.registerWrite ⟨[.write c []], w⟩) s (p.setReg o c.val)) ∧
        ((Master.req c.req).sideband = true → YieldsBus (.registerWrite ⟨[.write c []], w⟩) s
          ((passed c (s.part.setReg 0x7008 (BitVec.ofNat 32 (max (s.part.reg 0x7008).toNat w)))).setReg o c.val))) ∧
    (∀ b : Nat, b < 32 → decodeAddr c.addr.toNat = .bit b o →
      YieldsBus (.bitAliasWrite c) s (p.setReg o
        (mergeMask (p.reg o) (if c.val.getLsbD 0 then 1#32 <<< b else 0#32) (1#32 <<< b)))) ∧
    (decodeAddr c.addr.toNat = .mask false o → p.bit 0x038 1 = false →
      YieldsBus (.maskWindowWrite c) s (p.setReg o (mergeMask (p.reg o) (c.val &&& 0xFFFF#32) (c.val >>> 16)))) ∧
    (decodeAddr c.addr.toNat = .mask true o → p.bit 0x038 1 = false →
      YieldsBus (.maskWindowWrite c) s
        (p.setReg o (mergeMask (p.reg o) ((c.val &&& 0xFFFF#32) <<< 16) ((c.val >>> 16) <<< 16)))) ∧
    (∀ h : Bool, decodeAddr c.addr.toNat = .mask h o → p.bit 0x038 1 = true →
      YieldsBus (.maskWindowWrite c) s (p.lockViolation 3 c.req c.addr)) ∧
    (decodeAddr c.addr.toNat = .basted o → YieldsBus (.bastedViewWrite c) s (p.accessFault 2 c.req c.addr))) ∧
  (∀ (q : Machine.Part) (a : Access) (be : BitVec 4) (w : Word) (more : List (BitVec 4 × Word)),
    BusOp.run q (.write a []) = busWrite a q ∧
    (let b := { a with addr := a.addr + 4#28, be := be, val := w }
     BusOp.run q (.write a ((be, w) :: more)) = (busWrite b (busWrite a q)).writeMore b more)) ∧
  (∀ (q : Machine.Part) (r : Req) (a : BitVec 28) (n : Nat),
    BusOp.run q (.read r a 0) = busRead r a q ∧
    BusOp.run q (.read r a (n + 1)) = BusOp.run (busRead r a q) (.read r (a + 4#28) n)) ∧
  (∀ (q : Machine.Part) (m : Master) (t : BusTarget) (w : Bool), q.carriesFrom m = true → m ≠ .req .host →
    (m.hasPath t w = false → m.sideband = false →
      BusOp.run q (.other m t w) = (q.addSat 0x7000 1).emit (.event "BUS_ERROR" m.code 0#64)) ∧
    (∀ r : Req, m = .req r → m.hasPath t w = false → m.sideband = true →
      BusOp.run q (.other m t w) = (q.addSat 0x7000 1).emit (.data r 0#32)) ∧
    (m.hasPath t w = true → t = .journal ∨ t = .coreMem ∨ t = .periph → BusOp.run q (.other m t w) = q.grantTo m) ∧
    (m.hasPath t w = true → t = .dram → BusOp.run q (.other m t w) = (q.grantTo m).selvRequest 25))

/-- SH_FIELD_WRITE, LK_REGISTER_WRITE and GROUP_EN_WRITE by a native write outside DORMANT and FREEZE, on STEER, the
key slot locks and GROUP_EN. A write of a shadowed field joins the basted set in a mode that bastes, is an access
fault of cause 3 in another, and one of cause 7 where the set would hold more than 65,536 registers; the one write
of a lock register sets its bits and the lock, and a later one is a violation; a group whose enable rises while it
is pending has one message formed, and the open decisions close where steering is forced. -/
def Obligations.ShadowLockAndEnable : Prop :=
  ∀ (s : State) (c : Access),
    let p := passed c s.part
    (∀ f : Fin 16, NativeWrite c (steerReg f) s →
      let b := basteOne p.stitch.basted (steerReg f) 0x87FFFFFF#32 c.val
      (s.part.column.bastes = true → b.length ≤ 65536 → YieldsBus (.shFieldWrite c) s (p.setBasted b)) ∧
      (s.part.column.bastes = true → 65536 < b.length →
        YieldsBus (.shFieldWrite c) s (p.accessFault 7 c.req c.addr)) ∧
      (s.part.column.bastes = false → YieldsBus (.shFieldWrite c) s (p.accessFault 3 c.req c.addr))) ∧
    (∀ k : Fin 16, NativeWrite c (0xC040 + 4 * k.val) s →
      (p.bit (0xC040 + 4 * k.val) 31 = false →
        YieldsBus (.lkRegisterWrite c) s (p.setReg (0xC040 + 4 * k.val)
          (mergeMask (p.reg (0xC040 + 4 * k.val)) c.val 0xFFFF#32 ||| 0x80000000#32))) ∧
      (p.bit (0xC040 + 4 * k.val) 31 = true →
        YieldsBus (.lkRegisterWrite c) s (p.lockViolation 1 c.req c.addr))) ∧
    (NativeWrite c 0x5004 s →
      let w := mergeMask (p.reg 0x5004) c.val 0xFFF#32
      YieldsBus (.groupEnWrite c) s ((List.range 12).foldl (fun (x : Part) g =>
        if w.getLsbD g && !(p.reg 0x5004).getLsbD g && x.groupPend g then x.message g else x)
        (p.setReg 0x5004 w)).closeForced)

/-- MULTIWORD_CAPTURE_READ, MULTIWORD_APPLY_WRITE, DECISION_ANSWER and DEC_REC_POP by native accesses. Reading
RING_BASE's lowest word captures the higher one for the requester, whose read answers what was captured; with the
ring disabled, writing the lower word holds it alone, and writing the highest applies both; an answer's second word
decides with the serial held. A lower word that the requester has not written counts as the value in force, which
the held word is after a write as well (the model's choice, log 84). A host read of DEC_REC captures the record and
pops it. -/
def Obligations.WideRegisters : Prop :=
  (∀ (s : State) (q : Req) (addr : BitVec 28), s.part.reaches q = true → s.part.md.cur ≠ .dormant →
    let p := s.part.granted q
    (decodeAddr addr.toNat = .native 0x4008 →
      Yields (.multiwordCaptureRead q addr) s (Part.answer { p with access := { p.access with
        captured := SMap.set (fun _ => []) p.access.captured (q.key 0x4008) [s.part.reg 0x400C] } } q addr.toNat
        (s.part.reg 0x4008))) ∧
    (decodeAddr addr.toNat = .native 0x400C →
      Yields (.multiwordCaptureRead q addr) s (p.answer q addr.toNat
        ((SMap.get (fun _ => []) s.part.access.captured (q.key 0x4008)).getD 0 0#32)))) ∧
  (∀ (s : State) (c : Access),
    let p := passed c s.part
    (NativeWrite c 0x4008 s → YieldsBus (.multiwordApplyWrite c) s { p with access := { p.access with
      heldLow := SMap.set (fun _ => none) p.access.heldLow (c.req.key 0x4008) (some c.val) } }) ∧
    (NativeWrite c 0x400C s → p.bit 0x4010 31 = false →
      let w := (SMap.get (fun _ => none) p.access.heldLow (c.req.key 0x4008)).getD (p.reg 0x4008)
      YieldsBus (.multiwordApplyWrite c) s { (p.setReg 0x4008 w).setReg 0x400C c.val with
        access := { p.access with
          heldLow := SMap.set (fun _ => none) p.access.heldLow (c.req.key 0x4008) (some w) } }) ∧
    (NativeWrite c 0x5110 s → YieldsBus (.decisionAnswer c) s { p with access := { p.access with
      heldLow := SMap.set (fun _ => none) p.access.heldLow (c.req.key 0x5110) (some c.val) } }) ∧
    (NativeWrite c 0x5114 s →
      let w := (SMap.get (fun _ => none) p.access.heldLow (c.req.key 0x5110)).getD (p.reg 0x5110)
      let q := answerDecision w (c.val &&& 0x8000001F#32) p
      YieldsBus (.decisionAnswer c) s { q with access := { q.access with
        heldLow := SMap.set (fun _ => none) q.access.heldLow (c.req.key 0x5110) (some w) } })) ∧
  (∀ s : State, s.part.reaches .host = true → s.part.md.cur ≠ .dormant →
    let p := s.part.granted .host
    Yields .decRecPop s (Part.answer (Part.popDecision { p with access := { p.access with
      captured := SMap.set (fun _ => []) p.access.captured (Req.host.key 0x5100) (p.decWords.drop 1) } })
      .host 0x5100 (p.decWords.getD 0 0#32)))

/-- GUARD_VALUE_WRITE, GUARD_COMPLEMENT_WRITE and GUARD_WINDOW_EXPIRE on both guarded registers, THIMBLE.BREAK and
PD_RESET, by a native write outside DORMANT and FREEZE. The value opens the requester's window; one open already, in
either register, is abandoned with a guard failure of cause 4, and one past its 250th edge has expired, with one of
cause 2. The complement within 250 edges closes the window and applies the value, which breaks a thimble or resets a
domain; another word closes it with a guard failure of cause 1; a complement with no window open, or of the other
register, is one of cause 3 and leaves the window as it was. At the 251st edge a window expires, which is a guard
failure of cause 2; before it, and where no window is open, nothing changes. -/
def Obligations.GuardProtocol : Prop :=
  (∀ (s : State) (c : Access) (x : Nat), x = 0x2200 ∨ x = 0x6040 →
    let p := passed c s.part
    let open_ : GuardOpen := { off := x, addr := c.addr, value := c.val, at_ := s.part.clk }
    (NativeWrite c x s →
      (p.guardOf c.req = none → YieldsBus (.guardValueWrite c) s (p.setGuard c.req (some open_))) ∧
      (∀ g : GuardOpen, p.guardOf c.req = some g →
        (s.part.clk ≤ g.at_ + 250 → YieldsBus (.guardValueWrite c) s
          (Part.setGuard (p.guardFail 4 c.req g.addr) c.req (some open_))) ∧
        (g.at_ + 250 < s.part.clk → YieldsBus (.guardValueWrite c) s
          (Part.setGuard ((p.setGuard c.req none).guardFail 2 c.req g.addr) c.req (some open_))))) ∧
    (NativeWrite c (x + 4) s →
      (p.guardOf c.req = none → YieldsBus (.guardComplementWrite c) s (p.guardFail 3 c.req c.addr)) ∧
      (∀ g : GuardOpen, p.guardOf c.req = some g →
        (s.part.clk ≤ g.at_ + 250 → g.off = x → c.val = ~~~g.value →
          (x = 0x2200 → YieldsBus (.guardComplementWrite c) s
            (((p.setGuard c.req none).setReg 0x2200 (g.value &&& 0x3F#32)).breakThimble g.value)) ∧
          (x = 0x6040 → YieldsBus (.guardComplementWrite c) s
            (pdResetEffect c.req c.addr g.value ((p.setGuard c.req none).setReg 0x6040 (g.value &&& 0x00FF00FF#32))))) ∧
        (s.part.clk ≤ g.at_ + 250 → g.off = x → c.val ≠ ~~~g.value →
          YieldsBus (.guardComplementWrite c) s ((p.setGuard c.req none).guardFail 1 c.req c.addr)) ∧
        (s.part.clk ≤ g.at_ + 250 → g.off ≠ x →
          YieldsBus (.guardComplementWrite c) s (p.guardFail 3 c.req c.addr)) ∧
        (g.at_ + 250 < s.part.clk → YieldsBus (.guardComplementWrite c) s
          (((p.setGuard c.req none).guardFail 2 c.req g.addr).guardFail 3 c.req c.addr))))) ∧
  (∀ (s : State) (q : Req),
    (s.part.guardOf q = none → Yields (.guardWindowExpire q) s s.part) ∧
    (∀ g : GuardOpen, s.part.guardOf q = some g →
      (g.at_ + 251 ≤ s.part.clk → Yields (.guardWindowExpire q) s ((s.part.setGuard q none).guardFail 2 q g.addr)) ∧
      (s.part.clk < g.at_ + 251 → Yields (.guardWindowExpire q) s s.part)))

/-- THIMBLE_READ: the native read of TH0 to TH63 by the host or a core takes a free thimble for the reader, which is
counted, and answers GRANTED and FREE with its code; the owner reads GRANTED with its code, and any other reader the
owner's code without GRANTED, and neither read changes the thimble. -/
def Obligations.ThimbleNativeRead : Prop :=
  ∀ (s : State) (q : Req) (addr : BitVec 28) (n : Fin 64), s.part.reaches q = true → s.part.md.cur ≠ .dormant →
    q ≠ .smb → q ≠ .jtag → decodeAddr addr.toNat = .native (0x2000 + 4 * n.val) →
    let p := s.part.granted q
    (SMap.get (fun _ => none) s.part.access.owners n.val = none →
      Yields (.thimbleRead q addr) s ((((p.setOwner n (some q)).addWrap 0x2210 1).count 0x3000 0 1).answer q addr.toNat
        (BitVec.ofNat 32 (2 ^ 31 + 16 + q.code)))) ∧
    (SMap.get (fun _ => none) s.part.access.owners n.val = some q →
      Yields (.thimbleRead q addr) s (p.answer q addr.toNat (BitVec.ofNat 32 (2 ^ 31 + q.code)))) ∧
    (∀ r : Req, SMap.get (fun _ => none) s.part.access.owners n.val = some r → r ≠ q →
      Yields (.thimbleRead q addr) s (p.answer q addr.toNat (BitVec.ofNat 32 r.code)))

/-- THIMBLE_WRITE: a native write by the owner frees the thimble, whatever the value, and is counted as a release; a
write by another requester, or to a free thimble, leaves its owner as it was and is a lock violation of cause 2. -/
def Obligations.ThimbleNativeWrite : Prop :=
  ∀ (s : State) (c : Access) (n : Fin 64), NativeWrite c (0x2000 + 4 * n.val) s →
    let p := passed c s.part
    (SMap.get (fun _ => none) p.access.owners n.val = some c.req →
      YieldsBus (.thimbleWrite c) s (((p.setOwner n none).addWrap 0x2214 1).count 0x3000 1 1)) ∧
    (SMap.get (fun _ => none) p.access.owners n.val ≠ some c.req →
      YieldsBus (.thimbleWrite c) s (p.lockViolation 2 c.req c.addr) ∧
      SMap.get (fun _ => none) (p.lockViolation 2 c.req c.addr).access.owners n.val =
        SMap.get (fun _ => none) p.access.owners n.val)

/-- A read through a bit alias that its selvedge carries answers the register's bit in bit 0 and zeroes above; one
that a selvedge turns away answers 0. It takes no thimble, captures no wide register and pops no record. -/
def Obligations.BitAliasReads : Prop :=
  ∀ (s : State) (q : Req) (addr : BitVec 28) (b o : Nat), s.part.reaches q = true → s.part.md.cur ≠ .dormant →
    decodeAddr addr.toNat = .bit b o →
    let c := (s.part.granted q).cross o
    (∀ i : RegInfo, regInfo o = some i → c.2 = true →
      Yields (.multiwordCaptureRead q addr) s
        (c.1.answer q addr.toNat (BitVec.ofNat 32 ((c.1.readWord o).getLsbD b).toNat))) ∧
    (∀ i : RegInfo, regInfo o = some i → c.2 = false →
      Yields (.multiwordCaptureRead q addr) s ((c.1.accessFault 6 q addr).answer q addr.toNat 0#32)) ∧
    Completes (.multiwordCaptureRead q addr) s fun t =>
      t.part.access.owners = s.part.access.owners ∧ t.part.access.captured = s.part.access.captured ∧
      t.part.steer = s.part.steer ∧ t.part.stamps = s.part.stamps

/-- MASK_WINDOW_WRITE with GLOBAL.LOCKS.MASKWIN_OFF at 1: the write of either window is discarded and recorded as a
lock violation of cause 3, in any register, in FREEZE where writes are accepted; a read through the window that its
selvedge carries answers the native value. -/
def Obligations.MaskWindowsOff : Prop :=
  (∀ (s : State) (c : Access) (h : Bool) (o : Nat) (i : RegInfo), s.part.reaches c.req = true → c.be = 0xF#4 →
    s.part.md.cur ≠ .dormant → (s.part.md.cur = .freeze → freezeAccepts i o = true) →
    decodeAddr c.addr.toNat = .mask h o → regInfo o = some i →
    (passed c s.part).bit 0x038 1 = true →
    YieldsBus (.maskWindowWrite c) s ((passed c s.part).lockViolation 3 c.req c.addr)) ∧
  (∀ (s : State) (q : Req) (addr : BitVec 28) (h : Bool) (o : Nat) (i : RegInfo), s.part.reaches q = true →
    s.part.md.cur ≠ .dormant → decodeAddr addr.toNat = .mask h o → regInfo o = some i →
    let c := (s.part.granted q).cross o
    c.2 = true → Yields (.multiwordCaptureRead q addr) s (c.1.answer q addr.toNat (c.1.readWord o)))

/-- MAILBOX_WRITE, CRC_START, CRC_STOP, CRC_INIT, SNAP_SEL_WRITE, LEDGER_SEL_WRITE, ROUTE_SEL_WRITE and
KEY_SEL_WRITE by a native write outside DORMANT and FREEZE: a sender's word reaches its mailbox, on the part or on
the way to the twin, and another requester's is counted; a stopped check unit starts as RUN is set without INIT, a
running one stops as RUN is cleared, and a stopped one is loaded by INIT, and the bits written are noted, so that an
update of the part at the same edge loses to them; each select register takes its field, with the snapshot or ledger
image it captures. -/
def Obligations.HubRegisterWrites : Prop :=
  ∀ (s : State) (c : Access),
    let p := passed c s.part
    (∀ n : Fin 24, NativeWrite c (mbReg n 0) s → mbSender n = some c.req →
      YieldsBus (.mailboxWrite c) s (p.mbPut n c.val)) ∧
    (∀ n : Fin 32, 24 ≤ n.val → NativeWrite c (mbReg n 0) s → mbSender n = some c.req →
      YieldsBus (.mailboxWrite c) s (p.mbPutTwin n c.val)) ∧
    (∀ n : Fin 32, NativeWrite c (mbReg n 0) s → mbSender n ≠ some c.req →
      YieldsBus (.mailboxWrite c) s (p.addSatField (mbReg n 4) 15 8 1)) ∧
    (∀ i : Fin 8, NativeWrite c (crcReg i 0) s →
      let cfg := fun on : Bool => p.setReg (crcReg i 0) (withBit (withBit
        (mergeMask (p.reg (crcReg i 0)) c.val 0x80000033#32) 30 false) 31 on)
      (c.val.getLsbD 31 = true → c.val.getLsbD 30 = false → p.crcRuns i = false →
        YieldsBus (.crcStart c) s ((((cfg false).crcSync i).crcBegin i).noteWrite (crcReg i 0) 0x80000033#32)) ∧
      (c.val.getLsbD 31 = false → c.val.getLsbD 30 = false → p.crcRuns i = true →
        YieldsBus (.crcStop c) s ((((cfg true).crcSync i).crcEnd i).noteWrite (crcReg i 0) 0x80000033#32)) ∧
      (c.val.getLsbD 31 = false → c.val.getLsbD 30 = true → p.crcRuns i = false →
        YieldsBus (.crcInit c) s (((cfg false).crcClear i).noteWrite (crcReg i 0) 0x80000033#32))) ∧
    (NativeWrite c 0x70030 s →
      YieldsBus (.snapSelWrite c) s (snapSelEffect (mergeMask (p.reg 0x70030) c.val 0x077F07FF#32) p)) ∧
    (NativeWrite c 0x9040 s →
      YieldsBus (.ledgerSelWrite c) s (ledgerSelEffect (mergeMask (p.reg 0x9040) c.val 0xFFFF#32) p)) ∧
    (NativeWrite c 0xE008 s →
      YieldsBus (.routeSelWrite c) s (p.setReg 0xE008 (mergeMask (p.reg 0xE008) c.val 0xFFFF#32))) ∧
    (NativeWrite c 0xC0A0 s →
      YieldsBus (.keySelWrite c) s (p.setReg 0xC0A0 (mergeMask (p.reg 0xC0A0) c.val 0xFF#32)))

/-- ADAPT_RESTART, REACQUIRE, LOCKOUT_WRITE, WAKE_WRITE, SPILL_CONS_WRITE, NRX_CONS_WRITE and APS_TX_WRITE by a
native write outside DORMANT and FREEZE, each carried by its selvedge where it has one: ADAPT_RESTART at 1 restarts
a lane's adaptation in LISTEN, CARRY, TRIM and DOZE and is an access fault in another mode; REACQUIRE at 1 makes the
timekeeper acquire again; lockout is stored and the reference sees it; with its ring powered and more than one ring
position a wake goes out, and else none; a consumer index within its ring is stored and any other is an access
fault; an APS channel's second word stores both, the first as held or else in force (the model's choice, log 84),
where it names an ODU point, and is an access fault where it names another. -/
def Obligations.IslandRegisterWrites : Prop :=
  ∀ (s : State) (c : Access),
    (∀ l : Fin 96, NativeWrite c (laneReg l 8) s → Carried c (laneReg l 8) s → c.val.getLsbD 0 = true →
      let p := arrived c (laneReg l 8) s.part
      (p.md.cur = .listen ∨ p.md.cur = .carry ∨ p.md.cur = .trim ∨ p.md.cur = .doze →
        YieldsBus (.adaptRestart c) s ((p.fallLane l 2).evalLane l).signals) ∧
      (p.md.cur ≠ .listen → p.md.cur ≠ .carry → p.md.cur ≠ .trim → p.md.cur ≠ .doze →
        YieldsBus (.adaptRestart c) s (p.accessFault 5 c.req c.addr).signals)) ∧
    (NativeWrite c 0xF018 s → Carried c 0xF018 s → c.val = 1#32 →
      YieldsBus (.reacquire c) s (reacquireEffect 1#32 (arrived c 0xF018 s.part))) ∧
    (∀ r : Fin 16, NativeWrite c (refReg r 0x28) s → Carried c (refReg r 0x28) s →
      let p := arrived c (refReg r 0x28) s.part
      YieldsBus (.lockoutWrite c) s
        ((p.setReg (refReg r 0x28) (mergeMask (p.reg (refReg r 0x28)) c.val 1#32)).syncLockout r)) ∧
    (∀ k : Fin 2, NativeWrite c (0xD008 + 0x80 * k.val) s → Carried c (0xD008 + 0x80 * k.val) s → c.val = 1#32 →
      let p := arrived c (0xD008 + 0x80 * k.val) s.part
      (p.ringPowered = true → 1 < p.ringPorts →
        YieldsBus (.wakeWrite c) s (p.emit (.event "CIRUMLINK_WAKE" k.val 0#64))) ∧
      (p.ringPowered = false ∨ p.ringPorts ≤ 1 → YieldsBus (.wakeWrite c) s p)) ∧
    (∀ n : Fin 48, NativeWrite c (tsReg n 0x1C) s → Carried c (tsReg n 0x1C) s →
      let p := arrived c (tsReg n 0x1C) s.part
      ((p.reg (tsReg n 0x18) - c.val).toNat ≤ 65536 →
        YieldsBus (.spillConsWrite c) s ((p.setReg (tsReg n 0x1C) c.val).spillCheck n)) ∧
      (65536 < (p.reg (tsReg n 0x18) - c.val).toNat →
        YieldsBus (.spillConsWrite c) s (p.accessFault 5 c.req c.addr))) ∧
    (NativeWrite c 0x79410 s →
      let p := passed c s.part
      ((p.reg 0x7940C - c.val).toNat ≤ 2 ^ p.field 0x79408 4 0 →
        YieldsBus (.nrxConsWrite c) s (p.setReg 0x79410 c.val)) ∧
      (2 ^ p.field 0x79408 4 0 < (p.reg 0x7940C - c.val).toNat →
        YieldsBus (.nrxConsWrite c) s (p.accessFault 5 c.req c.addr))) ∧
    (∀ k : Fin 64, NativeWrite c (0x70104 + 8 * k.val) s →
      let p := passed c s.part
      let key := c.req.key (0x70100 + 8 * k.val)
      let w0 := mergeMask (p.reg (0x70100 + 8 * k.val))
        ((SMap.get (fun _ => none) p.access.heldLow key).getD (p.reg (0x70100 + 8 * k.val))) 0x800707FF#32
      (pointKind (fieldOf w0 10 0) = .odu ∨ pointKind (fieldOf w0 10 0) = .lo →
        let q := ((p.setReg (0x70100 + 8 * k.val) w0).setReg (0x70104 + 8 * k.val) c.val).apsRenamed k.val
        YieldsBus (.apsTxWrite c) s { q with access := { q.access with
          heldLow := SMap.set (fun _ => none) q.access.heldLow key (some w0) } }) ∧
      (pointKind (fieldOf w0 10 0) ≠ .odu → pointKind (fieldOf w0 10 0) ≠ .lo →
        let q := p.accessFault 5 c.req c.addr
        YieldsBus (.apsTxWrite c) s { q with access := { q.access with
          heldLow := SMap.set (fun _ => none) q.access.heldLow key (some (q.reg (0x70100 + 8 * k.val))) } }))

/-- RX_CFG_ENABLE_SET, RX_CFG_ENABLE_CLEAR, RX_CONS_WRITE, TX_PROD_WRITE, POOL_PROD_WRITE and POOL_ENABLE_CLEAR by a
native write outside DORMANT and FREEZE, with the tap's island answering: enabling a ring of a good setting zeroes
both indices, and disabling ends it (`rxOff`); an index within its ring is stored, a receive ring's with what it
frees (`settleTap`) and a pool's with its count of posted bobbins, and any other is an access fault; an enabled
pool's CFG takes only the write that clears ENABLE alone, which ends it (`poolOff`). The bits of a CFG that is
written are noted (`noteWrite`), so that an update of the part at the same edge loses to them. -/
def Obligations.TapRingWrites : Prop :=
  ∀ (s : State) (c : Access),
    (∀ n : Fin 48, NativeWrite c (tapReg n 8) s → Carried c (tapReg n 8) s →
      let p := arrived c (tapReg n 8) s.part
      let w := mergeMask (p.reg (tapReg n 8)) c.val 0x80000F1F#32
      ringCfgBad (p.reg (tapReg n 8)) w = false →
      (p.bit (tapReg n 8) 31 = false → w.getLsbD 31 = true →
        YieldsBus (.rxCfgEnableSet c) s
          ((((p.setReg (tapReg n 8) w).setReg (tapReg n 0xC) 0#32).setReg (tapReg n 0x10) 0#32).noteWrite
            (tapReg n 8) 0x80000F1F#32)) ∧
      (p.bit (tapReg n 8) 31 = true → w.getLsbD 31 = false →
        YieldsBus (.rxCfgEnableClear c) s ((p.rxOff n).noteWrite (tapReg n 8) 0x80000F1F#32))) ∧
    (∀ n : Fin 48, NativeWrite c (tapReg n 0x10) s → Carried c (tapReg n 0x10) s →
      let p := arrived c (tapReg n 0x10) s.part
      ((p.reg (tapReg n 0xC) - c.val).toNat ≤ 2 ^ p.field (tapReg n 8) 4 0 →
        YieldsBus (.rxConsWrite c) s ((p.setReg (tapReg n 0x10) c.val).settleTap n)) ∧
      (2 ^ p.field (tapReg n 8) 4 0 < (p.reg (tapReg n 0xC) - c.val).toNat →
        YieldsBus (.rxConsWrite c) s (p.accessFault 5 c.req c.addr))) ∧
    (∀ n : Fin 48, NativeWrite c (tapReg n 0x2C) s → Carried c (tapReg n 0x2C) s →
      let p := arrived c (tapReg n 0x2C) s.part
      ((c.val - p.reg (tapReg n 0x30)).toNat ≤ 2 ^ p.field (tapReg n 0x28) 4 0 →
        YieldsBus (.txProdWrite c) s (p.setReg (tapReg n 0x2C) c.val)) ∧
      (2 ^ p.field (tapReg n 0x28) 4 0 < (c.val - p.reg (tapReg n 0x30)).toNat →
        YieldsBus (.txProdWrite c) s (p.accessFault 5 c.req c.addr))) ∧
    (∀ b : Fin 16, NativeWrite c (poolReg b 0xC) s →
      let p := passed c s.part
      ((c.val - p.reg (poolReg b 0x10)).toNat ≤ 2 ^ p.field (poolReg b 8) 4 0 →
        YieldsBus (.poolProdWrite c) s ((p.setReg (poolReg b 0xC) c.val).count (0x8000 + b.val) 0
          ((c.val - p.reg (poolReg b 0xC)).signExtend 64).toNat)) ∧
      (2 ^ p.field (poolReg b 8) 4 0 < (c.val - p.reg (poolReg b 0x10)).toNat →
        YieldsBus (.poolProdWrite c) s (p.accessFault 5 c.req c.addr))) ∧
    (∀ b : Fin 16, NativeWrite c (poolReg b 8) s →
      let p := passed c s.part
      let w := mergeMask (p.reg (poolReg b 8)) c.val 0x800F001F#32
      p.bit (poolReg b 8) 31 = true →
      (withBit w 31 true = p.reg (poolReg b 8) → w.getLsbD 31 = false →
        8 ≤ fieldOf w 19 16 → fieldOf w 19 16 ≤ 14 → 6 ≤ fieldOf w 4 0 → fieldOf w 4 0 ≤ 16 →
        YieldsBus (.poolEnableClear c) s ((p.poolOff b).noteWrite (poolReg b 8) 0x800F001F#32)) ∧
      (withBit w 31 true ≠ p.reg (poolReg b 8) ∨ w.getLsbD 31 = true →
        YieldsBus (.poolEnableClear c) s
          ((p.accessFault 5 c.req c.addr).noteWrite (poolReg b 8) 0x800F001F#32)))

/-- CXLMEM_READ and CXLMEM_WRITE of an address that the decoder serves; a request wakes its channel first
(`memDemand`). Before the part reaches INERT and during MEMMARCH a read answers zeroes; with MEM's selvedge closed
it does too (the model's choice, log 78) and the request is counted; else a line of a channel out of service is
poison, a clean line is answered as it stands, with poison where it is listed, a corrected one is counted as well,
for its channel too, and an uncorrectable one is counted, listed, logged and answered with poison. A write to host
scratch, with the selvedge open and outside FREEZE and MEMMARCH, stores the 64 bytes, clears the line's poison and
leaves every other byte of memory; before INERT a write is counted as early, and to a read-only window, in FREEZE or
in MEMMARCH it is discarded and counted. -/
def Obligations.CxlMemLines : Prop :=
  ∀ (s : State) (hpa : Nat), s.part.memServes hpa = true →
    let q := s.part.memDemand hpa
    let r := q.selvRequest 25
    let dpa := s.part.dpaOf hpa
    let base := dpa / 64 * 64
    let zeroes := List.replicate 64 0#8
    (∀ e : EccResult, s.part.memActive = false ∨ q.marching = true →
      Yields (.cxlmemRead hpa e) s (q.memAnswer false dpa zeroes)) ∧
    (s.part.memActive = true → q.marching = false →
      (q.selvOpen 25 = false → ∀ e : EccResult, Yields (.cxlmemRead hpa e) s (r.memAnswer false dpa zeroes)) ∧
      (q.selvOpen 25 = true →
        q.back.badChannels.contains (q.lineChannel dpa) = true →
        ∀ e : EccResult, Yields (.cxlmemRead hpa e) s (r.memAnswer true dpa (q.lineBytes dpa))) ∧
      (q.selvOpen 25 = true → q.back.badChannels.contains (q.lineChannel dpa) = false →
        Yields (.cxlmemRead hpa .clean) s (r.memAnswer (q.media.poison.contains (dpa / 64)) dpa (q.lineBytes dpa)) ∧
        Yields (.cxlmemRead hpa .corrected) s
          (((r.addSat 0xA004 1).memAnswer (q.media.poison.contains (dpa / 64)) dpa (q.lineBytes dpa)).countChannel dpa) ∧
        (let x := (((r.addSat 0xA008 1).hist 0xA010 1 10).poisonLine (dpa / 64)).logMedia false dpa
         let y := if dpa < 48 * 0x200000 then x.faultLoss (0x6000 + dpa / 0x200000) 4 1 else x
         Yields (.cxlmemRead hpa .uncorrectable) s (y.memAnswer true dpa (q.lineBytes dpa))))) ∧
    (∀ line : BitVec 512,
      (s.part.memActive = false → Yields (.cxlmemWrite hpa line) s (q.addSat 0x403C 1)) ∧
      (s.part.memActive = true → q.md.cur = .freeze ∨ q.marching = true ∨ q.inScratch base 64 = false →
        Yields (.cxlmemWrite hpa line) s (q.addSat 0xA104 1)) ∧
      (s.part.memActive = true → q.md.cur ≠ .freeze → q.marching = false → q.inScratch base 64 = true →
        (q.selvOpen 25 = false → Yields (.cxlmemWrite hpa line) s r) ∧
        (q.selvOpen 25 = true → Completes (.cxlmemWrite hpa line) s fun t =>
          t = { s with part := { r with dram := r.dram.writeBytes base (lineToBytes line 64),
                                        media := { r.media with poison := r.media.poison.filter (· != dpa / 64) } } } ∧
          ∀ a : Nat, a < base ∨ base + 64 ≤ a → t.part.dram.byteAt a = r.dram.byteAt a)))

/-- LANE_SIGNAL_DETECT, LANE_SIGNAL_LOSS, LANE_CDR_LOCK, LANE_ADAPT_DONE, FEC_CODEWORD, FEC_DEG_SECOND,
FLEXO_FRAME_RX, FLEXO_MULTIFRAME_RX, OTUCN_FRAME_PERIOD, DLOF_SET, DLOF_CLEAR, DLOM_SET and DLOM_CLEAR. Each lane
step sets its status bit once the step before it holds; lost signal falls back to signal detect, an offset beyond
the limit to CDR; FEC counts what it finds, on the first lane of a client port; a second's corrected symbols set and
clear the degrade bit; a FlexO frame is taken by an adapted lane; dGIDM and dPIDM set at three multiframes with a
mismatch and clear at three without (one without a mismatch in which a member brought no good overhead counts
neither way: the model's choice, log 88); a frame period moves the port's framer, its points and its GCC, and the
port's next frame goes out with two GCC bytes; the timers set dLOF and dLOM. A row whose condition does not hold
leaves its lane or port as it is; in FREEZE all but FEC_CODEWORD change nothing at all, and FEC_CODEWORD counts only
while the receiver runs. The points and legs that read a port follow (`signals`). -/
def Obligations.LineReceivers : Prop :=
  (∀ (s : State) (l : Fin 96) (lf : Fin 48) (q : Fin 24) (o : Dword) (f : FlexoFrame) (x : OtucFrame),
    s.part.md.cur = .freeze →
    ∀ c ∈ [Instr.laneSignalDetect l, .laneSignalLoss l, .laneCdrLock l o, .laneAdaptDone l, .fecDegSecond l,
      .flexoFrameRx lf f, .flexoMultiframeRx q, .otucnFramePeriod q x, .dlofSet q, .dlofClear q, .dlomSet q,
      .dlomClear q], Yields c s s.part) ∧
  (∀ (s : State) (l : Fin 96), s.part.md.cur ≠ .freeze →
    let p := s.part
    let st := laneReg l 0x10
    (p.laneOn l = false → ∀ o : Dword, ∀ c ∈ [Instr.laneSignalDetect l, .laneSignalLoss l, .laneCdrLock l o,
      .laneAdaptDone l], Yields c s p.signals) ∧
    (p.laneOn l = true →
      Yields (.laneSignalDetect l) s (p.setBit st 0 true).signals ∧
      (p.bit st 0 = true → Yields (.laneSignalLoss l) s ((p.fallLane l 0).evalLane l).signals) ∧
      (p.bit st 0 = false → ∀ o : Dword, ∀ c ∈ [Instr.laneSignalLoss l, .laneCdrLock l o], Yields c s p.signals) ∧
      (∀ o : Dword, p.bit st 0 = true → |o.toInt| ≤ cdrLimit l →
        Yields (.laneCdrLock l o) s ((p.setBit st 1 true).setReg64 (laneReg l 0x60) o).signals) ∧
      (∀ o : Dword, p.bit st 0 = true → cdrLimit l < |o.toInt| →
        Yields (.laneCdrLock l o) s (if p.bit st 1 = true then ((p.fallLane l 1).evalLane l).signals else p.signals)) ∧
      Yields (.laneAdaptDone l) s (if p.bit st 1 = true then (p.setBit st 2 true).signals else p.signals))) ∧
  (∀ (s : State) (l : Fin 96),
    let p := s.part
    let k := if l.val < 48 then l.val else ((p.clientOf (l - 48)).map (48 + ·)).getD l
    let r := p.addReg64 (laneReg k 0x20) 1
    (p.laneOn l = false → ∀ c : CodewordResult, Yields (.fecCodeword l c) s p) ∧
    (p.laneOn l = true →
      Yields (.fecCodeword l .clean) s r ∧
      (∀ sy bi : Nat, Yields (.fecCodeword l (.corrected sy bi)) s
        (((r.addReg64 (laneReg k 0x28) 1).addReg64 (laneReg k 0x38) sy).addReg64 (laneReg k 0x40) bi)) ∧
      Yields (.fecCodeword l .uncorrectable) s (r.addReg64 (laneReg k 0x30) 1))) ∧
  (∀ (s : State) (l : Fin 96), s.part.md.cur ≠ .freeze →
    let p := s.part
    let st := laneReg l 0x10
    let now := p.reg64 (laneReg l 0x38)
    let thr := (p.reg (laneReg l 0x48)).toNat
    let rise := (now - (p.lane l).lastSym).toNat
    let low := (p.lane l).degClear + 1
    let q := fun n => p.setLane l { p.lane l with lastSym := now, degClear := n }
    (p.clocked = false → Yields (.fecDegSecond l) s p) ∧
    (p.clocked = true → thr = 0 → Yields (.fecDegSecond l) s ((q 0).setBit st 5 false)) ∧
    (p.clocked = true → 0 < thr → thr < rise → p.bit st 5 = false →
      Yields (.fecDegSecond l) s (((q 0).setBit st 5 true).raise (laneReg l 0x14) 5)) ∧
    (p.clocked = true → 0 < thr → thr < rise → p.bit st 5 = true → Yields (.fecDegSecond l) s (q 0)) ∧
    (p.clocked = true → 0 < thr → rise ≤ thr →
      Yields (.fecDegSecond l) s (if 3 ≤ low then (q low).setBit st 5 false else q low))) ∧
  (∀ (s : State) (l : Fin 48) (f : FlexoFrame), s.part.md.cur ≠ .freeze →
    let p := s.part
    let ready := p.laneOn l && p.bit (laneReg l 0x10) 2
    Yields (.flexoFrameRx l f) s
      (if ready = true then ((((p.amStep l f).omfiStep l f).ohStep l f).evalLane l).signals else p.signals)) ∧
  (∀ (s : State) (q : Fin 24), s.part.md.cur ≠ .freeze →
    let p := s.part
    let c := p.port q
    let good := (p.portLanes q).filter fun l => (p.lane l).ohGood
    let all := decide (good.length = p.portN q)
    let gid := good.any fun l => (p.lane l).gid.toNat != p.field (lineReg q 4) 19 0
    let pid := hasDup (good.map p.rxPid) || good.any fun l =>
      !((p.lane (p.refLane q)).map_.contains (BitVec.ofNat 8 (p.rxPid l)))
    let bad := fun (wrong : Bool) (n : Nat) => if wrong then n + 1 else if all then 0 else n
    let fine := fun (wrong : Bool) (n : Nat) => if wrong then 0 else if all then n + 1 else n
    let heard := (p.portLanes q).foldl (fun (x : Part) l => x.setLane l { x.lane l with ohGood := false })
      (p.setPort q { c with gidBad := bad gid c.gidBad, gidGood := fine gid c.gidGood,
                            pidBad := bad pid c.pidBad, pidGood := fine pid c.pidGood })
    let set := fun (d b g : Nat) (r : Part) =>
      if 3 ≤ b then r.setDefect q d true else if 3 ≤ g then r.setDefect q d false else r
    let dgid := if heard.bit (lineReg q 0) 9 = true then set 4 (bad gid c.gidBad) (fine gid c.gidGood) heard
      else heard.setDefect q 4 false
    ((p.portOn q = false ∨ p.clocked = false ∨ p.runMode.receives = false) →
      Yields (.flexoMultiframeRx q) s (p.sendFlexo q).signals) ∧
    (p.portOn q = true → p.clocked = true → p.runMode.receives = true →
      Yields (.flexoMultiframeRx q) s
        ((((set 5 (bad pid c.pidBad) (fine pid c.pidGood) dgid).evalPort q).sendFlexo q).signals))) ∧
  (∀ (s : State) (q : Fin 24), s.part.md.cur ≠ .freeze →
    let p := s.part
    let c := p.port q
    let rest := fun (f : OtucFrame) (r : Part) =>
      let g := (r.portFrame q f).gccFrame q
      (g.1.sendOtuc q g.2).signals
    (∀ f : OtucFrame, (p.portOn q = false ∨ p.huntMode = false ∨ (p.portState q ≠ 1 ∧ p.portState q ≠ 2)) →
      Yields (.otucnFramePeriod q f) s (rest f p)) ∧
    (p.portOn q = true → p.huntMode = true →
      (∀ f : OtucFrame, p.portState q = 1 →
        Yields (.otucnFramePeriod q f) s (rest f (p.oofFrame q (findsOf (p.portN q) f.sites)))) ∧
      (∀ f : OtucFrame, p.portState q = 2 → fasFound (p.portN q) false f.cols = true →
        Yields (.otucnFramePeriod q f) s (rest f ((p.setPort q { c with ifMiss := 0 }).mfasStep q f.mfas))) ∧
      (∀ f : OtucFrame, p.portState q = 2 → fasFound (p.portN q) false f.cols = false → c.ifMiss < 4 →
        Yields (.otucnFramePeriod q f) s
          (rest f ((p.setPort q { c with ifMiss := c.ifMiss + 1 }).mfasStep q f.mfas))) ∧
      (∀ f : OtucFrame, p.portState q = 2 → fasFound (p.portN q) false f.cols = false → 4 ≤ c.ifMiss →
        Yields (.otucnFramePeriod q f) s (rest f ((p.addSat (lineReg q 0x30) 1).toOof q))))) ∧
  (∀ (s : State) (q : Fin 24), s.part.md.cur ≠ .freeze →
    let p := s.part
    let inFrame := decide (p.portState q = 2)
    let oom := p.bit (lineReg q 0x10) 3
    Yields (.dlofSet q) s
      (if p.portOn q && p.clocked && !inFrame then (p.setDefect q 1 true).signals else p.signals) ∧
    Yields (.dlofClear q) s (if p.clocked && inFrame then (p.setDefect q 1 false).signals else p.signals) ∧
    Yields (.dlomSet q) s (if p.portOn q && p.clocked && oom then (p.setDefect q 2 true).signals else p.signals) ∧
    Yields (.dlomClear q) s
      (if p.clocked && inFrame && !oom then (p.setDefect q 2 false).signals else p.signals))

/-- LO_ODU_FRAME_RX, DLOFLOM_TIMER, CONSEQUENT_ACTION_APPLY, PM_SECOND_END, PM_CLASSIFY, PM_BIN_CLOSE,
APS_TX_INSERT, MAPPER_PERIOD_END, JC_RX, METHOD_CHANGE, CAP_SEEN_EXPIRE and TRIB_REBUILD. A built tributary's frame
reaches its points and its seam, and the frame that goes with it is sent; dLOFLOM takes the frame state; an action
in hardware mode takes its condition; a second is counted once, and seconds jumped over are lost; a point's waiting
second is classified near, then far; the oldest bin closes, with its day's where the next bin is of another day; an
enabled channel's bytes are inserted, and go out where no higher channel of the point and level has bytes; the
mapper's store leaves under the running count and the next count is sent; a receiver accepts a count, rejects one,
or changes method; a transmit method that is due changes; MAP_CAP is forgotten; a torn-down tributary is built. A
row whose condition does not hold changes nothing it names; in FREEZE none changes anything. -/
def Obligations.PointsAndMapping : Prop :=
  (∀ (s : State) (t : Fin 1024) (q : Fin 2048) (a : ConseqAction) (n : Nat) (k : Fin 64) (f : LoFrame) (m : MapIn)
    (j : JcIn),
    s.part.md.cur = .freeze →
    ∀ c ∈ [Instr.loOduFrameRx t f, .dloflomTimer t, .consequentActionApply q a, .pmSecondEnd n, .pmClassify q,
      .pmBinClose, .apsTxInsert k, .mapperPeriodEnd t m, .jcRx t j, .methodChange t, .capSeenExpire t, .tribRebuild t],
      Yields c s s.part) ∧
  (∀ (s : State) (t : Fin 1024) (f : LoFrame),
    let p := s.part
    let runs := p.tribOn t && (p.trib t).built && p.runMode.receives
    (runs = true →
      Yields (.loOduFrameRx t f) s (((p.loFrame t f).seamFrame t f).signals.sendOdu t f.mfas)) ∧
    (runs = false → Yields (.loOduFrameRx t f) s p)) ∧
  (∀ (s : State) (t : Fin 1024), s.part.md.cur ≠ .freeze →
    let p := s.part
    Yields (.dloflomTimer t) s (if p.pointLive (48 + t) = true
      then (p.setPd (48 + t) 11 (p.point (48 + t)).outOfFrame).signals else p.signals)) ∧
  (∀ (s : State) (q : Fin 2048) (a : ConseqAction), s.part.md.cur ≠ .freeze →
    let inst := q + a.code * 2 ^ 13
    (s.part.steered 1 inst = true → Yields (.consequentActionApply q a) s s.part) ∧
    (s.part.steered 1 inst = false → Yields (.consequentActionApply q a) s
      (applyConseq q a.code (flag s.part.pm.cond (q * 4 + a.code)).toNat s.part))) ∧
  (∀ (s : State) (sec : Nat), s.part.md.cur ≠ .freeze →
    let p := s.part
    let live := p.pointsOn.filter p.pointLive
    let full := live.any fun q => decide (8 ≤ (p.point q).raws.length)
    let all := live.foldl (fun (r : Part) q => r.pointSecond sec q) p
    let go := if full = true then all.addSat 0x70300 1 else all
    (p.time.running = false → Yields (.pmSecondEnd sec) s p.signals) ∧
    (p.time.running = true →
      (p.pm.last = none → Yields (.pmSecondEnd sec) s
        (Part.signals { go with pm := { go.pm with last := some sec, toClose := some (p.binNo sec) } })) ∧
      (∀ l : Nat, p.pm.last = some l → sec ≤ l →
        Yields (.pmSecondEnd sec) s (live.foldl Part.newSecond p).signals) ∧
      (∀ l : Nat, p.pm.last = some l → sec = l + 1 →
        Yields (.pmSecondEnd sec) s (Part.signals { go with pm := { go.pm with last := some sec } })) ∧
      (∀ l : Nat, p.pm.last = some l → l + 1 < sec →
        let r := live.foldl (fun (r : Part) q => (r.updBins q l Bin.mark).updBins q sec Bin.mark)
          (go.addSat 0x70300 (sec - l - 1))
        Yields (.pmSecondEnd sec) s (Part.signals { r with pm := { r.pm with last := some sec } })))) ∧
  (∀ (s : State) (q : Fin 2048), s.part.md.cur ≠ .freeze →
    Yields (.pmClassify q) s
      (if s.part.coresAway = true then s.part else (s.part.classifyDir q false).classifyDir q true)) ∧
  (∀ (s : State), s.part.md.cur ≠ .freeze →
    let p := s.part
    (p.pm.toClose = none ∨ p.time.running = false → Yields .pmBinClose s p) ∧
    (∀ n : Nat, p.pm.toClose = some n → p.time.running = true →
      let m := p.nextBin n
      let quarter := p.closeKey (binKey n)
      let r := if m / 96 = n / 96 then quarter else (quarter.closeKey (dayKey n)).dropDay (n / 96)
      Yields .pmBinClose s
        ((Part.addWrap { r with pm := { r.pm with toClose := some m } } 0x70028 1).setEvent 0x7002C 0 7 true))) ∧
  (∀ (s : State) (k : Fin 64), s.part.md.cur ≠ .freeze →
    let p := s.part
    let w := p.reg (0x70100 + 8 * k)
    let b := p.reg (0x70104 + 8 * k)
    let q : Part := { p with pm := { p.pm with apsOut := SMap.set (fun _ => none) p.pm.apsOut k (some (w, b)) } }
    let higher := ∃ j, k.val < j ∧ j < 64 ∧ p.bit (0x70100 + 8 * j) 31 = true ∧
      p.field (0x70100 + 8 * j) 10 0 = fieldOf w 10 0 ∧ p.field (0x70100 + 8 * j) 18 16 = fieldOf w 18 16 ∧
      (q.apsBytes j).isSome = true
    (w.getLsbD 31 = true → p.runMode.carries = true → ¬ higher →
      Yields (.apsTxInsert k) s (q.emit (.words "APS" (fieldOf w 10 0) [BitVec.ofNat 32 (fieldOf w 18 16), b]))) ∧
    (w.getLsbD 31 = true → p.runMode.carries = true → higher → Yields (.apsTxInsert k) s q) ∧
    (w.getLsbD 31 = false ∨ p.runMode.carries = false → Yields (.apsTxInsert k) s p)) ∧
  (∀ (s : State) (t : Fin 1024) (q : MapIn),
    let p := s.part
    let c := p.trib t
    let yields := fun (r : Part) (n : Nat) => Yields (.mapperPeriodEnd t q) s (r.headMapper t n)
    let crossing := fun (bits : List Bool) => if p.weftRuns = true then bits else []
    let runs := p.tribOn t && c.built && p.runMode.carries
    (runs = false → yields p (p.releasedBits t q)) ∧
    (runs = true →
      (∀ (bits : List Bool) (g : Stage), q = .carrier bits → p.stage t = some g →
        let st := p.storeAfter t g (crossing bits)
        let r := p.setTrib t { c with store := st }
        let fjc := fjcBytes (fjmCount (p.pbit t) st.length)
        let count := gmpCount g st.length
        let last := p.reg (tribReg t 0x20)
        (p.txFjm t = true → yields ((r.setReg (tribReg t 0x20) (countWord true (fjmCount (p.pbit t) st.length))).emit
          (.period t false (fjc.take 6) (p.periodPayload t g (fjc.drop 6)))) (p.released t g)) ∧
        (p.txFjm t = false → yields ((r.setReg (tribReg t 0x20) (countWord false count.1)).emit
          (.period t false (Config.gmpForm g.m g.pm g.n (if last.getLsbD 31 = true then 0 else fieldOf last 24 0) count.1 count.2)
            (p.periodPayload t g []))) (p.released t g))) ∧
      (∀ bits : List Bool, q = .carrier bits → p.stage t = none → yields (p.ampPeriod t (crossing bits)) 0) ∧
      (∀ (bits : List Bool) (n : Nat), q = .client bits → p.mapsClient t = some n → p.tribType t = 4 →
        yields (p.clientPeriod t n (crossing bits)) 0) ∧
      (∀ (bs : List PcsBlock) (slots n : Nat), q = .blocks bs slots → p.mapsClient t = some n → p.tribType t = 6 →
        yields (p.impMap t n (if p.weftRuns = true then bs else []) slots) 0) ∧
      (∀ bits : List Bool, q = .client bits → p.mapsClient t = none ∨ p.tribType t ≠ 4 → yields p 0) ∧
      (∀ (bs : List PcsBlock) (slots : Nat), q = .blocks bs slots → p.mapsClient t = none ∨ p.tribType t ≠ 6 →
        yields p 0))) ∧
  (∀ (s : State) (t : Fin 1024) (j : JcIn),
    let p := s.part
    let runs := p.tribOn t && (p.trib t).built && p.runMode.receives
    (runs = false → Yields (.jcRx t j) s p) ∧
    (runs = true →
      (∀ (jc : List Byte) (data : List Bool) (g : Stage), j = .carrier jc data → p.stage t = some g →
        let r := p.emit (.taken t false (p.demapped t g data))
        let gmp := p.gmpHeard t g jc
        let f := fjcOf jc data
        (p.tribSecond t = true ∨ (p.rxFjm t = false ∧ fjcStart f = none) →
          (∀ v : Nat × Nat, gmp = some v → Yields (.jcRx t j) s (r.gmpGood t v)) ∧
          (gmp = none → Yields (.jcRx t j) s (r.jcBad t))) ∧
        (∀ c : Nat, p.tribSecond t = false → p.rxFjm t = false → fjcStart f = some c →
          Yields (.jcRx t j) s ((r.jcGood t true c).rxMethod t true)) ∧
        (p.tribSecond t = false → p.rxFjm t = true →
          (∀ c : Nat, fjcAccept (p.pbit t) f = some c → Yields (.jcRx t j) s
            (if f.triple = true then r.jcGood t true c else (r.jcGood t true c).addSat (tribReg t 0x28) 1)) ∧
          (∀ v : Nat × Nat, fjcAccept (p.pbit t) f = none → gmp = some v →
            Yields (.jcRx t j) s ((r.gmpGood t v).rxMethod t false)) ∧
          (fjcAccept (p.pbit t) f = none → gmp = none → Yields (.jcRx t j) s (r.jcBad t)))) ∧
      (∀ (jc : List Byte) (data : List Bool), j = .carrier jc data → p.stage t = none →
        Yields (.jcRx t j) s (p.emit (.taken t false (ampTake (Config.ampPositions (ampHeard jc)) data)))) ∧
      (∀ (jc : List Byte) (data : List Bool), j = .client jc data → Yields (.jcRx t j) s
        (if (p.tribClient t).isSome ∧ p.tribType t = 4 then p.clientJc t jc data else p)) ∧
      (∀ (bs : List PcsBlock) (slots : Nat), j = .blocks bs slots → Yields (.jcRx t j) s
        (if (p.tribClient t).isSome ∧ p.tribType t = 6 then p.impDemap t bs slots else p)))) ∧
  (∀ (s : State) (t : Fin 1024), s.part.md.cur ≠ .freeze →
    let p := s.part
    let own := p.tribOn t && !p.tribSecond t && (p.trib t).built
    (own = false ∨ p.methodDue t = none → Yields (.methodChange t) s p) ∧
    (∀ fjm : Bool, own = true → p.methodDue t = some fjm → Yields (.methodChange t) s
      (((p.setBit (tribReg t 0x14) 30 fjm).addWrapField (tribReg t 0x2C) 15 0 1).tribHist t 0)) ∧
    Yields (.capSeenExpire t) s (p.setBit (tribReg t 0x14) 29 false)) ∧
  (∀ (s : State) (t : Fin 1024), s.part.md.cur ≠ .freeze →
    let p := s.part
    let due := p.tribOn t && !(p.trib t).built && p.mode.slicesOn
    let q := (p.setTrib t { p.trib t with built := true }).setBit (tribReg t 0x14) 30 (p.tribMethod t == 2)
    Yields (.tribRebuild t) s (if due = false then p else if p.tribMethod t = 2 then q.tribHist t 0 else q))

/-- SEAM_RELEASE, SEAM_COPY_RX, SEAM_BUILD, SEAM_SLEW_END, SEAM_FALLBACK_EXIT, SEAM_WTR_EXPIRE, SEAM_ADMISSION,
SEAM_DEGRADE_TIMER and SEAM_REFIT_TIMER. A release forwards the chosen copy, or is a gap; a copy with an
uncorrectable error is lost first, with its event; with no ACTIVE leg the replacement goes out. A first-arrival copy
is forwarded, ahead, or too late, and a leading READY leg takes over where none is ACTIVE. A build gives each READY
leg its hold and excludes those beyond the limit, or in FALLBACK or without the MEM island all but the reference;
there is none while notes are stale (the model's choice, log 90). A slew ends with its leg READY again; each timer
moves its leg as the rules say; a measured hold admits, is offered to the host, or shows a skew beyond the limit.
What follows at once is `settle`. A row whose condition does not hold changes nothing; in FREEZE none changes
anything. -/
def Obligations.SeamMerging : Prop :=
  (∀ (s : State) (g : Fin 512) (k : Fin 3) (c : Word) (bad : BitVec 3) (l : List Nat) (h : Int),
    s.part.md.cur = .freeze →
    ∀ i ∈ [Instr.seamRelease g c bad, .seamCopyRx g k c, .seamBuild g l, .seamSlewEnd g k, .seamFallbackExit g,
      .seamWtrExpire g k, .seamAdmission g k h, .seamDegradeTimer g k, .seamRefitTimer g k], Yields i s s.part) ∧
  (∀ (s : State) (g : Fin 512) (c : Word) (bad : BitVec 3), s.part.md.cur ≠ .freeze →
    let p := s.part
    let led := 0x5000 + g.val
    let runs := p.seamOn g && p.seamMatched g && p.weftRuns && (p.seam g).built
    let q := (List.range 3).foldl (fun (x : Part) k => if bad.getLsbD k then x.badCopy g k c else x) p
    let r := (q.count led 0 1).setSeam g { q.seam g with last := some c }
    let d := (List.range 3).foldl (fun (a : Part × Nat) k =>
      ((a.1.dropCopies g k c).1, a.2 + (a.1.dropCopies g k c).2)) (r, 0)
    (runs = false → Yields (.seamRelease g c bad) s p) ∧
    (runs = true →
      (p.legsIn g 4 = [] → Yields (.seamRelease g c bad) s (if p.sends = true then p.seamReplace g else p)) ∧
      (∀ k : Nat, p.legsIn g 4 ≠ [] → q.chooseLeg g c = some k →
        let r := (((d.1.count led 1 1).count led 5 1).count led 6 (d.2 - 1)).setReg (seamReg g 0x30) c
        Yields (.seamRelease g c bad) s
          ((if k = r.seamRef g then r else r.addSat (seamReg g 0x34) 1).seamForward g k c)) ∧
      (p.legsIn g 4 ≠ [] → q.chooseLeg g c = none →
        Yields (.seamRelease g c bad) s (((d.1.count led 2 1).count led 6 d.2).seamGap g 1)))) ∧
  (∀ (s : State) (g : Fin 512) (k : Fin 3) (c : Word), s.part.md.cur ≠ .freeze →
    let p := s.part
    let led := 0x5000 + g.val
    let runs := p.seamOn g && p.seamFirst g && !p.seamElim g && p.weftRuns
    let r := p.count led 4 1
    let degraded := p.tsdOf (48 + p.legTrib g k) && p.otherClean g k
    (runs = false ∨ (p.legState g k ≠ 3 ∧ p.legState g k ≠ 4) → Yields (.seamCopyRx g k c) s p) ∧
    (runs = true → p.legState g k = 4 →
      (degraded = true → Yields (.seamCopyRx g k c) s (r.count led 6 1)) ∧
      (degraded = false → p.expect g = none ∨ p.expect g = some c → Yields (.seamCopyRx g k c) s (r.follow g k c)) ∧
      (∀ e : Word, degraded = false → p.expect g = some e → c ≠ e →
        Yields (.seamCopyRx g k c) s (r.count led (if laterThan c e = true then 8 else 9) 1))) ∧
    (runs = true → p.legState g k = 3 →
      let leads := ((p.expect g).map fun e => laterThan c e).getD false
      let r := p.setBit (seamReg g 0x14) (23 + k.val) leads
      let r := r.setLeg g k { r.leg g k with next := some (c + 1#32) }
      (leads = true → r.legsIn g 4 = [] → r.peerAdmits g k = true → Yields (.seamCopyRx g k c) s
        (((((r.skipTo g c).toLeg g k 4).count led 4 1).follow g k c).settle g)) ∧
      (leads = false ∨ r.legsIn g 4 ≠ [] ∨ r.peerAdmits g k = false → Yields (.seamCopyRx g k c) s r))) ∧
  (∀ (s : State) (g : Fin 512) (leads : List Nat), s.part.md.cur ≠ .freeze →
    let p := s.part
    let ready := p.legsIn g 3
    let lead := fun k => leads.getD k 0
    let ref := ready.foldl (fun a k => if lead k < lead a then k else a) (ready.getD 0 0)
    let hold := fun k => p.guardHold g + ((lead k - lead ref : Nat) : Int)
    let due := p.seamOn g && p.seamMatched g && (p.legsIn g 4).isEmpty && !ready.isEmpty && !p.notesStale g
    let alone := (p.seam g).fallback || !p.memCopies
    let placed := ready.foldl (fun (r : Part) k =>
      let r := r.setLeg g k { r.leg g k with hold := hold k, ahead := hold k, late := 0, byLate := false }
      if r.skewHold g < hold k then (r.toLeg g k 5).skewSet g
      else if alone = true ∧ k ≠ ref then r.toLeg g k 5
      else r.toLeg g k 4)
      (if alone = true then p else p.setBit (seamReg g 0x14) 19 false)
    let r := placed.setField (seamReg g 0x14) 13 12 ref
    let r := (r.setSeam g { r.seam g with last := none }).settle g
    (due = false → Yields (.seamBuild g leads) s p) ∧
    (due = true → Yields (.seamBuild g leads) s 
      ((if p.memCopies = true then r else r.enterFallback g).seamLat g 0 (r.matched g)))) ∧
  (∀ (s : State) (g : Fin 512) (k : Fin 3), s.part.md.cur ≠ .freeze →
    let p := s.part
    let slewOf := (p.seam g).slew.find? fun e => e.1 == k
    (slewOf = none → Yields (.seamSlewEnd g k) s p) ∧
    (∀ e : Fin 3 × Nat, slewOf = some e →
      let moved := (p.shiftHolds g (max ((e.2 : Int) - p.matched g) 0)).stopSlew g (· == k)
      let fit := moved.setLeg g k { moved.leg g k with
        hold := moved.guardHold g + (moved.matched g - e.2), byLate := false, late := 0 }
      (p.legState g k ≠ 5 → Yields (.seamSlewEnd g k) s ((p.stopSlew g (· == k)).settle g)) ∧
      (p.legState g k = 5 → Yields (.seamSlewEnd g k) s ((fit.toLeg g k 3).settle g)))) ∧
  (∀ (s : State) (g : Fin 512), s.part.md.cur ≠ .freeze →
    let r := (s.part.setSeam g { s.part.seam g with fallback := false }).setBit (seamReg g 0x14) 19 false
    ((s.part.seam g).fallback = false ∨ s.part.memCopies = false → Yields (.seamFallbackExit g) s s.part) ∧
    ((s.part.seam g).fallback = true → s.part.memCopies = true → Yields (.seamFallbackExit g) s (((r.legsIn g 5).foldl (fun (r : Part) k =>
      (r.setLeg g k { r.leg g k with byLate := false }).toLeg g k 3) r).settle g))) ∧
  (∀ (s : State) (g : Fin 512) (k : Fin 3), s.part.md.cur ≠ .freeze →
    let p := s.part
    let tsd := p.tsdOf (48 + p.legTrib g k)
    let degrades := decide (p.legState g k = 4) && tsd && p.otherClean g k
    Yields (.seamWtrExpire g k) s (if p.legState g k = 2 then (p.toLeg g k 3).settle g else p) ∧
    Yields (.seamRefitTimer g k) s (if p.legState g k = 5 ∧ (p.seam g).fallback = false
      then ((p.setLeg g k { p.leg g k with byLate := false, late := 0 }).toLeg g k 3).settle g else p) ∧
    (degrades = true → p.steered 3 (legInst g k) = false →
      Yields (.seamDegradeTimer g k) s ((p.toLeg g k 6).settle g)) ∧
    (degrades = true → p.steered 3 (legInst g k) = true → Yields (.seamDegradeTimer g k) s
      (if (p.leg g k).keep = true then p else p.offer 3 (legInst g k) 0 3#32 (applyLeg g k))) ∧
    (degrades = false → Yields (.seamDegradeTimer g k) s
      (if p.legState g k = 6 ∧ tsd = false then (p.toLeg g k 2).settle g else p))) ∧
  (∀ (s : State) (g : Fin 512) (k : Fin 3) (h : Int), s.part.md.cur ≠ .freeze →
    let p := s.part
    let st := p.legState g k
    let inUse := p.seamOn g && decide (k.val < p.seamLegs g) && decide (st ≠ 0)
    let measured := inUse && !(decide (st = 4) && decide (k.val = p.seamRef g))
    let r := p.setLeg g k { p.leg g k with hold := h, ahead := h }
    let tooFar := r.seamMatched g && !(r.legsIn g 4).isEmpty && decide (2 ≤ st) && decide (st ≤ 6) &&
      (decide (r.skewHold g < h) || st != 4 && decide (r.skewHold g < r.matched g - h + r.guardHold g))
    let alone := (r.legsIn g 4).isEmpty && r.seamMatched g
    (measured = false → Yields (.seamAdmission g k h) s p) ∧
    (measured = true → tooFar = true → Yields (.seamAdmission g k h) s (r.skewFallback g)) ∧
    (measured = true → tooFar = false → st ≠ 3 → st ≠ 4 → Yields (.seamAdmission g k h) s r) ∧
    (measured = true → tooFar = false → st = 4 → Yields (.seamAdmission g k h) s (r.seamShow g)) ∧
    (measured = true → tooFar = false → st = 3 →
      (alone = true → Yields (.seamAdmission g k h) s r) ∧
      (alone = false → r.admits g k = false → Yields (.seamAdmission g k h) s r) ∧
      (alone = false → r.admits g k = true → r.steered 3 (legInst g k) = false →
        Yields (.seamAdmission g k h) s ((r.toLeg g k 4).settle g)) ∧
      (alone = false → r.admits g k = true → r.steered 3 (legInst g k) = true →
        Yields (.seamAdmission g k h) s (r.offer 3 (legInst g k) 1 3#32 (applyLeg g k)))))

/-- SEAM_STATUS_NOTE_SEND, SEAM_STATUS_NOTE_RX, SEAM_RETIRE_NOTE_RX, SEAM_RETIRE_ACK_RX, SEAM_RETIRE_RESEND,
SEAM_RETIRE_GIVEUP, NOTES_STALE_SET, SEAM_ADMIT, SEAM_RETIRE and SEAM_STATUS. A note is sent by an enabled group
while its slice works; a note waits for the cores where they are away; one that fails a check is counted with its
cause and nothing else; a good STATUS clears staleness and resumes the legs it names; a good RETIRE retires the legs
it names but the last ACTIVE one, and is answered; an acknowledgment ends the notice outstanding; a notice is sent
again, or given up and counted; missing notes make the group stale. The three seam commands run on a leg that is
named rightly, else they are rejected: ADMIT admits a leg that passes the test, with E moved where it leads, lifts
HELD, or re-matches on a late leg within the limit, and ends a decision open for the leg; RETIRE holds a leg and
announces it; each replies with the STATUS word. -/
def Obligations.SeamNotesAndCommands : Prop :=
  (∀ (s : State) (g : Fin 512) (n : SeamNote), s.part.md.cur = .freeze →
    ∀ i ∈ [Instr.seamStatusNoteSend g, .seamStatusNoteRx n, .seamRetireNoteRx n, .seamRetireAckRx n, .seamRetireResend g,
      .seamRetireGiveup g, .notesStaleSet g], Yields i s s.part) ∧
  (∀ (s : State) (g : Fin 512), s.part.md.cur ≠ .freeze →
    let p := s.part
    let status := p.seamBody g 1 (p.inService g) (p.activeMask g)
      (BitVec.ofNat 32 ((p.matched g).toNat / holdUs)) (p.reg (seamReg g 0x30))
    Yields (.seamStatusNoteSend g) s (if p.seamOn g && p.mode.slicesOn then p.seamNote g status else p) ∧
    (∀ (legs : BitVec 3) (sn : Word), (p.seam g).retire = some (legs, sn) →
      Yields (.seamRetireResend g) s (p.seamNote g (p.seamBody g 2 legs.toNat 0 sn 0#32)) ∧
      Yields (.seamRetireGiveup g) s ((p.endRetire g).count 0xA000 0x40 1)) ∧
    ((p.seam g).retire = none → Yields (.seamRetireResend g) s p ∧ Yields (.seamRetireGiveup g) s p) ∧
    Yields (.notesStaleSet g) s (if p.seamOn g && !p.coresAway && !p.notesStale g
      then (p.setBit (seamReg g 0x14) 15 true).seamHist g 2 else p)) ∧
  (∀ (s : State) (n : SeamNote), s.part.md.cur ≠ .freeze →
    let p := s.part.count 0xA000 0 1
    let g := n.group.val
    let q := p.count 0xA000 2 1
    let good := n.version == 1#8 && p.seamOn g && (p.reg (seamReg g 0xC)).setWidth 16 == n.srcNode &&
      p.field (seamReg g 0xC) 24 16 == n.srcGroup.toNat
    (∀ i m, (i, m) ∈ [(1, Instr.seamStatusNoteRx n), (2, .seamRetireNoteRx n), (3, .seamRetireAckRx n)] →
      (p.coresAway = true → Yields m s (p.postpone (.seam i n))) ∧
      (p.coresAway = false → good = false → Yields m s (p.dropCause 0x42))) ∧
    (p.coresAway = false → good = true →
      (let r := (q.setSeam g { p.seam g with peerIn := n.legs }).setBit (seamReg g 0x14) 15 false
       Yields (.seamStatusNoteRx n) s (((r.legsIn g 7).foldl (fun (r : Part) k =>
          if n.legs.getLsbD k then r.toLeg g k 1 else r) r).seamEval g)) ∧
      (let r := (List.range (p.seamLegs g)).foldl (fun (a : Part × Nat) k =>
          let st := a.1.legState g k
          if n.legs.getLsbD k = false ∨ st = 0 ∨ 6 < st then a
          else if st = 4 ∧ (a.1.legsIn g 4).length = 1 then
            (a.1.setLeg g k { a.1.leg g k with retireDue := true }, a.2 + 2 ^ k)
          else ((a.1.toLeg g k 7).settle g, a.2)) (q, 0)
       Yields (.seamRetireNoteRx n) s (r.1.seamNote g (r.1.seamBody g 3 n.legs.toNat r.2 n.serial 0#32))) ∧
      (∀ legs : BitVec 3, (p.seam g).retire = some (legs, n.serial) →
        let r := q.endRetire g
        Yields (.seamRetireAckRx n) s { r with md := { r.md with
          unacked := r.md.unacked.filter fun u => u / 4 != g || decide (0x3000 < u) } }) ∧
      ((∀ legs : BitVec 3, (p.seam g).retire ≠ some (legs, n.serial)) → Yields (.seamRetireAckRx n) s q))) ∧
  (∀ (s : State) (t : Fin 1024),
    let p := s.part
    let g := fieldOf (p.par t 0) 8 0
    let k := fieldOf (p.par t 0) 17 16
    let named := p.seamOn g && decide (k < p.seamLegs g)
    let st := p.legState g k
    let word := fun (q : Part) => (q.reg (seamReg g 0x14)).setWidth 64
    let ends := fun (q : Part) => (q.setTagState t .committed).done t (word q) 0#32
    let leads := p.legGood g k && p.bit (seamReg g 0x14) (23 + k) && p.peerAdmits g k
    let passes := leads || (p.legGood g k && p.admits g k)
    let need : Int := ((p.leg g k).lag : Int) + p.guardHold g
    let late := decide (st = 5) && (p.leg g k).byLate && !(p.legsIn g 4).isEmpty
    let admitted := fun (q : Part) => ends (q.voidLeg g k)
    let told := fun (q : Part) => if st = 8 ∧ q.legState g k = 4 then q.sendSeamStatus g else q
    (∀ op i, (op, i) ∈ [(0x0701, Instr.seamAdmit t), (0x0702, .seamRetire t), (0x0703, .seamStatus t)] →
      p.runs t op = false → Yields i s p) ∧
    (p.runs t 0x0701 = true →
      (named = false → Yields (.seamAdmit t) s (p.reject t stParam 0)) ∧
      (named = true →
        (st = 0 ∨ st = 4 → Yields (.seamAdmit t) s (admitted p)) ∧
        (st ≠ 0 → st ≠ 4 → leads = true → Yields (.seamAdmit t) s (admitted (told ((p.takeLead g k).settle g)))) ∧
        (st ≠ 0 → st ≠ 4 → leads = false → passes = true →
          Yields (.seamAdmit t) s (admitted (told ((p.toLeg g k 4).settle g)))) ∧
        (passes = false → st = 8 →
          Yields (.seamAdmit t) s (admitted (told (((p.toLeg g k 1).sendSeamStatus g).seamEval g)))) ∧
        (passes = false → late = true → p.skewHold g < need →
          Yields (.seamAdmit t) s (p.reply t stNoRes 0x31 (word p) 0#32)) ∧
        (passes = false → late = true → need ≤ p.skewHold g → Yields (.seamAdmit t) s (admitted (p.rematch g k))) ∧
        (passes = false → late = false → st ≠ 8 → Yields (.seamAdmit t) s (admitted p)))) ∧
    (p.runs t 0x0702 = true →
      (named = false → Yields (.seamRetire t) s (p.reject t stParam 0)) ∧
      (named = true → Yields (.seamRetire t) s
        (ends (if st = 0 ∨ st = 8 then p else ((p.toLeg g k 8).settle g).announceRetire g (1#3 <<< k))))) ∧
    (p.runs t 0x0703 = true →
      (p.seamOn g = false → Yields (.seamStatus t) s (p.reject t stParam 0)) ∧
      (p.seamOn g = true →
        Yields (.seamStatus t) s (p.done t (word p) (BitVec.ofNat 32 ((p.matched g).toNat / holdUs))))))

/-- PPS_IN_EDGE, TOD_IN_MESSAGE, ACT_WINDOW_END, FREQ_GATE_END, REF_MEASUREMENT, REF_WTR_EXPIRE, DRIFT_WINDOW_END,
TK_LOCK and TK_LOCK_LOSS. An edge measures its slot's time error against the nearest second, or the second the last
message named; a good message names that second, and its UTC where it says it is valid; the monitors take what their
windows show, a clock's count within 1% among it; a gate's Δf, for a phase reference the slope of its measurements,
sets or clears the frequency monitor by REJECT and ACCEPT, and without a slope leaves it (the model's choice, log
97); a measurement reaches the loop as frequency source, phase source, or both; a reference that waited is
QUALIFIED; a drift window moves each reference and the learning; lock and its loss move the timekeeper where its
criterion holds. A row whose slot is OFF, held or unsourced changes nothing; in FREEZE none does. -/
def Obligations.ReferenceMonitors : Prop :=
  (∀ (s : State) (j : Fin 2) (at_ : Nat) (bs : List Byte) (r : Fin 16) (ok : ActSeen) (st : Bool) (d o t : Int)
    (ms : List (Option Int)), s.part.md.cur = .freeze →
    ∀ i ∈ [Instr.ppsInEdge j at_, .todInMessage j bs, .actWindowEnd r ok, .freqGateEnd r d, .refMeasurement r d,
      .refWtrExpire r, .driftWindowEnd ms o t st, .tkLock, .tkLockLoss], Yields i s s.part) ∧
  (∀ (s : State) (j : Fin 2) (at_ : Nat), s.part.md.cur ≠ .freeze →
    let p := s.part
    (p.refFor 3 j = none → Yields (.ppsInEdge j at_) s p) ∧
    (∀ r : Nat, p.refFor 3 j = some r →
      let c := p.refSt r
      let off := decide (p.refState r = 0) || p.refHeld r
      let byTod := p.bit (refReg r 0) 14
      let q := p.setRefSt r { c with tod := none }
      let inTime := match c.edge with
        | some e => decide (((at_ : Int) - e - secUnits).natAbs ≤ 6553600000)
        | none => true
      let measured := fun sec : Int => (q.setRefSt r { q.refSt r with edge := some at_ }).refMeasured r
        ((at_ : Int) - (sec * secUnits + p.refDelay r)) inTime
      (off = true → Yields (.ppsInEdge j at_) s p) ∧
      (off = false → byTod = false → Yields (.ppsInEdge j at_) s (measured (roundDiv at_ secUnits))) ∧
      (∀ n : Nat, off = false → byTod = true → c.tod = some n → Yields (.ppsInEdge j at_) s (measured n)) ∧
      (off = false → byTod = true → c.tod = none → Yields (.ppsInEdge j at_) s q))) ∧
  (∀ (s : State) (j : Fin 2) (bs : List Byte), s.part.md.cur ≠ .freeze →
    let p := s.part
    let fl := bs.getD 3 0#8
    (p.refFor 3 j = none → Yields (.todInMessage j bs) s p) ∧
    (∀ r : Nat, p.refFor 3 j = some r →
      let q := p.setRefSt r { p.refSt r with tod := some (bytesNat ((bs.drop 4).take 6)) }
      (p.refState r = 0 ∨ todGood bs = false → Yields (.todInMessage j bs) s p) ∧
      (p.refState r ≠ 0 → todGood bs = true → fl.getLsbD 2 = false → Yields (.todInMessage j bs) s q) ∧
      (p.refState r ≠ 0 → todGood bs = true → fl.getLsbD 2 = true → Yields (.todInMessage j bs) s
        (q.copyUtc r (BitVec.ofNat 32 (2 ^ 31 + (fl.getLsbD 0).toNat * 2 ^ 18 + (fl.getLsbD 1).toNat * 2 ^ 17
          + bytesNat ((bs.drop 10).take 2))))))) ∧
  (∀ (s : State) (r : Fin 16), s.part.md.cur ≠ .freeze →
    let p := s.part
    let c := p.refSt r
    let off := decide (p.refState r = 0) || p.refHeld r
    let hit := c.hit && p.refRuns r
    let late := (c.edge.map fun e => decide (p.time.now - e < secUnits)).getD false
    let missed := p.setRefSt r { c with hit := false, run := if late then c.run else 0, miss := c.miss + 1 }
    let nominal := (p.reg64 (refReg r 0x10)).toNat * p.field (refReg r 0xC) 5 0
    (off = true → ∀ (ok : ActSeen) (df : Int), ∀ i ∈ [Instr.actWindowEnd r ok, .freqGateEnd r df], Yields i s p) ∧
    (off = false →
      (∀ ok : ActSeen, p.refType r = 2 → Yields (.actWindowEnd r ok) s (p.setMonitor r 7
        (decide ((((ok.edges * 65536000 : Nat) : Int) - nominal).natAbs * 100 ≤ nominal)))) ∧
      (∀ ok : ActSeen, p.refType r ≠ 2 → phaseType (p.refType r) = false →
        Yields (.actWindowEnd r ok) s (p.setMonitor r 7 (ok.held && p.refRuns r))) ∧
      (∀ ok : ActSeen, phaseType (p.refType r) = true → hit = true →
        Yields (.actWindowEnd r ok) s (p.setRefSt r { c with hit := false, miss := 0 })) ∧
      (∀ ok : ActSeen, phaseType (p.refType r) = true → hit = false → Yields (.actWindowEnd r ok) s
        (if p.field (refReg r 0xC) 11 8 ≤ c.miss + 1 then missed.setMonitor r 7 false else missed)) ∧
      (∀ df : Int,
        let judged := fun x : Int =>
          let q := (p.setInt64 (refReg r 0x30) x).setRefSt r { c with sumDf := c.sumDf + x, gates := c.gates + 1 }
          if freqLimit (p.field (refReg r 8) 31 16) 100000000 < x.natAbs then q.setMonitor r 8 false
          else if x.natAbs ≤ freqLimit (p.field (refReg r 8) 15 0) 100000000 then q.setMonitor r 8 true else q
        let q := if phaseType (p.refType r) = true then ((phaseSlope c.phases).map judged).getD p else judged df
        let q := q.setRefSt r { q.refSt r with phases := [] }
        let whole := q.refState r == 2 && (q.refSt r).gate
        let q := q.setRefSt r { q.refSt r with gate := q.refPass r, passed := (q.refSt r).passed || whole }
        Yields (.freqGateEnd r df) s (if whole = true then q.promote.reselect else q))) ∧
    Yields (.refWtrExpire r) s
      (if p.refState r = 2 ∧ p.refPass r = true ∧ p.refHeld r = false then p.toRef r 3 else p)) ∧
  (∀ (s : State) (r : Fin 16) (ferr : Int), s.part.md.cur ≠ .freeze →
    let p := s.part
    let used := decide (p.tkState ≠ 0) && decide (p.selected ≠ none) && p.refPass r && !p.refHeld r
    let isF := p.freqSrc == some r.val
    let isP := p.phaseSrc == some r.val
    let q := p.setRefSt r { p.refSt r with meas := none }
    let l := loopNext (p.refBw r) p.time.integ ferr
    let q := if isF = true then
      Part.syncFreq { q with time := { q.time with loop := l.1, integ := l.2, ferr := ferr } } else q
    (used = false → Yields (.refMeasurement r ferr) s p) ∧
    (used = true →
      (isF = false → isP = false → Yields (.refMeasurement r ferr) s q) ∧
      (isF = true → isP = false ∨ (p.refSt r).meas = none →
        Yields (.refMeasurement r ferr) s q.leaveHeld) ∧
      (∀ x : Int, isP = true → (p.refSt r).meas = some x → Yields (.refMeasurement r ferr) s
        ((if q.time.fresh = true then q.firstPhase r x else q.laterPhase r x).leaveHeld)) ∧
      (isF = false → isP = true → (p.refSt r).meas = none →
        Yields (.refMeasurement r ferr) s q.leaveHeld))) ∧
  (∀ (s : State) (tails : List (Option Int)) (osc temp : Int) (steady : Bool), s.part.md.cur ≠ .freeze →
    let ds := (List.range 16).map fun r =>
      (r, (s.part.driftMean tails r).map (· - s.part.driftMedian tails r))
    let q := ds.foldl (fun (x : Part) e => x.driftRef e.1 e.2) s.part
    let q := if (s.part.time.learn.bind (s.part.driftMean tails)).isSome then q.learnStep osc temp steady else q
    let q := (List.range 16).foldl (fun (x : Part) r =>
      x.setRefSt r { x.refSt r with window := x.refPass r && x.refState r != 0, sumDf := 0, gates := 0 }) q
    (s.part.tkState = 0 → Yields (.driftWindowEnd tails osc temp steady) s s.part) ∧
    (s.part.tkState ≠ 0 → Yields (.driftWindowEnd tails osc temp steady) s { q with time := { q.time with
      stepped := false, calm := !q.pulling && !q.slewing, learn := if q.tkState = 3 then q.freqSrc else none } })) ∧
  (∀ s : State, s.part.md.cur ≠ .freeze →
    let p := s.part
    let near := fun ns ppb : Nat => decide (p.time.ferr.natAbs ≤ freqLimit ppb 1000000000) &&
      (p.phaseSrc.isNone || (!p.time.fresh && decide ((p.int64 (tkReg 0x58) - p.target).natAbs ≤ ns)))
    Yields .tkLock s (if p.tkState = 2 ∧ near 655360 1 = true then p.enterTk 3 else p) ∧
    Yields .tkLockLoss s (if p.tkState = 3 ∧ near 2621440 4 = false then p.enterTk 2 else p))

/-- PULL_END, SLEW_END, WARMING_CLEAR, PPS_OUT_EDGE, TOD_OUT_SEND, OUTPUT_REALIGN, REF_SELECT, REF_AUTO, REF_STATUS,
PLEAT_STEP, PLEAT_SLEW, PLEAT_SUM and CAL_RUN. What was left of a pull that no mode holds, or of a slew, moves local
time; the oscillator is warm from its clear on; a PPS edge marks the nearest second, and goes out with its width
where the output runs; a time-of-day message names the second after; an output re-aligned is told; a reference is
named or left to the hardware; a pleat steps or slews local time and is added to the sum, and one out of range or
beside a running slew is rejected; CAL.RUN starts, or is ACCEPTED while the cores are away; each command replies
with the register its rule names. A row whose condition does not hold changes nothing but what is said; in FREEZE a
row of the time scale changes nothing. -/
def Obligations.TimeScaleMoves : Prop :=
  (∀ (s : State) (j : Fin 2) (k : Fin 6), s.part.md.cur = .freeze →
    ∀ i ∈ [Instr.pullEnd, .slewEnd, .ppsOutEdge j, .todOutSend j, .outputRealign k], Yields i s s.part) ∧
  (∀ s : State, s.part.md.cur ≠ .freeze →
    let p := s.part
    Yields .pullEnd s (if p.pulling = true ∧ p.pullHeld = false
      then Part.endPull { p with time := { p.time with now := p.time.now - p.pullLeft } } else p) ∧
    Yields .slewEnd s (if p.slewing = true
      then Part.endSlew { p with time := { p.time with now := p.time.now + p.slewLeft } } else p)) ∧
  (∀ s : State,
    let p := s.part
    let q : Part := { p with supply := { p.supply with warm := true } }
    Yields .warmingClear s (if p.clocked = true ∧ p.bit (tkReg 0x10) 4 = true
      then ((q.setBit (tkReg 0x10) 4 false).tkHist 6).syncOutputs else q)) ∧
  (∀ (s : State) (j : Fin 2) (k : Fin 6), s.part.md.cur ≠ .freeze →
    let p := s.part
    let sec := (roundDiv (p.time.now - p.outPhase (4 + j)) secUnits).toNat
    let q := p.setPps j sec false
    let us := p.field (outReg (4 + j) 0) 19 0
    (p.outRuns (4 + j) = true → Yields (.ppsOutEdge j) s (((q.startHigh (4 + j) (us * edgesPerUs)).emit
      (.event "PPS_OUT" j (BitVec.ofNat 64 sec))).emit (.event "PPS_HIGH_US" j (BitVec.ofNat 64 us)))) ∧
    (p.outRuns (4 + j) = false → Yields (.ppsOutEdge j) s q) ∧
    Yields (.todOutSend j) s (if p.outRuns (4 + j) = true ∧ p.bit (outReg (4 + j) 0) 27 = true
      then (p.sendTod j (p.ppsSec j + 1)).setPps j (p.ppsSec j) true else p) ∧
    Yields (.outputRealign k) s (if p.time.realign.getLsbD k = true
      then Part.emit { p with time := { p.time with realign := p.time.realign &&& ~~~(1#6 <<< k.val) } }
        (.event "OUTPUT_REALIGN" k 0#64) else p)) ∧
  (∀ (s : State) (t : Fin 1024),
    let p := s.part
    let r := fieldOf (p.par t 0) 3 0
    let x := (p.par64 t 0).toInt
    let v := (p.par t 2).toNat
    (∀ op i, (op, i) ∈ [(0x0801, Instr.refSelect t), (0x0802, .refAuto t), (0x0803, .refStatus t), (0x0601, .pleatStep t),
      (0x0602, .pleatSlew t), (0x0603, .pleatSum t), (0x0A01, .calRun t)] → p.runs t op = false → Yields i s p) ∧
    (p.runs t 0x0801 = true →
      let q := ((p.setField (tkReg 8) 19 16 r).setBit (tkReg 8) 31 true).refCommand
      (p.refOn r = true → Yields (.refSelect t) s (q.done t (joinWords (q.reg (refReg r 0x20)) 0#32) 0#32)) ∧
      (p.refOn r = false → Yields (.refSelect t) s (p.reject t stParam 0))) ∧
    (p.runs t 0x0802 = true →
      let q := (p.setBit (tkReg 8) 31 false).refCommand
      Yields (.refAuto t) s (q.done t (joinWords q.selectWord 0#32) 0#32)) ∧
    (p.runs t 0x0803 = true → Yields (.refStatus t) s (p.done t (joinWords (p.reg (refReg r 0x20)) 0#32)
      (BitVec.ofNat 32 (p.field (refReg r 0x24) 6 0)))) ∧
    (p.runs t 0x0601 = true →
      let q := ((p.commitPleat x).stepTime x).addWrapField (tkReg 0x74) 31 16 1
      (p.pleatFits x = true → 0 ≤ p.time.now + x → Yields (.pleatStep t) s (q.done t (q.reg64 (tkReg 0x40)) 0#32)) ∧
      (p.pleatFits x = false ∨ p.time.now + x < 0 → Yields (.pleatStep t) s (p.reject t stParam 0))) ∧
    (p.runs t 0x0602 = true →
      let q := ((p.commitPleat x).setInt64 (tkReg 0x48) x).setBit (tkReg 0x10) 8 true
      let u : Part := { q with time := { q.time with slope := v, slewAcc := 0, calm := false } }
      let good := decide (1 ≤ v) && decide (v ≤ 10000)
      (p.slewLeft ≠ 0 → Yields (.pleatSlew t) s (p.reject t stBusy 0)) ∧
      (p.slewLeft = 0 → good = false → Yields (.pleatSlew t) s (p.reject t stParam 2)) ∧
      (p.slewLeft = 0 → good = true → x = 0 → Yields (.pleatSlew t) s (p.done t (p.reg64 (tkReg 0x40)) 0#32)) ∧
      (p.slewLeft = 0 → good = true → x ≠ 0 → p.pleatFits x = false →
        Yields (.pleatSlew t) s (p.reject t stParam 0)) ∧
      (p.slewLeft = 0 → good = true → x ≠ 0 → p.pleatFits x = true →
        Yields (.pleatSlew t) s (u.syncFlags.done t (u.reg64 (tkReg 0x40)) 0#32))) ∧
    (p.runs t 0x0603 = true → Yields (.pleatSum t) s (p.done t (p.reg64 (tkReg 0x40)) 0#32)) ∧
    (p.runs t 0x0A01 = true →
      let w : CalWork := { read := false, kind := r, addr := p.resultAddr t, len := p.resultLen t }
      (2 ≤ r → Yields (.calRun t) s (p.reject t stParam 0)) ∧
      (r < 2 → p.coresAway = false →
        Yields (.calRun t) s ((p.emit (.event "CAL_RUN" r 0#64)).done t 0#64 0#32)) ∧
      (r < 2 → p.coresAway = true → Yields (.calRun t) s (Part.reply
        { p.setTagState t .committed with back := { p.back with calLater := p.back.calLater ++ [w] } }
        t stAccepted 0 0#64 0#32))))

/-- SEGMENT_REMEASURE, SEGMENT_STALE, CAL_READ, PTP_SYNC_RX, PTP_FOLLOW_UP_RX, PTP_DELAY_REQ_RX, PTP_DELAY_RESP_RX,
PTP_ANNOUNCE_RX, PTP_ANNOUNCE_TIMEOUT, PTP_SYNC_TX, PTP_ANNOUNCE_TX and PTP_DELAY_REQ_TX. On a segment in use with
its lane locked, a difference of 50 ps or less is adopted and a larger one is offered to the host; a segment in use
turns stale once; the tables are read out, or the read is ACCEPTED while the cores are away. A PTP message at a
receiver that runs is dropped and counted unless it fits the port; then a SLAVE measures on a one-step Sync, on the
Follow_Up of a two-step one, and keeps the Delay_Resp to its last Delay_Req (the sequence number that must agree is
the model's choice, log 60); a MASTER answers a Delay_Req; an Announce is weighed against the port's master, and the
BMCA sets the ports' states (its details are the model's, log 95); so does the loss of a master. Stamps are taken
where the event point crosses the contact. A MASTER sends Sync and Announce, a SLAVE Delay_Req, whose stamp it
holds; on a client port these are frames sent. A row whose condition does not hold changes nothing; in FREEZE only
CAL_READ acts. -/
def Obligations.CalibrationAndPtp : Prop :=
  (∀ (s : State) (i : Fin 2247) (v : Dword) (t : PtpPort) (h : PtpHead) (one : Bool) (a b c : Int) (cls : Nat)
    (l : Announce) (sq : BitVec 16) (u : Option Word), s.part.md.cur = .freeze →
    ∀ x ∈ [Instr.segmentRemeasure i v, .segmentStale i, .ptpSyncRx t h one a b c, .ptpFollowUpRx t h a c,
      .ptpDelayReqRx t h a, .ptpDelayRespRx t h sq b, .ptpAnnounceRx t h cls l u, .ptpAnnounceTimeout t, .ptpSyncTx t,
      .ptpAnnounceTx t, .ptpDelayReqTx t], Yields x s s.part) ∧
  (∀ (s : State) (i : Fin 2247) (v : Dword), s.part.md.cur ≠ .freeze →
    let p := s.part
    let ready := p.segUsed i && p.segLocked i
    let diff := (v.toInt - (p.segDelay i).toInt).natAbs
    let fresh := p.segUsed i && !(p.segRec i).stale
    (ready = false → Yields (.segmentRemeasure i v) s p) ∧
    (ready = true → diff ≤ 3277 → Yields (.segmentRemeasure i v) s (p.adoptSegment i v)) ∧
    (ready = true → 3277 < diff → Yields (.segmentRemeasure i v) s
      ((p.setSegRec i { p.segRec i with offer := v }).offer 9 (segInstance i) 1 3#32 (applySegment i))) ∧
    let old := (p.setSegRec i { p.segRec i with stale := true }).syncStale i
    Yields (.segmentStale i) s (if fresh = true then if i.val < 192 then old.tsHist 2 else old else p)) ∧
  (∀ (s : State) (t : Fin 1024),
    let p := s.part
    let kind := fieldOf (p.par t 0) 3 0
    let table := bytesOfWords (if kind = 0 then ((List.range 2241).map p.segWords).flatten
      else if kind = 1 then ((List.range 6).map fun k =>
        [loWord (p.segDelay (2241 + k)), hiWord (p.segDelay (2241 + k))]).flatten
      else ((List.range 128).map p.calRecord).flatten)
    let w : CalWork := { read := true, kind := kind, addr := p.resultAddr t, len := p.resultLen t }
    (p.runs t 0x0A02 = false → Yields (.calRead t) s p) ∧
    (p.runs t 0x0A02 = true →
      (3 ≤ kind → Yields (.calRead t) s (p.reject t stParam 0)) ∧
      (kind < 3 → p.coresAway = false → Yields (.calRead t) s (p.doneBulk t table 0#64 0#32)) ∧
      (kind < 3 → p.coresAway = true → Yields (.calRead t) s (Part.reply
        { p.setTagState t .committed with back := { p.back with calLater := p.back.calLater ++ [w] } }
        t stAccepted 0 0#64 0#32)))) ∧
  (∀ (s : State) (t : PtpPort) (h : PtpHead) (one : Bool) (a b c : Int) (cls : Nat) (l : Announce)
    (sq : BitVec 16) (u : Option Word), s.part.md.cur ≠ .freeze →
    let p := s.part
    let st := p.ptpSt t
    let fits := fun ty : BitVec 4 => h.etherType == 0x88F7#16 && p.ptpDest t h.dest && decide (h.tags ≤ 2) &&
      h.mtype == ty && h.domain == p.ptpDomain
    let moved := (p.noteMaster t (cls, l)).bmca
    (∀ ty i, (ty, i) ∈ [(0#4, Instr.ptpSyncRx t h one a b c), (8#4, .ptpFollowUpRx t h a c), (1#4, .ptpDelayReqRx t h a),
        (9#4, .ptpDelayRespRx t h sq b), (0xB#4, .ptpAnnounceRx t h cls l u)] →
      (p.ptpRx t = false → Yields i s p) ∧
      (p.ptpRx t = true → fits ty = false → Yields i s (p.ptpDrop t))) ∧
    (p.ptpRx t = true → fits 0#4 = true →
      (st.st ≠ 3 → Yields (.ptpSyncRx t h one a b c) s p) ∧
      (st.st = 3 → Yields (.ptpSyncRx t h one a b c) s (if one = true then p.ptpMeasure t (p.rxStamp t b - a - c) (p.rxStale t)
        else p.setPtpSt t { st with sync := some (p.rxStamp t b - c, p.rxStale t) }))) ∧
    (p.ptpRx t = true → fits 8#4 = true →
      (st.sync = none → Yields (.ptpFollowUpRx t h a c) s p) ∧
      (∀ (x : Int) (old : Bool), st.sync = some (x, old) → Yields (.ptpFollowUpRx t h a c) s
        ((p.setPtpSt t { st with sync := none }).ptpMeasure t (x - a - c) old))) ∧
    (p.ptpRx t = true → fits 1#4 = true → Yields (.ptpDelayReqRx t h a) s
      (if st.st = 4 then p.ptpSend t 72 "PTP_DELAY_RESP" (netTime (p.rxStamp t a).toNat) else p)) ∧
    (p.ptpRx t = true → fits 9#4 = true →
      (st.asked = none → Yields (.ptpDelayRespRx t h sq b) s p) ∧
      (∀ (n : BitVec 16) (t3 : Int) (old : Bool), st.asked = some (n, t3, old) → Yields (.ptpDelayRespRx t h sq b) s
        (if st.st = 3 ∧ n = sq ∧ p.coresAway = false
          then p.setPtpSt t { st with delay := some (b - t3, p.clk, old) } else p))) ∧
    (p.ptpRx t = true → fits 0xB#4 = true →
      (p.coresAway = true → Yields (.ptpAnnounceRx t h cls l u) s p) ∧
      (p.coresAway = false → u = none ∨ moved.refFor 4 t = none → Yields (.ptpAnnounceRx t h cls l u) s moved) ∧
      (∀ (w : Word) (r : Nat), p.coresAway = false → u = some w → moved.refFor 4 t = some r →
        Yields (.ptpAnnounceRx t h cls l u) s (if (moved.ptpSt t).st = 3 then moved.copyUtc r w else moved)))) ∧
  (∀ (s : State) (t : PtpPort), s.part.md.cur ≠ .freeze →
    let p := s.part
    let c := p.ptpSt t
    let st := c.st
    let ws := netTime (p.txStamp t 0).toNat
    let sync := p.ptpSend t 64 "PTP_SYNC" ws
    Yields (.ptpAnnounceTimeout t) s (if p.ptpOn t = true ∧ p.coresAway = false ∧ (st = 1 ∨ st = 2 ∨ st = 3 ∨ st = 5)
      then ((p.setPtpSt t { c with master := none }).toPtp t 4).bmca else p) ∧
    (p.ptpTx t = true → st = 4 → Yields (.ptpSyncTx t) s (if t.val < 48 ∧ p.bit (tsReg t 0) 29 = true
      then sync.ptpSend t 64 "PTP_FOLLOW_UP" ws else sync)) ∧
    (p.ptpTx t = true → st = 4 →
      Yields (.ptpAnnounceTx t) s (p.ptpSend t 82 "PTP_ANNOUNCE" p.announceWords)) ∧
    (p.ptpTx t = false ∨ st ≠ 4 → ∀ i ∈ [Instr.ptpSyncTx t, .ptpAnnounceTx t], Yields i s p) ∧
    Yields (.ptpDelayReqTx t) s (if p.ptpTx t = true ∧ st = 3 ∧ p.coresAway = false
      then (p.setPtpSt t { c with asked := some (c.reqSeq, p.txStamp t 0, p.txStale t),
                                  reqSeq := c.reqSeq + 1#16 }).ptpSend t 64 "PTP_DELAY_REQ" [c.reqSeq.setWidth 32]
      else p))

/-- TX_MESSAGE_SEND, TX_MESSAGE_RX, EXCH_VALID_EXPIRE, STAMP_RECORD, STAMP_SPILL_MOVE and STAMP_FIFO_POP. A sent
message carries the next sequence number, the stamp of the one before and the last received one's, and its own stamp
is kept; its stamp is that of its event point at the contact; without its key nothing is sent and that is counted; a
received message that fails a check changes its counter alone (and its history bit where the MAC fails), and a good
one is kept, shown and measured; validity ends; a stamp joins the FIFO, spilling one record first from a full one,
or is lost; spilling moves the oldest record to the ring; a read of FIFO_POP takes the oldest record. The check
units see each message (`snoopOpen`). A row whose condition does not hold changes nothing; in FREEZE only
STAMP_FIFO_POP acts, and leaves the record in the queue. -/
def Obligations.ExchangeAndStamps : Prop :=
  (∀ (s : State) (q : Fin 24) (n : Fin 48) (a : Nat) (m : ExchMsg) (x : Option (Fin 16 × BitVec 16)),
    s.part.md.cur = .freeze →
    ∀ i ∈ [Instr.txMessageSend q a, .txMessageRx q m a, .exchValidExpire q, .stampRecord n a x, .stampSpillMove n],
      Yields i s s.part) ∧
  (∀ (s : State) (q : Fin 24) (lead : Nat), s.part.md.cur ≠ .freeze →
    let p := s.part
    let stamp := p.txStamp (48 + q) lead
    let on := p.bit (exReg q 0) 31 && p.portOn q && p.runMode.carries
    let id := p.field (exReg q 0) 27 26
    let auth := p.bit (exReg q 0) 29
    let c := p.exchSt q
    let rx := c.rx.getD (0#32, 0, false)
    let st := p.reg (tkReg 0x10)
    let flags := (st.getLsbD 5).toNat * 128 + (st.getLsbD 6).toNat * 64 + (p.tkState == 3).toNat * 32
      + (p.tkState == 1).toNat * 16 + (st.getLsbD 4).toNat * 8 + c.rx.isSome.toNat * 4 + c.prev.isSome.toNat * 2
    let m : ExchMsg :=
      { version := 1#8, kind := 1#8, node := (p.reg 0xE000).setWidth 16, flags := BitVec.ofNat 8 flags,
        hops := BitVec.ofNat 8 p.hopsOf.1, keyId := Fin.ofNat 4 id, seq := c.seq, tTxPrev := (c.prev.getD 0).toNat,
        rxSeq := rx.1, tRx := rx.2.1.toNat, asym := p.int64 (exReg q 8), acc := p.hopsOf.2.1, srcNode := p.hopsOf.2.2,
        mac := 0#128, stale := false }
    let kept := p.useFree.setExchSt q { c with seq := c.seq + 1#32, prev := some stamp,
                                               sent := ((c.seq, stamp, p.txStale (48 + q)) :: c.sent).take 8 }
    let sent := fun mac : BitVec 128 =>
      ((kept.snoopOpen 0x25 q 98).emit (.event "OSMC_FRAME" (p.refLane q) 0x88B5#64)).emit
        (.words "TX_MESSAGE" q (exchWords m ++ [mac.extractLsb' 96 32, mac.extractLsb' 64 32, mac.extractLsb' 32 32,
          mac.extractLsb' 0 32]))
    (on = false → Yields (.txMessageSend q lead) s p) ∧
    (on = true →
      (auth = true → p.linkKey q id = none →
        Yields (.txMessageSend q lead) s (p.addSatField (exReg q 0x3C) 15 0 1)) ∧
      (∀ k : BitVec 256, auth = true → p.linkKey q id = some k →
        Yields (.txMessageSend q lead) s (sent (hmac128 k (shaBytes (exchWords m))))) ∧
      (auth = false → Yields (.txMessageSend q lead) s (sent 0#128)))) ∧
  (∀ (s : State) (q : Fin 24) (m : ExchMsg) (age : Nat), s.part.md.cur ≠ .freeze →
    let on := s.part.bit (exReg q 0) 31 && s.part.portOn q && s.part.runMode.receives
    let p := s.part.snoopOpen 0x24 q 98
    let t4 := p.rxStamp (48 + q) age
    let c := p.exchSt q
    let wrong := decide (m.version ≠ 1#8) || decide (m.kind ≠ 1#8) ||
      (!p.bit (exReg q 4) 16 && p.field (exReg q 4) 15 0 != m.node.toNat)
    let auth := p.bit (exReg q 0) 29
    let macGood := match p.linkKey q m.keyId with
      | some k => hmac128 k (shaBytes (exchWords m)) == m.mac
      | none => false
    let old := match c.rx with
      | some r => !(laterThan m.seq r.1 || decide (edgesSilent ≤ p.clk - c.rxAt))
      | none => false
    let kept := p.setExchSt q { c with rx := some (m.seq, t4, p.rxStale (48 + q)), rxAt := p.clk,
                                       srcNode := m.srcNode }
    let shown := (kept.setReg64 (exReg q 0x28) m.acc).setReg (exReg q 0x10)
      (BitVec.ofNat 32 ((kept.setReg64 (exReg q 0x28) m.acc).field (exReg q 0x10) 31 30 * 2 ^ 30
        + (m.flags.getLsbD 7).toNat * 2 ^ 29 + (m.flags.getLsbD 6).toNat * 2 ^ 28 + m.hops.toNat * 2 ^ 16
        + m.node.toNat))
    let bad := decide (65536 < (m.asym + shown.int64 (exReg q 8)).natAbs)
    let told := if bad && !shown.bit (exReg q 0x10) 30 then shown.exHist q 1 else shown
    (on = false → Yields (.txMessageRx q m age) s s.part) ∧
    (on = true →
      (wrong = true → Yields (.txMessageRx q m age) s (p.addSatField (exReg q 0x38) 15 0 1)) ∧
      (wrong = false → auth = true → macGood = false →
        Yields (.txMessageRx q m age) s ((p.addSat (exReg q 0x30) 1).exHist q 2)) ∧
      (wrong = false → auth = true → macGood = true → old = true →
        Yields (.txMessageRx q m age) s (p.addSat (exReg q 0x34) 1)) ∧
      (wrong = false → (auth = false ∨ (macGood = true ∧ old = false)) → Yields (.txMessageRx q m age) s
        ((told.setBit (exReg q 0x10) 30 bad).exchMeasure q m t4 c.rx)))) ∧
  (∀ (s : State) (q : Fin 24), s.part.md.cur ≠ .freeze →
    Yields (.exchValidExpire q) s (if s.part.bit (exReg q 0x10) 31 = true
      then (s.part.setBit (exReg q 0x10) 31 false).exHist q 0 else s.part)) ∧
  (∀ (s : State) (n : Fin 48) (age : Nat) (x : Option (Fin 16 × BitVec 16)), s.part.md.cur ≠ .freeze →
    let p := s.part
    (((p.stampSt n).waiting = [] → Yields (.stampRecord n age x) s p) ∧
    (∀ (r : StampReq) (l : List StampReq), (p.stampSt n).waiting = r :: l →
      let q := (p.setStampSt n { p.stampSt n with waiting := l }).count (0x6000 + n) 0 1
      let time := fun y : Part => (y.txStamp n (-age)).toNat
      let joined := fun y : Part =>
        (y.setStampSt n { y.stampSt n with fifo := (y.stampSt n).fifo ++ [y.stampWords n r (time y) x] }).spillCheck n
      let full := decide (512 ≤ (q.stampSt n).fifo.length)
      (full = false → Yields (.stampRecord n age x) s (joined q)) ∧
      (full = true → q.canSpill n = true → Yields (.stampRecord n age x) s (joined (q.spillOne n))) ∧
      (full = true → q.canSpill n = false → Yields (.stampRecord n age x) s
        (((q.addSat (0x11C00 + 4 * n.val) 1).tsHist 0).count (0x6000 + n) 4 1)))) ∧
    Yields (.stampSpillMove n) s (if p.spilling n = true ∧ p.canSpill n = true
      then (p.spillOne n).spillCheck n else p)) ∧
  (∀ (s : State) (n : Fin 48),
    let off := tsReg n 0x20
    let p := s.part.granted .host
    let c := p.cross off
    let q := c.1
    let seen := fun x : Part => x.snoopBus .host off false (q.readWord off)
    let taken := fun (ws : List Word) =>
      let e := q.emit (.data .host (ws.getD 0 0#32))
      ({ e with access := { e.access with
        captured := SMap.set (fun _ => []) e.access.captured (Req.host.code * 0x100000 + off) (ws.drop 1) } } : Part)
    (s.part.reaches .host = false → Yields (.stampFifoPop n) s s.part) ∧
    (s.part.reaches .host = true → p.early .host = true → Yields (.stampFifoPop n) s (p.answer .host off 0#32)) ∧
    (s.part.reaches .host = true → p.early .host = false →
      (c.2 = false → Yields (.stampFifoPop n) s
        ((q.accessFault 6 .host (BitVec.ofNat 28 off)).answer .host off 0#32)) ∧
      (c.2 = true →
        (∀ (r : List Word) (l : List (List Word)), q.spilling n = false → (q.stampSt n).fifo = r :: l →
          Yields (.stampFifoPop n) s (seen (if q.md.cur = .freeze then taken r
            else (((taken r).setStampSt n { q.stampSt n with fifo := l }).count (0x6000 + n) 1 1).spillCheck n))) ∧
        (q.spilling n = true ∨ (q.stampSt n).fifo = [] →
          Yields (.stampFifoPop n) s (seen (taken (List.replicate 8 0#32)))))))

/-- CLIENT_PORT_ALIGN, CLIENT_FRAME_CLASSIFY, CLIENT_FRAME_END, TAP_FRAME_COMPLETE, RX_STARVE_TIMEOUT,
POOL_ENTRY_READ, TX_DESCRIPTOR_READ, INJECT_PLACE, INJECT_TIMEOUT, CLIENT_ALIGN_LOSS, FAULT_ORDERED_SETS_RX,
RTAG_RECOVERY_FRAME and RTAG_RECOVERY_RESET. Members lock, and a skew within 180 ns aligns the port; a frame's
verdict counts it and offers a copy; its end counts its class, ends the copy, and sends it on unless removed; a
frame to the client goes out and is counted; a complete copy is delivered, one that waited too long discarded; an
entry and a descriptor join their queues or are counted as bad; a frame is placed in a long enough run of idle, and
TX_CONS passes it when it has left, or it times out; a member that drifts loses its AM lock; recovery passes a frame
once and drops its copies, as the model takes IEEE 802.1CB (log 17). A row whose condition does not hold changes
nothing; in FREEZE none does. -/
def Obligations.ClientPath : Prop :=
  (∀ (s : State) (n : Fin 48) (b : Fin 16) (k : Fin 3) (l : List Nat) (f : ClientFrame) (e : Dword) (d : TxDesc) (r : IdleRun)
    (m : PortMember) (v w : Bool) (q : Option (BitVec 16)), s.part.md.cur = .freeze →
    ∀ i ∈ [Instr.clientPortAlign n l, .clientFrameClassify n f, .clientFrameEnd n v f, .tapFrameComplete n,
      .rxStarveTimeout n, .poolEntryRead b e, .txDescriptorRead n d, .injectPlace n r, .injectTimeout n,
      .clientAlignLoss m, .faultOrderedSetsRx n v w, .rtagRecoveryFrame n k q, .rtagRecoveryReset n],
      Yields i s s.part) ∧
  (∀ (s : State) (n : Fin 48) (a : List Nat), s.part.md.cur ≠ .freeze →
    let p := s.part
    let ls := p.clientLanes n
    let ready := p.clientRx n && !p.clientAligned n && decide (a.length = ls.length) &&
      ls.all fun l => p.bit (laneReg l 0x10) 2
    let lo := a.foldl min (a.headD 0)
    let hi := a.foldl max 0
    let holds := a.map fun x => hi - x + leastHold
    let locked := (ls.zip a).foldl (fun (x : Part) (e : Nat × Nat) =>
      (x.setLaneStep e.1 3).setReg64 (laneReg e.1 0x68) (BitVec.ofNat 64 (e.2 - lo))) p
    let q := ls.foldl (fun (x : Part) l => x.setLaneStep l 4) locked
    let q := (ls.zip holds).foldl (fun (x : Part) (e : Nat × Nat) =>
      (x.setLane e.1 { x.lane e.1 with hold := e.2 }).syncLaneLat e.1)
      (q.setClient n { q.client n with holds := holds })
    let aligned := (((q.setBit (macReg n 8) 1 true).setBit (macReg n 8) 2 false).setBit (macReg n 8) 3
      false).syncClientLat n
    let same := (ls.foldl (fun (x : Part) l => x.setLaneStep l 4) locked).client n
    (ready = false → Yields (.clientPortAlign n a) s p.signals) ∧
    (ready = true → 11796480 < hi - lo → Yields (.clientPortAlign n a) s locked.signals) ∧
    (ready = true → hi - lo ≤ 11796480 → Yields (.clientPortAlign n a) s
      (if same.holds = holds then aligned
       else aligned.clientLatChange n (p.reg64 (macReg n 0x50)) (p.reg64 (macReg n 0x58))).signals)) ∧
  (∀ (s : State) (n : Fin 48) (f : ClientFrame), s.part.md.cur ≠ .freeze →
    let p := s.part
    let up := p.clientRx n && p.clientAligned n
    let v := p.verdict n f
    let fixed := p.setClient n { p.client n with fate := some v }
    let c := if v.removed = true then fixed.addSat (macReg n 0x98) 1 else fixed
    let copied := v.offered || (decide (v.step = 5) && (p.bit (steerReg 14) 31 || p.bit (macReg n 4) 28))
    (up = false ∨ f.len < 64 → Yields (.clientFrameClassify n f) s p) ∧
    (up = true → 64 ≤ f.len →
      (v.step = 1 → Yields (.clientFrameClassify n f) s (c.addSat (macReg n 0x9C) 1)) ∧
      (v.step ≠ 1 → copied = true → Yields (.clientFrameClassify n f) s (c.tapOffer n f v (p.time.now - f.age - p.rxSegment n).toNat)) ∧
      (v.step ≠ 1 → copied = false → Yields (.clientFrameClassify n f) s c))) ∧
  (∀ (s : State) (n : Fin 48) (f : ClientFrame), s.part.md.cur ≠ .freeze →
    let p := s.part
    let up := p.clientRx n && p.clientAligned n
    let most := p.field (macReg n 0) 13 0
    let good := decide (64 ≤ f.len) && decide (f.len ≤ most) && f.fcsOk
    let sized := if good = true then (p.addReg64 (macReg n 0x60) 1).addReg64 (macReg n 0x68) f.len
      else if 64 ≤ f.len ∧ f.len ≤ most then p.addSat (macReg n 0x70) 1
      else if f.len < 64 then p.addSat (macReg n 0x74) 1
      else p.addSat (macReg n 0x78) 1
    let counted := if f.etype = 0x8808 then sized.addSat (macReg n 0x7C) 1 else sized
    let lost := decide (p.field (macReg n 0) 30 29 ≠ 0) &&
      (f.overflow || p.tribsOn.any fun t => p.tribClient t == some n.val && (p.trib t).impLost)
    let toLine := fun x : Part => if lost = true then x.mapOverflow n f else x.sendToLine n f
    let v := (p.client n).fate.getD (p.verdict n f)
    let done := if (counted.client n).fate.isNone = true then counted
      else counted.setClient n { counted.client n with fate := none }
    let ptp := if good = true then done.emit (.frame "TO_PTP" n f.bytes)
      else (((done.addSat (macReg n 0xB0) 1).count (0x7000 + n) 0 1).count (0x7000 + n) 2 1).dropHist n
    let ended := if v.step = 1 then ptp else done.tapEnd n f good
    let down := p.clientTx n && !p.clientFaulted n && p.weftRuns
    let out := p.towardClient n f
    (up = false → Yields (.clientFrameEnd n false f) s p) ∧
    (up = true → f.len < 64 → Yields (.clientFrameEnd n false f) s (toLine counted)) ∧
    (up = true → 64 ≤ f.len →
      Yields (.clientFrameEnd n false f) s (if v.removed = true then ended else toLine ended)) ∧
    (down = false → Yields (.clientFrameEnd n true f) s p) ∧
    (down = true → Yields (.clientFrameEnd n true f) s (Part.emit
      ((out.1.addReg64 (macReg n 0x80) 1).addReg64 (macReg n 0x88) out.2.length) (.frame "TO_CLIENT" n out.2)))) ∧
  (∀ (s : State) (n : Fin 48), s.part.md.cur ≠ .freeze →
    let p := s.part
    let waits := fun f : TapFrame => f.ended && !f.dead && f.dec.isNone && decide (0 < f.left)
    let first := fun (f : TapFrame) (a b : List TapFrame) => (p.client n).frames = a ++ f :: b ∧ waits f = true ∧
      (∀ g ∈ a, waits g = true → f.since < g.since) ∧ ∀ g ∈ b, waits g = true → f.since ≤ g.since
    let whole := fun f : TapFrame => f.ended && f.dec.isNone && f.left == 0 && !f.dead && p.host.linkUp
    ((∀ (f : TapFrame) (r : List TapFrame), (p.client n).frames = f :: r → whole f = false) →
      Yields (.tapFrameComplete n) s p) ∧
    (∀ (f : TapFrame) (r : List TapFrame), (p.client n).frames = f :: r → whole f = true →
      let q := (((p.rxFinish n f false).snoop 0x20 n f.bytes).addSat (macReg n 0xA0) 1).count (0x7000 + n) 1 1
      Yields (.tapFrameComplete n) s ((q.setClient n { p.client n with frames := r }).settleTap n)) ∧
    ((p.client n).frames.any waits = false → Yields (.rxStarveTimeout n) s p) ∧
    (∀ (f : TapFrame) (a b : List TapFrame), first f a b → Yields (.rxStarveTimeout n) s
      (if p.onDie (p.rxPool n) = [] then p.tapDiscard n f.seq 0xA4 4 else p.tapDiscard n f.seq 0xA8 5))) ∧
  (∀ (s : State) (b : Fin 16) (e : Dword), s.part.md.cur ≠ .freeze →
    let p := s.part
    let ready := p.bit (poolReg b 8) 31 && p.host.linkUp && p.reg (poolReg b 0xC) != p.reg (poolReg b 0x10) &&
      decide ((p.onDie b).length < 64)
    let i := (p.reg (poolReg b 0x10)).toNat % 2 ^ p.field (poolReg b 8) 4 0
    let q := (p.emit (.event "POOL_READ" b (p.reg64 (poolReg b 0) + BitVec.ofNat 64 (8 * i)))).addWrap (poolReg b 0x10) 1
    (ready = false → Yields (.poolEntryRead b e) s p) ∧
    (ready = true → e.extractLsb' 0 6 ≠ 0#6 →
      Yields (.poolEntryRead b e) s ((q.addSat (poolReg b 0x1C) 1).count (0x8000 + b) 2 1)) ∧
    (ready = true → e.extractLsb' 0 6 = 0#6 → Yields (.poolEntryRead b e) s
      ((q.poolPorts b).foldl (fun (x : Part) n => x.settleTap n) (q.setOnDie b (q.onDie b ++ [e]))))) ∧
  (∀ (s : State) (n : Fin 48) (d : TxDesc), s.part.md.cur ≠ .freeze →
    let p := s.part
    let c := p.client n
    let w0 := d.words.getD 0 0#32
    let ready := p.bit (tapReg n 0x28) 31 && p.host.linkUp &&
      p.reg (tapReg n 0x2C) != p.reg (tapReg n 0x30) + BitVec.ofNat 32 c.tx.length
    let i := ((p.reg (tapReg n 0x30)).toNat + c.tx.length) % 2 ^ p.field (tapReg n 0x28) 4 0
    let f := fun bad : Bool => ({
      dead := bad, bytes := d.bytes, stamp := w0.getLsbD 17,
      oneStep := w0.getLsbD 18 && p.isSync n { bytes := d.bytes }, cookie := d.words.getD 3 0#32 } : TxFrame)
    let asked := (p.emit (.event "TX_READ" n (p.reg64 (tapReg n 0x20) + BitVec.ofNat 64 (32 * i)))).emit
      (.event "TX_FRAME_READ" n (d.words.getD 2 0#32 ++ d.words.getD 1 0#32))
    let q := fun bad : Bool => (asked.setClient n { c with tx := c.tx ++ [f bad] }).count (0x9000 + n) 0 1
    (ready = false → Yields (.txDescriptorRead n d) s p) ∧
    (ready = true → p.txInvalid n d = false → Yields (.txDescriptorRead n d) s (q false)) ∧
    (ready = true → p.txInvalid n d = true → Yields (.txDescriptorRead n d) s
      (((((q true).addSat (macReg n 0xE0) 1).count (0x9000 + n) 2 1).dropHist n).drainTx n (c.tx.length + 1)))) ∧
  (∀ (s : State) (n : Fin 48) (run : IdleRun), s.part.md.cur ≠ .freeze →
    let p := s.part
    ((p.client n).tx.any TxFrame.waits = false →
      Yields (.injectPlace n run) s p ∧ Yields (.injectTimeout n) s p) ∧
    (∀ (f : TxFrame) (a b : List TxFrame), (p.client n).tx = a ++ f :: b → a.any TxFrame.waits = false →
      f.dead = false → f.leaves = none →
      let len := f.bytes.length
      let fits := p.clientTx n && !p.clientFaulted n && decide ((len + 27) / 8 + 1 ≤ run.blocks) &&
        decide (run.blocks ≤ 2048)
      let g : ClientFrame := { bytes := f.bytes }
      let left := p.txSegment n - run.age + ((len * 5243 / p.clientW n : Nat) : Int)
      let putBack := fun x : TxFrame => p.setClient n { p.client n with tx := a ++ x :: b }
      let q := putBack { f with leaves := some (p.clk + ((left + 262143) / 262144).toNat) }
      let u := (q.addSat (macReg n 0xD8) 1).count (0x9000 + n) 1 1
      let stamp := p.time.now - run.age + p.txSegment n
      let out := if f.oneStep = true then u.reFcs n g.fcsOk (g.oneStep stamp.toNat) else (u, f.bytes)
      let sent := (((out.1.snoop 0x21 n out.2).emit (.frame "TO_CLIENT" n out.2)).addReg64 (macReg n 0x80) 1).addReg64
        (macReg n 0x88) len
      let serial := sent.field (tsReg n 0x14) 15 0
      let asked := (sent.setStampSt n { sent.stampSt n with waiting := (sent.stampSt n).waiting ++
        [{ serial := serial, cookie := f.cookie, oneStep := f.oneStep, len := len }] }).setField (tsReg n 0x14) 15 0
          (serial + 1)
      (fits = false → Yields (.injectPlace n run) s p) ∧
      (fits = true → Yields (.injectPlace n run) s
        ((if f.stamp = true then asked else sent).drainTx n (a.length + (b.length + 1)))) ∧
      Yields (.injectTimeout n) s
        (((((putBack { f with dead := true }).addSat (macReg n 0xDC) 1).count (0x9000 + n) 3 1).dropHist n).drainTx n
          (a.length + (b.length + 1))))) ∧
  (∀ (s : State) (m : PortMember), s.part.md.cur ≠ .freeze →
    let p := s.part
    let n := m.port.val
    Yields (.clientAlignLoss m) s (if p.clientOn n = true ∧ p.clientAligned n = true ∧ m.member.val < p.clientW n
      then ((p.clientLose n).fallLane (48 + n + m.member.val) 3).signals else p.signals)) ∧
  (∀ (p : Part) (n : Fin 48) (f : TxFrame) (r : List TxFrame) (k : Nat), (p.client n).tx = f :: r →
    p.drainTx n (k + 1) = if f.dead = true ∨ (∃ e, f.leaves = some e ∧ e ≤ p.clk)
      then ((p.setClient n { p.client n with tx := r }).addWrap (tapReg n 0x30) 1).drainTx n k else p) ∧
  (∀ (s : State) (n : Fin 48), s.part.md.cur ≠ .freeze →
    let p := s.part
    (∀ remote on : Bool,
      let b := if remote = true then 3 else 2
      (p.clientRx n = false → Yields (.faultOrderedSetsRx n remote on) s p.signals) ∧
      (p.clientRx n = true → on = true → Yields (.faultOrderedSetsRx n remote on) s (p.clientFault n b).signals) ∧
      (p.clientRx n = true → on = false → Yields (.faultOrderedSetsRx n remote on) s
        (if remote = true ∨ p.clientAligned n = true then (p.setBit (macReg n 8) b false).signals
         else p.signals)))) ∧
  (∀ (s : State) (n : Fin 48) (k : Fin 3), s.part.md.cur ≠ .freeze →
    let p := s.part
    let mode := p.field (macReg n 0xC0) 27 26
    let on := decide (mode = 1) || decide (mode = 2)
    let enters := p.clientTx n && on && p.legEnters n k && p.weftRuns
    let u := p.elimCount n 11
    let c := u.recovSt n
    let h := if u.field (macReg n 0xC0) 20 16 = 0 then 32 else u.field (macReg n 0xC0) 20 16
    (enters = false → ∀ q : Option (BitVec 16), Yields (.rtagRecoveryFrame n k q) s p) ∧
    (enters = true →
      Yields (.rtagRecoveryFrame n k none) s (if u.bit (macReg n 0xC0) 25 = true then u.rtagPass n
        else (u.addSatField (macReg n 0xD4) 31 16 1).elimCount n 14) ∧
      (∀ q : BitVec 16, c.takeAny = true → Yields (.rtagRecoveryFrame n k (some q)) s
        ((u.setRecov n { takeAny := false, seq := q, history := 1#32 }).rtagPass n)) ∧
      (∀ q : BitVec 16, c.takeAny = false → mode = 2 → Yields (.rtagRecoveryFrame n k (some q)) s
        (if q = c.seq then u.rtagDrop n
         else (u.setRecov n { c with seq := q }).rtagPass n)) ∧
      (∀ q : BitVec 16, c.takeAny = false → mode = 1 →
        let d := (q - c.seq).toInt
        (h ≤ d ∨ d ≤ -(h : Int) → Yields (.rtagRecoveryFrame n k (some q)) s (u.rtagDrop n)) ∧
        (-(h : Int) < d → d ≤ 0 → d < h → Yields (.rtagRecoveryFrame n k (some q)) s
          (if c.history.getLsbD (-d).toNat = true then u.rtagDrop n
           else (u.setRecov n { c with history := c.history ||| (1#32 <<< (-d).toNat) }).rtagPass n)) ∧
        (0 < d → d < h → Yields (.rtagRecoveryFrame n k (some q)) s
          (((u.setRecov n { c with seq := q, history := (c.history <<< d.toNat) ||| 1#32 }).addSat (macReg n 0xD0)
            (histLost c.history h d.toNat)).rtagPass n)))) ∧
    Yields (.rtagRecoveryReset n) s (if on = true ∧ (p.recovSt n).takeAny = false
      then (p.setRecov n {}).addSatField (macReg n 0xD4) 15 0 1 else p))

/-- CIRUMLINK_CYCLE, SLOT_FRAME_RX, SLOT0_RX, TRAIN_TIMEOUT, RAISE_TIMEOUT, DOWN_RETRY, LOWER_HOLD_EXPIRE,
AUTO_WAKE_SEND, MIRROR_RECORD_SEND, MIRROR_RECORD_RX, MIRROR_RETRANSMIT, MIRROR_RESYNC_START and RESYNC_REOFFER.
While the ring is powered a cycle ends what it received, takes its level and sends its slots, and without it the
ring positions go down; on a used direction a bad or foreign frame is counted, and a good one is heard, relayed by
its class, and its notes are kept once; slot 0, where every lane of its level holds AM lock, moves the direction
and, from the twin, the pair; the timers take a direction DOWN, train it again, or offer a lower level; a lost twin
is woken; what each kind of record carries is sent; records are taken in order; they are sent once more when the
acknowledgement stands still, and a full resynchronisation is offered to the host. A row whose condition does not
hold changes nothing. -/
def Obligations.CirumlinkRing : Prop :=
  (∀ s : State,
    let q := ((s.part.feedSlots.linkCycle 0).linkCycle 1).ringSilence
    let held := if q.mirrors && !q.twin.outst.isEmpty then min (q.twin.stuck + 1) 8 else 0
    let n := if q.tkState = 0 then (q.twin.cycle + 1) % 2 ^ 32 else q.now / 8192000000 % 2 ^ 32
    let q : Part := { q with twin := { q.twin with cycle := n, stuck := held } }
    let q := ((q.atSwitch 0).atSwitch 1).syncPair
    let q := [0, 1].foldl (fun (x : Part) k => if x.linkSends k then x.sendSlot0 k else x) q
    let q := ((q.sendRelay 0).sendRelay 1).sendMirror.sendNotes
    (s.part.ringPowered = false → s.part.md.cur = .dormant → Yields .cirumlinkCycle s s.part) ∧
    (s.part.ringPowered = false → s.part.md.cur ≠ .dormant → Yields .cirumlinkCycle s s.part.ringSilence) ∧
    (s.part.ringPowered = true → q.supply.loss = none → Yields .cirumlinkCycle s q) ∧
    (∀ l, s.part.ringPowered = true → q.supply.loss = some l → Yields .cirumlinkCycle s { q with supply := { q.supply with
      loss := some { l with notices := l.notices + (q.linkSends 0).toNat + (q.linkSends 1).toNat } } })) ∧
  (∀ (s : State) (k : Fin 2) (f : SlotFrame) (g : Slot0),
    s.part.linkUsed k = false ∨ s.part.linkState k = 0 →
    Yields (.slotFrameRx k f) s s.part ∧ Yields (.slot0Rx k g) s s.part) ∧
  (∀ (s : State) (k : Fin 2), s.part.linkUsed k = true → s.part.linkState k ≠ 0 →
    (∀ f : SlotFrame,
      let head := slotHeader f.slot f.src f.dst f.bcast f.cls f.hops f.cycle f.payload.length
      let p := s.part.snoop 0x26 f.slot (netWords head ++ f.payload ++ netBytes (crc32c f.payload))
      let w := p.slotWord f.slot
      let own := w.getLsbD 31 && fieldOf w 2 0 == f.src.val
      let heard := p.heardRing f.src
      let o := 1 - k.val
      let onward := (f.bcast || f.dst.val != heard.ringPos) && decide (0 < f.hops)
      let q := if onward then heard.setLink o { heard.link o with
        relay := (heard.link o).relay ++ [{ f with hops := f.hops - 1 }] } else heard
      let id := (f.src.val, f.slot.val, f.cycle)
      let mine := (f.bcast || f.dst.val == heard.ringPos) && !q.twin.kept.contains id
      (f.crcOk = false → Yields (.slotFrameRx k f) s (p.addSat (cirReg k 0xC) 1)) ∧
      (f.crcOk = true →
        (f.slot.val = 0 → Yields (.slotFrameRx k f) s p) ∧
        (f.slot.val ≠ 0 → own = false → Yields (.slotFrameRx k f) s (p.addSat (cirReg k 0x10) 1)) ∧
        (f.slot.val ≠ 0 → own = true → f.cls.val ≠ 2 → Yields (.slotFrameRx k f) s heard) ∧
        (f.slot.val ≠ 0 → own = true → f.cls.val = 2 → Yields (.slotFrameRx k f) s (if mine = true
          then { q with
            twin := { q.twin with kept := (id :: q.twin.kept).take 1024 },
            domain := { q.domain with inbox := q.domain.inbox ++
              (notesOfBytes 749 f.payload).map fun n => (f.src.val, n) } } else q)))) ∧
    (∀ f : Slot0,
      let holds := laneHolds (s.part.link k).holds f.lanes
      let p := (s.part.setLink k { s.part.link k with holds := holds }).setField (cirReg k 4) 11 8 (lanesLocked holds)
      let u := (p.snoopOpen 0x26 0 100).heardRing (p.ringPeer k)
      let c := u.link k
      let q := u.setLink k { c with
        got := true, good := if c.got then c.good else min (c.good + 1) 8,
        noOk := if f.rxOk then 0 else if c.got then c.noOk else min (c.noOk + 1) 8,
        peerRun := c.peerRun || f.rxOk && decide (8 ≤ c.good), peer := some f }
      let q := (q.setField (cirReg k 4) 7 6 f.txLevel).askSwitch k f.ready
      let q := if q.linkState k = 1 ∧ 8 ≤ (q.link k).good ∧ f.rxOk = true
        then (q.setLinkState k 2).setLink k { q.link k with req := 3 } else q
      (levelHeld holds f.txLevel = false → Yields (.slot0Rx k f) s p) ∧
      (levelHeld holds f.txLevel = true → Yields (.slot0Rx k f) s (if k.val = u.twinPort then q.twinSlot0 c.peer f else q)))) ∧
  (∀ (holds : SMap (Option Int)) (l : Nat),
    let needed := (List.range 4).filter fun i => (levelLanes l).testBit i
    let held := fun i : Nat => SMap.get (fun _ => none) holds i
    levelHeld holds l = true ↔ (∀ i ∈ needed, ∃ a, held i = some a) ∧
      ∀ i ∈ needed, ∀ j ∈ needed, ∀ a b : Int, held i = some a ∧ held j = some b → a - b ≤ 2621440) ∧
  (∀ (s : State) (k : Fin 2),
    let p := s.part
    let light := decide (8000 * p.field 0xD120 31 22 ≤ (p.link k).quiet)
    Yields (.trainTimeout k) s (if p.linkState k = 1 then (p.linkFall k).syncPair else p) ∧
    Yields (.raiseTimeout k) s (if p.linkState k = 3 then (p.linkFall k).syncPair else p) ∧
    Yields (.downRetry k) s (if p.linkState k = 5 then p.linkTrain k else p) ∧
    (p.linkState k = 2 → 0 < p.txLevel k → p.linkFixed k = false → light = true →
      Yields (.lowerHoldExpire k) s (p.offer 6 k (p.txLevel k - 1)
        (BitVec.ofNat 32 (2 ^ p.txLevel k + 2 ^ (p.txLevel k - 1))) (applyLower k))) ∧
    (p.linkState k ≠ 2 ∨ p.txLevel k = 0 ∨ p.linkFixed k = true ∨ light = false →
      Yields (.lowerHoldExpire k) s p)) ∧
  (∀ s : State,
    let p := s.part
    let wakes := p.bit 0xD104 29 && (p.linkState p.twinPort == 5 || p.linkState p.twinPort == 1) && p.twin.lost &&
      p.ringPowered && decide (1 < p.ringPorts)
    let old := p.twin.outst.any fun e => decide (edges5s < p.clk - e.2)
    let still := p.mirrors && decide (8 ≤ p.twin.stuck) && !p.twin.outst.isEmpty
    let due := p.mirrors && p.twin.due && !p.twin.deferred && (p.openFor 7 0).isNone
    Yields .autoWakeSend s (if wakes = true then p.emit (.event "CIRUMLINK_WAKE" p.twinPort 0#64) else p) ∧
    (p.mirrors = false → ∀ kind : MirrorKind, Yields (.mirrorRecordSend kind) s p) ∧
    (p.mirrors = true →
      (p.twin.config = [] → Yields (.mirrorRecordSend .config) s p) ∧
      (p.twin.config ≠ [] →
        let q := p.mirrorPut .config false (p.reg stitchCountReg :: p.twin.config)
        Yields (.mirrorRecordSend .config) s { q with twin := { q.twin with config := [] } }) ∧
      Yields (.mirrorRecordSend .timekeeper) s (p.mirrorPut .timekeeper false p.tkBody) ∧
      Yields (.mirrorRecordSend .rtag) s
        (if p.rtagBody false = [] then p else (p.mirrorPut .rtag false (p.rtagBody false)).clearMoved) ∧
      Yields (.mirrorRecordSend .pmSecond) s (if p.pmBody = [] then p else p.mirrorPut .pmSecond false p.pmBody) ∧
      (let q := p.twin.routes.foldl (fun (x : Part) e => x.mirrorPut .route false (x.routeBody e.1 e.2)) p
       Yields (.mirrorRecordSend .route) s { q with twin := { q.twin with routes := [] } }) ∧
      Yields (.mirrorRecordSend .checkpoint) s
        (if p.journal.ckptSerial = 0#32 then p else p.mirrorPut .checkpoint false p.ckptBody) ∧
      Yields (.mirrorRecordSend .resyncBegin) s p ∧ Yields (.mirrorRecordSend .resyncEnd) s p) ∧
    (still = false → Yields .mirrorRetransmit s p) ∧
    (still = true → old = false → Yields .mirrorRetransmit s
      { p with twin := { p.twin with toSend := p.twin.outst.map (·.1), stuck := 0 } }) ∧
    (still = true → old = true →
      Yields .mirrorRetransmit s { p with twin := { p.twin with due := true, stuck := 0 } }) ∧
    Yields .mirrorResyncStart s (if due = true then p.offer 7 0 1 3#32 applyResync else p) ∧
    Yields .resyncReoffer s (if p.mirrors = true ∧ p.twin.deferred = true
      then Part.offer { p with twin := { p.twin with deferred := false } } 7 0 1 3#32 applyResync else p)) ∧
  (∀ (s : State) (r : MirrorRec),
    let p := s.part
    let taken := p.paired && (r.seq == p.twin.inSeq + 1#32 || r.kind == .resyncBegin)
    let key := 0x100 + r.kind.code
    let parts := SMap.get (fun _ => []) p.twin.copies key
    let tw := fun ws : List Word => ({ p with twin := { p.twin with
      inSeq := r.seq, copies := SMap.set (fun _ => []) p.twin.copies key ws } } : Part)
    let restores := r.kind == .route && r.restore
    let late := restores && !(p.noRoutes || p.twin.adoptingRoutes)
    let q := (tw []).mirrorTake r.kind r.restore (parts ++ r.body)
    (taken = false → Yields (.mirrorRecordRx r) s p) ∧
    (taken = true → r.last = false → Yields (.mirrorRecordRx r) s (tw (parts ++ r.body))) ∧
    (taken = true → r.last = true → late = true → Yields (.mirrorRecordRx r) s (tw [])) ∧
    (taken = true → r.last = true → late = false →
      Yields (.mirrorRecordRx r) s { q with twin := { q.twin with adoptingRoutes := restores } }))

/-- SMB_ADDR, SMB_READ, SMB_WRITE, SMB_REC_SEL, SMB_REC_READ, SMB_STATUS and SMB_SCL_TIMEOUT. A command to the
part's address with a good PEC, while the input is applied, acts: a register command, outside DORMANT, reads or
writes at the pointer and moves it on by 4; a record that exists is captured by REC_SEL and read 32 bytes at a time;
STATUS answers its word. A command to another address, with a bad PEC, or without the input changes nothing. A long
SCL low resets the interface while the input is applied. -/
def Obligations.SmbusTarget : Prop :=
  (∀ (s : State) (a : BitVec 7),
    let regs := s.part.supply.vin && a == s.part.smbAddress && s.part.md.cur != .dormant
    let next : SmbSt := { s.smb with pointer := s.smb.pointer + 4#32 }
    let at_ : BitVec 28 := s.smb.pointer.setWidth 28
    (regs = true →
      (∀ o : Word, Machine.exec (.smbAddr a o true) s = .next { s with smb := { s.smb with pointer := o } }) ∧
      Machine.exec (.smbRead a) s = .next { s with
        smb := next,
        part := (busRead .smb at_ s.part).emit (.words "SMB_READ" (s.part.sideStatus false at_)
          [(busRead .smb at_ s.part).lastData]) } ∧
      (∀ v : Word, Machine.exec (.smbWrite a v true) s = .next { s with
        smb := next,
        part := (busWrite { req := .smb, addr := at_, be := 0xF#4, val := v } s.part).copyQueued s.window })) ∧
    (regs = false → ∀ (o : Word) (pec : Bool), ∀ i ∈ [Instr.smbAddr a o pec, .smbRead a, .smbWrite a o pec],
      Machine.exec i s = .next s) ∧
    (∀ o : Word, Machine.exec (.smbAddr a o false) s = .next s ∧ Machine.exec (.smbWrite a o false) s = .next s)) ∧
  (∀ (s : State) (a : BitVec 7) (sel : Byte),
    let hears := s.part.supply.vin && a == s.part.smbAddress
    (hears = true →
      (∀ l : List Byte, s.part.smbRecord sel = some l →
        Machine.exec (.smbRecSel a sel true) s = .next { s with smb := { s.smb with snapshot := l, cursor := 0 } }) ∧
      Machine.exec (.smbRecRead a) s = .next { s with
        smb := { s.smb with cursor := s.smb.cursor + 32 },
        part := s.part.emit (.bytes "SMB_REC_READ"
          (((s.smb.snapshot.drop s.smb.cursor) ++ List.replicate 32 0#8).take 32)) } ∧
      Yields (.smbStatus a) s (s.part.emit (.words "SMB_STATUS" 0 [s.part.smbStatusWord]))) ∧
    (hears = false → ∀ pec : Bool, ∀ i ∈ [Instr.smbRecSel a sel pec, .smbRecRead a, .smbStatus a],
      Machine.exec i s = .next s) ∧
    Machine.exec (.smbRecSel a sel false) s = .next s ∧
    (s.part.smbRecord sel = none → ∀ pec : Bool, Machine.exec (.smbRecSel a sel pec) s = .next s)) ∧
  (∀ s : State,
    (s.part.supply.vin = true → Machine.exec .smbSclTimeout s = .next { s with smb := {} }) ∧
    (s.part.supply.vin = false → Machine.exec .smbSclTimeout s = .next s))

/-- EXTEST, EXTEST_PULSE, EXTEST_TRAIN, CLAMP, HIGHZ, SAMPLE_PRELOAD, IDCODE, BYPASS, REG_ACCESS and
JTAG_TEST_LOGIC_RESET. Each loads its instruction while the input is applied. In DORMANT the test instructions act
on the pins with the boundary cells (HIGHZ with none), and in other modes they act as BYPASS; SAMPLE takes the pins
and may preload; the identification is 0x196480F1; a register access keeps its status and data for the next capture,
and does nothing in DORMANT; an opcode of the table is not BYPASS's row. Without the input a row changes nothing. -/
def Obligations.TestAccessPort : Prop :=
  (∀ (s : State) (pins : List Bool) (b : Option (List Bool)) (op : Byte) (w : Bool) (o : BitVec 28) (v : Word),
    s.part.tapAlive = false →
    (∀ i ∈ [Instr.extest pins, .extestPulse pins, .extestTrain pins, .clamp, .highz, .samplePreload b pins, .idcode,
      .bypass op, .jtagTestLogicReset], Yields i s s.part) ∧
    YieldsBus (.regAccess w o v) s s.part) ∧
  (∀ s : State, s.part.tapAlive = true →
    let load := fun i : TapInstr => s.part.loadTap i
    (∀ (pins : List Bool) (i : TapInstr) (nm : String) (c : Instr), (i, nm, c) ∈ [(.extest, "EXTEST", .extest pins),
        (.extestPulse, "EXTEST_PULSE", .extestPulse pins), (.extestTrain, "EXTEST_TRAIN", .extestTrain pins)] →
      ((load i).tapActs = true → Yields c s (Part.emit { load i with
        jtag := { (load i).jtag with captured := pins } } (.bytes nm (load i).boundaryCells))) ∧
      ((load i).tapActs = false → Yields c s (load i))) ∧
    Yields .clamp s (if (load .clamp).tapActs = true
      then (load .clamp).emit (.bytes "CLAMP" (load .clamp).boundaryCells) else load .clamp) ∧
    Yields .highz s (if (load .highz).tapActs = true then (load .highz).emit (.bytes "HIGHZ" []) else load .highz) ∧
    (∀ (b : Option (List Bool)) (pins : List Bool), Yields (.samplePreload b pins) s { load .sample with
      jtag := { (load .sample).jtag with captured := pins, boundary := b.getD (load .sample).jtag.boundary } }) ∧
    Yields .idcode s ((load .idcode).emit (.words "IDCODE" 0 [0x196480F1#32])) ∧
    (∀ op : Byte, Yields (.bypass op) s (if tapOpcodes.contains op = true then s.part else load .bypass)) ∧
    Yields .jtagTestLogicReset s (load .idcode) ∧
    (∀ (w : Bool) (o : BitVec 28) (v : Word),
      let q := load .regAccess
      (q.md.cur = .dormant → YieldsBus (.regAccess w o v) s { q with jtag := { q.jtag with done := false } }) ∧
      (q.md.cur ≠ .dormant → w = true →
        let r := busWrite { req := .jtag, addr := o, be := 0xF#4, val := v } q
        YieldsBus (.regAccess w o v) s { r with
          jtag := { r.jtag with done := true, status := q.sideStatus true o, data := v } }) ∧
      (q.md.cur ≠ .dormant → w = false →
        let r := busRead .jtag o q
        YieldsBus (.regAccess w o v) s { r with
          jtag := { r.jtag with done := true, status := q.sideStatus false o, data := r.lastData } })))
end

