-- ==== Sys2Proof/Laws/State.lean ====
section
/-! SUPPORT. What each named update of the part leaves unchanged, field by field, so that no proof unfolds a
record update. -/

namespace Sys2Proof.Machine

/-- What every step of a fold leaves unchanged, the fold leaves unchanged. -/
theorem foldl_keeps {α β : Type} (g : Part → β) (f : Part → α → Part) (h : ∀ p a, g (f p a) = g p) (l : List α)
    (p : Part) : g (l.foldl f p) = g p := by
  induction l generalizing p with
  | nil => rfl
  | cons a r ih => rw [List.foldl_cons, ih, h]

@[simp] theorem Part.setReg_frame (p : Part) (o : Nat) (w : Word) :
    (p.setReg o w).clk = p.clk ∧ (p.setReg o w).free = p.free ∧ (p.setReg o w).out = p.out ∧
    (p.setReg o w).supply = p.supply ∧ (p.setReg o w).md = p.md ∧ (p.setReg o w).host = p.host ∧
    (p.setReg o w).media = p.media ∧ (p.setReg o w).access = p.access ∧ (p.setReg o w).steer = p.steer ∧
    (p.setReg o w).cmd = p.cmd ∧ (p.setReg o w).stitch = p.stitch ∧ (p.setReg o w).journal = p.journal ∧
    (p.setReg o w).ledger = p.ledger ∧ (p.setReg o w).crc = p.crc ∧ (p.setReg o w).back = p.back ∧
    (p.setReg o w).jtag = p.jtag ∧ (p.setReg o w).hostMem = p.hostMem ∧ (p.setReg o w).dram = p.dram ∧
    (p.setReg o w).time = p.time ∧ (p.setReg o w).segs = p.segs ∧ (p.setReg o w).lanes = p.lanes ∧
    (p.setReg o w).ports = p.ports ∧ (p.setReg o w).tribs = p.tribs ∧ (p.setReg o w).points = p.points ∧
    (p.setReg o w).pm = p.pm ∧ (p.setReg o w).seams = p.seams ∧ (p.setReg o w).recov = p.recov ∧
    (p.setReg o w).ptp = p.ptp ∧ (p.setReg o w).exch = p.exch ∧ (p.setReg o w).stamps = p.stamps ∧
    (p.setReg o w).segRecs = p.segRecs ∧ (p.setReg o w).clients = p.clients ∧
    (p.setReg o w).bobbins = p.bobbins ∧ (p.setReg o w).links = p.links ∧ (p.setReg o w).twin = p.twin ∧
    (p.setReg o w).domain = p.domain ∧ (p.setReg o w).bus = p.bus := by
  and_intros <;> rfl

@[simp] theorem Part.setField_frame (p : Part) (o hi lo v : Nat) :
    (p.setField o hi lo v).clk = p.clk ∧ (p.setField o hi lo v).free = p.free ∧
    (p.setField o hi lo v).out = p.out ∧ (p.setField o hi lo v).supply = p.supply ∧
    (p.setField o hi lo v).md = p.md ∧ (p.setField o hi lo v).host = p.host ∧
    (p.setField o hi lo v).media = p.media ∧ (p.setField o hi lo v).access = p.access ∧
    (p.setField o hi lo v).steer = p.steer ∧ (p.setField o hi lo v).cmd = p.cmd ∧
    (p.setField o hi lo v).stitch = p.stitch ∧ (p.setField o hi lo v).journal = p.journal ∧
    (p.setField o hi lo v).ledger = p.ledger ∧ (p.setField o hi lo v).crc = p.crc ∧
    (p.setField o hi lo v).back = p.back ∧ (p.setField o hi lo v).jtag = p.jtag ∧
    (p.setField o hi lo v).hostMem = p.hostMem ∧ (p.setField o hi lo v).dram = p.dram ∧
    (p.setField o hi lo v).time = p.time ∧ (p.setField o hi lo v).segs = p.segs ∧
    (p.setField o hi lo v).lanes = p.lanes ∧ (p.setField o hi lo v).ports = p.ports ∧
    (p.setField o hi lo v).tribs = p.tribs ∧ (p.setField o hi lo v).points = p.points ∧
    (p.setField o hi lo v).pm = p.pm ∧ (p.setField o hi lo v).seams = p.seams ∧
    (p.setField o hi lo v).recov = p.recov ∧ (p.setField o hi lo v).ptp = p.ptp ∧
    (p.setField o hi lo v).exch = p.exch ∧ (p.setField o hi lo v).stamps = p.stamps ∧
    (p.setField o hi lo v).segRecs = p.segRecs ∧ (p.setField o hi lo v).clients = p.clients ∧
    (p.setField o hi lo v).bobbins = p.bobbins ∧ (p.setField o hi lo v).links = p.links ∧
    (p.setField o hi lo v).twin = p.twin ∧ (p.setField o hi lo v).domain = p.domain ∧
    (p.setField o hi lo v).bus = p.bus := by
  and_intros <;> rfl

@[simp] theorem Part.setBit_frame (p : Part) (o j : Nat) (b : Bool) :
    (p.setBit o j b).clk = p.clk ∧ (p.setBit o j b).free = p.free ∧ (p.setBit o j b).out = p.out ∧
    (p.setBit o j b).supply = p.supply ∧ (p.setBit o j b).md = p.md ∧ (p.setBit o j b).host = p.host ∧
    (p.setBit o j b).media = p.media ∧ (p.setBit o j b).access = p.access ∧
    (p.setBit o j b).steer = p.steer ∧ (p.setBit o j b).cmd = p.cmd ∧ (p.setBit o j b).stitch = p.stitch ∧
    (p.setBit o j b).journal = p.journal ∧ (p.setBit o j b).ledger = p.ledger ∧
    (p.setBit o j b).crc = p.crc ∧ (p.setBit o j b).back = p.back ∧ (p.setBit o j b).jtag = p.jtag ∧
    (p.setBit o j b).hostMem = p.hostMem ∧ (p.setBit o j b).dram = p.dram ∧
    (p.setBit o j b).time = p.time ∧ (p.setBit o j b).segs = p.segs ∧ (p.setBit o j b).lanes = p.lanes ∧
    (p.setBit o j b).ports = p.ports ∧ (p.setBit o j b).tribs = p.tribs ∧
    (p.setBit o j b).points = p.points ∧ (p.setBit o j b).pm = p.pm ∧ (p.setBit o j b).seams = p.seams ∧
    (p.setBit o j b).recov = p.recov ∧ (p.setBit o j b).ptp = p.ptp ∧ (p.setBit o j b).exch = p.exch ∧
    (p.setBit o j b).stamps = p.stamps ∧ (p.setBit o j b).segRecs = p.segRecs ∧
    (p.setBit o j b).clients = p.clients ∧ (p.setBit o j b).bobbins = p.bobbins ∧
    (p.setBit o j b).links = p.links ∧ (p.setBit o j b).twin = p.twin ∧
    (p.setBit o j b).domain = p.domain ∧ (p.setBit o j b).bus = p.bus := by
  and_intros <;> rfl

@[simp] theorem Part.addSat_frame (p : Part) (o n : Nat) :
    (p.addSat o n).clk = p.clk ∧ (p.addSat o n).free = p.free ∧ (p.addSat o n).out = p.out ∧
    (p.addSat o n).supply = p.supply ∧ (p.addSat o n).md = p.md ∧ (p.addSat o n).host = p.host ∧
    (p.addSat o n).media = p.media ∧ (p.addSat o n).access = p.access ∧ (p.addSat o n).steer = p.steer ∧
    (p.addSat o n).cmd = p.cmd ∧ (p.addSat o n).stitch = p.stitch ∧ (p.addSat o n).journal = p.journal ∧
    (p.addSat o n).ledger = p.ledger ∧ (p.addSat o n).crc = p.crc ∧ (p.addSat o n).back = p.back ∧
    (p.addSat o n).jtag = p.jtag ∧ (p.addSat o n).hostMem = p.hostMem ∧ (p.addSat o n).dram = p.dram ∧
    (p.addSat o n).time = p.time ∧ (p.addSat o n).segs = p.segs ∧ (p.addSat o n).lanes = p.lanes ∧
    (p.addSat o n).ports = p.ports ∧ (p.addSat o n).tribs = p.tribs ∧ (p.addSat o n).points = p.points ∧
    (p.addSat o n).pm = p.pm ∧ (p.addSat o n).seams = p.seams ∧ (p.addSat o n).recov = p.recov ∧
    (p.addSat o n).ptp = p.ptp ∧ (p.addSat o n).exch = p.exch ∧ (p.addSat o n).stamps = p.stamps ∧
    (p.addSat o n).segRecs = p.segRecs ∧ (p.addSat o n).clients = p.clients ∧
    (p.addSat o n).bobbins = p.bobbins ∧ (p.addSat o n).links = p.links ∧ (p.addSat o n).twin = p.twin ∧
    (p.addSat o n).domain = p.domain ∧ (p.addSat o n).bus = p.bus := by
  and_intros <;> rfl

@[simp] theorem Part.addWrap_frame (p : Part) (o n : Nat) :
    (p.addWrap o n).clk = p.clk ∧ (p.addWrap o n).free = p.free ∧ (p.addWrap o n).out = p.out ∧
    (p.addWrap o n).supply = p.supply ∧ (p.addWrap o n).md = p.md ∧ (p.addWrap o n).host = p.host ∧
    (p.addWrap o n).media = p.media ∧ (p.addWrap o n).access = p.access ∧ (p.addWrap o n).steer = p.steer ∧
    (p.addWrap o n).cmd = p.cmd ∧ (p.addWrap o n).stitch = p.stitch ∧ (p.addWrap o n).journal = p.journal ∧
    (p.addWrap o n).ledger = p.ledger ∧ (p.addWrap o n).crc = p.crc ∧ (p.addWrap o n).back = p.back ∧
    (p.addWrap o n).jtag = p.jtag ∧ (p.addWrap o n).hostMem = p.hostMem ∧ (p.addWrap o n).dram = p.dram ∧
    (p.addWrap o n).time = p.time ∧ (p.addWrap o n).segs = p.segs ∧ (p.addWrap o n).lanes = p.lanes ∧
    (p.addWrap o n).ports = p.ports ∧ (p.addWrap o n).tribs = p.tribs ∧ (p.addWrap o n).points = p.points ∧
    (p.addWrap o n).pm = p.pm ∧ (p.addWrap o n).seams = p.seams ∧ (p.addWrap o n).recov = p.recov ∧
    (p.addWrap o n).ptp = p.ptp ∧ (p.addWrap o n).exch = p.exch ∧ (p.addWrap o n).stamps = p.stamps ∧
    (p.addWrap o n).segRecs = p.segRecs ∧ (p.addWrap o n).clients = p.clients ∧
    (p.addWrap o n).bobbins = p.bobbins ∧ (p.addWrap o n).links = p.links ∧ (p.addWrap o n).twin = p.twin ∧
    (p.addWrap o n).domain = p.domain ∧ (p.addWrap o n).bus = p.bus := by
  and_intros <;> rfl

@[simp] theorem Part.addWrapField_frame (p : Part) (o hi lo n : Nat) :
    (p.addWrapField o hi lo n).clk = p.clk ∧ (p.addWrapField o hi lo n).free = p.free ∧
    (p.addWrapField o hi lo n).out = p.out ∧ (p.addWrapField o hi lo n).supply = p.supply ∧
    (p.addWrapField o hi lo n).md = p.md ∧ (p.addWrapField o hi lo n).host = p.host ∧
    (p.addWrapField o hi lo n).media = p.media ∧ (p.addWrapField o hi lo n).access = p.access ∧
    (p.addWrapField o hi lo n).steer = p.steer ∧ (p.addWrapField o hi lo n).cmd = p.cmd ∧
    (p.addWrapField o hi lo n).stitch = p.stitch ∧ (p.addWrapField o hi lo n).journal = p.journal ∧
    (p.addWrapField o hi lo n).ledger = p.ledger ∧ (p.addWrapField o hi lo n).crc = p.crc ∧
    (p.addWrapField o hi lo n).back = p.back ∧ (p.addWrapField o hi lo n).jtag = p.jtag ∧
    (p.addWrapField o hi lo n).hostMem = p.hostMem ∧ (p.addWrapField o hi lo n).dram = p.dram ∧
    (p.addWrapField o hi lo n).time = p.time ∧ (p.addWrapField o hi lo n).segs = p.segs ∧
    (p.addWrapField o hi lo n).lanes = p.lanes ∧ (p.addWrapField o hi lo n).ports = p.ports ∧
    (p.addWrapField o hi lo n).tribs = p.tribs ∧ (p.addWrapField o hi lo n).points = p.points ∧
    (p.addWrapField o hi lo n).pm = p.pm ∧ (p.addWrapField o hi lo n).seams = p.seams ∧
    (p.addWrapField o hi lo n).recov = p.recov ∧ (p.addWrapField o hi lo n).ptp = p.ptp ∧
    (p.addWrapField o hi lo n).exch = p.exch ∧ (p.addWrapField o hi lo n).stamps = p.stamps ∧
    (p.addWrapField o hi lo n).segRecs = p.segRecs ∧ (p.addWrapField o hi lo n).clients = p.clients ∧
    (p.addWrapField o hi lo n).bobbins = p.bobbins ∧ (p.addWrapField o hi lo n).links = p.links ∧
    (p.addWrapField o hi lo n).twin = p.twin ∧ (p.addWrapField o hi lo n).domain = p.domain ∧
    (p.addWrapField o hi lo n).bus = p.bus := by
  and_intros <;> rfl

@[simp] theorem Part.addSatField_frame (p : Part) (o hi lo n : Nat) :
    (p.addSatField o hi lo n).clk = p.clk ∧ (p.addSatField o hi lo n).free = p.free ∧
    (p.addSatField o hi lo n).out = p.out ∧ (p.addSatField o hi lo n).supply = p.supply ∧
    (p.addSatField o hi lo n).md = p.md ∧ (p.addSatField o hi lo n).host = p.host ∧
    (p.addSatField o hi lo n).media = p.media ∧ (p.addSatField o hi lo n).access = p.access ∧
    (p.addSatField o hi lo n).steer = p.steer ∧ (p.addSatField o hi lo n).cmd = p.cmd ∧
    (p.addSatField o hi lo n).stitch = p.stitch ∧ (p.addSatField o hi lo n).journal = p.journal ∧
    (p.addSatField o hi lo n).ledger = p.ledger ∧ (p.addSatField o hi lo n).crc = p.crc ∧
    (p.addSatField o hi lo n).back = p.back ∧ (p.addSatField o hi lo n).jtag = p.jtag ∧
    (p.addSatField o hi lo n).hostMem = p.hostMem ∧ (p.addSatField o hi lo n).dram = p.dram ∧
    (p.addSatField o hi lo n).time = p.time ∧ (p.addSatField o hi lo n).segs = p.segs ∧
    (p.addSatField o hi lo n).lanes = p.lanes ∧ (p.addSatField o hi lo n).ports = p.ports ∧
    (p.addSatField o hi lo n).tribs = p.tribs ∧ (p.addSatField o hi lo n).points = p.points ∧
    (p.addSatField o hi lo n).pm = p.pm ∧ (p.addSatField o hi lo n).seams = p.seams ∧
    (p.addSatField o hi lo n).recov = p.recov ∧ (p.addSatField o hi lo n).ptp = p.ptp ∧
    (p.addSatField o hi lo n).exch = p.exch ∧ (p.addSatField o hi lo n).stamps = p.stamps ∧
    (p.addSatField o hi lo n).segRecs = p.segRecs ∧ (p.addSatField o hi lo n).clients = p.clients ∧
    (p.addSatField o hi lo n).bobbins = p.bobbins ∧ (p.addSatField o hi lo n).links = p.links ∧
    (p.addSatField o hi lo n).twin = p.twin ∧ (p.addSatField o hi lo n).domain = p.domain ∧
    (p.addSatField o hi lo n).bus = p.bus := by
  and_intros <;> rfl

@[simp] theorem Part.setReg64_frame (p : Part) (o : Nat) (d : Dword) :
    (p.setReg64 o d).clk = p.clk ∧ (p.setReg64 o d).free = p.free ∧ (p.setReg64 o d).out = p.out ∧
    (p.setReg64 o d).supply = p.supply ∧ (p.setReg64 o d).md = p.md ∧ (p.setReg64 o d).host = p.host ∧
    (p.setReg64 o d).media = p.media ∧ (p.setReg64 o d).access = p.access ∧
    (p.setReg64 o d).steer = p.steer ∧ (p.setReg64 o d).cmd = p.cmd ∧ (p.setReg64 o d).stitch = p.stitch ∧
    (p.setReg64 o d).journal = p.journal ∧ (p.setReg64 o d).ledger = p.ledger ∧
    (p.setReg64 o d).crc = p.crc ∧ (p.setReg64 o d).back = p.back ∧ (p.setReg64 o d).jtag = p.jtag ∧
    (p.setReg64 o d).hostMem = p.hostMem ∧ (p.setReg64 o d).dram = p.dram ∧
    (p.setReg64 o d).time = p.time ∧ (p.setReg64 o d).segs = p.segs ∧ (p.setReg64 o d).lanes = p.lanes ∧
    (p.setReg64 o d).ports = p.ports ∧ (p.setReg64 o d).tribs = p.tribs ∧
    (p.setReg64 o d).points = p.points ∧ (p.setReg64 o d).pm = p.pm ∧ (p.setReg64 o d).seams = p.seams ∧
    (p.setReg64 o d).recov = p.recov ∧ (p.setReg64 o d).ptp = p.ptp ∧ (p.setReg64 o d).exch = p.exch ∧
    (p.setReg64 o d).stamps = p.stamps ∧ (p.setReg64 o d).segRecs = p.segRecs ∧
    (p.setReg64 o d).clients = p.clients ∧ (p.setReg64 o d).bobbins = p.bobbins ∧
    (p.setReg64 o d).links = p.links ∧ (p.setReg64 o d).twin = p.twin ∧
    (p.setReg64 o d).domain = p.domain ∧ (p.setReg64 o d).bus = p.bus := by
  and_intros <;> rfl

@[simp] theorem Part.addReg64_frame (p : Part) (o n : Nat) :
    (p.addReg64 o n).clk = p.clk ∧ (p.addReg64 o n).free = p.free ∧ (p.addReg64 o n).out = p.out ∧
    (p.addReg64 o n).supply = p.supply ∧ (p.addReg64 o n).md = p.md ∧ (p.addReg64 o n).host = p.host ∧
    (p.addReg64 o n).media = p.media ∧ (p.addReg64 o n).access = p.access ∧
    (p.addReg64 o n).steer = p.steer ∧ (p.addReg64 o n).cmd = p.cmd ∧ (p.addReg64 o n).stitch = p.stitch ∧
    (p.addReg64 o n).journal = p.journal ∧ (p.addReg64 o n).ledger = p.ledger ∧
    (p.addReg64 o n).crc = p.crc ∧ (p.addReg64 o n).back = p.back ∧ (p.addReg64 o n).jtag = p.jtag ∧
    (p.addReg64 o n).hostMem = p.hostMem ∧ (p.addReg64 o n).dram = p.dram ∧
    (p.addReg64 o n).time = p.time ∧ (p.addReg64 o n).segs = p.segs ∧ (p.addReg64 o n).lanes = p.lanes ∧
    (p.addReg64 o n).ports = p.ports ∧ (p.addReg64 o n).tribs = p.tribs ∧
    (p.addReg64 o n).points = p.points ∧ (p.addReg64 o n).pm = p.pm ∧ (p.addReg64 o n).seams = p.seams ∧
    (p.addReg64 o n).recov = p.recov ∧ (p.addReg64 o n).ptp = p.ptp ∧ (p.addReg64 o n).exch = p.exch ∧
    (p.addReg64 o n).stamps = p.stamps ∧ (p.addReg64 o n).segRecs = p.segRecs ∧
    (p.addReg64 o n).clients = p.clients ∧ (p.addReg64 o n).bobbins = p.bobbins ∧
    (p.addReg64 o n).links = p.links ∧ (p.addReg64 o n).twin = p.twin ∧
    (p.addReg64 o n).domain = p.domain ∧ (p.addReg64 o n).bus = p.bus := by
  and_intros <;> rfl

@[simp] theorem Part.setInt64_frame (p : Part) (o : Nat) (k : Int) :
    (p.setInt64 o k).clk = p.clk ∧ (p.setInt64 o k).free = p.free ∧ (p.setInt64 o k).out = p.out ∧
    (p.setInt64 o k).supply = p.supply ∧ (p.setInt64 o k).md = p.md ∧ (p.setInt64 o k).host = p.host ∧
    (p.setInt64 o k).media = p.media ∧ (p.setInt64 o k).access = p.access ∧
    (p.setInt64 o k).steer = p.steer ∧ (p.setInt64 o k).cmd = p.cmd ∧ (p.setInt64 o k).stitch = p.stitch ∧
    (p.setInt64 o k).journal = p.journal ∧ (p.setInt64 o k).ledger = p.ledger ∧
    (p.setInt64 o k).crc = p.crc ∧ (p.setInt64 o k).back = p.back ∧ (p.setInt64 o k).jtag = p.jtag ∧
    (p.setInt64 o k).hostMem = p.hostMem ∧ (p.setInt64 o k).dram = p.dram ∧
    (p.setInt64 o k).time = p.time ∧ (p.setInt64 o k).segs = p.segs ∧ (p.setInt64 o k).lanes = p.lanes ∧
    (p.setInt64 o k).ports = p.ports ∧ (p.setInt64 o k).tribs = p.tribs ∧
    (p.setInt64 o k).points = p.points ∧ (p.setInt64 o k).pm = p.pm ∧ (p.setInt64 o k).seams = p.seams ∧
    (p.setInt64 o k).recov = p.recov ∧ (p.setInt64 o k).ptp = p.ptp ∧ (p.setInt64 o k).exch = p.exch ∧
    (p.setInt64 o k).stamps = p.stamps ∧ (p.setInt64 o k).segRecs = p.segRecs ∧
    (p.setInt64 o k).clients = p.clients ∧ (p.setInt64 o k).bobbins = p.bobbins ∧
    (p.setInt64 o k).links = p.links ∧ (p.setInt64 o k).twin = p.twin ∧
    (p.setInt64 o k).domain = p.domain ∧ (p.setInt64 o k).bus = p.bus := by
  and_intros <;> rfl

@[simp] theorem Part.clearRegs_frame (p : Part) (lo hi : Nat) :
    (p.clearRegs lo hi).clk = p.clk ∧ (p.clearRegs lo hi).free = p.free ∧ (p.clearRegs lo hi).out = p.out ∧
    (p.clearRegs lo hi).supply = p.supply ∧ (p.clearRegs lo hi).md = p.md ∧
    (p.clearRegs lo hi).host = p.host ∧ (p.clearRegs lo hi).media = p.media ∧
    (p.clearRegs lo hi).access = p.access ∧ (p.clearRegs lo hi).steer = p.steer ∧
    (p.clearRegs lo hi).cmd = p.cmd ∧ (p.clearRegs lo hi).stitch = p.stitch ∧
    (p.clearRegs lo hi).journal = p.journal ∧ (p.clearRegs lo hi).ledger = p.ledger ∧
    (p.clearRegs lo hi).crc = p.crc ∧ (p.clearRegs lo hi).back = p.back ∧
    (p.clearRegs lo hi).jtag = p.jtag ∧ (p.clearRegs lo hi).hostMem = p.hostMem ∧
    (p.clearRegs lo hi).dram = p.dram ∧ (p.clearRegs lo hi).time = p.time ∧
    (p.clearRegs lo hi).segs = p.segs ∧ (p.clearRegs lo hi).lanes = p.lanes ∧
    (p.clearRegs lo hi).ports = p.ports ∧ (p.clearRegs lo hi).tribs = p.tribs ∧
    (p.clearRegs lo hi).points = p.points ∧ (p.clearRegs lo hi).pm = p.pm ∧
    (p.clearRegs lo hi).seams = p.seams ∧ (p.clearRegs lo hi).recov = p.recov ∧
    (p.clearRegs lo hi).ptp = p.ptp ∧ (p.clearRegs lo hi).exch = p.exch ∧
    (p.clearRegs lo hi).stamps = p.stamps ∧ (p.clearRegs lo hi).segRecs = p.segRecs ∧
    (p.clearRegs lo hi).clients = p.clients ∧ (p.clearRegs lo hi).bobbins = p.bobbins ∧
    (p.clearRegs lo hi).links = p.links ∧ (p.clearRegs lo hi).twin = p.twin ∧
    (p.clearRegs lo hi).domain = p.domain ∧ (p.clearRegs lo hi).bus = p.bus := by
  and_intros <;> rfl

@[simp] theorem Part.useFree_frame (p : Part) :
    (p.useFree).clk = p.clk ∧ (p.useFree).regs = p.regs ∧ (p.useFree).out = p.out ∧
    (p.useFree).supply = p.supply ∧ (p.useFree).md = p.md ∧ (p.useFree).host = p.host ∧
    (p.useFree).media = p.media ∧ (p.useFree).access = p.access ∧ (p.useFree).steer = p.steer ∧
    (p.useFree).cmd = p.cmd ∧ (p.useFree).stitch = p.stitch ∧ (p.useFree).journal = p.journal ∧
    (p.useFree).ledger = p.ledger ∧ (p.useFree).crc = p.crc ∧ (p.useFree).back = p.back ∧
    (p.useFree).jtag = p.jtag ∧ (p.useFree).hostMem = p.hostMem ∧ (p.useFree).dram = p.dram ∧
    (p.useFree).time = p.time ∧ (p.useFree).segs = p.segs ∧ (p.useFree).lanes = p.lanes ∧
    (p.useFree).ports = p.ports ∧ (p.useFree).tribs = p.tribs ∧ (p.useFree).points = p.points ∧
    (p.useFree).pm = p.pm ∧ (p.useFree).seams = p.seams ∧ (p.useFree).recov = p.recov ∧
    (p.useFree).ptp = p.ptp ∧ (p.useFree).exch = p.exch ∧ (p.useFree).stamps = p.stamps ∧
    (p.useFree).segRecs = p.segRecs ∧ (p.useFree).clients = p.clients ∧ (p.useFree).bobbins = p.bobbins ∧
    (p.useFree).links = p.links ∧ (p.useFree).twin = p.twin ∧ (p.useFree).domain = p.domain ∧
    (p.useFree).bus = p.bus := by
  and_intros <;> rfl

@[simp] theorem Part.emit_frame (p : Part) (x : Out) :
    (p.emit x).clk = p.clk ∧ (p.emit x).free = p.free ∧ (p.emit x).regs = p.regs ∧
    (p.emit x).supply = p.supply ∧ (p.emit x).md = p.md ∧ (p.emit x).host = p.host ∧
    (p.emit x).media = p.media ∧ (p.emit x).access = p.access ∧ (p.emit x).steer = p.steer ∧
    (p.emit x).cmd = p.cmd ∧ (p.emit x).stitch = p.stitch ∧ (p.emit x).journal = p.journal ∧
    (p.emit x).ledger = p.ledger ∧ (p.emit x).crc = p.crc ∧ (p.emit x).back = p.back ∧
    (p.emit x).jtag = p.jtag ∧ (p.emit x).hostMem = p.hostMem ∧ (p.emit x).dram = p.dram ∧
    (p.emit x).time = p.time ∧ (p.emit x).segs = p.segs ∧ (p.emit x).lanes = p.lanes ∧
    (p.emit x).ports = p.ports ∧ (p.emit x).tribs = p.tribs ∧ (p.emit x).points = p.points ∧
    (p.emit x).pm = p.pm ∧ (p.emit x).seams = p.seams ∧ (p.emit x).recov = p.recov ∧
    (p.emit x).ptp = p.ptp ∧ (p.emit x).exch = p.exch ∧ (p.emit x).stamps = p.stamps ∧
    (p.emit x).segRecs = p.segRecs ∧ (p.emit x).clients = p.clients ∧ (p.emit x).bobbins = p.bobbins ∧
    (p.emit x).links = p.links ∧ (p.emit x).twin = p.twin ∧ (p.emit x).domain = p.domain ∧
    (p.emit x).bus = p.bus := by
  and_intros <;> rfl

@[simp] theorem Part.setTag_frame (p : Part) (t : Nat) (v : Tag) :
    (p.setTag t v).clk = p.clk ∧ (p.setTag t v).free = p.free ∧ (p.setTag t v).regs = p.regs ∧
    (p.setTag t v).out = p.out ∧ (p.setTag t v).supply = p.supply ∧ (p.setTag t v).md = p.md ∧
    (p.setTag t v).host = p.host ∧ (p.setTag t v).media = p.media ∧ (p.setTag t v).access = p.access ∧
    (p.setTag t v).steer = p.steer ∧ (p.setTag t v).stitch = p.stitch ∧
    (p.setTag t v).journal = p.journal ∧ (p.setTag t v).ledger = p.ledger ∧ (p.setTag t v).crc = p.crc ∧
    (p.setTag t v).back = p.back ∧ (p.setTag t v).jtag = p.jtag ∧ (p.setTag t v).hostMem = p.hostMem ∧
    (p.setTag t v).dram = p.dram ∧ (p.setTag t v).time = p.time ∧ (p.setTag t v).segs = p.segs ∧
    (p.setTag t v).lanes = p.lanes ∧ (p.setTag t v).ports = p.ports ∧ (p.setTag t v).tribs = p.tribs ∧
    (p.setTag t v).points = p.points ∧ (p.setTag t v).pm = p.pm ∧ (p.setTag t v).seams = p.seams ∧
    (p.setTag t v).recov = p.recov ∧ (p.setTag t v).ptp = p.ptp ∧ (p.setTag t v).exch = p.exch ∧
    (p.setTag t v).stamps = p.stamps ∧ (p.setTag t v).segRecs = p.segRecs ∧
    (p.setTag t v).clients = p.clients ∧ (p.setTag t v).bobbins = p.bobbins ∧
    (p.setTag t v).links = p.links ∧ (p.setTag t v).twin = p.twin ∧ (p.setTag t v).domain = p.domain ∧
    (p.setTag t v).bus = p.bus := by
  and_intros <;> rfl

@[simp] theorem Part.setTagState_frame (p : Part) (t : Nat) (st : TagState) :
    (p.setTagState t st).clk = p.clk ∧ (p.setTagState t st).free = p.free ∧
    (p.setTagState t st).regs = p.regs ∧ (p.setTagState t st).out = p.out ∧
    (p.setTagState t st).supply = p.supply ∧ (p.setTagState t st).md = p.md ∧
    (p.setTagState t st).host = p.host ∧ (p.setTagState t st).media = p.media ∧
    (p.setTagState t st).access = p.access ∧ (p.setTagState t st).steer = p.steer ∧
    (p.setTagState t st).stitch = p.stitch ∧ (p.setTagState t st).journal = p.journal ∧
    (p.setTagState t st).ledger = p.ledger ∧ (p.setTagState t st).crc = p.crc ∧
    (p.setTagState t st).back = p.back ∧ (p.setTagState t st).jtag = p.jtag ∧
    (p.setTagState t st).hostMem = p.hostMem ∧ (p.setTagState t st).dram = p.dram ∧
    (p.setTagState t st).time = p.time ∧ (p.setTagState t st).segs = p.segs ∧
    (p.setTagState t st).lanes = p.lanes ∧ (p.setTagState t st).ports = p.ports ∧
    (p.setTagState t st).tribs = p.tribs ∧ (p.setTagState t st).points = p.points ∧
    (p.setTagState t st).pm = p.pm ∧ (p.setTagState t st).seams = p.seams ∧
    (p.setTagState t st).recov = p.recov ∧ (p.setTagState t st).ptp = p.ptp ∧
    (p.setTagState t st).exch = p.exch ∧ (p.setTagState t st).stamps = p.stamps ∧
    (p.setTagState t st).segRecs = p.segRecs ∧ (p.setTagState t st).clients = p.clients ∧
    (p.setTagState t st).bobbins = p.bobbins ∧ (p.setTagState t st).links = p.links ∧
    (p.setTagState t st).twin = p.twin ∧ (p.setTagState t st).domain = p.domain ∧
    (p.setTagState t st).bus = p.bus := by
  and_intros <;> rfl

@[simp] theorem Part.count_frame (p : Part) (led code n : Nat) :
    (p.count led code n).clk = p.clk ∧ (p.count led code n).free = p.free ∧
    (p.count led code n).regs = p.regs ∧ (p.count led code n).out = p.out ∧
    (p.count led code n).supply = p.supply ∧ (p.count led code n).md = p.md ∧
    (p.count led code n).host = p.host ∧ (p.count led code n).media = p.media ∧
    (p.count led code n).access = p.access ∧ (p.count led code n).steer = p.steer ∧
    (p.count led code n).cmd = p.cmd ∧ (p.count led code n).stitch = p.stitch ∧
    (p.count led code n).journal = p.journal ∧ (p.count led code n).crc = p.crc ∧
    (p.count led code n).back = p.back ∧ (p.count led code n).jtag = p.jtag ∧
    (p.count led code n).hostMem = p.hostMem ∧ (p.count led code n).dram = p.dram ∧
    (p.count led code n).time = p.time ∧ (p.count led code n).segs = p.segs ∧
    (p.count led code n).lanes = p.lanes ∧ (p.count led code n).ports = p.ports ∧
    (p.count led code n).tribs = p.tribs ∧ (p.count led code n).points = p.points ∧
    (p.count led code n).pm = p.pm ∧ (p.count led code n).seams = p.seams ∧
    (p.count led code n).recov = p.recov ∧ (p.count led code n).ptp = p.ptp ∧
    (p.count led code n).exch = p.exch ∧ (p.count led code n).stamps = p.stamps ∧
    (p.count led code n).segRecs = p.segRecs ∧ (p.count led code n).clients = p.clients ∧
    (p.count led code n).bobbins = p.bobbins ∧ (p.count led code n).links = p.links ∧
    (p.count led code n).twin = p.twin ∧ (p.count led code n).domain = p.domain ∧
    (p.count led code n).bus = p.bus := by
  and_intros <;> rfl

@[simp] theorem Part.crcSync_frame (p : Part) (i : Nat) :
    (p.crcSync i).clk = p.clk ∧ (p.crcSync i).free = p.free ∧ (p.crcSync i).out = p.out ∧
    (p.crcSync i).supply = p.supply ∧ (p.crcSync i).md = p.md ∧ (p.crcSync i).host = p.host ∧
    (p.crcSync i).media = p.media ∧ (p.crcSync i).access = p.access ∧ (p.crcSync i).steer = p.steer ∧
    (p.crcSync i).cmd = p.cmd ∧ (p.crcSync i).stitch = p.stitch ∧ (p.crcSync i).journal = p.journal ∧
    (p.crcSync i).ledger = p.ledger ∧ (p.crcSync i).crc = p.crc ∧ (p.crcSync i).back = p.back ∧
    (p.crcSync i).jtag = p.jtag ∧ (p.crcSync i).hostMem = p.hostMem ∧ (p.crcSync i).dram = p.dram ∧
    (p.crcSync i).time = p.time ∧ (p.crcSync i).segs = p.segs ∧ (p.crcSync i).lanes = p.lanes ∧
    (p.crcSync i).ports = p.ports ∧ (p.crcSync i).tribs = p.tribs ∧ (p.crcSync i).points = p.points ∧
    (p.crcSync i).pm = p.pm ∧ (p.crcSync i).seams = p.seams ∧ (p.crcSync i).recov = p.recov ∧
    (p.crcSync i).ptp = p.ptp ∧ (p.crcSync i).exch = p.exch ∧ (p.crcSync i).stamps = p.stamps ∧
    (p.crcSync i).segRecs = p.segRecs ∧ (p.crcSync i).clients = p.clients ∧
    (p.crcSync i).bobbins = p.bobbins ∧ (p.crcSync i).links = p.links ∧ (p.crcSync i).twin = p.twin ∧
    (p.crcSync i).domain = p.domain ∧ (p.crcSync i).bus = p.bus := by
  and_intros <;> rfl

@[simp] theorem Part.crcTake_frame (p : Part) (i : Nat) (bs : List Byte) :
    (p.crcTake i bs).clk = p.clk ∧ (p.crcTake i bs).free = p.free ∧ (p.crcTake i bs).out = p.out ∧
    (p.crcTake i bs).supply = p.supply ∧ (p.crcTake i bs).md = p.md ∧ (p.crcTake i bs).host = p.host ∧
    (p.crcTake i bs).media = p.media ∧ (p.crcTake i bs).access = p.access ∧
    (p.crcTake i bs).steer = p.steer ∧ (p.crcTake i bs).cmd = p.cmd ∧ (p.crcTake i bs).stitch = p.stitch ∧
    (p.crcTake i bs).journal = p.journal ∧ (p.crcTake i bs).ledger = p.ledger ∧
    (p.crcTake i bs).crc = p.crc ∧ (p.crcTake i bs).back = p.back ∧ (p.crcTake i bs).jtag = p.jtag ∧
    (p.crcTake i bs).hostMem = p.hostMem ∧ (p.crcTake i bs).dram = p.dram ∧
    (p.crcTake i bs).time = p.time ∧ (p.crcTake i bs).segs = p.segs ∧ (p.crcTake i bs).lanes = p.lanes ∧
    (p.crcTake i bs).ports = p.ports ∧ (p.crcTake i bs).tribs = p.tribs ∧
    (p.crcTake i bs).points = p.points ∧ (p.crcTake i bs).pm = p.pm ∧ (p.crcTake i bs).seams = p.seams ∧
    (p.crcTake i bs).recov = p.recov ∧ (p.crcTake i bs).ptp = p.ptp ∧ (p.crcTake i bs).exch = p.exch ∧
    (p.crcTake i bs).stamps = p.stamps ∧ (p.crcTake i bs).segRecs = p.segRecs ∧
    (p.crcTake i bs).clients = p.clients ∧ (p.crcTake i bs).bobbins = p.bobbins ∧
    (p.crcTake i bs).links = p.links ∧ (p.crcTake i bs).twin = p.twin ∧
    (p.crcTake i bs).domain = p.domain ∧ (p.crcTake i bs).bus = p.bus := by
  and_intros <;> rfl

@[simp] theorem Part.snoop_frame (p : Part) (code inst : Nat) (bs : List Byte) :
    (p.snoop code inst bs).clk = p.clk ∧ (p.snoop code inst bs).free = p.free ∧
    (p.snoop code inst bs).out = p.out ∧ (p.snoop code inst bs).supply = p.supply ∧
    (p.snoop code inst bs).md = p.md ∧ (p.snoop code inst bs).host = p.host ∧
    (p.snoop code inst bs).media = p.media ∧ (p.snoop code inst bs).access = p.access ∧
    (p.snoop code inst bs).steer = p.steer ∧ (p.snoop code inst bs).cmd = p.cmd ∧
    (p.snoop code inst bs).stitch = p.stitch ∧ (p.snoop code inst bs).journal = p.journal ∧
    (p.snoop code inst bs).ledger = p.ledger ∧ (p.snoop code inst bs).crc = p.crc ∧
    (p.snoop code inst bs).back = p.back ∧ (p.snoop code inst bs).jtag = p.jtag ∧
    (p.snoop code inst bs).hostMem = p.hostMem ∧ (p.snoop code inst bs).dram = p.dram ∧
    (p.snoop code inst bs).time = p.time ∧ (p.snoop code inst bs).segs = p.segs ∧
    (p.snoop code inst bs).lanes = p.lanes ∧ (p.snoop code inst bs).ports = p.ports ∧
    (p.snoop code inst bs).tribs = p.tribs ∧ (p.snoop code inst bs).points = p.points ∧
    (p.snoop code inst bs).pm = p.pm ∧ (p.snoop code inst bs).seams = p.seams ∧
    (p.snoop code inst bs).recov = p.recov ∧ (p.snoop code inst bs).ptp = p.ptp ∧
    (p.snoop code inst bs).exch = p.exch ∧ (p.snoop code inst bs).stamps = p.stamps ∧
    (p.snoop code inst bs).segRecs = p.segRecs ∧ (p.snoop code inst bs).clients = p.clients ∧
    (p.snoop code inst bs).bobbins = p.bobbins ∧ (p.snoop code inst bs).links = p.links ∧
    (p.snoop code inst bs).twin = p.twin ∧ (p.snoop code inst bs).domain = p.domain ∧
    (p.snoop code inst bs).bus = p.bus := by
  unfold Part.snoop
  and_intros <;> exact foldl_keeps _ _ (fun _ _ => by simp) _ _

@[simp] theorem Part.snoopOpen_frame (p : Part) (code inst n : Nat) :
    (p.snoopOpen code inst n).clk = p.clk ∧ (p.snoopOpen code inst n).out = p.out ∧
    (p.snoopOpen code inst n).supply = p.supply ∧ (p.snoopOpen code inst n).md = p.md ∧
    (p.snoopOpen code inst n).host = p.host ∧ (p.snoopOpen code inst n).media = p.media ∧
    (p.snoopOpen code inst n).access = p.access ∧ (p.snoopOpen code inst n).steer = p.steer ∧
    (p.snoopOpen code inst n).cmd = p.cmd ∧ (p.snoopOpen code inst n).stitch = p.stitch ∧
    (p.snoopOpen code inst n).journal = p.journal ∧ (p.snoopOpen code inst n).ledger = p.ledger ∧
    (p.snoopOpen code inst n).crc = p.crc ∧ (p.snoopOpen code inst n).back = p.back ∧
    (p.snoopOpen code inst n).jtag = p.jtag ∧ (p.snoopOpen code inst n).hostMem = p.hostMem ∧
    (p.snoopOpen code inst n).dram = p.dram ∧ (p.snoopOpen code inst n).time = p.time ∧
    (p.snoopOpen code inst n).segs = p.segs ∧ (p.snoopOpen code inst n).lanes = p.lanes ∧
    (p.snoopOpen code inst n).ports = p.ports ∧ (p.snoopOpen code inst n).tribs = p.tribs ∧
    (p.snoopOpen code inst n).points = p.points ∧ (p.snoopOpen code inst n).pm = p.pm ∧
    (p.snoopOpen code inst n).seams = p.seams ∧ (p.snoopOpen code inst n).recov = p.recov ∧
    (p.snoopOpen code inst n).ptp = p.ptp ∧ (p.snoopOpen code inst n).exch = p.exch ∧
    (p.snoopOpen code inst n).stamps = p.stamps ∧ (p.snoopOpen code inst n).segRecs = p.segRecs ∧
    (p.snoopOpen code inst n).clients = p.clients ∧ (p.snoopOpen code inst n).bobbins = p.bobbins ∧
    (p.snoopOpen code inst n).links = p.links ∧ (p.snoopOpen code inst n).twin = p.twin ∧
    (p.snoopOpen code inst n).domain = p.domain ∧ (p.snoopOpen code inst n).bus = p.bus := by
  unfold Part.snoopOpen
  and_intros <;> exact foldl_keeps _ _ (fun _ _ => by simp) _ _

@[simp] theorem Part.snoopTarget_frame (p : Part) (code addr : Nat) (w : Bool) (bs : List Byte) :
    (p.snoopTarget code addr w bs).clk = p.clk ∧ (p.snoopTarget code addr w bs).free = p.free ∧
    (p.snoopTarget code addr w bs).out = p.out ∧ (p.snoopTarget code addr w bs).supply = p.supply ∧
    (p.snoopTarget code addr w bs).md = p.md ∧ (p.snoopTarget code addr w bs).host = p.host ∧
    (p.snoopTarget code addr w bs).media = p.media ∧ (p.snoopTarget code addr w bs).access = p.access ∧
    (p.snoopTarget code addr w bs).steer = p.steer ∧ (p.snoopTarget code addr w bs).cmd = p.cmd ∧
    (p.snoopTarget code addr w bs).stitch = p.stitch ∧ (p.snoopTarget code addr w bs).journal = p.journal ∧
    (p.snoopTarget code addr w bs).ledger = p.ledger ∧ (p.snoopTarget code addr w bs).crc = p.crc ∧
    (p.snoopTarget code addr w bs).back = p.back ∧ (p.snoopTarget code addr w bs).jtag = p.jtag ∧
    (p.snoopTarget code addr w bs).hostMem = p.hostMem ∧ (p.snoopTarget code addr w bs).dram = p.dram ∧
    (p.snoopTarget code addr w bs).time = p.time ∧ (p.snoopTarget code addr w bs).segs = p.segs ∧
    (p.snoopTarget code addr w bs).lanes = p.lanes ∧ (p.snoopTarget code addr w bs).ports = p.ports ∧
    (p.snoopTarget code addr w bs).tribs = p.tribs ∧ (p.snoopTarget code addr w bs).points = p.points ∧
    (p.snoopTarget code addr w bs).pm = p.pm ∧ (p.snoopTarget code addr w bs).seams = p.seams ∧
    (p.snoopTarget code addr w bs).recov = p.recov ∧ (p.snoopTarget code addr w bs).ptp = p.ptp ∧
    (p.snoopTarget code addr w bs).exch = p.exch ∧ (p.snoopTarget code addr w bs).stamps = p.stamps ∧
    (p.snoopTarget code addr w bs).segRecs = p.segRecs ∧
    (p.snoopTarget code addr w bs).clients = p.clients ∧
    (p.snoopTarget code addr w bs).bobbins = p.bobbins ∧ (p.snoopTarget code addr w bs).links = p.links ∧
    (p.snoopTarget code addr w bs).twin = p.twin ∧ (p.snoopTarget code addr w bs).domain = p.domain ∧
    (p.snoopTarget code addr w bs).bus = p.bus := by
  unfold Part.snoopTarget
  and_intros <;> exact foldl_keeps _ _ (fun _ _ => by simp) _ _

@[simp] theorem Part.grantTo_frame (p : Part) (m : Master) :
    (p.grantTo m).clk = p.clk ∧ (p.grantTo m).free = p.free ∧ (p.grantTo m).regs = p.regs ∧
    (p.grantTo m).out = p.out ∧ (p.grantTo m).supply = p.supply ∧ (p.grantTo m).md = p.md ∧
    (p.grantTo m).host = p.host ∧ (p.grantTo m).media = p.media ∧ (p.grantTo m).access = p.access ∧
    (p.grantTo m).steer = p.steer ∧ (p.grantTo m).cmd = p.cmd ∧ (p.grantTo m).stitch = p.stitch ∧
    (p.grantTo m).journal = p.journal ∧ (p.grantTo m).ledger = p.ledger ∧ (p.grantTo m).crc = p.crc ∧
    (p.grantTo m).back = p.back ∧ (p.grantTo m).jtag = p.jtag ∧ (p.grantTo m).hostMem = p.hostMem ∧
    (p.grantTo m).dram = p.dram ∧ (p.grantTo m).time = p.time ∧ (p.grantTo m).segs = p.segs ∧
    (p.grantTo m).lanes = p.lanes ∧ (p.grantTo m).ports = p.ports ∧ (p.grantTo m).tribs = p.tribs ∧
    (p.grantTo m).points = p.points ∧ (p.grantTo m).pm = p.pm ∧ (p.grantTo m).seams = p.seams ∧
    (p.grantTo m).recov = p.recov ∧ (p.grantTo m).ptp = p.ptp ∧ (p.grantTo m).exch = p.exch ∧
    (p.grantTo m).stamps = p.stamps ∧ (p.grantTo m).segRecs = p.segRecs ∧
    (p.grantTo m).clients = p.clients ∧ (p.grantTo m).bobbins = p.bobbins ∧ (p.grantTo m).links = p.links ∧
    (p.grantTo m).twin = p.twin ∧ (p.grantTo m).domain = p.domain := by
  unfold Part.grantTo
  and_intros <;> (repeat' split) <;> simp

@[simp] theorem Part.noteSet_frame (p : Part) (o b : Nat) :
    (p.noteSet o b).clk = p.clk ∧ (p.noteSet o b).free = p.free ∧ (p.noteSet o b).regs = p.regs ∧
    (p.noteSet o b).out = p.out ∧ (p.noteSet o b).supply = p.supply ∧ (p.noteSet o b).md = p.md ∧
    (p.noteSet o b).host = p.host ∧ (p.noteSet o b).media = p.media ∧ (p.noteSet o b).access = p.access ∧
    (p.noteSet o b).steer = p.steer ∧ (p.noteSet o b).cmd = p.cmd ∧ (p.noteSet o b).stitch = p.stitch ∧
    (p.noteSet o b).journal = p.journal ∧ (p.noteSet o b).ledger = p.ledger ∧ (p.noteSet o b).crc = p.crc ∧
    (p.noteSet o b).back = p.back ∧ (p.noteSet o b).jtag = p.jtag ∧ (p.noteSet o b).hostMem = p.hostMem ∧
    (p.noteSet o b).dram = p.dram ∧ (p.noteSet o b).time = p.time ∧ (p.noteSet o b).segs = p.segs ∧
    (p.noteSet o b).lanes = p.lanes ∧ (p.noteSet o b).ports = p.ports ∧ (p.noteSet o b).tribs = p.tribs ∧
    (p.noteSet o b).points = p.points ∧ (p.noteSet o b).pm = p.pm ∧ (p.noteSet o b).seams = p.seams ∧
    (p.noteSet o b).recov = p.recov ∧ (p.noteSet o b).ptp = p.ptp ∧ (p.noteSet o b).exch = p.exch ∧
    (p.noteSet o b).stamps = p.stamps ∧ (p.noteSet o b).segRecs = p.segRecs ∧
    (p.noteSet o b).clients = p.clients ∧ (p.noteSet o b).bobbins = p.bobbins ∧
    (p.noteSet o b).links = p.links ∧ (p.noteSet o b).twin = p.twin ∧
    (p.noteSet o b).domain = p.domain := by
  and_intros <;> rfl

@[simp] theorem Part.noteWrite_frame (p : Part) (o : Nat) (m : Word) :
    (p.noteWrite o m).clk = p.clk ∧ (p.noteWrite o m).free = p.free ∧ (p.noteWrite o m).regs = p.regs ∧
    (p.noteWrite o m).out = p.out ∧ (p.noteWrite o m).supply = p.supply ∧ (p.noteWrite o m).md = p.md ∧
    (p.noteWrite o m).host = p.host ∧ (p.noteWrite o m).media = p.media ∧
    (p.noteWrite o m).access = p.access ∧ (p.noteWrite o m).steer = p.steer ∧
    (p.noteWrite o m).cmd = p.cmd ∧ (p.noteWrite o m).stitch = p.stitch ∧
    (p.noteWrite o m).journal = p.journal ∧ (p.noteWrite o m).ledger = p.ledger ∧
    (p.noteWrite o m).crc = p.crc ∧ (p.noteWrite o m).back = p.back ∧ (p.noteWrite o m).jtag = p.jtag ∧
    (p.noteWrite o m).hostMem = p.hostMem ∧ (p.noteWrite o m).dram = p.dram ∧
    (p.noteWrite o m).time = p.time ∧ (p.noteWrite o m).segs = p.segs ∧ (p.noteWrite o m).lanes = p.lanes ∧
    (p.noteWrite o m).ports = p.ports ∧ (p.noteWrite o m).tribs = p.tribs ∧
    (p.noteWrite o m).points = p.points ∧ (p.noteWrite o m).pm = p.pm ∧ (p.noteWrite o m).seams = p.seams ∧
    (p.noteWrite o m).recov = p.recov ∧ (p.noteWrite o m).ptp = p.ptp ∧ (p.noteWrite o m).exch = p.exch ∧
    (p.noteWrite o m).stamps = p.stamps ∧ (p.noteWrite o m).segRecs = p.segRecs ∧
    (p.noteWrite o m).clients = p.clients ∧ (p.noteWrite o m).bobbins = p.bobbins ∧
    (p.noteWrite o m).links = p.links ∧ (p.noteWrite o m).twin = p.twin ∧
    (p.noteWrite o m).domain = p.domain := by
  and_intros <;> rfl

@[simp] theorem Part.raise_frame (p : Part) (o b : Nat) :
    (p.raise o b).clk = p.clk ∧ (p.raise o b).free = p.free ∧ (p.raise o b).out = p.out ∧
    (p.raise o b).supply = p.supply ∧ (p.raise o b).md = p.md ∧ (p.raise o b).host = p.host ∧
    (p.raise o b).media = p.media ∧ (p.raise o b).access = p.access ∧ (p.raise o b).steer = p.steer ∧
    (p.raise o b).cmd = p.cmd ∧ (p.raise o b).stitch = p.stitch ∧ (p.raise o b).journal = p.journal ∧
    (p.raise o b).ledger = p.ledger ∧ (p.raise o b).crc = p.crc ∧ (p.raise o b).back = p.back ∧
    (p.raise o b).jtag = p.jtag ∧ (p.raise o b).hostMem = p.hostMem ∧ (p.raise o b).dram = p.dram ∧
    (p.raise o b).time = p.time ∧ (p.raise o b).segs = p.segs ∧ (p.raise o b).lanes = p.lanes ∧
    (p.raise o b).ports = p.ports ∧ (p.raise o b).tribs = p.tribs ∧ (p.raise o b).points = p.points ∧
    (p.raise o b).pm = p.pm ∧ (p.raise o b).seams = p.seams ∧ (p.raise o b).recov = p.recov ∧
    (p.raise o b).ptp = p.ptp ∧ (p.raise o b).exch = p.exch ∧ (p.raise o b).stamps = p.stamps ∧
    (p.raise o b).segRecs = p.segRecs ∧ (p.raise o b).clients = p.clients ∧
    (p.raise o b).bobbins = p.bobbins ∧ (p.raise o b).links = p.links ∧ (p.raise o b).twin = p.twin ∧
    (p.raise o b).domain = p.domain := by
  and_intros <;> rfl

@[simp] theorem Part.selvRequests_frame (p : Part) (i n : Nat) :
    (p.selvRequests i n).clk = p.clk ∧ (p.selvRequests i n).free = p.free ∧
    (p.selvRequests i n).out = p.out ∧ (p.selvRequests i n).supply = p.supply ∧
    (p.selvRequests i n).md = p.md ∧ (p.selvRequests i n).host = p.host ∧
    (p.selvRequests i n).media = p.media ∧ (p.selvRequests i n).access = p.access ∧
    (p.selvRequests i n).steer = p.steer ∧ (p.selvRequests i n).cmd = p.cmd ∧
    (p.selvRequests i n).stitch = p.stitch ∧ (p.selvRequests i n).journal = p.journal ∧
    (p.selvRequests i n).crc = p.crc ∧ (p.selvRequests i n).back = p.back ∧
    (p.selvRequests i n).jtag = p.jtag ∧ (p.selvRequests i n).hostMem = p.hostMem ∧
    (p.selvRequests i n).dram = p.dram ∧ (p.selvRequests i n).time = p.time ∧
    (p.selvRequests i n).segs = p.segs ∧ (p.selvRequests i n).lanes = p.lanes ∧
    (p.selvRequests i n).ports = p.ports ∧ (p.selvRequests i n).tribs = p.tribs ∧
    (p.selvRequests i n).points = p.points ∧ (p.selvRequests i n).pm = p.pm ∧
    (p.selvRequests i n).seams = p.seams ∧ (p.selvRequests i n).recov = p.recov ∧
    (p.selvRequests i n).ptp = p.ptp ∧ (p.selvRequests i n).exch = p.exch ∧
    (p.selvRequests i n).stamps = p.stamps ∧ (p.selvRequests i n).segRecs = p.segRecs ∧
    (p.selvRequests i n).clients = p.clients ∧ (p.selvRequests i n).bobbins = p.bobbins ∧
    (p.selvRequests i n).links = p.links ∧ (p.selvRequests i n).twin = p.twin ∧
    (p.selvRequests i n).domain = p.domain ∧ (p.selvRequests i n).bus = p.bus := by
  unfold Part.selvRequests
  and_intros <;> (repeat' split) <;> simp

@[simp] theorem Part.selvRequest_frame (p : Part) (i : Nat) :
    (p.selvRequest i).clk = p.clk ∧ (p.selvRequest i).free = p.free ∧ (p.selvRequest i).out = p.out ∧
    (p.selvRequest i).supply = p.supply ∧ (p.selvRequest i).md = p.md ∧ (p.selvRequest i).host = p.host ∧
    (p.selvRequest i).media = p.media ∧ (p.selvRequest i).access = p.access ∧
    (p.selvRequest i).steer = p.steer ∧ (p.selvRequest i).cmd = p.cmd ∧
    (p.selvRequest i).stitch = p.stitch ∧ (p.selvRequest i).journal = p.journal ∧
    (p.selvRequest i).crc = p.crc ∧ (p.selvRequest i).back = p.back ∧ (p.selvRequest i).jtag = p.jtag ∧
    (p.selvRequest i).hostMem = p.hostMem ∧ (p.selvRequest i).dram = p.dram ∧
    (p.selvRequest i).time = p.time ∧ (p.selvRequest i).segs = p.segs ∧ (p.selvRequest i).lanes = p.lanes ∧
    (p.selvRequest i).ports = p.ports ∧ (p.selvRequest i).tribs = p.tribs ∧
    (p.selvRequest i).points = p.points ∧ (p.selvRequest i).pm = p.pm ∧ (p.selvRequest i).seams = p.seams ∧
    (p.selvRequest i).recov = p.recov ∧ (p.selvRequest i).ptp = p.ptp ∧ (p.selvRequest i).exch = p.exch ∧
    (p.selvRequest i).stamps = p.stamps ∧ (p.selvRequest i).segRecs = p.segRecs ∧
    (p.selvRequest i).clients = p.clients ∧ (p.selvRequest i).bobbins = p.bobbins ∧
    (p.selvRequest i).links = p.links ∧ (p.selvRequest i).twin = p.twin ∧
    (p.selvRequest i).domain = p.domain ∧ (p.selvRequest i).bus = p.bus := by
  unfold Part.selvRequest
  and_intros <;> simp

@[simp] theorem Part.hostWrite_frame (p : Part) (a : Nat) (bs : List Byte) :
    (p.hostWrite a bs).clk = p.clk ∧ (p.hostWrite a bs).free = p.free ∧ (p.hostWrite a bs).out = p.out ∧
    (p.hostWrite a bs).supply = p.supply ∧ (p.hostWrite a bs).md = p.md ∧
    (p.hostWrite a bs).host = p.host ∧ (p.hostWrite a bs).media = p.media ∧
    (p.hostWrite a bs).access = p.access ∧ (p.hostWrite a bs).steer = p.steer ∧
    (p.hostWrite a bs).cmd = p.cmd ∧ (p.hostWrite a bs).stitch = p.stitch ∧
    (p.hostWrite a bs).journal = p.journal ∧ (p.hostWrite a bs).ledger = p.ledger ∧
    (p.hostWrite a bs).crc = p.crc ∧ (p.hostWrite a bs).back = p.back ∧ (p.hostWrite a bs).jtag = p.jtag ∧
    (p.hostWrite a bs).dram = p.dram ∧ (p.hostWrite a bs).time = p.time ∧
    (p.hostWrite a bs).segs = p.segs ∧ (p.hostWrite a bs).lanes = p.lanes ∧
    (p.hostWrite a bs).ports = p.ports ∧ (p.hostWrite a bs).tribs = p.tribs ∧
    (p.hostWrite a bs).points = p.points ∧ (p.hostWrite a bs).pm = p.pm ∧
    (p.hostWrite a bs).seams = p.seams ∧ (p.hostWrite a bs).recov = p.recov ∧
    (p.hostWrite a bs).ptp = p.ptp ∧ (p.hostWrite a bs).exch = p.exch ∧
    (p.hostWrite a bs).stamps = p.stamps ∧ (p.hostWrite a bs).segRecs = p.segRecs ∧
    (p.hostWrite a bs).clients = p.clients ∧ (p.hostWrite a bs).bobbins = p.bobbins ∧
    (p.hostWrite a bs).links = p.links ∧ (p.hostWrite a bs).twin = p.twin ∧
    (p.hostWrite a bs).domain = p.domain := by
  unfold Part.hostWrite
  and_intros <;> simp

@[simp] theorem Part.dramWrite_frame (p : Part) (a : Nat) (bs : List Byte) :
    (p.dramWrite a bs).clk = p.clk ∧ (p.dramWrite a bs).free = p.free ∧ (p.dramWrite a bs).out = p.out ∧
    (p.dramWrite a bs).supply = p.supply ∧ (p.dramWrite a bs).md = p.md ∧
    (p.dramWrite a bs).host = p.host ∧ (p.dramWrite a bs).media = p.media ∧
    (p.dramWrite a bs).access = p.access ∧ (p.dramWrite a bs).steer = p.steer ∧
    (p.dramWrite a bs).cmd = p.cmd ∧ (p.dramWrite a bs).stitch = p.stitch ∧
    (p.dramWrite a bs).journal = p.journal ∧ (p.dramWrite a bs).crc = p.crc ∧
    (p.dramWrite a bs).back = p.back ∧ (p.dramWrite a bs).jtag = p.jtag ∧
    (p.dramWrite a bs).hostMem = p.hostMem ∧ (p.dramWrite a bs).time = p.time ∧
    (p.dramWrite a bs).segs = p.segs ∧ (p.dramWrite a bs).lanes = p.lanes ∧
    (p.dramWrite a bs).ports = p.ports ∧ (p.dramWrite a bs).tribs = p.tribs ∧
    (p.dramWrite a bs).points = p.points ∧ (p.dramWrite a bs).pm = p.pm ∧
    (p.dramWrite a bs).seams = p.seams ∧ (p.dramWrite a bs).recov = p.recov ∧
    (p.dramWrite a bs).ptp = p.ptp ∧ (p.dramWrite a bs).exch = p.exch ∧
    (p.dramWrite a bs).stamps = p.stamps ∧ (p.dramWrite a bs).segRecs = p.segRecs ∧
    (p.dramWrite a bs).clients = p.clients ∧ (p.dramWrite a bs).bobbins = p.bobbins ∧
    (p.dramWrite a bs).links = p.links ∧ (p.dramWrite a bs).twin = p.twin ∧
    (p.dramWrite a bs).domain = p.domain := by
  unfold Part.dramWrite
  and_intros <;> (repeat' split) <;> simp

@[simp] theorem Part.discardTerm_frame (p : Part) (led cause n : Nat) :
    (p.discardTerm led cause n).clk = p.clk ∧ (p.discardTerm led cause n).free = p.free ∧
    (p.discardTerm led cause n).regs = p.regs ∧ (p.discardTerm led cause n).out = p.out ∧
    (p.discardTerm led cause n).supply = p.supply ∧ (p.discardTerm led cause n).md = p.md ∧
    (p.discardTerm led cause n).host = p.host ∧ (p.discardTerm led cause n).media = p.media ∧
    (p.discardTerm led cause n).access = p.access ∧ (p.discardTerm led cause n).steer = p.steer ∧
    (p.discardTerm led cause n).cmd = p.cmd ∧ (p.discardTerm led cause n).stitch = p.stitch ∧
    (p.discardTerm led cause n).journal = p.journal ∧ (p.discardTerm led cause n).crc = p.crc ∧
    (p.discardTerm led cause n).back = p.back ∧ (p.discardTerm led cause n).jtag = p.jtag ∧
    (p.discardTerm led cause n).hostMem = p.hostMem ∧ (p.discardTerm led cause n).dram = p.dram ∧
    (p.discardTerm led cause n).time = p.time ∧ (p.discardTerm led cause n).segs = p.segs ∧
    (p.discardTerm led cause n).lanes = p.lanes ∧ (p.discardTerm led cause n).ports = p.ports ∧
    (p.discardTerm led cause n).tribs = p.tribs ∧ (p.discardTerm led cause n).points = p.points ∧
    (p.discardTerm led cause n).pm = p.pm ∧ (p.discardTerm led cause n).seams = p.seams ∧
    (p.discardTerm led cause n).recov = p.recov ∧ (p.discardTerm led cause n).ptp = p.ptp ∧
    (p.discardTerm led cause n).exch = p.exch ∧ (p.discardTerm led cause n).stamps = p.stamps ∧
    (p.discardTerm led cause n).segRecs = p.segRecs ∧ (p.discardTerm led cause n).clients = p.clients ∧
    (p.discardTerm led cause n).bobbins = p.bobbins ∧ (p.discardTerm led cause n).links = p.links ∧
    (p.discardTerm led cause n).twin = p.twin ∧ (p.discardTerm led cause n).domain = p.domain ∧
    (p.discardTerm led cause n).bus = p.bus := by
  unfold Part.discardTerm
  and_intros <;> (repeat' split) <;> simp

@[simp] theorem Part.sendVector_frame (p : Part) (v h : Nat) :
    (p.sendVector v h).clk = p.clk ∧ (p.sendVector v h).free = p.free ∧ (p.sendVector v h).regs = p.regs ∧
    (p.sendVector v h).supply = p.supply ∧ (p.sendVector v h).md = p.md ∧
    (p.sendVector v h).media = p.media ∧ (p.sendVector v h).access = p.access ∧
    (p.sendVector v h).steer = p.steer ∧ (p.sendVector v h).cmd = p.cmd ∧
    (p.sendVector v h).stitch = p.stitch ∧ (p.sendVector v h).journal = p.journal ∧
    (p.sendVector v h).ledger = p.ledger ∧ (p.sendVector v h).crc = p.crc ∧
    (p.sendVector v h).back = p.back ∧ (p.sendVector v h).jtag = p.jtag ∧
    (p.sendVector v h).hostMem = p.hostMem ∧ (p.sendVector v h).dram = p.dram ∧
    (p.sendVector v h).time = p.time ∧ (p.sendVector v h).segs = p.segs ∧
    (p.sendVector v h).lanes = p.lanes ∧ (p.sendVector v h).ports = p.ports ∧
    (p.sendVector v h).tribs = p.tribs ∧ (p.sendVector v h).points = p.points ∧
    (p.sendVector v h).pm = p.pm ∧ (p.sendVector v h).seams = p.seams ∧
    (p.sendVector v h).recov = p.recov ∧ (p.sendVector v h).ptp = p.ptp ∧
    (p.sendVector v h).exch = p.exch ∧ (p.sendVector v h).stamps = p.stamps ∧
    (p.sendVector v h).segRecs = p.segRecs ∧ (p.sendVector v h).clients = p.clients ∧
    (p.sendVector v h).bobbins = p.bobbins ∧ (p.sendVector v h).links = p.links ∧
    (p.sendVector v h).twin = p.twin ∧ (p.sendVector v h).domain = p.domain ∧
    (p.sendVector v h).bus = p.bus := by
  and_intros <;> rfl

@[simp] theorem Part.formVector_frame (p : Part) (v h : Nat) :
    (p.formVector v h).clk = p.clk ∧ (p.formVector v h).free = p.free ∧ (p.formVector v h).regs = p.regs ∧
    (p.formVector v h).supply = p.supply ∧ (p.formVector v h).md = p.md ∧
    (p.formVector v h).media = p.media ∧ (p.formVector v h).access = p.access ∧
    (p.formVector v h).steer = p.steer ∧ (p.formVector v h).cmd = p.cmd ∧
    (p.formVector v h).stitch = p.stitch ∧ (p.formVector v h).journal = p.journal ∧
    (p.formVector v h).ledger = p.ledger ∧ (p.formVector v h).crc = p.crc ∧
    (p.formVector v h).back = p.back ∧ (p.formVector v h).jtag = p.jtag ∧
    (p.formVector v h).hostMem = p.hostMem ∧ (p.formVector v h).dram = p.dram ∧
    (p.formVector v h).time = p.time ∧ (p.formVector v h).segs = p.segs ∧
    (p.formVector v h).lanes = p.lanes ∧ (p.formVector v h).ports = p.ports ∧
    (p.formVector v h).tribs = p.tribs ∧ (p.formVector v h).points = p.points ∧
    (p.formVector v h).pm = p.pm ∧ (p.formVector v h).seams = p.seams ∧
    (p.formVector v h).recov = p.recov ∧ (p.formVector v h).ptp = p.ptp ∧
    (p.formVector v h).exch = p.exch ∧ (p.formVector v h).stamps = p.stamps ∧
    (p.formVector v h).segRecs = p.segRecs ∧ (p.formVector v h).clients = p.clients ∧
    (p.formVector v h).bobbins = p.bobbins ∧ (p.formVector v h).links = p.links ∧
    (p.formVector v h).twin = p.twin ∧ (p.formVector v h).domain = p.domain ∧
    (p.formVector v h).bus = p.bus := by
  unfold Part.formVector
  and_intros <;> (repeat' split) <;> simp

@[simp] theorem Part.message_frame (p : Part) (g : Nat) :
    (p.message g).clk = p.clk ∧ (p.message g).free = p.free ∧ (p.message g).regs = p.regs ∧
    (p.message g).supply = p.supply ∧ (p.message g).md = p.md ∧ (p.message g).media = p.media ∧
    (p.message g).access = p.access ∧ (p.message g).steer = p.steer ∧ (p.message g).cmd = p.cmd ∧
    (p.message g).stitch = p.stitch ∧ (p.message g).journal = p.journal ∧ (p.message g).ledger = p.ledger ∧
    (p.message g).crc = p.crc ∧ (p.message g).back = p.back ∧ (p.message g).jtag = p.jtag ∧
    (p.message g).hostMem = p.hostMem ∧ (p.message g).dram = p.dram ∧ (p.message g).time = p.time ∧
    (p.message g).segs = p.segs ∧ (p.message g).lanes = p.lanes ∧ (p.message g).ports = p.ports ∧
    (p.message g).tribs = p.tribs ∧ (p.message g).points = p.points ∧ (p.message g).pm = p.pm ∧
    (p.message g).seams = p.seams ∧ (p.message g).recov = p.recov ∧ (p.message g).ptp = p.ptp ∧
    (p.message g).exch = p.exch ∧ (p.message g).stamps = p.stamps ∧ (p.message g).segRecs = p.segRecs ∧
    (p.message g).clients = p.clients ∧ (p.message g).bobbins = p.bobbins ∧ (p.message g).links = p.links ∧
    (p.message g).twin = p.twin ∧ (p.message g).domain = p.domain ∧ (p.message g).bus = p.bus := by
  unfold Part.message
  and_intros <;> (repeat' split) <;> simp

@[simp] theorem Part.trace_frame (p : Part) (k source code inst t : Nat) (d : Dword) :
    (p.trace k source code inst t d).clk = p.clk ∧ (p.trace k source code inst t d).free = p.free ∧
    (p.trace k source code inst t d).out = p.out ∧ (p.trace k source code inst t d).supply = p.supply ∧
    (p.trace k source code inst t d).md = p.md ∧ (p.trace k source code inst t d).host = p.host ∧
    (p.trace k source code inst t d).media = p.media ∧ (p.trace k source code inst t d).access = p.access ∧
    (p.trace k source code inst t d).steer = p.steer ∧ (p.trace k source code inst t d).cmd = p.cmd ∧
    (p.trace k source code inst t d).stitch = p.stitch ∧
    (p.trace k source code inst t d).journal = p.journal ∧ (p.trace k source code inst t d).crc = p.crc ∧
    (p.trace k source code inst t d).back = p.back ∧ (p.trace k source code inst t d).jtag = p.jtag ∧
    (p.trace k source code inst t d).hostMem = p.hostMem ∧ (p.trace k source code inst t d).time = p.time ∧
    (p.trace k source code inst t d).segs = p.segs ∧ (p.trace k source code inst t d).lanes = p.lanes ∧
    (p.trace k source code inst t d).ports = p.ports ∧ (p.trace k source code inst t d).tribs = p.tribs ∧
    (p.trace k source code inst t d).points = p.points ∧ (p.trace k source code inst t d).pm = p.pm ∧
    (p.trace k source code inst t d).seams = p.seams ∧ (p.trace k source code inst t d).recov = p.recov ∧
    (p.trace k source code inst t d).ptp = p.ptp ∧ (p.trace k source code inst t d).exch = p.exch ∧
    (p.trace k source code inst t d).stamps = p.stamps ∧
    (p.trace k source code inst t d).segRecs = p.segRecs ∧
    (p.trace k source code inst t d).clients = p.clients ∧
    (p.trace k source code inst t d).bobbins = p.bobbins ∧
    (p.trace k source code inst t d).links = p.links ∧ (p.trace k source code inst t d).twin = p.twin ∧
    (p.trace k source code inst t d).domain = p.domain := by
  unfold Part.trace
  and_intros <;> (repeat' split) <;> simp

@[simp] theorem Part.setEvent_frame (p : Part) (o b g : Nat) (lets : Bool) :
    (p.setEvent o b g lets).clk = p.clk ∧ (p.setEvent o b g lets).free = p.free ∧
    (p.setEvent o b g lets).supply = p.supply ∧ (p.setEvent o b g lets).md = p.md ∧
    (p.setEvent o b g lets).media = p.media ∧ (p.setEvent o b g lets).access = p.access ∧
    (p.setEvent o b g lets).steer = p.steer ∧ (p.setEvent o b g lets).cmd = p.cmd ∧
    (p.setEvent o b g lets).stitch = p.stitch ∧ (p.setEvent o b g lets).journal = p.journal ∧
    (p.setEvent o b g lets).crc = p.crc ∧ (p.setEvent o b g lets).back = p.back ∧
    (p.setEvent o b g lets).jtag = p.jtag ∧ (p.setEvent o b g lets).hostMem = p.hostMem ∧
    (p.setEvent o b g lets).time = p.time ∧ (p.setEvent o b g lets).segs = p.segs ∧
    (p.setEvent o b g lets).lanes = p.lanes ∧ (p.setEvent o b g lets).ports = p.ports ∧
    (p.setEvent o b g lets).tribs = p.tribs ∧ (p.setEvent o b g lets).points = p.points ∧
    (p.setEvent o b g lets).pm = p.pm ∧ (p.setEvent o b g lets).seams = p.seams ∧
    (p.setEvent o b g lets).recov = p.recov ∧ (p.setEvent o b g lets).ptp = p.ptp ∧
    (p.setEvent o b g lets).exch = p.exch ∧ (p.setEvent o b g lets).stamps = p.stamps ∧
    (p.setEvent o b g lets).segRecs = p.segRecs ∧ (p.setEvent o b g lets).clients = p.clients ∧
    (p.setEvent o b g lets).bobbins = p.bobbins ∧ (p.setEvent o b g lets).links = p.links ∧
    (p.setEvent o b g lets).twin = p.twin ∧ (p.setEvent o b g lets).domain = p.domain := by
  unfold Part.setEvent
  dsimp only
  and_intros <;> (repeat' split) <;> simp

@[simp] theorem Part.hist_frame (p : Part) (o b g : Nat) :
    (p.hist o b g).clk = p.clk ∧ (p.hist o b g).free = p.free ∧ (p.hist o b g).supply = p.supply ∧
    (p.hist o b g).md = p.md ∧ (p.hist o b g).media = p.media ∧ (p.hist o b g).access = p.access ∧
    (p.hist o b g).steer = p.steer ∧ (p.hist o b g).cmd = p.cmd ∧ (p.hist o b g).stitch = p.stitch ∧
    (p.hist o b g).journal = p.journal ∧ (p.hist o b g).crc = p.crc ∧ (p.hist o b g).back = p.back ∧
    (p.hist o b g).jtag = p.jtag ∧ (p.hist o b g).hostMem = p.hostMem ∧ (p.hist o b g).time = p.time ∧
    (p.hist o b g).segs = p.segs ∧ (p.hist o b g).lanes = p.lanes ∧ (p.hist o b g).ports = p.ports ∧
    (p.hist o b g).tribs = p.tribs ∧ (p.hist o b g).points = p.points ∧ (p.hist o b g).pm = p.pm ∧
    (p.hist o b g).seams = p.seams ∧ (p.hist o b g).recov = p.recov ∧ (p.hist o b g).ptp = p.ptp ∧
    (p.hist o b g).exch = p.exch ∧ (p.hist o b g).stamps = p.stamps ∧ (p.hist o b g).segRecs = p.segRecs ∧
    (p.hist o b g).clients = p.clients ∧ (p.hist o b g).bobbins = p.bobbins ∧
    (p.hist o b g).links = p.links ∧ (p.hist o b g).twin = p.twin ∧ (p.hist o b g).domain = p.domain := by
  unfold Part.hist
  and_intros <;> simp

@[simp] theorem Part.announce_frame (p : Part) (g : Nat) (nm : String) (inst : Nat) (v : Dword) :
    (p.announce g nm inst v).clk = p.clk ∧ (p.announce g nm inst v).free = p.free ∧
    (p.announce g nm inst v).supply = p.supply ∧ (p.announce g nm inst v).md = p.md ∧
    (p.announce g nm inst v).media = p.media ∧ (p.announce g nm inst v).access = p.access ∧
    (p.announce g nm inst v).steer = p.steer ∧ (p.announce g nm inst v).cmd = p.cmd ∧
    (p.announce g nm inst v).stitch = p.stitch ∧ (p.announce g nm inst v).journal = p.journal ∧
    (p.announce g nm inst v).crc = p.crc ∧ (p.announce g nm inst v).back = p.back ∧
    (p.announce g nm inst v).jtag = p.jtag ∧ (p.announce g nm inst v).hostMem = p.hostMem ∧
    (p.announce g nm inst v).time = p.time ∧ (p.announce g nm inst v).segs = p.segs ∧
    (p.announce g nm inst v).lanes = p.lanes ∧ (p.announce g nm inst v).ports = p.ports ∧
    (p.announce g nm inst v).tribs = p.tribs ∧ (p.announce g nm inst v).points = p.points ∧
    (p.announce g nm inst v).pm = p.pm ∧ (p.announce g nm inst v).seams = p.seams ∧
    (p.announce g nm inst v).recov = p.recov ∧ (p.announce g nm inst v).ptp = p.ptp ∧
    (p.announce g nm inst v).exch = p.exch ∧ (p.announce g nm inst v).stamps = p.stamps ∧
    (p.announce g nm inst v).segRecs = p.segRecs ∧ (p.announce g nm inst v).clients = p.clients ∧
    (p.announce g nm inst v).bobbins = p.bobbins ∧ (p.announce g nm inst v).links = p.links ∧
    (p.announce g nm inst v).twin = p.twin ∧ (p.announce g nm inst v).domain = p.domain := by
  unfold Part.announce
  and_intros <;> simp

@[simp] theorem Part.faultLoss_frame (p : Part) (led cause n : Nat) :
    (p.faultLoss led cause n).clk = p.clk ∧ (p.faultLoss led cause n).free = p.free ∧
    (p.faultLoss led cause n).supply = p.supply ∧ (p.faultLoss led cause n).md = p.md ∧
    (p.faultLoss led cause n).media = p.media ∧ (p.faultLoss led cause n).access = p.access ∧
    (p.faultLoss led cause n).steer = p.steer ∧ (p.faultLoss led cause n).cmd = p.cmd ∧
    (p.faultLoss led cause n).stitch = p.stitch ∧ (p.faultLoss led cause n).journal = p.journal ∧
    (p.faultLoss led cause n).crc = p.crc ∧ (p.faultLoss led cause n).back = p.back ∧
    (p.faultLoss led cause n).jtag = p.jtag ∧ (p.faultLoss led cause n).hostMem = p.hostMem ∧
    (p.faultLoss led cause n).time = p.time ∧ (p.faultLoss led cause n).segs = p.segs ∧
    (p.faultLoss led cause n).lanes = p.lanes ∧ (p.faultLoss led cause n).ports = p.ports ∧
    (p.faultLoss led cause n).tribs = p.tribs ∧ (p.faultLoss led cause n).points = p.points ∧
    (p.faultLoss led cause n).pm = p.pm ∧ (p.faultLoss led cause n).seams = p.seams ∧
    (p.faultLoss led cause n).recov = p.recov ∧ (p.faultLoss led cause n).ptp = p.ptp ∧
    (p.faultLoss led cause n).exch = p.exch ∧ (p.faultLoss led cause n).stamps = p.stamps ∧
    (p.faultLoss led cause n).segRecs = p.segRecs ∧ (p.faultLoss led cause n).clients = p.clients ∧
    (p.faultLoss led cause n).bobbins = p.bobbins ∧ (p.faultLoss led cause n).links = p.links ∧
    (p.faultLoss led cause n).twin = p.twin ∧ (p.faultLoss led cause n).domain = p.domain := by
  unfold Part.faultLoss
  and_intros <;> (repeat' split) <;> simp

@[simp] theorem Part.guardRecord_frame (p : Part) (base bit cause : Nat) (q : Req) (addr : BitVec 28) :
    (p.guardRecord base bit cause q addr).clk = p.clk ∧
    (p.guardRecord base bit cause q addr).free = p.free ∧
    (p.guardRecord base bit cause q addr).supply = p.supply ∧
    (p.guardRecord base bit cause q addr).md = p.md ∧
    (p.guardRecord base bit cause q addr).media = p.media ∧
    (p.guardRecord base bit cause q addr).access = p.access ∧
    (p.guardRecord base bit cause q addr).steer = p.steer ∧
    (p.guardRecord base bit cause q addr).cmd = p.cmd ∧
    (p.guardRecord base bit cause q addr).stitch = p.stitch ∧
    (p.guardRecord base bit cause q addr).journal = p.journal ∧
    (p.guardRecord base bit cause q addr).crc = p.crc ∧
    (p.guardRecord base bit cause q addr).back = p.back ∧
    (p.guardRecord base bit cause q addr).jtag = p.jtag ∧
    (p.guardRecord base bit cause q addr).hostMem = p.hostMem ∧
    (p.guardRecord base bit cause q addr).time = p.time ∧
    (p.guardRecord base bit cause q addr).segs = p.segs ∧
    (p.guardRecord base bit cause q addr).lanes = p.lanes ∧
    (p.guardRecord base bit cause q addr).ports = p.ports ∧
    (p.guardRecord base bit cause q addr).tribs = p.tribs ∧
    (p.guardRecord base bit cause q addr).points = p.points ∧
    (p.guardRecord base bit cause q addr).pm = p.pm ∧
    (p.guardRecord base bit cause q addr).seams = p.seams ∧
    (p.guardRecord base bit cause q addr).recov = p.recov ∧
    (p.guardRecord base bit cause q addr).ptp = p.ptp ∧
    (p.guardRecord base bit cause q addr).exch = p.exch ∧
    (p.guardRecord base bit cause q addr).stamps = p.stamps ∧
    (p.guardRecord base bit cause q addr).segRecs = p.segRecs ∧
    (p.guardRecord base bit cause q addr).clients = p.clients ∧
    (p.guardRecord base bit cause q addr).bobbins = p.bobbins ∧
    (p.guardRecord base bit cause q addr).links = p.links ∧
    (p.guardRecord base bit cause q addr).twin = p.twin ∧
    (p.guardRecord base bit cause q addr).domain = p.domain := by
  unfold Part.guardRecord
  and_intros <;> simp <;> split <;> simp

@[simp] theorem Part.guardFail_frame (p : Part) (cause : Nat) (q : Req) (addr : BitVec 28) :
    (p.guardFail cause q addr).clk = p.clk ∧ (p.guardFail cause q addr).free = p.free ∧
    (p.guardFail cause q addr).supply = p.supply ∧ (p.guardFail cause q addr).md = p.md ∧
    (p.guardFail cause q addr).media = p.media ∧ (p.guardFail cause q addr).access = p.access ∧
    (p.guardFail cause q addr).steer = p.steer ∧ (p.guardFail cause q addr).cmd = p.cmd ∧
    (p.guardFail cause q addr).stitch = p.stitch ∧ (p.guardFail cause q addr).journal = p.journal ∧
    (p.guardFail cause q addr).crc = p.crc ∧ (p.guardFail cause q addr).back = p.back ∧
    (p.guardFail cause q addr).jtag = p.jtag ∧ (p.guardFail cause q addr).hostMem = p.hostMem ∧
    (p.guardFail cause q addr).time = p.time ∧ (p.guardFail cause q addr).segs = p.segs ∧
    (p.guardFail cause q addr).lanes = p.lanes ∧ (p.guardFail cause q addr).ports = p.ports ∧
    (p.guardFail cause q addr).tribs = p.tribs ∧ (p.guardFail cause q addr).points = p.points ∧
    (p.guardFail cause q addr).pm = p.pm ∧ (p.guardFail cause q addr).seams = p.seams ∧
    (p.guardFail cause q addr).recov = p.recov ∧ (p.guardFail cause q addr).ptp = p.ptp ∧
    (p.guardFail cause q addr).exch = p.exch ∧ (p.guardFail cause q addr).stamps = p.stamps ∧
    (p.guardFail cause q addr).segRecs = p.segRecs ∧ (p.guardFail cause q addr).clients = p.clients ∧
    (p.guardFail cause q addr).bobbins = p.bobbins ∧ (p.guardFail cause q addr).links = p.links ∧
    (p.guardFail cause q addr).twin = p.twin ∧ (p.guardFail cause q addr).domain = p.domain := by
  unfold Part.guardFail
  and_intros <;> simp

@[simp] theorem Part.lockViolation_frame (p : Part) (cause : Nat) (q : Req) (addr : BitVec 28) :
    (p.lockViolation cause q addr).clk = p.clk ∧ (p.lockViolation cause q addr).free = p.free ∧
    (p.lockViolation cause q addr).supply = p.supply ∧ (p.lockViolation cause q addr).md = p.md ∧
    (p.lockViolation cause q addr).media = p.media ∧ (p.lockViolation cause q addr).access = p.access ∧
    (p.lockViolation cause q addr).steer = p.steer ∧ (p.lockViolation cause q addr).cmd = p.cmd ∧
    (p.lockViolation cause q addr).stitch = p.stitch ∧ (p.lockViolation cause q addr).journal = p.journal ∧
    (p.lockViolation cause q addr).crc = p.crc ∧ (p.lockViolation cause q addr).back = p.back ∧
    (p.lockViolation cause q addr).jtag = p.jtag ∧ (p.lockViolation cause q addr).hostMem = p.hostMem ∧
    (p.lockViolation cause q addr).time = p.time ∧ (p.lockViolation cause q addr).segs = p.segs ∧
    (p.lockViolation cause q addr).lanes = p.lanes ∧ (p.lockViolation cause q addr).ports = p.ports ∧
    (p.lockViolation cause q addr).tribs = p.tribs ∧ (p.lockViolation cause q addr).points = p.points ∧
    (p.lockViolation cause q addr).pm = p.pm ∧ (p.lockViolation cause q addr).seams = p.seams ∧
    (p.lockViolation cause q addr).recov = p.recov ∧ (p.lockViolation cause q addr).ptp = p.ptp ∧
    (p.lockViolation cause q addr).exch = p.exch ∧ (p.lockViolation cause q addr).stamps = p.stamps ∧
    (p.lockViolation cause q addr).segRecs = p.segRecs ∧
    (p.lockViolation cause q addr).clients = p.clients ∧
    (p.lockViolation cause q addr).bobbins = p.bobbins ∧ (p.lockViolation cause q addr).links = p.links ∧
    (p.lockViolation cause q addr).twin = p.twin ∧ (p.lockViolation cause q addr).domain = p.domain := by
  unfold Part.lockViolation
  and_intros <;> simp

@[simp] theorem Part.accessFault_frame (p : Part) (cause : Nat) (q : Req) (addr : BitVec 28) :
    (p.accessFault cause q addr).clk = p.clk ∧ (p.accessFault cause q addr).free = p.free ∧
    (p.accessFault cause q addr).supply = p.supply ∧ (p.accessFault cause q addr).md = p.md ∧
    (p.accessFault cause q addr).media = p.media ∧ (p.accessFault cause q addr).access = p.access ∧
    (p.accessFault cause q addr).steer = p.steer ∧ (p.accessFault cause q addr).cmd = p.cmd ∧
    (p.accessFault cause q addr).stitch = p.stitch ∧ (p.accessFault cause q addr).journal = p.journal ∧
    (p.accessFault cause q addr).crc = p.crc ∧ (p.accessFault cause q addr).back = p.back ∧
    (p.accessFault cause q addr).jtag = p.jtag ∧ (p.accessFault cause q addr).hostMem = p.hostMem ∧
    (p.accessFault cause q addr).time = p.time ∧ (p.accessFault cause q addr).segs = p.segs ∧
    (p.accessFault cause q addr).lanes = p.lanes ∧ (p.accessFault cause q addr).ports = p.ports ∧
    (p.accessFault cause q addr).tribs = p.tribs ∧ (p.accessFault cause q addr).points = p.points ∧
    (p.accessFault cause q addr).pm = p.pm ∧ (p.accessFault cause q addr).seams = p.seams ∧
    (p.accessFault cause q addr).recov = p.recov ∧ (p.accessFault cause q addr).ptp = p.ptp ∧
    (p.accessFault cause q addr).exch = p.exch ∧ (p.accessFault cause q addr).stamps = p.stamps ∧
    (p.accessFault cause q addr).segRecs = p.segRecs ∧ (p.accessFault cause q addr).clients = p.clients ∧
    (p.accessFault cause q addr).bobbins = p.bobbins ∧ (p.accessFault cause q addr).links = p.links ∧
    (p.accessFault cause q addr).twin = p.twin ∧ (p.accessFault cause q addr).domain = p.domain := by
  unfold Part.accessFault
  and_intros <;> simp

@[simp] theorem Part.ringWrite_frame (p : Part) (ws : List Word) :
    (p.ringWrite ws).clk = p.clk ∧ (p.ringWrite ws).free = p.free ∧ (p.ringWrite ws).supply = p.supply ∧
    (p.ringWrite ws).md = p.md ∧ (p.ringWrite ws).media = p.media ∧ (p.ringWrite ws).access = p.access ∧
    (p.ringWrite ws).steer = p.steer ∧ (p.ringWrite ws).cmd = p.cmd ∧ (p.ringWrite ws).stitch = p.stitch ∧
    (p.ringWrite ws).journal = p.journal ∧ (p.ringWrite ws).ledger = p.ledger ∧
    (p.ringWrite ws).crc = p.crc ∧ (p.ringWrite ws).back = p.back ∧ (p.ringWrite ws).jtag = p.jtag ∧
    (p.ringWrite ws).dram = p.dram ∧ (p.ringWrite ws).time = p.time ∧ (p.ringWrite ws).segs = p.segs ∧
    (p.ringWrite ws).lanes = p.lanes ∧ (p.ringWrite ws).ports = p.ports ∧
    (p.ringWrite ws).tribs = p.tribs ∧ (p.ringWrite ws).points = p.points ∧ (p.ringWrite ws).pm = p.pm ∧
    (p.ringWrite ws).seams = p.seams ∧ (p.ringWrite ws).recov = p.recov ∧ (p.ringWrite ws).ptp = p.ptp ∧
    (p.ringWrite ws).exch = p.exch ∧ (p.ringWrite ws).stamps = p.stamps ∧
    (p.ringWrite ws).segRecs = p.segRecs ∧ (p.ringWrite ws).clients = p.clients ∧
    (p.ringWrite ws).bobbins = p.bobbins ∧ (p.ringWrite ws).links = p.links ∧
    (p.ringWrite ws).twin = p.twin ∧ (p.ringWrite ws).domain = p.domain := by
  unfold Part.ringWrite
  and_intros <;> simp

@[simp] theorem Part.holdReply_frame (p : Part) (t : Nat) (ws : List Word) :
    (p.holdReply t ws).clk = p.clk ∧ (p.holdReply t ws).free = p.free ∧ (p.holdReply t ws).regs = p.regs ∧
    (p.holdReply t ws).out = p.out ∧ (p.holdReply t ws).supply = p.supply ∧ (p.holdReply t ws).md = p.md ∧
    (p.holdReply t ws).host = p.host ∧ (p.holdReply t ws).media = p.media ∧
    (p.holdReply t ws).access = p.access ∧ (p.holdReply t ws).steer = p.steer ∧
    (p.holdReply t ws).stitch = p.stitch ∧ (p.holdReply t ws).journal = p.journal ∧
    (p.holdReply t ws).ledger = p.ledger ∧ (p.holdReply t ws).crc = p.crc ∧
    (p.holdReply t ws).back = p.back ∧ (p.holdReply t ws).jtag = p.jtag ∧
    (p.holdReply t ws).hostMem = p.hostMem ∧ (p.holdReply t ws).dram = p.dram ∧
    (p.holdReply t ws).time = p.time ∧ (p.holdReply t ws).segs = p.segs ∧
    (p.holdReply t ws).lanes = p.lanes ∧ (p.holdReply t ws).ports = p.ports ∧
    (p.holdReply t ws).tribs = p.tribs ∧ (p.holdReply t ws).points = p.points ∧
    (p.holdReply t ws).pm = p.pm ∧ (p.holdReply t ws).seams = p.seams ∧
    (p.holdReply t ws).recov = p.recov ∧ (p.holdReply t ws).ptp = p.ptp ∧
    (p.holdReply t ws).exch = p.exch ∧ (p.holdReply t ws).stamps = p.stamps ∧
    (p.holdReply t ws).segRecs = p.segRecs ∧ (p.holdReply t ws).clients = p.clients ∧
    (p.holdReply t ws).bobbins = p.bobbins ∧ (p.holdReply t ws).links = p.links ∧
    (p.holdReply t ws).twin = p.twin ∧ (p.holdReply t ws).domain = p.domain ∧
    (p.holdReply t ws).bus = p.bus := by
  and_intros <;> rfl

@[simp] theorem Part.undeliver_frame (p : Part) (t : Nat) (ws : List Word) :
    (p.undeliver t ws).clk = p.clk ∧ (p.undeliver t ws).free = p.free ∧ (p.undeliver t ws).regs = p.regs ∧
    (p.undeliver t ws).out = p.out ∧ (p.undeliver t ws).supply = p.supply ∧ (p.undeliver t ws).md = p.md ∧
    (p.undeliver t ws).host = p.host ∧ (p.undeliver t ws).media = p.media ∧
    (p.undeliver t ws).access = p.access ∧ (p.undeliver t ws).steer = p.steer ∧
    (p.undeliver t ws).stitch = p.stitch ∧ (p.undeliver t ws).journal = p.journal ∧
    (p.undeliver t ws).crc = p.crc ∧ (p.undeliver t ws).back = p.back ∧ (p.undeliver t ws).jtag = p.jtag ∧
    (p.undeliver t ws).hostMem = p.hostMem ∧ (p.undeliver t ws).dram = p.dram ∧
    (p.undeliver t ws).time = p.time ∧ (p.undeliver t ws).segs = p.segs ∧
    (p.undeliver t ws).lanes = p.lanes ∧ (p.undeliver t ws).ports = p.ports ∧
    (p.undeliver t ws).tribs = p.tribs ∧ (p.undeliver t ws).points = p.points ∧
    (p.undeliver t ws).pm = p.pm ∧ (p.undeliver t ws).seams = p.seams ∧
    (p.undeliver t ws).recov = p.recov ∧ (p.undeliver t ws).ptp = p.ptp ∧
    (p.undeliver t ws).exch = p.exch ∧ (p.undeliver t ws).stamps = p.stamps ∧
    (p.undeliver t ws).segRecs = p.segRecs ∧ (p.undeliver t ws).clients = p.clients ∧
    (p.undeliver t ws).bobbins = p.bobbins ∧ (p.undeliver t ws).links = p.links ∧
    (p.undeliver t ws).twin = p.twin ∧ (p.undeliver t ws).domain = p.domain ∧
    (p.undeliver t ws).bus = p.bus := by
  unfold Part.undeliver
  and_intros <;> (repeat' split) <;> simp

@[simp] theorem Part.reply_frame (p : Part) (t st d : Nat) (a : Dword) (b : Word) :
    (p.reply t st d a b).clk = p.clk ∧ (p.reply t st d a b).free = p.free ∧
    (p.reply t st d a b).supply = p.supply ∧ (p.reply t st d a b).md = p.md ∧
    (p.reply t st d a b).media = p.media ∧ (p.reply t st d a b).access = p.access ∧
    (p.reply t st d a b).steer = p.steer ∧ (p.reply t st d a b).stitch = p.stitch ∧
    (p.reply t st d a b).journal = p.journal ∧ (p.reply t st d a b).crc = p.crc ∧
    (p.reply t st d a b).back = p.back ∧ (p.reply t st d a b).jtag = p.jtag ∧
    (p.reply t st d a b).time = p.time ∧ (p.reply t st d a b).segs = p.segs ∧
    (p.reply t st d a b).lanes = p.lanes ∧ (p.reply t st d a b).ports = p.ports ∧
    (p.reply t st d a b).tribs = p.tribs ∧ (p.reply t st d a b).points = p.points ∧
    (p.reply t st d a b).pm = p.pm ∧ (p.reply t st d a b).seams = p.seams ∧
    (p.reply t st d a b).recov = p.recov ∧ (p.reply t st d a b).ptp = p.ptp ∧
    (p.reply t st d a b).exch = p.exch ∧ (p.reply t st d a b).stamps = p.stamps ∧
    (p.reply t st d a b).segRecs = p.segRecs ∧ (p.reply t st d a b).clients = p.clients ∧
    (p.reply t st d a b).bobbins = p.bobbins ∧ (p.reply t st d a b).links = p.links ∧
    (p.reply t st d a b).twin = p.twin ∧ (p.reply t st d a b).domain = p.domain := by
  unfold Part.reply
  dsimp only
  and_intros <;> (repeat' split) <;> simp

@[simp] theorem Part.reject_frame (p : Part) (t st d : Nat) :
    (p.reject t st d).clk = p.clk ∧ (p.reject t st d).free = p.free ∧ (p.reject t st d).supply = p.supply ∧
    (p.reject t st d).md = p.md ∧ (p.reject t st d).media = p.media ∧ (p.reject t st d).access = p.access ∧
    (p.reject t st d).steer = p.steer ∧ (p.reject t st d).stitch = p.stitch ∧
    (p.reject t st d).journal = p.journal ∧ (p.reject t st d).crc = p.crc ∧
    (p.reject t st d).back = p.back ∧ (p.reject t st d).jtag = p.jtag ∧ (p.reject t st d).time = p.time ∧
    (p.reject t st d).segs = p.segs ∧ (p.reject t st d).lanes = p.lanes ∧
    (p.reject t st d).ports = p.ports ∧ (p.reject t st d).tribs = p.tribs ∧
    (p.reject t st d).points = p.points ∧ (p.reject t st d).pm = p.pm ∧ (p.reject t st d).seams = p.seams ∧
    (p.reject t st d).recov = p.recov ∧ (p.reject t st d).ptp = p.ptp ∧ (p.reject t st d).exch = p.exch ∧
    (p.reject t st d).stamps = p.stamps ∧ (p.reject t st d).segRecs = p.segRecs ∧
    (p.reject t st d).clients = p.clients ∧ (p.reject t st d).bobbins = p.bobbins ∧
    (p.reject t st d).links = p.links ∧ (p.reject t st d).twin = p.twin ∧
    (p.reject t st d).domain = p.domain := by
  unfold Part.reject
  and_intros <;> simp

@[simp] theorem Part.done_frame (p : Part) (t : Nat) (a : Dword) (b : Word) :
    (p.done t a b).clk = p.clk ∧ (p.done t a b).free = p.free ∧ (p.done t a b).supply = p.supply ∧
    (p.done t a b).md = p.md ∧ (p.done t a b).media = p.media ∧ (p.done t a b).access = p.access ∧
    (p.done t a b).steer = p.steer ∧ (p.done t a b).stitch = p.stitch ∧
    (p.done t a b).journal = p.journal ∧ (p.done t a b).crc = p.crc ∧ (p.done t a b).back = p.back ∧
    (p.done t a b).jtag = p.jtag ∧ (p.done t a b).time = p.time ∧ (p.done t a b).segs = p.segs ∧
    (p.done t a b).lanes = p.lanes ∧ (p.done t a b).ports = p.ports ∧ (p.done t a b).tribs = p.tribs ∧
    (p.done t a b).points = p.points ∧ (p.done t a b).pm = p.pm ∧ (p.done t a b).seams = p.seams ∧
    (p.done t a b).recov = p.recov ∧ (p.done t a b).ptp = p.ptp ∧ (p.done t a b).exch = p.exch ∧
    (p.done t a b).stamps = p.stamps ∧ (p.done t a b).segRecs = p.segRecs ∧
    (p.done t a b).clients = p.clients ∧ (p.done t a b).bobbins = p.bobbins ∧
    (p.done t a b).links = p.links ∧ (p.done t a b).twin = p.twin ∧ (p.done t a b).domain = p.domain := by
  unfold Part.done
  and_intros <;> simp

@[simp] theorem Part.writeBulk_frame (p : Part) (t : Nat) (bs : List Byte) :
    (p.writeBulk t bs).clk = p.clk ∧ (p.writeBulk t bs).free = p.free ∧ (p.writeBulk t bs).out = p.out ∧
    (p.writeBulk t bs).supply = p.supply ∧ (p.writeBulk t bs).md = p.md ∧
    (p.writeBulk t bs).host = p.host ∧ (p.writeBulk t bs).media = p.media ∧
    (p.writeBulk t bs).access = p.access ∧ (p.writeBulk t bs).steer = p.steer ∧
    (p.writeBulk t bs).cmd = p.cmd ∧ (p.writeBulk t bs).stitch = p.stitch ∧
    (p.writeBulk t bs).journal = p.journal ∧ (p.writeBulk t bs).ledger = p.ledger ∧
    (p.writeBulk t bs).crc = p.crc ∧ (p.writeBulk t bs).back = p.back ∧ (p.writeBulk t bs).jtag = p.jtag ∧
    (p.writeBulk t bs).dram = p.dram ∧ (p.writeBulk t bs).time = p.time ∧
    (p.writeBulk t bs).segs = p.segs ∧ (p.writeBulk t bs).lanes = p.lanes ∧
    (p.writeBulk t bs).ports = p.ports ∧ (p.writeBulk t bs).tribs = p.tribs ∧
    (p.writeBulk t bs).points = p.points ∧ (p.writeBulk t bs).pm = p.pm ∧
    (p.writeBulk t bs).seams = p.seams ∧ (p.writeBulk t bs).recov = p.recov ∧
    (p.writeBulk t bs).ptp = p.ptp ∧ (p.writeBulk t bs).exch = p.exch ∧
    (p.writeBulk t bs).stamps = p.stamps ∧ (p.writeBulk t bs).segRecs = p.segRecs ∧
    (p.writeBulk t bs).clients = p.clients ∧ (p.writeBulk t bs).bobbins = p.bobbins ∧
    (p.writeBulk t bs).links = p.links ∧ (p.writeBulk t bs).twin = p.twin ∧
    (p.writeBulk t bs).domain = p.domain := by
  unfold Part.writeBulk
  and_intros <;> (repeat' split) <;> simp

@[simp] theorem Part.doneBulkOf_frame (p : Part) (t : Nat) (bs : List Byte) (n : Nat) (a : Dword) (b : Word) :
    (p.doneBulkOf t bs n a b).clk = p.clk ∧ (p.doneBulkOf t bs n a b).free = p.free ∧
    (p.doneBulkOf t bs n a b).supply = p.supply ∧ (p.doneBulkOf t bs n a b).md = p.md ∧
    (p.doneBulkOf t bs n a b).media = p.media ∧ (p.doneBulkOf t bs n a b).access = p.access ∧
    (p.doneBulkOf t bs n a b).steer = p.steer ∧ (p.doneBulkOf t bs n a b).stitch = p.stitch ∧
    (p.doneBulkOf t bs n a b).journal = p.journal ∧ (p.doneBulkOf t bs n a b).crc = p.crc ∧
    (p.doneBulkOf t bs n a b).back = p.back ∧ (p.doneBulkOf t bs n a b).jtag = p.jtag ∧
    (p.doneBulkOf t bs n a b).time = p.time ∧ (p.doneBulkOf t bs n a b).segs = p.segs ∧
    (p.doneBulkOf t bs n a b).lanes = p.lanes ∧ (p.doneBulkOf t bs n a b).ports = p.ports ∧
    (p.doneBulkOf t bs n a b).tribs = p.tribs ∧ (p.doneBulkOf t bs n a b).points = p.points ∧
    (p.doneBulkOf t bs n a b).pm = p.pm ∧ (p.doneBulkOf t bs n a b).seams = p.seams ∧
    (p.doneBulkOf t bs n a b).recov = p.recov ∧ (p.doneBulkOf t bs n a b).ptp = p.ptp ∧
    (p.doneBulkOf t bs n a b).exch = p.exch ∧ (p.doneBulkOf t bs n a b).stamps = p.stamps ∧
    (p.doneBulkOf t bs n a b).segRecs = p.segRecs ∧ (p.doneBulkOf t bs n a b).clients = p.clients ∧
    (p.doneBulkOf t bs n a b).bobbins = p.bobbins ∧ (p.doneBulkOf t bs n a b).links = p.links ∧
    (p.doneBulkOf t bs n a b).twin = p.twin ∧ (p.doneBulkOf t bs n a b).domain = p.domain := by
  unfold Part.doneBulkOf
  and_intros <;> (repeat' split) <;> simp

@[simp] theorem Part.doneBulk_frame (p : Part) (t : Nat) (bs : List Byte) (a : Dword) (b : Word) :
    (p.doneBulk t bs a b).clk = p.clk ∧ (p.doneBulk t bs a b).free = p.free ∧
    (p.doneBulk t bs a b).supply = p.supply ∧ (p.doneBulk t bs a b).md = p.md ∧
    (p.doneBulk t bs a b).media = p.media ∧ (p.doneBulk t bs a b).access = p.access ∧
    (p.doneBulk t bs a b).steer = p.steer ∧ (p.doneBulk t bs a b).stitch = p.stitch ∧
    (p.doneBulk t bs a b).journal = p.journal ∧ (p.doneBulk t bs a b).crc = p.crc ∧
    (p.doneBulk t bs a b).back = p.back ∧ (p.doneBulk t bs a b).jtag = p.jtag ∧
    (p.doneBulk t bs a b).time = p.time ∧ (p.doneBulk t bs a b).segs = p.segs ∧
    (p.doneBulk t bs a b).lanes = p.lanes ∧ (p.doneBulk t bs a b).ports = p.ports ∧
    (p.doneBulk t bs a b).tribs = p.tribs ∧ (p.doneBulk t bs a b).points = p.points ∧
    (p.doneBulk t bs a b).pm = p.pm ∧ (p.doneBulk t bs a b).seams = p.seams ∧
    (p.doneBulk t bs a b).recov = p.recov ∧ (p.doneBulk t bs a b).ptp = p.ptp ∧
    (p.doneBulk t bs a b).exch = p.exch ∧ (p.doneBulk t bs a b).stamps = p.stamps ∧
    (p.doneBulk t bs a b).segRecs = p.segRecs ∧ (p.doneBulk t bs a b).clients = p.clients ∧
    (p.doneBulk t bs a b).bobbins = p.bobbins ∧ (p.doneBulk t bs a b).links = p.links ∧
    (p.doneBulk t bs a b).twin = p.twin ∧ (p.doneBulk t bs a b).domain = p.domain := by
  unfold Part.doneBulk
  and_intros <;> simp

@[simp] theorem Part.dropDecision_frame (p : Part) (serial : Word) :
    (p.dropDecision serial).clk = p.clk ∧ (p.dropDecision serial).free = p.free ∧
    (p.dropDecision serial).regs = p.regs ∧ (p.dropDecision serial).out = p.out ∧
    (p.dropDecision serial).supply = p.supply ∧ (p.dropDecision serial).md = p.md ∧
    (p.dropDecision serial).host = p.host ∧ (p.dropDecision serial).media = p.media ∧
    (p.dropDecision serial).access = p.access ∧ (p.dropDecision serial).cmd = p.cmd ∧
    (p.dropDecision serial).stitch = p.stitch ∧ (p.dropDecision serial).journal = p.journal ∧
    (p.dropDecision serial).ledger = p.ledger ∧ (p.dropDecision serial).crc = p.crc ∧
    (p.dropDecision serial).back = p.back ∧ (p.dropDecision serial).jtag = p.jtag ∧
    (p.dropDecision serial).hostMem = p.hostMem ∧ (p.dropDecision serial).dram = p.dram ∧
    (p.dropDecision serial).time = p.time ∧ (p.dropDecision serial).segs = p.segs ∧
    (p.dropDecision serial).lanes = p.lanes ∧ (p.dropDecision serial).ports = p.ports ∧
    (p.dropDecision serial).tribs = p.tribs ∧ (p.dropDecision serial).points = p.points ∧
    (p.dropDecision serial).pm = p.pm ∧ (p.dropDecision serial).seams = p.seams ∧
    (p.dropDecision serial).recov = p.recov ∧ (p.dropDecision serial).ptp = p.ptp ∧
    (p.dropDecision serial).exch = p.exch ∧ (p.dropDecision serial).stamps = p.stamps ∧
    (p.dropDecision serial).segRecs = p.segRecs ∧ (p.dropDecision serial).clients = p.clients ∧
    (p.dropDecision serial).bobbins = p.bobbins ∧ (p.dropDecision serial).links = p.links ∧
    (p.dropDecision serial).twin = p.twin ∧ (p.dropDecision serial).domain = p.domain ∧
    (p.dropDecision serial).bus = p.bus := by
  and_intros <;> rfl

@[simp] theorem Part.countMissed_frame (p : Part) (f : Nat) :
    (p.countMissed f).clk = p.clk ∧ (p.countMissed f).free = p.free ∧ (p.countMissed f).out = p.out ∧
    (p.countMissed f).supply = p.supply ∧ (p.countMissed f).md = p.md ∧ (p.countMissed f).host = p.host ∧
    (p.countMissed f).media = p.media ∧ (p.countMissed f).access = p.access ∧
    (p.countMissed f).steer = p.steer ∧ (p.countMissed f).cmd = p.cmd ∧
    (p.countMissed f).stitch = p.stitch ∧ (p.countMissed f).journal = p.journal ∧
    (p.countMissed f).crc = p.crc ∧ (p.countMissed f).back = p.back ∧ (p.countMissed f).jtag = p.jtag ∧
    (p.countMissed f).hostMem = p.hostMem ∧ (p.countMissed f).dram = p.dram ∧
    (p.countMissed f).time = p.time ∧ (p.countMissed f).segs = p.segs ∧ (p.countMissed f).lanes = p.lanes ∧
    (p.countMissed f).ports = p.ports ∧ (p.countMissed f).tribs = p.tribs ∧
    (p.countMissed f).points = p.points ∧ (p.countMissed f).pm = p.pm ∧ (p.countMissed f).seams = p.seams ∧
    (p.countMissed f).recov = p.recov ∧ (p.countMissed f).ptp = p.ptp ∧ (p.countMissed f).exch = p.exch ∧
    (p.countMissed f).stamps = p.stamps ∧ (p.countMissed f).segRecs = p.segRecs ∧
    (p.countMissed f).clients = p.clients ∧ (p.countMissed f).bobbins = p.bobbins ∧
    (p.countMissed f).links = p.links ∧ (p.countMissed f).twin = p.twin ∧
    (p.countMissed f).domain = p.domain ∧ (p.countMissed f).bus = p.bus := by
  and_intros <;> rfl

@[simp] theorem Part.postRecord_frame (p : Part) (d : Decision) (b : Bool) :
    (p.postRecord d b).clk = p.clk ∧ (p.postRecord d b).free = p.free ∧
    (p.postRecord d b).supply = p.supply ∧ (p.postRecord d b).md = p.md ∧
    (p.postRecord d b).media = p.media ∧ (p.postRecord d b).access = p.access ∧
    (p.postRecord d b).cmd = p.cmd ∧ (p.postRecord d b).stitch = p.stitch ∧
    (p.postRecord d b).journal = p.journal ∧ (p.postRecord d b).crc = p.crc ∧
    (p.postRecord d b).back = p.back ∧ (p.postRecord d b).jtag = p.jtag ∧
    (p.postRecord d b).hostMem = p.hostMem ∧ (p.postRecord d b).time = p.time ∧
    (p.postRecord d b).segs = p.segs ∧ (p.postRecord d b).lanes = p.lanes ∧
    (p.postRecord d b).ports = p.ports ∧ (p.postRecord d b).tribs = p.tribs ∧
    (p.postRecord d b).points = p.points ∧ (p.postRecord d b).pm = p.pm ∧
    (p.postRecord d b).seams = p.seams ∧ (p.postRecord d b).recov = p.recov ∧
    (p.postRecord d b).ptp = p.ptp ∧ (p.postRecord d b).exch = p.exch ∧
    (p.postRecord d b).stamps = p.stamps ∧ (p.postRecord d b).segRecs = p.segRecs ∧
    (p.postRecord d b).clients = p.clients ∧ (p.postRecord d b).bobbins = p.bobbins ∧
    (p.postRecord d b).links = p.links ∧ (p.postRecord d b).twin = p.twin ∧
    (p.postRecord d b).domain = p.domain := by
  unfold Part.postRecord
  and_intros <;> simp <;> split <;> simp

@[simp] theorem Part.supersede_frame (p : Part) (d : Decision) :
    (p.supersede d).clk = p.clk ∧ (p.supersede d).free = p.free ∧ (p.supersede d).supply = p.supply ∧
    (p.supersede d).md = p.md ∧ (p.supersede d).media = p.media ∧ (p.supersede d).access = p.access ∧
    (p.supersede d).cmd = p.cmd ∧ (p.supersede d).stitch = p.stitch ∧ (p.supersede d).journal = p.journal ∧
    (p.supersede d).crc = p.crc ∧ (p.supersede d).back = p.back ∧ (p.supersede d).jtag = p.jtag ∧
    (p.supersede d).hostMem = p.hostMem ∧ (p.supersede d).time = p.time ∧ (p.supersede d).segs = p.segs ∧
    (p.supersede d).lanes = p.lanes ∧ (p.supersede d).ports = p.ports ∧ (p.supersede d).tribs = p.tribs ∧
    (p.supersede d).points = p.points ∧ (p.supersede d).pm = p.pm ∧ (p.supersede d).seams = p.seams ∧
    (p.supersede d).recov = p.recov ∧ (p.supersede d).ptp = p.ptp ∧ (p.supersede d).exch = p.exch ∧
    (p.supersede d).stamps = p.stamps ∧ (p.supersede d).segRecs = p.segRecs ∧
    (p.supersede d).clients = p.clients ∧ (p.supersede d).bobbins = p.bobbins ∧
    (p.supersede d).links = p.links ∧ (p.supersede d).twin = p.twin ∧
    (p.supersede d).domain = p.domain := by
  unfold Part.supersede
  and_intros <;> simp

@[simp] theorem Part.closeGone_frame (p : Part) (serial : Word) :
    (p.closeGone serial).clk = p.clk ∧ (p.closeGone serial).free = p.free ∧
    (p.closeGone serial).supply = p.supply ∧ (p.closeGone serial).md = p.md ∧
    (p.closeGone serial).media = p.media ∧ (p.closeGone serial).access = p.access ∧
    (p.closeGone serial).cmd = p.cmd ∧ (p.closeGone serial).stitch = p.stitch ∧
    (p.closeGone serial).journal = p.journal ∧ (p.closeGone serial).crc = p.crc ∧
    (p.closeGone serial).back = p.back ∧ (p.closeGone serial).jtag = p.jtag ∧
    (p.closeGone serial).hostMem = p.hostMem ∧ (p.closeGone serial).time = p.time ∧
    (p.closeGone serial).segs = p.segs ∧ (p.closeGone serial).lanes = p.lanes ∧
    (p.closeGone serial).ports = p.ports ∧ (p.closeGone serial).tribs = p.tribs ∧
    (p.closeGone serial).points = p.points ∧ (p.closeGone serial).pm = p.pm ∧
    (p.closeGone serial).seams = p.seams ∧ (p.closeGone serial).recov = p.recov ∧
    (p.closeGone serial).ptp = p.ptp ∧ (p.closeGone serial).exch = p.exch ∧
    (p.closeGone serial).stamps = p.stamps ∧ (p.closeGone serial).segRecs = p.segRecs ∧
    (p.closeGone serial).clients = p.clients ∧ (p.closeGone serial).bobbins = p.bobbins ∧
    (p.closeGone serial).links = p.links ∧ (p.closeGone serial).twin = p.twin ∧
    (p.closeGone serial).domain = p.domain := by
  unfold Part.closeGone
  and_intros <;> (repeat' split) <;> simp

@[simp] theorem Part.journalWrites_frame (p : Part) (n : Nat) :
    (p.journalWrites n).clk = p.clk ∧ (p.journalWrites n).out = p.out ∧
    (p.journalWrites n).supply = p.supply ∧ (p.journalWrites n).md = p.md ∧
    (p.journalWrites n).host = p.host ∧ (p.journalWrites n).media = p.media ∧
    (p.journalWrites n).access = p.access ∧ (p.journalWrites n).steer = p.steer ∧
    (p.journalWrites n).cmd = p.cmd ∧ (p.journalWrites n).stitch = p.stitch ∧
    (p.journalWrites n).ledger = p.ledger ∧ (p.journalWrites n).crc = p.crc ∧
    (p.journalWrites n).back = p.back ∧ (p.journalWrites n).jtag = p.jtag ∧
    (p.journalWrites n).hostMem = p.hostMem ∧ (p.journalWrites n).dram = p.dram ∧
    (p.journalWrites n).time = p.time ∧ (p.journalWrites n).segs = p.segs ∧
    (p.journalWrites n).lanes = p.lanes ∧ (p.journalWrites n).ports = p.ports ∧
    (p.journalWrites n).tribs = p.tribs ∧ (p.journalWrites n).points = p.points ∧
    (p.journalWrites n).pm = p.pm ∧ (p.journalWrites n).seams = p.seams ∧
    (p.journalWrites n).recov = p.recov ∧ (p.journalWrites n).ptp = p.ptp ∧
    (p.journalWrites n).exch = p.exch ∧ (p.journalWrites n).stamps = p.stamps ∧
    (p.journalWrites n).segRecs = p.segRecs ∧ (p.journalWrites n).clients = p.clients ∧
    (p.journalWrites n).bobbins = p.bobbins ∧ (p.journalWrites n).links = p.links ∧
    (p.journalWrites n).twin = p.twin ∧ (p.journalWrites n).domain = p.domain ∧
    (p.journalWrites n).bus = p.bus := by
  unfold Part.journalWrites
  and_intros <;> simp

end Sys2Proof.Machine
end

