-- ==== Sys2Proof/Laws/Store.lean ====
section
/-! SUPPORT. What sparse stores and memories do: a read after a write, writes elsewhere, and the canonical form. -/

namespace Sys2Proof.Machine

/-! ### Reads after writes -/

theorem SMap.get_put_same {α : Type} (d : Nat → α) (m : SMap α) (k : Nat) (v : α) :
    SMap.get d (SMap.put k v m) k = v := by
  induction m with
  | nil => simp [SMap.put, SMap.get]
  | cons e r ih =>
    unfold SMap.put
    split
    · simp [SMap.get]
    · split
      · simp [SMap.get]
      · rename_i h2
        rw [SMap.get, if_neg (fun h => h2 h.symm), ih]

theorem SMap.get_put_other {α : Type} (d : Nat → α) (m : SMap α) (k j : Nat) (v : α) (h : j ≠ k) :
    SMap.get d (SMap.put k v m) j = SMap.get d m j := by
  induction m with
  | nil => simp [SMap.put, SMap.get, Ne.symm h]
  | cons e r ih =>
    unfold SMap.put
    split
    · rw [SMap.get, if_neg (Ne.symm h)]
    · split
      · rename_i h2
        simp only [SMap.get]
        rw [if_neg (Ne.symm h), if_neg (fun e' => h (e'.symm.trans h2.symm))]
      · simp only [SMap.get, ih]

theorem SMap.get_del_other {α : Type} (d : Nat → α) (m : SMap α) (k j : Nat) (h : j ≠ k) :
    SMap.get d (SMap.del k m) j = SMap.get d m j := by
  induction m with
  | nil => rfl
  | cons e r ih =>
    unfold SMap.del
    split
    · rename_i h2
      rw [ih, SMap.get, if_neg (fun e' => h (e'.symm.trans h2))]
    · simp only [SMap.get, ih]

theorem SMap.get_del_same {α : Type} (d : Nat → α) (m : SMap α) (k : Nat) : SMap.get d (SMap.del k m) k = d k := by
  induction m with
  | nil => rfl
  | cons e r ih =>
    unfold SMap.del
    split
    · exact ih
    · rename_i h2
      rw [SMap.get, if_neg h2, ih]

/-- A key written reads back. -/
@[simp] theorem SMap.get_set_same {α : Type} [DecidableEq α] (d : Nat → α) (m : SMap α) (k : Nat) (v : α) :
    SMap.get d (SMap.set d m k v) k = v := by
  unfold SMap.set
  split
  · rename_i h
    rw [SMap.get_del_same, h]
  · exact SMap.get_put_same d m k v

/-- Every other key reads as before. -/
theorem SMap.get_set_other {α : Type} [DecidableEq α] (d : Nat → α) (m : SMap α) (k j : Nat) (v : α)
    (h : j ≠ k) : SMap.get d (SMap.set d m k v) j = SMap.get d m j := by
  unfold SMap.set
  split
  · exact SMap.get_del_other d m k j h
  · exact SMap.get_put_other d m k j v h

/-! ### The canonical form is kept -/

theorem SMap.wfFrom_mono {α : Type} [DecidableEq α] (d : Nat → α) (m : SMap α) (a b : Nat) (h : b ≤ a)
    (hw : SMap.wfFrom d a m = true) : SMap.wfFrom d b m = true := by
  cases m with
  | nil => rfl
  | cons e r =>
    simp only [SMap.wfFrom, Bool.and_eq_true, decide_eq_true_eq] at hw ⊢
    exact ⟨⟨by omega, hw.1.2⟩, hw.2⟩

theorem SMap.wfFrom_del {α : Type} [DecidableEq α] (d : Nat → α) (m : SMap α) (lo k : Nat)
    (hw : SMap.wfFrom d lo m = true) : SMap.wfFrom d lo (SMap.del k m) = true := by
  induction m generalizing lo with
  | nil => rfl
  | cons e r ih =>
    simp only [SMap.wfFrom, Bool.and_eq_true, decide_eq_true_eq] at hw
    unfold SMap.del
    split
    · exact ih lo (SMap.wfFrom_mono d r (e.1 + 1) lo (by omega) hw.2)
    · simp only [SMap.wfFrom, Bool.and_eq_true, decide_eq_true_eq]
      exact ⟨hw.1, ih (e.1 + 1) hw.2⟩

theorem SMap.wfFrom_put {α : Type} [DecidableEq α] (d : Nat → α) (m : SMap α) (lo k : Nat) (v : α)
    (hk : lo ≤ k) (hv : v ≠ d k) (hw : SMap.wfFrom d lo m = true) :
    SMap.wfFrom d lo (SMap.put k v m) = true := by
  induction m generalizing lo with
  | nil => simp [SMap.put, SMap.wfFrom, hk, hv]
  | cons e r ih =>
    simp only [SMap.wfFrom, Bool.and_eq_true, decide_eq_true_eq] at hw
    unfold SMap.put
    split
    · simp only [SMap.wfFrom, Bool.and_eq_true, decide_eq_true_eq]
      exact ⟨⟨hk, hv⟩, ⟨by omega, hw.1.2⟩, hw.2⟩
    · split
      · rename_i h2
        simp only [SMap.wfFrom, Bool.and_eq_true, decide_eq_true_eq]
        subst h2
        exact ⟨⟨hk, hv⟩, hw.2⟩
      · simp only [SMap.wfFrom, Bool.and_eq_true, decide_eq_true_eq]
        exact ⟨hw.1, ih (e.1 + 1) (by omega) hw.2⟩

/-- A write keeps the canonical form of a store. -/
theorem SMap.wf_set {α : Type} [DecidableEq α] (d : Nat → α) (m : SMap α) (k : Nat) (v : α)
    (hw : SMap.wf d m = true) : SMap.wf d (SMap.set d m k v) = true := by
  unfold SMap.set
  split
  · exact SMap.wfFrom_del d m 0 k hw
  · rename_i h
    exact SMap.wfFrom_put d m 0 k v (Nat.zero_le k) h hw

/-! ### Memories -/

theorem Memory.byteAt_writeByte_other (m : Memory) (a x : Nat) (b : Byte) (h : x ≠ a) :
    (m.writeByte a b).byteAt x = m.byteAt x := SMap.get_set_other _ _ _ _ _ h

theorem Memory.byteAt_writeByte_same (m : Memory) (a : Nat) (b : Byte) :
    (m.writeByte a b).byteAt a = b := SMap.get_set_same _ _ _ _

theorem Memory.wf_writeByte (m : Memory) (a : Nat) (b : Byte) (hw : m.wf = true) :
    (m.writeByte a b).wf = true := SMap.wf_set _ _ _ _ hw

theorem Memory.wf_writeBytes (bs : List Byte) (m : Memory) (a : Nat) (hw : m.wf = true) :
    (m.writeBytes a bs).wf = true := by
  induction bs generalizing m a with
  | nil => exact hw
  | cons b r ih => exact ih _ _ (Memory.wf_writeByte m a b hw)

theorem Memory.wf_writeWord (m : Memory) (a : Nat) (w : Word) (hw : m.wf = true) :
    (m.writeWord a w).wf = true := Memory.wf_writeBytes _ _ _ hw

theorem Memory.wf_writeWords (m : Memory) (a : Nat) (ws : List Word) (hw : m.wf = true) :
    (m.writeWords a ws).wf = true := Memory.wf_writeBytes _ _ _ hw

/-- Bytes outside the written range read as before. -/
theorem Memory.byteAt_writeBytes_outside (bs : List Byte) (m : Memory) (a x : Nat)
    (h : x < a ∨ a + bs.length ≤ x) : (m.writeBytes a bs).byteAt x = m.byteAt x := by
  induction bs generalizing m a with
  | nil => rfl
  | cons b r ih =>
    simp only [List.length_cons] at h
    rw [Memory.writeBytes, ih _ _ (by omega), Memory.byteAt_writeByte_other _ _ _ _ (by omega)]

theorem wordBytes_length (w : Word) : (wordBytes w).length = 4 := rfl

theorem bytesOfWords_length (ws : List Word) : (bytesOfWords ws).length = 4 * ws.length := by
  induction ws with
  | nil => rfl
  | cons w r ih => simp only [bytesOfWords, List.length_append, wordBytes_length, ih, List.length_cons]; omega

theorem Memory.byteAt_writeWord_outside (m : Memory) (a x : Nat) (w : Word) (h : x < a ∨ a + 4 ≤ x) :
    (m.writeWord a w).byteAt x = m.byteAt x :=
  Memory.byteAt_writeBytes_outside _ _ _ _ (by simpa [wordBytes_length] using h)

/-- Every key of a memory written below a limit stays below it. -/
theorem SMap.keys_put {α : Type} (P : Nat → Prop) (m : SMap α) (k : Nat) (v : α) (hk : P k)
    (h : ∀ e ∈ m, P e.1) : ∀ e ∈ SMap.put k v m, P e.1 := by
  induction m with
  | nil => simpa [SMap.put] using hk
  | cons e r ih =>
    unfold SMap.put
    split
    · intro x hx
      rcases List.mem_cons.mp hx with rfl | hx
      · exact hk
      · exact h x hx
    · split
      · intro x hx
        rcases List.mem_cons.mp hx with rfl | hx
        · exact hk
        · exact h x (List.mem_cons_of_mem _ hx)
      · intro x hx
        rcases List.mem_cons.mp hx with rfl | hx
        · exact h x List.mem_cons_self
        · exact ih (fun y hy => h y (List.mem_cons_of_mem _ hy)) x hx

theorem SMap.keys_del {α : Type} (P : Nat → Prop) (m : SMap α) (k : Nat)
    (h : ∀ e ∈ m, P e.1) : ∀ e ∈ SMap.del k m, P e.1 := by
  induction m with
  | nil => exact h
  | cons e r ih =>
    unfold SMap.del
    split
    · exact ih fun x hx => h x (List.mem_cons_of_mem _ hx)
    · intro x hx
      rcases List.mem_cons.mp hx with rfl | hx
      · exact h x List.mem_cons_self
      · exact ih (fun y hy => h y (List.mem_cons_of_mem _ hy)) x hx

theorem SMap.keys_set {α : Type} [DecidableEq α] (P : Nat → Prop) (d : Nat → α) (m : SMap α) (k : Nat) (v : α)
    (hk : P k) (h : ∀ e ∈ m, P e.1) : ∀ e ∈ SMap.set d m k v, P e.1 := by
  unfold SMap.set
  split
  · exact SMap.keys_del P m k h
  · exact SMap.keys_put P m k v hk h

theorem Memory.keys_writeBytes (P : Nat → Prop) (bs : List Byte) (m : Memory) (a : Nat)
    (hk : ∀ i, i < bs.length → P (a + i)) (h : ∀ e ∈ m, P e.1) : ∀ e ∈ m.writeBytes a bs, P e.1 := by
  induction bs generalizing m a with
  | nil => exact h
  | cons b r ih =>
    refine ih _ _ (fun i hi => ?_) (SMap.keys_set P _ m a b ?_ h)
    · have := hk (i + 1) (by simp; omega)
      rwa [Nat.add_comm i 1, ← Nat.add_assoc] at this
    · simpa using hk 0 (by simp)

end Sys2Proof.Machine
end

