-- ==== Sys2Proof/Laws/Bus.lean ====
section
/-! SUPPORT. What a register write does on its way to the register: one lemma for each stretch of the path. -/

namespace Sys2Proof.Machine

@[simp] theorem Part.snoopBus_md (p : Part) (q : Req) (a : Nat) (w : Bool) (v : Word) (be : BitVec 4) :
    (p.snoopBus q a w v be).md = p.md := by
  unfold Part.snoopBus
  generalize List.range 8 = l
  induction l generalizing p with
  | nil => rfl
  | cons i r ih =>
    simp only [List.foldl_cons]
    rw [ih]
    (repeat' split) <;> rfl

@[simp] theorem Part.snoopBus_clk (p : Part) (q : Req) (a : Nat) (w : Bool) (v : Word) (be : BitVec 4) :
    (p.snoopBus q a w v be).clk = p.clk := by
  unfold Part.snoopBus
  generalize List.range 8 = l
  induction l generalizing p with
  | nil => rfl
  | cons i r ih =>
    simp only [List.foldl_cons]
    rw [ih]
    (repeat' split) <;> rfl

@[simp] theorem Part.granted_md (p : Part) (q : Req) : (p.granted q).md = p.md := by cases q <;> rfl

@[simp] theorem Part.granted_clk (p : Part) (q : Req) : (p.granted q).clk = p.clk := by cases q <;> rfl

@[simp] theorem passed_md (c : Access) (p : Part) : (passed c p).md = p.md := by simp [passed]

@[simp] theorem passed_clk (c : Access) (p : Part) : (passed c p).clk = p.clk := by simp [passed]

/-- A native write as the register sees it. -/
def nativeOf (c : Access) : BusWrite := { req := c.req, addr := c.addr, direct := true, alias_ := false }

/-- A native write that is carried comes to its register, past the conditions that turn writes away. -/
theorem busWrite_native (c : Access) (o : Nat) (s : State) (i : RegInfo) (h : NativeWrite c o s)
    (hi : regInfo o = some i) :
    busWrite c s.part = (passed c s.part).regWrite (nativeOf c) false i { off := o, sel := full, val := c.val } := by
  obtain ⟨h1, h2, h3, h4, h5⟩ := h
  have he : (passed c s.part).early c.req = false := by simp [Part.early, h4]
  have hp : (s.part.granted c.req).snoopBus c.req c.addr.toNat true c.val c.be = passed c s.part := rfl
  unfold busWrite
  rw [if_neg (by simp [h1])]
  simp only [hp]
  simp only [h2, he, h3, hi, Bool.false_and, passed_md, h5, false_and, nativeOf, if_false, Bool.false_eq_true,
    ne_eq, not_true_eq_false]

/-- The write of a single-word register without shadowed or lock fields: carried, its fields are written. -/
theorem busWrite_plain (c : Access) (o : Nat) (s : State) (i : RegInfo) (h : NativeWrite c o s)
    (hi : regInfo o = some i) (hk : i.kind = .plain) (hl : i.lk = 0#32) (hw : i.words = 1) (hs : i.sh = 0#32)
    (hc : Carried c o s) :
    busWrite c s.part = (arrived c o s.part).writeFields (nativeOf c) [{ off := o, sel := full, val := c.val }] := by
  rw [busWrite_native c o s i h hi]
  unfold Part.regWrite
  simp only [Bool.false_and, Bool.false_eq_true, if_false, hk, hl, hw, ne_eq, not_true_eq_false, nativeOf,
    Bool.true_and]
  rw [if_neg (by decide)]
  unfold Part.writeWords Part.writeShadow shMask writesBeyond
  simp only [List.all_cons, List.all_nil, hi, hs, List.any_cons, List.any_nil, BitVec.and_zero, Bool.and_true,
    beq_self_eq_true, if_true, Bool.or_true, Bool.or_false, Bool.not_true, Bool.false_eq_true, if_false]
  unfold Carried at hc
  rw [if_pos hc]
  rfl

/-- The fields of a single word that has no base check and is no channel or answer register. -/
theorem Part.writeFields_word (p : Part) (c : Access) (o : Nat) (i : RegInfo) (hi : regInfo o = some i)
    (hb : baseCfg o = none) (h1 : ¬ (0x70100 ≤ o ∧ o < 0x70300)) (h2 : o ≠ 0x5110) (h3 : o ≠ 0x5114) :
    p.writeFields (nativeOf c) [{ off := o, sel := full, val := c.val }] =
      (wordEffect (nativeOf c) o
        (mergeMask (p.reg o) c.val (full &&& i.rw) &&& ~~~(i.w1c &&& full &&& c.val &&& ~~~p.justSet o))
        (i.wo &&& full &&& c.val) p).noteRw { off := o, sel := full, val := c.val } := by
  have h4 : ¬ (0x70100 ≤ o ∧ o < 0x70300 ∧ o % 8 = 4) := fun h => h1 ⟨h.1, h.2.1⟩
  unfold Part.writeFields
  simp only [hb, h1, h2, h3, h4, or_self, if_false, List.foldl_cons, List.foldl_nil, Part.mergeOf, trigOf, hi, mergedWord,
    nativeOf, Bool.false_eq_true]

/-- A native write of a plain single-word register comes down to its effect. -/
theorem busWrite_word (c : Access) (o : Nat) (s : State) (i : RegInfo) (h : NativeWrite c o s)
    (hi : regInfo o = some i) (hk : i.kind = .plain) (hl : i.lk = 0#32) (hw : i.words = 1) (hs : i.sh = 0#32)
    (hc : Carried c o s) (hb : baseCfg o = none) (h1 : ¬ (0x70100 ≤ o ∧ o < 0x70300)) (h2 : o ≠ 0x5110)
    (h3 : o ≠ 0x5114) :
    busWrite c s.part = (wordEffect (nativeOf c) o
      (mergeMask ((arrived c o s.part).reg o) c.val (full &&& i.rw) &&&
        ~~~(i.w1c &&& full &&& c.val &&& ~~~(arrived c o s.part).justSet o))
      (i.wo &&& full &&& c.val) (arrived c o s.part)).noteRw { off := o, sel := full, val := c.val } := by
  rw [busWrite_plain c o s i h hi hk hl hw hs hc, Part.writeFields_word _ _ _ i hi hb h1 h2 h3]

/-- A register of the HUB island has no selvedge to cross. -/
theorem carried_hub (c : Access) (o : Nat) (s : State) (h : (passed c s.part).regPlace o = none) :
    Carried c o s ∧ arrived c o s.part = passed c s.part := by
  simp [Carried, arrived, Part.cross, h]

/-- A row that names a register runs the write of the bus where the access reaches that register. -/
theorem atReg_native (c : Access) (o : Nat) (s : State) (test : Nat → Bool) (h : NativeWrite c o s)
    (ht : test o = true) : atReg c test s.part = busWrite c s.part := by
  obtain ⟨-, h2, -⟩ := h
  simp [atReg, h2, Target.off, ht]

end Sys2Proof.Machine
end

