-- ==== Sys2Proof/Laws/Ops.lean ====
section
/-! SUPPORT. What each shared shape of a meaning can do, once: what it answers and what it leaves. -/

namespace Sys2Proof.Machine

/-- A command on the part alone answers a next state and leaves all but the part. -/
theorem onPart_next (f : Part → Part) (s : State) : onPart f s = .next { s with part := f s.part } := rfl

/-- A command whose signals are evaluated after it does the same. -/
theorem onSignals_next (f : Part → Part) (s : State) :
    onSignals f s = .next { s with part := (f s.part).signals } := rfl

/-- A command of the bus does the same, with submitted slots copied from the window. -/
theorem onBus_next (f : Part → Part) (s : State) :
    onBus f s = .next { s with part := (f s.part).copyQueued s.window } := rfl

/-- A command that may power the part down empties the window as it enters DORMANT, and leaves it otherwise. -/
theorem onPower_spec (f : Part → Part) (s : State) :
    ∃ t, onPower f s = .next t ∧ t.pending = s.pending ∧ t.smb = s.smb ∧ t.part = f s.part ∧
      (t.window = s.window ∨ (s.part.md.cur ≠ .dormant ∧ t.part.md.cur = .dormant ∧ t.window = [])) := by
  refine ⟨_, rfl, rfl, rfl, rfl, ?_⟩
  by_cases h : (f s.part).md.cur = .dormant ∧ s.part.md.cur ≠ .dormant
  · exact .inr ⟨h.2, h.1, if_pos h⟩
  · exact .inl (if_neg h)

/-- The words of a BAR2 write keep the window's canonical form. -/
theorem storeWords_wf (p : Part) (ws : List Word) (m : Memory) (o : Nat) (h : m.wf = true) :
    (storeWords p m o ws).wf = true := by
  induction ws generalizing m o with
  | nil => exact h
  | cons w r ih =>
    refine ih _ _ ?_
    split
    · exact h
    · exact Memory.wf_writeWord m o w h

/-- The words of a BAR2 write stay below the limit their range stays below. -/
theorem storeWords_below (p : Part) (ws : List Word) (m : Memory) (o n : Nat) (hn : o + 4 * ws.length ≤ n)
    (h : ∀ e ∈ m, e.1 < n) : ∀ e ∈ storeWords p m o ws, e.1 < n := by
  induction ws generalizing m o with
  | nil => exact h
  | cons w r ih =>
    simp only [List.length_cons] at hn
    refine ih _ _ (by omega) ?_
    split
    · exact h
    · refine Memory.keys_writeBytes (· < n) _ _ _ (fun i hi => ?_) h
      rw [wordBytes_length] at hi
      omega

/-- A BAR2 access answers a next state; the queue and the SMBus target stay, and the window is the one before or the
one with the words of slots not in flight stored. -/
theorem execCommandSlotWrite_spec (a : SlotAccess) (s : State) :
    ∃ t, execCommandSlotWrite a s = .next t ∧ t.pending = s.pending ∧ t.smb = s.smb ∧
      (t.window = s.window ∨ ∃ o ws, a = .write o ws ∧ t.window = storeWords s.part s.window o ws) := by
  cases a with
  | read o n =>
    refine ⟨_, rfl, ?_⟩
    unfold State.slotRead
    split <;> exact ⟨rfl, rfl, .inl rfl⟩
  | write o ws =>
    refine ⟨_, rfl, ?_⟩
    unfold State.slotWrite
    split
    · exact ⟨rfl, rfl, .inl rfl⟩
    · split
      · exact ⟨rfl, rfl, .inl rfl⟩
      · exact ⟨rfl, rfl, .inr ⟨o, ws, rfl, rfl⟩⟩

/-- An SMBus command answers a next state, and leaves the queue and the window. -/
theorem smb_specs (a : BitVec 7) (s : State) :
    (∀ o b, ∃ t, execSmbAddr a o b s = .next t ∧ t.pending = s.pending ∧ t.window = s.window) ∧
    (∃ t, execSmbRead a s = .next t ∧ t.pending = s.pending ∧ t.window = s.window) ∧
    (∀ v b, ∃ t, execSmbWrite a v b s = .next t ∧ t.pending = s.pending ∧ t.window = s.window) ∧
    (∀ k b, ∃ t, execSmbRecSel a k b s = .next t ∧ t.pending = s.pending ∧ t.window = s.window) ∧
    (∃ t, execSmbRecRead a s = .next t ∧ t.pending = s.pending ∧ t.window = s.window) ∧
    (∃ t, execSmbStatus a s = .next t ∧ t.pending = s.pending ∧ t.window = s.window ∧ t.smb = s.smb) ∧
    (∃ t, execSmbSclTimeout s = .next t ∧ t.pending = s.pending ∧ t.window = s.window) := by
  refine ⟨fun o b => ?_, ?_, fun v b => ?_, fun k b => ?_, ?_, ?_, ?_⟩
  · unfold execSmbAddr; split <;> exact ⟨_, rfl, rfl, rfl⟩
  · unfold execSmbRead; split <;> exact ⟨_, rfl, rfl, rfl⟩
  · unfold execSmbWrite; split <;> exact ⟨_, rfl, rfl, rfl⟩
  · unfold execSmbRecSel; (repeat' split) <;> exact ⟨_, rfl, rfl, rfl⟩
  · unfold execSmbRecRead; split <;> exact ⟨_, rfl, rfl, rfl⟩
  · unfold execSmbStatus; (repeat' split) <;> exact ⟨_, rfl, rfl, rfl, rfl⟩
  · unfold execSmbSclTimeout; split <;> exact ⟨_, rfl, rfl, rfl⟩

/-- A command whose island's clocks FREEZE stops changes nothing in FREEZE. -/
theorem onClock_freeze (f : Part → Part) (s : State) (h : s.part.md.cur = .freeze) : onClock f s = .next s := by
  simp [onClock, onPart, h]

/-- Outside FREEZE it acts on the part alone. -/
theorem onClock_next (f : Part → Part) (s : State) (h : s.part.md.cur ≠ .freeze) :
    onClock f s = .next { s with part := f s.part } := by
  simp [onClock, onPart, h]

/-- A row of the receivers changes nothing in FREEZE. -/
theorem onReceivers_freeze (f : Part → Part) (s : State) (h : s.part.md.cur = .freeze) : onReceivers f s = .next s :=
  onClock_freeze _ s h

/-- Outside FREEZE it acts on the part alone, and the signals are evaluated after it. -/
theorem onReceivers_next (f : Part → Part) (s : State) (h : s.part.md.cur ≠ .freeze) :
    onReceivers f s = .next { s with part := (f s.part).signals } := onClock_next _ s h

end Sys2Proof.Machine
end

