-- ==== Sys2Proof/Laws/Regs.lean ====
section
/-! SUPPORT. Registers read after they are written: one lemma for each way a register changes. -/

namespace Sys2Proof.Machine

@[simp] theorem Part.reg_setReg_same (p : Part) (o : Nat) (w : Word) : (p.setReg o w).reg o = w :=
  SMap.get_set_same _ _ _ _

theorem Part.reg_setReg_other (p : Part) (o x : Nat) (w : Word) (h : x ≠ o) : (p.setReg o w).reg x = p.reg x :=
  SMap.get_set_other _ _ _ _ _ h

theorem Part.reg_setField_other (p : Part) (o hi lo v x : Nat) (h : x ≠ o) :
    (p.setField o hi lo v).reg x = p.reg x := Part.reg_setReg_other _ _ _ _ h

theorem Part.reg_setBit_other (p : Part) (o j x : Nat) (b : Bool) (h : x ≠ o) : (p.setBit o j b).reg x = p.reg x :=
  Part.reg_setReg_other _ _ _ _ h

theorem Part.reg_addSat_other (p : Part) (o n x : Nat) (h : x ≠ o) : (p.addSat o n).reg x = p.reg x :=
  Part.reg_setReg_other _ _ _ _ h

theorem Part.reg_addWrap_other (p : Part) (o n x : Nat) (h : x ≠ o) : (p.addWrap o n).reg x = p.reg x :=
  Part.reg_setReg_other _ _ _ _ h

@[simp] theorem Part.reg_emit (p : Part) (m : Out) (x : Nat) : (p.emit m).reg x = p.reg x := rfl

end Sys2Proof.Machine
end

