-- ==== Sys2Proof/Tests/Slice0.lean ====
section
/-! SUPPORT. The author's own tests: for every statement of the prover's list a state and operands that meet its
hypotheses together (wit_…), ill-formed commands that Instr.wf refuses, and the spec's worked examples. The values of
the witnesses are small states made by the helpers below; no expected result comes from the model. -/

open Sys2Proof Sys2Proof.Machine
namespace Sys2Proof.Tests

set_option maxRecDepth 100000

/-- A part that is powered, released from reset and linked, in mode `m`. -/
def live (m : Mode) : Part :=
  { supply := { vin := true, limiter := true, pwrgood := true, holdup := true, rstN := true, perstN := true },
    md := { cur := m },
    host := {
      linkUp := true, width := 8, gts := 32, cxl := true, cfgLoaded := true,
      bar0 := some 0, bar2 := some 0x10000000, bar4 := some 0x20000000 } }

/-- A part in DORMANT with its input applied. -/
def asleep : Part := { supply := { vin := true, limiter := true, pwrgood := true, rstN := true, perstN := true } }

/-- The machine with an empty queue around a part. -/
def st (p : Part) : State := { pending := [], window := [], smb := {}, part := p }

/-- A part in which tag 3 runs an opcode with parameters. -/
def runs (op : Nat) (ps : List Word) (p : Part) : Part :=
  p.setTag 3 { st := .running, hdr := [BitVec.ofNat 32 op], params := ps }

/-- A transition to a mode. -/
def moving (m : Mode) (p : Part) : Part := { p with md := { p.md with trans := some { target := m, dest := m, tag := some 3 } } }

/-- The host's native write of a word at an offset. -/
def wr (o : Nat) (v : Word) : Access := { req := .host, addr := BitVec.ofNat 28 o, be := 0xF#4, val := v }

/-- A part with registers written. -/
def rg (l : List (Nat × Word)) (p : Part) : Part := l.foldl (fun q e => q.setReg e.1 e.2) p

/-- A tag with a state and header, in a part. -/
def tagIs (s : TagState) (t : Nat) (h : List Word) (p : Part) : Part := p.setTag t { st := s, hdr := h }

/-- A note to a node with a body. -/
def note (dst : BitVec 16) (body : List Byte) : Note :=
  { version := 1#8, kind := .general, bcast := false, oneHop := false, auth := false, keyId := 0, ttl := 5, dst := dst,
    src := 9#16, serial := 1#32, body := body, mac := 0#128 }

/-- A frame's overhead with nothing in it. -/
def quiet : LayerOh :=
  { bip := [], bei := [], bdi := false, iae := false, stat := 1#3, tti := none, pt := none, msi := none, apsLevel := 0,
    aps := 0#32 }

/-- A register's entry. -/
def info (o : Nat) : RegInfo := (regInfo o).getD pointDefectInfo


/-- Six JC bytes with nothing in them. -/
def noJc : JcIn := .carrier (List.replicate 6 0#8) []

/-- JC bytes and payload that start FJM with a count of 5. -/
def startJc : JcIn := .carrier ((fjcBytes 5).take 6) (bitsOfBytes ((fjcBytes 5).drop 6))

/-- A time-of-day message of second 0 with its UTC fields valid. -/
def todUtc : List Byte := [0xC3#8, 0x5A#8, 0x01#8, 0x04#8] ++ List.replicate 10 0#8 ++ [0xC7#8, 0xC2#8]

/-- A time-of-day message of second 0. -/
def todZero : List Byte := [0xC3#8, 0x5A#8, 0x01#8] ++ List.replicate 11 0#8 ++ [0x96#8, 0x85#8]

/-- A 64-byte frame to a destination. -/
def sendTo (dst rest : List Byte) : ClientFrame := { bytes := dst ++ rest }

/-- A frame with a UCAST destination and a good FCS. -/
def ucast : ClientFrame := sendTo [2#8, 0#8, 0#8, 0#8, 0#8, 5#8] (List.replicate 54 0#8 ++ [7#8, 237#8, 201#8, 224#8])

/-- A PTP frame. -/
def ptpFrame : ClientFrame :=
  sendTo [0x01#8, 0x1B#8, 0x19#8, 0#8, 0#8, 0#8] (List.replicate 6 0#8 ++ [0x88#8, 0xF7#8] ++ List.replicate 50 0#8)

/-- A tap frame that has ended with bytes left over. -/
def tapEnded (left : Nat) : TapFrame :=
  { seq := 1#32, step := 3, rule := 0, copy := false, stamp := 0, stale := false, left := left, bytes := [], claims := [],
    ended := true, dec := none, dead := false }

/-- A frame read for injection. -/
def placed : TxFrame := { dead := false, bytes := List.replicate 64 0#8, stamp := false, oneStep := false, cookie := 0#32 }

/-- A transmit descriptor of a 64-byte frame. -/
def desc (ok : Bool) : TxDesc :=
  { words := 0x10040#32 :: List.replicate 7 0#32, frame := if ok then some (List.replicate 64 0#8) else none }

/-- A slot frame. -/
def slotF (crc : Bool) (cls : Fin 16) : SlotFrame :=
  { crcOk := crc, slot := 5, src := 0, dst := 1, bcast := false, cls := cls, hops := 0, cycle := 0#32, payload := [0#8] }

/-- A slot 0 payload. -/
def slotZero : Slot0 :=
  { cycle := 0#32, txLevel := 3, mode := 5#4, req := 3, ready := 3, freeze := false, drain := false, drainAck := false,
    prove := false, supplyLoss := false, rxOk := true, twinEn := false, timeSet := false, trace := false, phaseType := 15,
    node := 0#16, hops := 0, acc := 0#64, tTx := 0, rxCycle := 0#32, tRx := 0, words := List.replicate 4 none, fulls := 0#4, colls := 0#4,
    mirrorAck := 0#32, arrival := 0, lanes := [some 0, some 0, some 0, some 0] }

/-- A mirror record. -/
def rec (k : MirrorKind) (n : Word) : MirrorRec := { kind := k, last := false, restore := false, seq := n, body := [] }

/-- A time exchange message of an unknown version. -/
def oddMsg : ExchMsg :=
  { version := 9#8, kind := 1#8, node := 0#16, flags := 0#8, hops := 0#8, keyId := 0, seq := 0#32, tTxPrev := 0,
    rxSeq := 0#32, tRx := 0, asym := 0, acc := 0#64, srcNode := 0#16, mac := 0#128, stale := false }

/-- A time exchange message of the version and kind in use. -/
def goodMsg : ExchMsg := { oddMsg with version := 1#8 }

/-- The heading of a PTP message of a type, to the primary address. -/
def ptpHead (ty : BitVec 4) : PtpHead :=
  { etherType := 0x88F7#16, dest := 0x011B19000000#48, tags := 2, mtype := ty, domain := 0 }

/-- A stamp request. -/
def req : StampReq := { serial := 1, cookie := 0#32, oneStep := false, len := 64 }

/-- An open value of an option is there or not. -/
theorem someOrNone {α : Type} (x : Option α) : (∃ v, x = some v) ∨ x = none := by
  cases x with
  | none => exact .inr rfl
  | some v => exact .inl ⟨v, rfl⟩

/-- Putting a key into a store does not shorten it. -/
theorem length_put {α : Type} (k : Nat) (v : α) (m : SMap α) : m.length ≤ (SMap.put k v m).length := by
  induction m with
  | nil => exact Nat.zero_le _
  | cons e r ih =>
    simp only [SMap.put]
    split
    · simp
    · split
      · simp
      · simpa using ih

/-- A basted set with one entry more than the limit stays beyond it. -/
theorem basteOne_overfull (b : SMap (Word × Word)) (o : Nat) (v : Word) (h : 65536 < b.length) :
    65536 < (basteOne b o 0x87FFFFFF#32 v).length := by
  refine Nat.lt_of_lt_of_le h ?_
  have : ((SMap.get (fun _ => (0#32, 0#32)) b o).1 ||| 0x87FFFFFF#32) ≠ 0#32 := by
    intro e
    have := congrArg (BitVec.getLsbD · 0) e
    simp at this
  simp [basteOne, SMap.set, this, length_put]

/-- An Announce from 255 steps away. -/
def far : Announce :=
  { accuracy := 0#8, variance := 0#16, priority1 := 128#8, priority2 := 128#8, gm := 5#64, steps := 255,
    timeSource := 0#8, sender := 5#64, senderPort := 1#16 }

/-- An Announce from 255 steps away is no master's. -/
theorem noteMaster_far (p : Part) (t : Nat) (m : Nat × Announce) (h : 255 ≤ m.2.steps) : p.noteMaster t m = p :=
  if_pos (.inr h)

/-- With every channel out of service a line lies in one of them. -/
theorem channel_listed (p : Part) (d : Nat) : (List.range 64).contains (p.lineChannel d) = true := by
  have h := (Config.lineChannel (d / 64)).isLt
  have : p.lineChannel d < 64 := by unfold Part.lineChannel Part.dramDomainOf; dsimp only; omega
  simpa using this

theorem wit_IdleStepTicks :
    (∃ s : State, s.pending = []) ∧
    (∃ s : State, s.pending = [] ∧ s.part.access.guards = [] ∧ (∀ e ∈ s.part.clients, e.2.tx = []) ∧ s.part.tkState = 0) ∧
    (∃ s : State, s.pending = [] ∧ s.part.access.guards = [] ∧ s.part.tkState ≠ 0 ∧ s.part.pulling = false ∧
      s.part.slewing = false ∧ (∀ e ∈ s.part.clients, e.2.tx = []) ∧ (∀ e ∈ s.part.time.high, e.2 ≠ s.part.clk + 1) ∧
      ∀ k, k < 4 → s.part.outRuns k = false) :=
  ⟨⟨State.reset, by decide⟩,
    ⟨State.reset, by decide⟩,
    ⟨st ((live .carry).setField 0xF010 2 0 3), by decide⟩⟩

theorem wit_PowerOnAndBoot :
    (∃ s : State, s.part.supply.vin = false ∧ s.part.supply.loss = none) ∧
    (∃ s : State, s.part.supply.vin = true ∧ s.part.supply.loss = none) ∧
    (∃ s : State, s.part.supply.limiter = true ∧ s.part.supply.pwrgood = false ∧ s.part.supply.loss = none ∧
      s.part.supply.wakeHeld = false ∧ (¬ (s.part.supply.rstN = true ∧ s.part.supply.perstN = true))) ∧
    (∃ s : State, s.part.supply.limiter = true ∧ s.part.supply.pwrgood = false ∧ s.part.supply.loss = none ∧
      (s.part.supply.wakeHeld = true ∨ (s.part.supply.rstN = true ∧ s.part.supply.perstN = true))) ∧
    (∃ s : State, s.part.supply.pwrgood = true ∧ s.part.supply.holdup = false ∧ s.part.supply.loss = none) ∧
    (∃ s : State, ∃ c0 : Bool, ∃ g0 : Bool, ∃ c1 : Bool, ∃ g1 : Bool, s.part.md.cur = .dormant ∧
      s.part.md.trans.isSome = true ∧ s.part.otherBank.use ≠ .staged ∧ s.part.activeBank.use = .active ∧
      ((if s.part.journal.activeOne then c1 && g1 else c0 && g0) = true)) ∧
    (∃ s : State, s.part.md.cur = .dormant ∧ s.part.md.trans.isSome = true) ∧
    (∃ s : State, s.part.md.cur = .dormant ∧ s.part.md.trans.isSome = true ∧ s.part.otherBank.use = .staged) :=
  ⟨⟨State.reset, by decide⟩,
    ⟨(st ({ supply := { vin := true } })), by decide⟩,
    ⟨(st ({ supply := { vin := true, limiter := true } })), by decide⟩,
    ⟨(st ({ supply := { vin := true, limiter := true, rstN := true, perstN := true } })), by decide⟩,
    ⟨(st ({ supply := { vin := true, limiter := true, pwrgood := true } })), by decide⟩,
    ⟨(st ({ moving .inert asleep with journal := { bank0 := { use := .active } } })), true, true, false, false, by decide⟩,
    ⟨(st ({ moving .inert asleep with journal := { bank0 := { use := .active } } })), by decide⟩,
    ⟨(st ({ moving .inert asleep with journal := { bank1 := { use := .staged } } })), by decide⟩⟩

theorem wit_LastGaspSequence :
    (∃ s : State, s.part.supply.vin = true ∧ s.part.supply.loss = none) ∧
    (∃ s : State, ∃ l : LossSeq, s.part.supply.loss = some l ∧ l.record = true ∧ ∃ w : List Word,
      w = [BitVec.ofNat 32 (2 ^ 24 + l.cause * 2 ^ 16 + l.mode.code), s.part.journal.lossCount + 1#32] ++ timeWords
      l.time ++ [l.stitch, BitVec.ofNat 32 (2 ^ 31 + l.setPending.toNat * 2 ^ 30 + l.notices % 2 ^ 16)]) ∧
    (∃ s : State, ∃ l : LossSeq, s.part.supply.loss = some l ∧ l.record = false) ∧
    (∃ s : State, ∃ l : LossSeq, s.part.supply.loss = some l) :=
  ⟨⟨(st (live .carry)), by decide⟩,
    ⟨(st ({ asleep with supply := { loss := some { cause := 1, mode := .carry, time := 0, stitch := 0#32, notices := 0, record := true, setPending := false } } })),
      _, rfl, by decide, _, rfl⟩,
    ⟨(st ({ asleep with supply := { loss := some { cause := 1, mode := .carry, time := 0, stitch := 0#32, notices := 0, record := false, setPending := false } } })),
      _, rfl, by decide⟩,
    ⟨(st ({ asleep with supply := { loss := some { cause := 1, mode := .carry, time := 0, stitch := 0#32, notices := 0, record := false, setPending := false } } })),
      _, rfl⟩⟩

theorem wit_ResetPinsAndWakes :
    (∃ s : State, s.part.supply.loss = none) ∧
    (∃ s : State, ∃ l : LossSeq, s.part.supply.loss = some l ∧ s.part.md.cur = .dormant) ∧
    (∃ s : State, s.part.supply.rstN = false ∧ s.part.supply.perstN = true) ∧
    (∃ s : State, s.part.supply.rstN = false ∧ s.part.supply.perstN = false) ∧
    (∃ s : State, s.part.supply.perstN = false ∧ s.part.md.cur = .dormant) ∧
    (∃ s : State, s.part.supply.perstN = false ∧ s.part.md.cur ≠ .dormant) :=
  ⟨⟨(st (live .carry)), by decide⟩,
    ⟨(st ({ asleep with supply := { loss := some { cause := 1, mode := .carry, time := 0, stitch := 0#32, notices := 0, record := false, setPending := false } } })),
      _, rfl, by decide⟩,
    ⟨(st ({ asleep with supply := { asleep.supply with rstN := false } })), by decide⟩,
    ⟨(st ({ asleep with supply := { loss := some { cause := 1, mode := .carry, time := 0, stitch := 0#32, notices := 0, record := false, setPending := false } } })),
      by decide⟩,
    ⟨(st ({ asleep with supply := { loss := some { cause := 1, mode := .carry, time := 0, stitch := 0#32, notices := 0, record := false, setPending := false } } })),
      by decide⟩,
    ⟨(st ({ live .carry with supply := { (live .carry).supply with perstN := false } })), by decide⟩⟩

theorem wit_ModeEnterAnswers :
    (∃ s : State, ∃ t : Fin 1024, ∃ m : Mode, s.part.runs t 0x0101 = true ∧
      Mode.ofCode (fieldOf (s.part.par t 0) 3 0) = some m ∧ m ≠ .freeze ∧ s.part.md.trans = none ∧ m ≠ s.part.md.cur ∧
      s.part.md.cur ≠ .drain ∧ s.part.coresAway = false ∧ s.part.mayEnter m = true) ∧
    (∃ s : State, ∃ t : Fin 1024, ∃ m : Mode, s.part.runs t 0x0101 = true ∧
      Mode.ofCode (fieldOf (s.part.par t 0) 3 0) = some m ∧ m ≠ .freeze ∧ s.part.md.trans = none ∧ m = s.part.md.cur) ∧
    (∃ s : State, ∃ t : Fin 1024, ∃ m : Mode, s.part.runs t 0x0101 = true ∧
      Mode.ofCode (fieldOf (s.part.par t 0) 3 0) = some m ∧ m ≠ .freeze ∧ s.part.md.trans.isSome = true) ∧
    (∃ s : State, ∃ t : Fin 1024, ∃ m : Mode, s.part.runs t 0x0101 = true ∧
      Mode.ofCode (fieldOf (s.part.par t 0) 3 0) = some m ∧ m ≠ .freeze ∧ s.part.md.trans = none ∧ m ≠ s.part.md.cur ∧
      (s.part.md.cur = .drain ∨ s.part.coresAway = true)) ∧
    (∃ s : State, ∃ t : Fin 1024, ∃ m : Mode, s.part.runs t 0x0101 = true ∧
      Mode.ofCode (fieldOf (s.part.par t 0) 3 0) = some m ∧ m ≠ .freeze ∧ s.part.md.trans = none ∧ m ≠ s.part.md.cur ∧
      s.part.md.cur ≠ .drain ∧ s.part.coresAway = false ∧ s.part.mayEnter m = false) ∧
    (∃ s : State, ∃ t : Fin 1024, s.part.runs t 0x0101 = true ∧ Mode.ofCode (fieldOf (s.part.par t 0) 3 0) = none) ∧
    (∃ s : State, ∃ t : Fin 1024, s.part.runs t 0x0101 = true ∧
      Mode.ofCode (fieldOf (s.part.par t 0) 3 0) = some .freeze) :=
  ⟨⟨(st (runs 0x0101 [3#32] (live .inert))), 3, _, by decide, rfl, by decide⟩,
    ⟨(st (runs 0x0101 [5#32] (live .carry))), 3, _, by decide, rfl, by decide⟩,
    ⟨(st (runs 0x0101 [5#32] (moving .carry (live .fit)))), 3, _, by decide, rfl, by decide⟩,
    ⟨(st (runs 0x0101 [3#32] (live .drain))), 3, _, by decide, rfl, by decide⟩,
    ⟨(st (runs 0x0101 [5#32] (live .inert))), 3, _, by decide, rfl, by decide⟩,
    ⟨(st (runs 0x0101 [15#32] (live .inert))), 3, by decide⟩,
    ⟨(st (runs 0x0101 [11#32] (live .carry))), 3, by decide⟩⟩

theorem wit_ModeReachedEnters :
    (∃ s : State, ∃ tr : Trans, ∃ p : Part, ∃ q : Part, s.part.md.cur ≠ .dormant ∧ s.part.md.trans = some tr ∧
      tr.target ≠ .dormant ∧ (p = Part.arrive
      { s.part with md := { s.part.md with trans := if tr.target = tr.dest then none else some { tr with target := nextMode tr.target } } }
      tr.target) ∧ (q = (if p.md.resuming = true ∧ p.md.cur = .fit then p.resumeSet else p))) ∧
    (∃ s : State, ∃ tr : Trans, s.part.md.cur ≠ .dormant ∧ s.part.md.trans = some tr ∧ tr.target = .dormant) :=
  ⟨⟨(st (moving .attest (live .inert))), _, _, _, by decide, rfl, by decide, rfl, rfl⟩,
    ⟨(st (moving .dormant (live .inert))), _, by decide, rfl, by decide⟩⟩

theorem wit_ModeStateAndResume :
    (∃ s : State, ∃ t : Fin 1024, s.part.runs t 0x0102 = true) ∧
    (∃ s : State, ∃ t : Fin 1024, s.part.runs t 0x0103 = true) ∧
    (∃ s : State, s.part.md.cur = .inert ∧ s.part.md.trans = none ∧ s.part.journal.resume = true ∧
      s.part.md.woken = true) :=
  ⟨⟨(st (runs 0x0102 [] (live .carry))), 3, by decide⟩,
    ⟨(st (runs 0x0103 [1#32] (live .carry))), 3, by decide⟩,
    ⟨(st ({ live .inert with journal := { resume := true }, md := { cur := .inert, woken := true } })), by decide⟩⟩

theorem wit_DrainRenewAndReturns :
    (∃ s : State, s.part.md.cur = .drain ∧ s.part.md.trans = none ∧ s.part.md.unacked = []) ∧
    (∃ s : State, s.part.md.cur = .drain ∧ s.part.md.trans = none) ∧
    (∃ s : State, s.part.md.cur = .renew ∧ s.part.md.restoring = false) ∧
    (∃ s : State, s.part.md.cur = .renew ∧ s.part.md.restoring = true) ∧
    (∃ s : State, s.part.md.cur ≠ .renew ∧ s.part.md.coresOut = true) ∧
    (∃ s : State, s.part.md.cur = .renew ∧ s.part.md.restoring = false) ∧
    (∃ s : State, s.part.md.cur = .renew ∧ s.part.md.restoring = true) ∧
    (∃ s : State, ∃ d : Fin 148, pdGroup d ≠ 6 ∧ s.part.md.cur ≠ .freeze) ∧
    (∃ s : State, ∃ d : Fin 148, (pdGroup d = 6 ∨ s.part.md.cur = .freeze)) ∧
    (∃ s : State, s.part.bit 0x6048 31 = true ∧ s.part.bit 0x6048 30 = false ∧ s.part.bit 0x6048 29 = false) :=
  ⟨⟨(st (live .drain)), by decide⟩,
    ⟨(st (live .drain)), by decide⟩,
    ⟨(st (live .renew)), by decide⟩,
    ⟨(st ({ live .renew with md := { cur := .renew, restoring := true } })), by decide⟩,
    ⟨(st ({ live .carry with md := { cur := .carry, coresOut := true } })), by decide⟩,
    ⟨(st (live .renew)), by decide⟩,
    ⟨(st ({ live .renew with md := { cur := .renew, restoring := true } })), by decide⟩,
    ⟨(st ({ live .carry with md := { cur := .carry, coresOut := true } })), 3, by decide⟩,
    ⟨(st ({ live .carry with md := { cur := .carry, coresOut := true } })), 137, by decide⟩,
    ⟨(st ((live .carry).setReg 0x6048 0x80000000#32)), by decide⟩⟩

theorem wit_RetireAndJournalBlocks :
    (∃ s : State, s.part.backRuns = false ∧ s.part.marching = false) ∧
    (∃ s : State, s.part.selvState 25 ≠ 0) ∧
    (∃ s : State, s.part.marching = true ∧ s.part.selvState 25 = 0) ∧
    (∃ s : State, s.part.backRuns = true ∧ s.part.marching = false ∧ s.part.selvState 25 = 0) ∧
    (∃ p : Part, ∃ c : Fin 64, ∃ row : Nat, ((p.back.retiring.filter fun e => e / 2 ^ 24 == c.val).length < p.field
      (chReg c) 28 16) ∧ (p.back.retiring ++ p.journal.retiredRows).contains (rowKey c row) = false) ∧
    (∃ p : Part, ∃ c : Fin 64, ∃ row : Nat, (p.field (chReg c) 28 16 ≤ (p.back.retiring.filter fun e => e / 2 ^ 24 ==
      c.val).length ∨ (p.back.retiring ++ p.journal.retiredRows).contains (rowKey c row) = true)) ∧
    (∃ s : State, ∃ c : Fin 64, ∃ row : Nat, s.part.back.retiring.contains (rowKey c row) = true ∧
      s.part.md.cur ≠ .freeze) ∧
    (∃ s : State, s.part.md.cur = .freeze) ∧
    (∃ s : State, ∃ b : Fin 16384, s.part.supply.holdup = true ∧ ∃ q, q = (s.part.setWear b (s.part.wearOf b + 1)) ∧
      q.wearMin + 65536 ≤ q.wearOf b) ∧
    (∃ s : State, ∃ b : Fin 16384, s.part.supply.holdup = true ∧ ∃ q, q = (s.part.setWear b (s.part.wearOf b + 1)) ∧
      q.wearOf b < q.wearMin + 65536 ∧ q.wearMin + 32768 < q.wearOf b) ∧
    (∃ s : State, ∃ b : Fin 16384, s.part.supply.holdup = true ∧ ∃ q, q = (s.part.setWear b (s.part.wearOf b + 1)) ∧
      q.wearOf b ≤ q.wearMin + 32768) ∧
    (∃ s : State, s.part.supply.holdup = true ∧ s.part.journal.spares ≠ 0) ∧
    (∃ s : State, s.part.supply.holdup = true ∧ s.part.journal.spares = 0) :=
  ⟨⟨(st (live .prove)), by decide⟩,
    ⟨(st (rg [(selvReg 25 0, 2#32)] (live .carry))), by decide⟩,
    ⟨(st (rg [(0xB050, 0x10000#32)] (live .prove))), by decide⟩,
    ⟨(st (live .carry)), by decide⟩,
    ⟨((st (live .carry))).part, 63, 5, by decide⟩,
    ⟨((st ({ live .carry with back := { retiring := [rowKey 3 7] } }))).part, 3, 7, by decide⟩,
    ⟨(st ({ live .carry with back := { retiring := [rowKey 63 5] } })), 63, 5, by decide⟩,
    ⟨(st (live .freeze)), by decide⟩,
    ⟨(st ({ live .carry with journal := { wear := [(16383, 65535)] } })), 16383, by decide, _, rfl, by decide⟩,
    ⟨(st ({ live .carry with journal := { wear := [(16383, 32768)] } })), 16383, by decide, _, rfl, by decide⟩,
    ⟨(st ({ live .carry with back := { retiring := [rowKey 63 5] } })), 16383, by decide, _, rfl, by decide⟩,
    ⟨(st ({ live .carry with back := { retiring := [rowKey 63 5] } })), by decide⟩,
    ⟨(st ({ live .carry with journal := { spares := 0 } })), by decide⟩⟩

theorem wit_IslandFaultsContained :
    (∃ s : State, s.part.md.cur ≠ .dormant ∧ s.part.md.cur ≠ .freeze) ∧
    (∃ s : State, s.part.md.cur ≠ .dormant ∧ s.part.md.cur ≠ .freeze) ∧
    (∃ p : Part, (p.selvState 25 = 0 ∨ p.selvState 25 = 1)) ∧
    (∃ s : State, s.part.md.cur = .freeze) :=
  ⟨⟨(st (live .carry)), by decide⟩,
    ⟨(st (live .carry)), by decide⟩,
    ⟨live .carry, by decide⟩,
    ⟨(st (live .freeze)), by decide⟩⟩

theorem wit_PartFaultsContained :
    (∃ s : State, s.part.md.cur ≠ .dormant ∧ s.part.md.cur ≠ .freeze ∧ ∃ d : Word, ∃ q,
      q = s.part.partFault 7 0xFF d ∧ q.md.coresOut = false) ∧
    (∃ s : State, s.part.md.cur ≠ .dormant ∧ s.part.md.cur ≠ .freeze ∧ ∃ d : Word, ∃ q,
      q = s.part.partFault 7 0xFF d ∧ q.md.coresOut = true) ∧
    (∃ s : State, s.part.md.cur ≠ .dormant ∧ s.part.md.cur ≠ .freeze ∧ ∃ c : Fin 64, ∃ q,
      q = (s.part.partFault 3 25 (BitVec.ofNat 32 c)) ∧ q.back.badChannels.contains c.val = false) ∧
    (∃ s : State, s.part.md.cur ≠ .dormant ∧ s.part.md.cur ≠ .freeze ∧ ∃ c : Fin 64, ∃ q,
      q = (s.part.partFault 3 25 (BitVec.ofNat 32 c)) ∧ q.back.badChannels.contains c.val = true) ∧
    (∃ s : State, s.part.md.cur ≠ .dormant ∧ s.part.md.cur ≠ .freeze) ∧
    (∃ s : State, s.part.md.cur ≠ .dormant ∧ s.part.md.cur ≠ .freeze ∧ s.part.journal.spares = 0) ∧
    (∃ s : State, s.part.journal.spares ≠ 0) :=
  ⟨⟨(st ({ live .carry with back := { badChannels := [63] } })), by decide, by decide, 0#32, _, rfl, by decide⟩,
    ⟨(st ({ live .carry with md := { cur := .carry, coresOut := true } })), by decide, by decide, 0#32, _, rfl, by decide⟩,
    ⟨(st ({ live .carry with md := { cur := .carry, coresOut := true } })), by decide, by decide, 63, _, rfl, by decide⟩,
    ⟨(st ({ live .carry with back := { badChannels := [63] } })), by decide, by decide, 63, _, rfl, by decide⟩,
    ⟨(st ({ live .carry with md := { cur := .carry, coresOut := true } })), by decide⟩,
    ⟨(st ({ live .carry with journal := { spares := 0 } })), by decide⟩,
    ⟨(st ({ live .carry with md := { cur := .carry, coresOut := true } })), by decide⟩⟩

theorem wit_UncontainedFaultsFreeze :
    (∃ s : State, s.part.md.cur ≠ .dormant) :=
  ⟨(st (live .carry)), by decide⟩

theorem wit_TestsAndRecords :
    (∃ s : State, ∃ t : Fin 1024, s.part.runs t 0x0901 = true ∧ fieldOf (s.part.par t 0) 19 16 ≠ 0 ∧
      s.part.md.cur ≠ .prove) ∧
    (∃ s : State, ∃ t : Fin 1024, s.part.runs t 0x0901 = true ∧ ∃ new,
      new = (scopeBits.filter fun b => (s.part.par t 0).getLsbD b && !s.part.bit 0xB050 b) ∧
      (fieldOf (s.part.par t 0) 19 16 = 0 ∨ s.part.md.cur = .prove) ∧ new = []) ∧
    (∃ s : State, ∃ t : Fin 1024, s.part.runs t 0x0901 = true ∧ ∃ new,
      new = (scopeBits.filter fun b => (s.part.par t 0).getLsbD b && !s.part.bit 0xB050 b) ∧ s.part.md.cur = .prove ∧
      new ≠ []) ∧
    (∃ s : State, ∃ t : Fin 1024, s.part.runs t 0x0901 = true ∧ ∃ new,
      new = (scopeBits.filter fun b => (s.part.par t 0).getLsbD b && !s.part.bit 0xB050 b) ∧ s.part.md.cur ≠ .prove ∧
      fieldOf (s.part.par t 0) 19 16 = 0 ∧ new ≠ []) ∧
    (∃ s : State, ∃ t : Fin 1024, s.part.runs t 0x0902 = true) ∧
    (∃ s : State, ∃ b : Fin 20, ∃ inst : Nat, ∃ r : ScopeResult, ∃ e : Word, ∃ f : Word, s.part.bit 0xB050 b = true ∧
      ∃ q : Part, q = (if inst = 0xFFFF then s.part.closeScope b 0xFFFF r.code e f else s.part.setTestRec b (inst %
      0xFFFF) { result := r.code, errors := e, first := f, ended := s.part.clk, endTime := s.part.now, started := match s.part.testRec b 0xFFFF with | some x => x.started | none => s.part.clk })
      ∧ ∃ q1 : Part, q1 = (if r = .pass then q.backInService b inst else q) ∧ q1.md.cur = .prove ∧
      q1.back.intrusive = true ∧ q1.reg 0xB050 = 0#32 ∧ q1.md.trans = none) ∧
    (∃ s : State, ∃ b : Fin 20, ∃ inst : Nat, ∃ r : ScopeResult, ∃ e : Word, ∃ f : Word, s.part.bit 0xB050 b = true ∧
      ∃ q : Part, q = (if inst = 0xFFFF then s.part.closeScope b 0xFFFF r.code e f else s.part.setTestRec b (inst %
      0xFFFF) { result := r.code, errors := e, first := f, ended := s.part.clk, endTime := s.part.now, started := match s.part.testRec b 0xFFFF with | some x => x.started | none => s.part.clk })
      ∧ ∃ q1 : Part, q1 = (if r = .pass then q.backInService b inst else q) ∧
      (q1.md.cur ≠ .prove ∨ q1.back.intrusive = false ∨ q1.reg 0xB050 ≠ 0#32 ∨ q1.md.trans ≠ none)) ∧
    (∃ s : State, ∃ t : Fin 1024, s.part.runs t 0x0104 = true) ∧
    (∃ s : State, s.part.back.record ≠ [] ∧ s.part.supply.holdup = true ∧ s.part.journalFull 1 = false) ∧
    (∃ s : State, s.part.back.record ≠ [] ∧ (s.part.supply.holdup = false ∨ s.part.journalFull 1 = true)) :=
  ⟨⟨(st (runs 0x0901 [0x10000#32] (live .carry))), 3, by decide⟩,
    ⟨(st (runs 0x0901 [0#32] (live .carry))), 3, by decide, _, rfl, by decide⟩,
    ⟨(st (runs 0x0901 [0x1#32] (live .prove))), 3, by decide, _, rfl, by decide⟩,
    ⟨(st (runs 0x0901 [1#32] (live .carry))), 3, by decide, _, rfl, by decide⟩,
    ⟨(st (runs 0x0902 [] (live .prove))), 3, by decide⟩,
    ⟨(st ({ (live .prove).setReg 0xB050 8#32 with back := { intrusive := true } })), 3, 0xFFFF, .pass, 0#32, 0#32,
      by decide, _, rfl, _, rfl, by decide⟩,
    ⟨(st (rg [(0xB050, 1#32)] (live .carry))), 0, 0xFFFF, .pass, 0#32, 0#32, by decide, _, rfl, _, rfl, by decide⟩,
    ⟨(st (runs 0x0104 [] (live .freeze))), 3, by decide⟩,
    ⟨(st ({ live .freeze with back := { record := [1#32] } })), by decide⟩,
    ⟨(st ({ live .carry with back := { record := [1#32] }, supply := { (live .carry).supply with holdup := false } })),
      by decide⟩⟩

theorem wit_BackgroundTasks :
    (∃ s : State, ∃ l : Fin 96, ∃ k : Int, s.part.backRuns = true ∧ s.part.laneOn l = true ∧
      s.part.bit (laneReg l 0x10) 2 = true ∧ -1 ≤ k ∧ k ≤ 1 ∧
      ((s.part.lane l).trimAt = 0 ∨ (s.part.lane l).trimAt + 2500000 ≤ s.part.clk + 1)) ∧
    (∃ s : State, ∃ l : Fin 96, ∃ k : Int, s.part.backRuns = true ∧ s.part.laneOn l = true ∧
      s.part.bit (laneReg l 0x10) 2 = true ∧ -1 ≤ k ∧ k ≤ 1 ∧ (s.part.lane l).trimAt ≠ 0 ∧
      s.part.clk + 1 < (s.part.lane l).trimAt + 2500000) ∧
    (∃ s : State, s.part.backRuns = true) ∧
    (∃ s : State, s.part.backRuns = true ∧ s.part.bit 0xB004 31 = false) ∧
    (∃ s : State, s.part.backRuns = true ∧ s.part.bit 0xB004 31 = true) ∧
    (∃ s : State, s.part.backRuns = true ∧ s.part.selvState 25 = 0) :=
  ⟨⟨(st ({ (live .carry).setBit (laneReg 95 0) 31 true |>.setBit (laneReg 95 0x10) 2 true with clk := 2500000, lanes := [(95, { trimAt := 1 })] })),
      95, 1, by decide⟩,
    ⟨(st ({ ((live .carry).setBit (laneReg 95 0) 31 true).setBit (laneReg 95 0x10) 2 true with clk := 2500000, lanes := [(95, { trimAt := 2 })] })),
      95, 1, by decide⟩,
    ⟨(st ({ (live .carry).setBit (laneReg 95 0) 31 true |>.setBit (laneReg 95 0x10) 2 true with clk := 2500000, lanes := [(95, { trimAt := 1 })] })),
      by decide⟩,
    ⟨(st ({ (live .carry).setBit (laneReg 95 0) 31 true |>.setBit (laneReg 95 0x10) 2 true with clk := 2500000, lanes := [(95, { trimAt := 1 })] })),
      by decide⟩,
    ⟨(st (rg [(0xB004, 0x80000000#32)] (live .carry))), by decide⟩,
    ⟨(st ({ (live .carry).setBit (laneReg 95 0) 31 true |>.setBit (laneReg 95 0x10) 2 true with clk := 2500000, lanes := [(95, { trimAt := 1 })] })),
      by decide⟩⟩

theorem wit_SlotWriteStores :
    (∃ s : State, s.part.bar2Up = true ∧ s.part.memActive = true) ∧
    (∃ s : State, s.part.bar2Up = true ∧ s.part.memActive = false) ∧
    (∃ s : State, s.part.bar2Up = true) ∧
    (∃ s : State, s.part.bar2Up = false) ∧
    (∃ s : State, s.part.bar2Up = false) :=
  ⟨⟨(st (live .carry)), by decide⟩,
    ⟨(st (moving .inert { asleep with host := { linkUp := true, bar2 := some 0 } })), by decide⟩,
    ⟨(st (moving .inert { asleep with host := { linkUp := true, bar2 := some 0 } })), by decide⟩,
    ⟨(st (moving .inert { asleep with host := { linkUp := true } })), by decide⟩,
    ⟨(st (moving .inert { asleep with host := { linkUp := true } })), by decide⟩⟩

theorem wit_TagLifeCycle :
    (∃ s : State, ∃ t : Fin 1024, (s.part.tag t).st = .queued ∧ (s.part.tag t).checked = false ∧
      s.part.acceptance t = none) ∧
    (∃ s : State, ∃ t : Fin 1024, (s.part.tag t).st = .queued ∧ ∃ st : Nat, ∃ d : Nat,
      (s.part.tag t).checked = false ∧ s.part.acceptance t = some (st, d)) ∧
    (∃ s : State, ∃ t : Fin 1024, (s.part.tag t).st = .queued ∧ (s.part.tag t).checked = true) ∧
    (∃ s : State, ∃ t : Fin 1024, s.part.abortable t = true ∧ fieldOf (s.part.hdr t 4) 23 0 ≠ 0) ∧
    (∃ s : State, ∃ t : Fin 1024, (s.part.tag t).st = .committed ∧ s.part.opcode t = 0x0F01 ∧ ∃ u,
      u = (fieldOf (s.part.par t 0) 9 0) ∧ (u = t.val ∨ (s.part.tag u).st = .free)) ∧
    (∃ s : State, ∃ t : Fin 1024, (s.part.tag t).st = .committed ∧ s.part.opcode t = 0x0F01 ∧ ∃ u,
      u = (fieldOf (s.part.par t 0) 9 0) ∧ u ≠ t.val ∧ (s.part.tag u).st ≠ .free ∧ s.part.abortable u = true) ∧
    (∃ s : State, ∃ t : Fin 1024, (s.part.tag t).st = .committed ∧ s.part.opcode t = 0x0F01 ∧ ∃ u,
      u = (fieldOf (s.part.par t 0) 9 0) ∧ u ≠ t.val ∧ (s.part.tag u).st ≠ .free ∧ s.part.abortable u = false) :=
  ⟨⟨(st (tagIs .queued 3 (0x00030102#32 :: List.replicate 15 0#32) (live .carry))), 3, by decide⟩,
    ⟨(st (tagIs .queued 3 (0x0003FFFF#32 :: List.replicate 15 0#32) (live .carry))), 3, by decide, _, _, by decide, rfl⟩,
    ⟨(st ((live .carry).setTag 1023 { st := .queued, checked := true, hdr := [0x102#32] })), 1023, by decide⟩,
    ⟨(st (tagIs .running 3 (0x00030102#32 :: 0#32 :: 0#32 :: 0#32 :: 1#32 :: []) (live .carry))), 3, by decide⟩,
    ⟨(st (((live .carry).setTag 1023 { st := .committed, hdr := [0xF01#32], params := [7#32] }))), 1023, by decide,
      by decide, _, rfl, by decide⟩,
    ⟨(st (((live .carry).setTag 1023 { st := .committed, hdr := [0xF01#32], params := [7#32] }).setTag 7
      { st := .running, hdr := [0x102#32] })), 1023, by decide, by decide, _, rfl, by decide⟩,
    ⟨(st (((live .carry).setTag 1023 { st := .committed, hdr := [0xF01#32], params := [7#32] }).setTag 7
      { st := .committed, hdr := [0xF01#32], params := [9#32] })), 1023, by decide, by decide, _, rfl, by decide⟩⟩

theorem wit_BasteAndUnpick :
    (∃ q : Part, ∃ ws : List Word, ∃ b : SMap (Word × Word), ∃ sel : SMap (Word × Word),
      basteTriples 0 q.stitch.basted [] ws = .ok (b, sel) ∧ b.length ≤ 65536) ∧
    (∃ (q : Part) (ws : List Word) (b sel : SMap (Word × Word)), basteTriples 0 q.stitch.basted [] ws = .ok (b, sel) ∧
      65536 < b.length) ∧
    (∃ q : Part, ∃ ws : List Word, ∃ k : Nat, ∃ j : Nat, basteTriples 0 q.stitch.basted [] ws = .error (k, j)) ∧
    (∃ s : State, ∃ t : Fin 1024, s.part.runs t 0x0201 = true) ∧
    (∃ s : State, ∃ t : Fin 1024, s.part.runs t 0x0202 = true ∧ ∃ a, a = ((s.part.par64 t 0).toNat) ∧ ∃ n,
      n = ((s.part.par t 2).toNat) ∧ s.part.inScratch a n = false) ∧
    (∃ s : State, ∃ t : Fin 1024, s.part.runs t 0x0202 = true ∧ ∃ a, a = ((s.part.par64 t 0).toNat) ∧ ∃ n,
      n = ((s.part.par t 2).toNat) ∧ ∃ r, r = s.part.memRead a n ∧ s.part.inScratch a n = true ∧
      crc32c r.2 ≠ s.part.par t 3) ∧
    (∃ s : State, ∃ t : Fin 1024, s.part.runs t 0x0202 = true ∧ ∃ a, a = ((s.part.par64 t 0).toNat) ∧ ∃ n,
      n = ((s.part.par t 2).toNat) ∧ ∃ r, r = s.part.memRead a n ∧ s.part.inScratch a n = true ∧
      crc32c r.2 = s.part.par t 3) ∧
    (∃ s : State, ∃ t : Fin 1024, s.part.runs t 0x0401 = true) :=
  ⟨⟨((st (runs 0x0201 [1#32, 0x040#32, 0x1#32, 0x1#32] (live .fit)))).part, [], _, _, rfl, by decide⟩,
    ⟨{ live .fit with stitch := { basted := List.replicate 65537 (0x040, (1#32, 1#32)) } }, [], _, _, rfl,
      by rw [List.length_replicate]; decide⟩,
    ⟨((st (runs 0x0201 [1#32, 0x040#32, 0x1#32, 0x1#32] (live .fit)))).part, [1#32, 0#32, 0#32], _, _, rfl⟩,
    ⟨(st (runs 0x0201 [1#32, 0x040#32, 0x1#32, 0x1#32] (live .fit))), 3, by decide⟩,
    ⟨(st (runs 0x0202 [0#32, 0#32, 12#32, 0#32] (live .carry))), 3, by decide, _, rfl, _, rfl, by decide⟩,
    ⟨(st (runs 0x0202 [0xFFFFF000#32, 0x1F#32, 12#32, 0#32] (live .fit))), 3, by decide, _, rfl, _, rfl, _, rfl, by decide⟩,
    ⟨(st (runs 0x0202 [0xFFFFF000#32, 0x1F#32, 12#32, crc32c (List.replicate 12 0#8)] (live .fit))), 3, by decide, _,
      rfl, _, rfl, _, rfl, by decide⟩,
    ⟨(st (runs 0x0401 [] (live .fit))), 3, by decide⟩⟩

theorem wit_QueriesAndDecisions :
    (∃ s : State, ∃ r : Req, ∃ n : Fin 32, mbReceiver n = some r ∧ s.part.mbFull n = true) ∧
    (∃ s : State, ∃ r : Req, ∃ n : Fin 32, (mbReceiver n ≠ some r ∨ s.part.mbFull n = false)) ∧
    (∃ s : State, ∃ serial : Word, ∃ d : Decision, s.part.md.cur ≠ .freeze ∧
      (s.part.steer.openDecs.find? (fun d => d.serial == serial) = some d) ∧ d.deadline < s.part.clk) ∧
    (∃ s : State, ∃ serial : Word, ∃ d : Decision, s.part.md.cur ≠ .freeze ∧
      (s.part.steer.openDecs.find? (fun d => d.serial == serial) = some d) ∧ s.part.clk ≤ d.deadline) ∧
    (∃ s : State, ∃ t : Fin 1024, s.part.runs t 0x0501 = true ∧ ∃ n : Nat,
      s.part.pathLatency (s.part.par t 0) (s.part.par t 1) = some n) ∧
    (∃ s : State, ∃ t : Fin 1024, s.part.runs t 0x0501 = true ∧
      s.part.pathLatency (s.part.par t 0) (s.part.par t 1) = none) ∧
    (∃ s : State, ∃ t : Fin 1024, s.part.runs t 0x0502 = true) ∧
    (∃ s : State, ∃ t : Fin 1024, s.part.runs t 0x0503 = true ∧ ∃ w,
      w = (s.part.recordWindow (s.part.par t 0).toNat) ∧ ∃ o, o = ((s.part.par64 t 1).toNat) ∧ ∃ n,
      n = ((s.part.par t 3).toNat) ∧ o < w.2 ∧ o + n ≤ w.2) ∧
    (∃ s : State, ∃ t : Fin 1024, s.part.runs t 0x0503 = true ∧ ∃ w,
      w = (s.part.recordWindow (s.part.par t 0).toNat) ∧ ∃ o, o = ((s.part.par64 t 1).toNat) ∧ w.2 ≤ o) ∧
    (∃ s : State, ∃ t : Fin 1024, s.part.runs t 0x0503 = true ∧ ∃ w,
      w = (s.part.recordWindow (s.part.par t 0).toNat) ∧ ∃ o, o = ((s.part.par64 t 1).toNat) ∧ ∃ n,
      n = ((s.part.par t 3).toNat) ∧ o < w.2 ∧ w.2 < o + n) :=
  ⟨⟨(st (rg [(mbReg 0 4, 1#32)] (live .carry))), _, 0, rfl, by decide⟩,
    ⟨(st ({ live .carry with clk := 10, steer := { openDecs := [{ serial := 5#32, func := 1, inst := 0, cand := 1, alts := 3#32, deadline := 9 }] } })),
      .mc0, 0, by decide⟩,
    ⟨(st ({ live .carry with clk := 10, steer := { openDecs := [{ serial := 5#32, func := 1, inst := 0, cand := 1, alts := 3#32, deadline := 9 }] } })),
      5#32, { serial := 5#32, func := 1, inst := 0, cand := 1, alts := 3#32, deadline := 9 }, by decide⟩,
    ⟨(st ({ live .carry with steer := { openDecs := [{ serial := 5#32, func := 1, inst := 0, cand := 1, alts := 3#32, deadline := 9 }] } })),
      5#32, { serial := 5#32, func := 1, inst := 0, cand := 1, alts := 3#32, deadline := 9 }, by decide⟩,
    ⟨(st (runs 0x0501 [0x0#32, 0x1003#32] (rg
      [(lineReg 0 0, 0x81000000#32), (tribReg 3 0, 0x80000000#32), (tribReg 3 0x10, 0x40000003#32), (macReg 3 0, 0x80000000#32)]
      (live .carry)))), 3, by decide, _, rfl⟩,
    ⟨(st (runs 0x0501 [0#32, 0x1003#32] (live .carry))), 3, by decide⟩,
    ⟨(st (runs 0x0502 [] (live .carry))), 3, by decide⟩,
    ⟨(st (runs 0x0503 [0#32, 0xFFFFFFFC#32, 3#32, 4#32] (live .carry))), 3, by decide, _, rfl, _, rfl, _, rfl, by decide⟩,
    ⟨(st (runs 0x0503 [0#32, 0#32, 4#32, 4#32] (live .carry))), 3, by decide, _, rfl, _, rfl, by decide⟩,
    ⟨(st (runs 0x0503 [0#32, 0xFFFFFFFC#32, 3#32, 5#32] (live .carry))), 3, by decide, _, rfl, _, rfl, _, rfl, by decide⟩⟩

theorem wit_HostLinkEvents :
    (∃ s : State, ∃ w : Nat, ∃ g : Nat, ∃ c : Bool, s.part.hostPowered = true ∧ s.part.supply.perstN = true ∧
      s.part.host.linkUp = false ∧ s.part.selvState 27 = 0 ∧ [1, 2, 4, 8].contains w = true ∧
      [8, 16, 32].contains g = true ∧ (w = 8 ∧ g = 32 ∧ c = true)) ∧
    (∃ s : State, ∃ w : Nat, ∃ g : Nat, ∃ c : Bool, s.part.hostPowered = true ∧ s.part.supply.perstN = true ∧
      s.part.host.linkUp = false ∧ s.part.selvState 27 = 0 ∧ [1, 2, 4, 8].contains w = true ∧
      [8, 16, 32].contains g = true ∧ (w ≠ 8 ∨ g ≠ 32 ∨ c = false)) ∧
    (∃ s : State, s.part.host.linkUp = true) ∧
    (∃ s : State, s.part.host.linkUp = false) ∧
    (∃ s : State, s.part.hostPowered = true) ∧
    (∃ s : State, s.part.hostPowered = false) ∧
    (∃ s : State, s.part.hostPowered = true ∧ s.part.host.linkUp = true ∧ s.part.host.cfgLoaded = true) ∧
    (∃ s : State, s.part.hostPowered = true ∧ s.part.host.linkUp = true ∧ s.part.host.cfgLoaded = false ∧
      (s.part.freshValue.getLsbD 0 = true ∨ s.part.freshValue.getLsbD 0 = false)) :=
  ⟨⟨(st ({ live .carry with host := { (live .carry).host with linkUp := false } })), 8, 32, true, by decide⟩,
    ⟨(st ({ live .carry with host := { (live .carry).host with linkUp := false } })), 8, 32, false, by decide⟩,
    ⟨(st (live .carry)), by decide⟩,
    ⟨(st ({ live .carry with host := { (live .carry).host with linkUp := false } })), by decide⟩,
    ⟨(st ({ live .carry with host := { (live .carry).host with linkUp := false } })), by decide⟩,
    ⟨State.reset, by decide⟩,
    ⟨(st (live .carry)), by decide⟩,
    ⟨st ({ live .carry with host := { (live .carry).host with cfgLoaded := false } }), by decide, by decide,
      by decide, Bool.eq_false_or_eq_true _⟩⟩

theorem wit_MsixMessages :
    (∃ s : State, s.part.hostPowered = true ∧ s.part.host.linkUp = true ∧ s.part.host.msixEn = false) ∧
    (∃ s : State, s.part.hostPowered = true ∧ s.part.host.linkUp = true ∧ s.part.host.msixEn = true) ∧
    (∃ s : State, s.part.bar4Up = true) ∧
    (∃ s : State, s.part.bar4Up = true) ∧
    (∃ s : State, s.part.bar4Up = true) ∧
    (∃ s : State, s.part.bar4Up = false) ∧
    (∃ p : Part, ∃ v : Fin 64, p.host.pba.getLsbD v = true ∧ p.host.msixEn = true ∧ p.vectorShut v = false) ∧
    (∃ p : Part, ∃ v : Fin 64, (p.host.pba.getLsbD v = false ∨ p.host.msixEn = false ∨ p.vectorShut v = true)) ∧
    (∃ s : State, ∃ v : Fin 64, s.part.host.holdOpen.getLsbD v = true) ∧
    (∃ s : State, ∃ v : Fin 64, s.part.host.holdOpen.getLsbD v = false) :=
  ⟨⟨(st ({ live .carry with host := { (live .carry).host with holdOpen := 0x8000000000000000#64 } })), by decide⟩,
    ⟨(st ({ live .carry with host := { (live .carry).host with pba := 8#64, msixEn := true, programmed := 8#64, masked := 0#64 } })),
      by decide⟩,
    ⟨(st ({ live .carry with host := { (live .carry).host with holdOpen := 0x8000000000000000#64 } })), by decide⟩,
    ⟨(st ({ live .carry with host := { (live .carry).host with holdOpen := 0x8000000000000000#64 } })), by decide⟩,
    ⟨(st ({ live .carry with host := { (live .carry).host with holdOpen := 0x8000000000000000#64 } })), by decide⟩,
    ⟨State.reset, by decide⟩,
    ⟨((st ({ live .carry with host := { (live .carry).host with pba := 8#64, msixEn := true, programmed := 8#64, masked := 0#64 } }))).part,
      3, by decide⟩,
    ⟨((st (live .carry))).part, 63, by decide⟩,
    ⟨(st ({ live .carry with host := { (live .carry).host with holdOpen := 0x8000000000000000#64 } })), 63, by decide⟩,
    ⟨(st ({ live .carry with host := { (live .carry).host with holdOpen := 0x8000000000000000#64 } })), 0, by decide⟩⟩

theorem wit_DecoderIdeAndDoe :
    (∃ s : State, ∃ size : Nat, ∃ ways : Nat, s.part.bar0Up = true ∧
      (s.part.host.hdm.committed && s.part.host.hdm.locked) = false ∧ ways = 1 ∧ size ≤ 128 * 2 ^ 30 ∧
      size % (256 * 2 ^ 20) = 0) ∧
    (∃ s : State, ∃ size : Nat, ∃ ways : Nat, s.part.bar0Up = true ∧
      (s.part.host.hdm.committed && s.part.host.hdm.locked) = false ∧
      (ways ≠ 1 ∨ 128 * 2 ^ 30 < size ∨ size % (256 * 2 ^ 20) ≠ 0)) ∧
    (∃ s : State, s.part.host.sessions ≠ 0 ∧ s.part.coresAway = false ∧ s.part.spdmReady = true) ∧
    (∃ s : State, s.part.host.ideIo.keyed = true) ∧
    (∃ s : State, s.part.host.ideMem.keyed = true) ∧
    (∃ s : State, s.part.spdmReady = true ∧ s.part.coresAway = false ∧ ∃ k : Nat, ∃ w : Word,
      [0x00000001#32, 0x00010001#32, 0x00020001#32, 0x00021E98#32][k]? = some w) ∧
    (∃ s : State, s.part.spdmReady = true ∧ s.part.coresAway = false ∧ ∃ k : Nat, 4 ≤ k) ∧
    (∃ s : State, s.part.spdmReady = true ∧ s.part.coresAway = false ∧ ∃ w : Word,
      w ∈ [0x00000001#32, 0x00010001#32, 0x00020001#32, 0x00021E98#32]) ∧
    (∃ s : State, s.part.spdmReady = true ∧ s.part.coresAway = false ∧ ∃ w : Word,
      w ∉ [0x00000001#32, 0x00010001#32, 0x00020001#32, 0x00021E98#32]) ∧
    (∃ s : State, s.part.spdmReady = true ∧ s.part.coresAway = false ∧ ∃ e : Nat, e < 4) ∧
    (∃ s : State, s.part.spdmReady = true ∧ s.part.coresAway = false ∧ ∃ e : Nat, 4 ≤ e) ∧
    (∃ s : State, s.part.spdmReady = true ∧ s.part.coresAway = true) ∧
    (∃ s : State, s.part.spdmReady = true ∧ s.part.coresAway = true) :=
  ⟨⟨(st (live .carry)), 128 * 2 ^ 30, 1, by decide⟩,
    ⟨(st (live .carry)), 128 * 2 ^ 30, 2, by decide⟩,
    ⟨(st ({ live .carry with host := { (live .carry).host with sessions := 1 } })), by decide⟩,
    ⟨(st ({ live .carry with host := { (live .carry).host with ideIo := { keyed := true } } })), by decide⟩,
    ⟨(st ({ live .carry with host := { (live .carry).host with ideMem := { keyed := true } } })), by decide⟩,
    ⟨(st (live .carry)), by decide, by decide, 0, _, rfl⟩,
    ⟨(st (live .carry)), by decide, by decide, 5, by decide⟩,
    ⟨(st (live .carry)), by decide, by decide, 1#32, by decide⟩,
    ⟨(st (live .carry)), by decide, by decide, 0#32, by decide⟩,
    ⟨(st (live .carry)), by decide, by decide, 3, by decide⟩,
    ⟨(st (live .carry)), by decide, by decide, 4, by decide⟩,
    ⟨(st (live .renew)), by decide⟩,
    ⟨(st (live .renew)), by decide⟩⟩

theorem wit_MediaMailbox :
    (∃ s : State, s.part.bar0Up = true ∧ s.part.coresAway = false) ∧
    (∃ s : State, s.part.bar0Up = true ∧ s.part.coresAway = false) ∧
    (∃ s : State, s.part.bar0Up = true ∧ s.part.coresAway = false) ∧
    (∃ s : State, s.part.bar0Up = true ∧ s.part.coresAway = false ∧ ∃ v : Nat, v ≠ 10) ∧
    (∃ s : State, s.part.bar0Up = true ∧ s.part.coresAway = false) ∧
    (∃ s : State, s.part.bar0Up = true ∧ s.part.coresAway = false) ∧
    (∃ s : State, s.part.bar0Up = true ∧ s.part.coresAway = false) ∧
    (∃ s : State, s.part.bar0Up = true ∧ s.part.coresAway = false) ∧
    (∃ (s : State) (c : Instr), s.part.bar0Up = true ∧ s.part.coresAway = true ∧
      c ∈ [Instr.getEventRecords, .getEventInterruptPolicy, .getTimestamp, .getSupportedLogs, .identifyMemoryDevice, .getPartitionInfo, .getHealthInfo, .getPoisonList])
      :=
  ⟨⟨(st (live .carry)), by decide⟩,
    ⟨(st (live .carry)), by decide⟩,
    ⟨(st (live .carry)), by decide⟩,
    ⟨(st (live .carry)), by decide, by decide, 0, by decide⟩,
    ⟨(st (live .carry)), by decide⟩,
    ⟨(st (live .carry)), by decide⟩,
    ⟨(st (live .carry)), by decide⟩,
    ⟨(st (live .carry)), by decide⟩,
    ⟨st (live .renew), .getPoisonList, by decide, by decide, by simp⟩⟩

theorem wit_HostFaultAndSramScrub :
    (∃ s : State, s.part.md.cur ≠ .dormant ∧ s.part.md.cur ≠ .freeze) ∧
    (∃ s : State, s.part.md.cur = .freeze) ∧
    (∃ s : State, s.part.backRuns = true) :=
  ⟨⟨(st (live .carry)), by decide⟩,
    ⟨(st (live .freeze)), by decide⟩,
    ⟨(st (live .carry)), by decide⟩⟩

theorem wit_D3hotDisables :
    (∃ s : State, s.part.hostPowered = true ∧ s.part.host.linkUp = true) ∧
    (∃ p : Part, p.host.d3hot = true) ∧
    (∃ p : Part, p.host.d3hot = true) :=
  ⟨⟨(st (live .carry)), by decide⟩,
    ⟨{ host := { d3hot := true } }, by decide⟩,
    ⟨{ host := { d3hot := true } }, by decide⟩⟩

theorem wit_StitchStages :
    (∃ s : State, ∃ t : Fin 1024, s.part.runs t 0x0301 = true ∧ s.part.waits t = false ∧
      s.part.stitch.waiting.isSome = true) ∧
    (∃ s : State, ∃ t : Fin 1024, s.part.runs t 0x0301 = true ∧ s.part.waits t = false ∧ ∃ set,
      set = s.part.stitch.basted ∧ s.part.stitch.waiting = none ∧ set = []) ∧
    (∃ s : State, ∃ t : Fin 1024, s.part.runs t 0x0301 = true ∧ s.part.waits t = false ∧ ∃ set,
      set = s.part.stitch.basted ∧ s.part.stitch.waiting = none ∧ set ≠ [] ∧
      s.part.journalFull (stitchBlocks set.length) = true) ∧
    (∃ s : State, ∃ t : Fin 1024, s.part.runs t 0x0301 = true ∧ s.part.waits t = false ∧ ∃ set,
      set = s.part.stitch.basted ∧ ∃ kind, kind = (fieldOf (s.part.par t 0) 2 0) ∧ ∃ port,
      port = (fieldOf (s.part.par t 0) 12 8) ∧ ∃ faults,
      faults = (s.part.stitchFaults set ++ failIf (!s.part.boundaryOk kind port) (paramFail 0)) ∧
      s.part.stitch.waiting = none ∧ set ≠ [] ∧ s.part.journalFull (stitchBlocks set.length) = false ∧
      ∃ f : StitchFault, firstFault faults = some f) ∧
    (∃ s : State, ∃ t : Fin 1024, s.part.runs t 0x0301 = true ∧ s.part.waits t = false ∧ ∃ set,
      set = s.part.stitch.basted ∧ ∃ kind, kind = (fieldOf (s.part.par t 0) 2 0) ∧ ∃ port,
      port = (fieldOf (s.part.par t 0) 12 8) ∧ ∃ faults,
      faults = (s.part.stitchFaults set ++ failIf (!s.part.boundaryOk kind port) (paramFail 0)) ∧
      s.part.stitch.waiting = none ∧ set ≠ [] ∧ s.part.journalFull (stitchBlocks set.length) = false ∧
      firstFault faults = none) ∧
    (∃ s : State, ∃ w : Waiting, s.part.stitch.waiting = some w ∧ ∃ late, late = (s.part.clk < w.since + 25000) ∧
      (w.kind = 0 ∨ (w.kind = 3 ∧ w.time ≤ s.part.now) ∨ ((w.kind = 1 ∨ w.kind = 4) ∧ ¬ late) ∨ (w.kind = 2 ∧ ¬ late ∧
      (s.part.port w.port).txMfas = 0#8))) ∧
    (∃ s : State, ∃ w : Waiting, s.part.stitch.waiting = some w ∧ ∃ late, late = (s.part.clk < w.since + 25000) ∧
      ((w.kind = 3 ∧ s.part.now < w.time) ∨ ((w.kind = 1 ∨ w.kind = 2 ∨ w.kind = 4) ∧ late) ∨ (w.kind = 2 ∧
      (s.part.port w.port).txMfas ≠ 0#8))) ∧
    (∃ s : State, s.part.supply.holdup = true ∧ s.part.stitch.unwritten = true) :=
  ⟨⟨(st (runs 0x0301 [0#32]
      { live .fit with regs := [(0xB020, 0x06400500#32)], stitch := { waiting := some { tag := 4, kind := 3, port := 0, time := 0, set_ := [(0x040, (1#32, 1#32))], since := 0 } } })),
      3, by decide⟩,
    ⟨(st (runs 0x0301 [0#32] (live .fit))), 3, by decide, by decide, _, rfl, by decide⟩,
    ⟨(st (runs 0x0301 [0#32]
      ({ live .fit with stitch := { basted := [(0x040, (1#32, 1#32))] }, journal := { writes := [(0, 4000)] } }))), 3,
      by decide, by decide, _, rfl, by decide⟩,
    ⟨(st (runs 0x0301 [1#32]
      { live .fit with regs := [(0xB020, 0x06400500#32)], stitch := { basted := [(0x040, (1#32, 1#32))] } })), 3,
      by decide, by decide, _, rfl, _, rfl, _, rfl, _, rfl, by decide, by decide, by decide, _, rfl⟩,
    ⟨(st (runs 0x0301 [0#32]
      { live .fit with regs := [(0xB020, 0x06400500#32)], stitch := { basted := [(0x040, (1#32, 1#32))] } })), 3,
      by decide, by decide, _, rfl, _, rfl, _, rfl, _, rfl, by decide⟩,
    ⟨(st ({ live .carry with clk := 25000, stitch := { waiting := some { tag := 3, kind := 2, port := 23, time := 0, set_ := [(0x040, (1#32, 1#32))], since := 0 } } })),
      _, rfl, _, rfl, by decide⟩,
    ⟨(st ({ live .carry with clk := 24999, stitch := { waiting := some { tag := 3, kind := 4, port := 23, time := 0, set_ := [(0x040, (1#32, 1#32))], since := 0 } } })),
      _, rfl, _, rfl, by decide⟩,
    ⟨(st ({ live .fit with stitch := { unwritten := true } })), by decide⟩⟩

theorem wit_FirmwareAndKeys :
    (∃ s : State, ∃ t : Fin 1024, s.part.runs t 0x0B01 = true ∧ ∃ a, a = ((s.part.par64 t 0).toNat) ∧ ∃ len,
      len = ((s.part.par t 2).toNat) ∧ s.part.inScratch a len = false) ∧
    (∃ s : State, ∃ t : Fin 1024, s.part.runs t 0x0B01 = true ∧ ∃ a, a = ((s.part.par64 t 0).toNat) ∧ ∃ len,
      len = ((s.part.par t 2).toNat) ∧ s.part.inScratch a len = true) ∧
    (∃ s : State, ∃ t : Fin 1024, s.part.runs t 0x0B02 = true) ∧
    (∃ s : State, ∃ t : Fin 1024, s.part.runs t 0x0C02 = true ∧ s.part.slotLocked (fieldOf (s.part.par t 0) 7 0) = false) ∧
    (∃ s : State, ∃ t : Fin 1024, s.part.runs t 0x0C02 = true ∧ s.part.slotLocked (fieldOf (s.part.par t 0) 7 0) = true) ∧
    (∃ s : State, ∃ t : Fin 1024, s.part.runs t 0x0C03 = true ∧ s.part.bit 0xC010 2 = false) ∧
    (∃ s : State, ∃ t : Fin 1024, s.part.runs t 0x0C03 = true ∧ s.part.bit 0xC010 2 = true) ∧
    (∃ s : State, ∃ t : Fin 1024, s.part.runs t 0x0C04 = true ∧ s.part.par t 0 = 0x5A45524F#32) ∧
    (∃ s : State, ∃ t : Fin 1024, s.part.runs t 0x0C04 = true ∧ s.part.par t 0 ≠ 0x5A45524F#32) :=
  ⟨⟨(st (runs 0x0B01 [0#32, 0#32, 0#32] (live .carry))), 3, by decide, _, rfl, _, rfl, by decide⟩,
    ⟨(st (runs 0x0B01 [0#32, 0x10#32, 4096#32]
      ({ live .fit with dram := Memory.writeWords [] 0x1000000000 [0x4D425759#32, 1#32, 7#32, 4096#32, 0xB0#32] }))),
      3, by decide, _, rfl, _, rfl, by decide⟩,
    ⟨(st (runs 0x0B02 [] (live .fit))), 3, by decide⟩,
    ⟨(st (runs 0x0C02 [255#32] (live .fit))), 3, by decide⟩,
    ⟨(st (runs 0x0C02 [255#32] (rg [(0xC010, 2#32)] (live .fit)))), 3, by decide⟩,
    ⟨(st (runs 0x0C03 [1#32] (live .fit))), 3, by decide⟩,
    ⟨(st (runs 0x0C03 [1#32] (rg [(0xC010, 4#32)] (live .carry)))), 3, by decide⟩,
    ⟨(st (runs 0x0C04 [0x5A45524F#32] (live .fit))), 3, by decide⟩,
    ⟨(st (runs 0x0C04 [0#32] (live .carry))), 3, by decide⟩⟩

theorem wit_KeyInstallAndSpdm :
    (∃ s : State, ∃ t : Fin 1024, s.part.runs t 0x0C01 = true ∧ ∃ kind, kind = (fieldOf (s.part.par t 1) 7 0) ∧
      ((kind ≠ 1 ∧ kind ≠ 2) ∨ fieldOf (s.part.par t 1) 15 8 ≠ 8 ∨ fieldOf (s.part.par t 1) 31 16 ≠ 0)) ∧
    (∃ s : State, ∃ t : Fin 1024, s.part.runs t 0x0C01 = true ∧ ∃ kind, kind = (fieldOf (s.part.par t 1) 7 0) ∧ ∃ ob,
      ob = (((s.part.tag t).params.drop 1).take 11) ∧ (kind = 1 ∨ kind = 2) ∧ fieldOf (s.part.par t 1) 15 8 = 8 ∧
      fieldOf (s.part.par t 1) 31 16 = 0 ∧ crc32c (bytesOfWords (ob.take 10)) ≠ s.part.par t 11) ∧
    (∃ s : State, ∃ t : Fin 1024, s.part.runs t 0x0C01 = true ∧ ∃ n, n = (fieldOf (s.part.par t 0) 7 0) ∧ ∃ kind,
      kind = (fieldOf (s.part.par t 1) 7 0) ∧ ∃ ob, ob = (((s.part.tag t).params.drop 1).take 11) ∧
      (kind = 1 ∨ kind = 2) ∧ fieldOf (s.part.par t 1) 15 8 = 8 ∧ fieldOf (s.part.par t 1) 31 16 = 0 ∧
      crc32c (bytesOfWords (ob.take 10)) = s.part.par t 11 ∧
      (s.part.slotLocked n = true ∨ (s.part.bit 0xC010 3 = true ∧
      (s.part.host.ideIo.insecure = true ∨ s.part.host.ideIo.keyed = false)))) ∧
    (∃ s : State, ∃ t : Fin 1024, s.part.runs t 0x0C01 = true ∧ ∃ n, n = (fieldOf (s.part.par t 0) 7 0) ∧ ∃ kind,
      kind = (fieldOf (s.part.par t 1) 7 0) ∧ ∃ ob, ob = (((s.part.tag t).params.drop 1).take 11) ∧
      (kind = 1 ∨ kind = 2) ∧ fieldOf (s.part.par t 1) 15 8 = 8 ∧ fieldOf (s.part.par t 1) 31 16 = 0 ∧
      crc32c (bytesOfWords (ob.take 10)) = s.part.par t 11 ∧ s.part.slotLocked n = false ∧
      (s.part.bit 0xC010 3 = false ∨ (s.part.host.ideIo.insecure = false ∧ s.part.host.ideIo.keyed = true))) ∧
    (∃ s : State, s.part.host.linkUp = true ∧ s.part.md.cur ≠ .dormant ∧ s.part.coresAway = false) ∧
    (∃ s : State, s.part.host.linkUp = true ∧ s.part.md.cur ≠ .dormant ∧ s.part.coresAway = false ∧ ∃ k : Fin 8, k ≠ 0) ∧
    (∃ s : State, s.part.host.linkUp = true ∧ s.part.md.cur ≠ .dormant ∧ s.part.coresAway = false) ∧
    (∃ s : State, s.part.host.linkUp = true ∧ s.part.md.cur ≠ .dormant ∧ s.part.coresAway = false ∧ ∃ k : Fin 8, k ≠ 0) ∧
    (∃ s : State, s.part.host.linkUp = true ∧ s.part.md.cur ≠ .dormant ∧ s.part.coresAway = false) ∧
    (∃ s : State, s.part.host.linkUp = true ∧ s.part.md.cur ≠ .dormant ∧ s.part.coresAway = false ∧
      s.part.host.sessions < 2) ∧
    (∃ s : State, s.part.host.linkUp = true ∧ s.part.md.cur ≠ .dormant ∧ s.part.coresAway = false ∧
      2 ≤ s.part.host.sessions) ∧
    (∃ s : State, s.part.host.linkUp = true ∧ s.part.md.cur ≠ .dormant ∧ s.part.coresAway = true) ∧
    (∃ s : State, s.part.host.linkUp = true ∧ s.part.md.cur ≠ .dormant ∧ s.part.coresAway = true) ∧
    (∃ s : State, s.part.host.linkUp = true ∧ s.part.md.cur ≠ .dormant ∧ s.part.coresAway = true) ∧
    (∃ s : State, s.part.host.linkUp = true ∧ s.part.md.cur ≠ .dormant ∧ s.part.coresAway = true) :=
  ⟨⟨(st (runs 0x0C01 ([255#32, 0x0803#32] ++ List.replicate 9 0#32 ++
      [crc32c (bytesOfWords (0x0801#32 :: List.replicate 9 0#32))]) (live .carry))), 3, by decide, _, rfl, by decide⟩,
    ⟨(st (runs 0x0C01 ([255#32, 0x0801#32] ++ List.replicate 9 0#32 ++ [0#32]) (live .carry))), 3, by decide, _, rfl,
      _, rfl, by decide⟩,
    ⟨(st (runs 0x0C01 ([255#32, 0x0801#32] ++ List.replicate 9 0#32 ++
      [crc32c (bytesOfWords (0x0801#32 :: List.replicate 9 0#32))]) (rg [(0xC010, 8#32)] (live .carry)))), 3,
      by decide, _, rfl, _, rfl, _, rfl, by decide⟩,
    ⟨(st (runs 0x0C01 ([255#32, 0x0801#32] ++ List.replicate 9 0#32 ++
      [crc32c (bytesOfWords (0x0801#32 :: List.replicate 9 0#32))]) (live .fit))), 3, by decide, _, rfl, _, rfl, _,
      rfl, by decide⟩,
    ⟨(st (runs 0x0C01 ([255#32, 0x0803#32] ++ List.replicate 9 0#32 ++
      [crc32c (bytesOfWords (0x0801#32 :: List.replicate 9 0#32))]) (live .carry))), by decide⟩,
    ⟨(st (runs 0x0C01 ([255#32, 0x0803#32] ++ List.replicate 9 0#32 ++
      [crc32c (bytesOfWords (0x0801#32 :: List.replicate 9 0#32))]) (live .carry))), by decide, by decide, by decide,
      7, by decide⟩,
    ⟨(st (runs 0x0C01 ([255#32, 0x0803#32] ++ List.replicate 9 0#32 ++
      [crc32c (bytesOfWords (0x0801#32 :: List.replicate 9 0#32))]) (live .carry))), by decide⟩,
    ⟨(st (runs 0x0C01 ([255#32, 0x0803#32] ++ List.replicate 9 0#32 ++
      [crc32c (bytesOfWords (0x0801#32 :: List.replicate 9 0#32))]) (live .carry))), by decide, by decide, by decide,
      7, by decide⟩,
    ⟨(st (runs 0x0C01 ([255#32, 0x0803#32] ++ List.replicate 9 0#32 ++
      [crc32c (bytesOfWords (0x0801#32 :: List.replicate 9 0#32))]) (live .carry))), by decide⟩,
    ⟨(st (runs 0x0C01 ([255#32, 0x0803#32] ++ List.replicate 9 0#32 ++
      [crc32c (bytesOfWords (0x0801#32 :: List.replicate 9 0#32))]) (live .carry))), by decide⟩,
    ⟨(st ({ live .carry with host := { (live .carry).host with sessions := 2 } })), by decide⟩,
    ⟨(st (live .renew)), by decide⟩,
    ⟨(st (live .renew)), by decide⟩,
    ⟨(st (live .renew)), by decide⟩,
    ⟨(st (live .renew)), by decide⟩⟩

theorem wit_SelvedgesAndLedgers :
    (∃ s : State, ∃ i : Fin 29, s.part.md.cur ≠ .dormant ∧ s.part.selvState i = 0) ∧
    (∃ s : State, ∃ i : Fin 29, s.part.selvState i = 1) ∧
    (∃ s : State, ∃ i : Fin 29, s.part.md.cur ≠ .dormant ∧ s.part.selvState i = 1) ∧
    (∃ s : State, ∃ i : Fin 29, s.part.md.cur ≠ .dormant ∧ s.part.selvState i = 0) ∧
    (∃ s : State, ∃ i : Fin 29, s.part.selvState i = 2 ∧ s.part.back.heldFenced.contains i.val = false) ∧
    (∃ s : State, ∃ i : Fin 29, s.part.back.heldFenced.contains i.val = true) ∧
    (∃ s : State, ∃ i : Fin 29, s.part.selvState i = 3) ∧
    (∃ s : State, ∃ t : Fin 1024, ∃ ids : List Nat, s.part.runs t 0x0E01 = true ∧
      namedLedgers (fieldOf (s.part.par t 0) 15 0) = some ids) ∧
    (∃ s : State, ∃ t : Fin 1024, namedLedgers (fieldOf (s.part.par t 0) 15 0) = none ∧ s.part.runs t 0x0E01 = true) ∧
    (∃ s : State, ∃ t : Fin 1024, namedLedgers (fieldOf (s.part.par t 0) 15 0) = none ∧ s.part.runs t 0x0E02 = true) ∧
    (∃ s : State, ∃ t : Fin 1024, namedLedgers (fieldOf (s.part.par t 0) 15 0) = none ∧
      (s.part.opcode t = 0x0E01 ∨ s.part.opcode t = 0x0E02)) ∧
    (∃ s : State, ∃ t : Fin 1024, ∃ ids : List Nat, s.part.runs t 0x0E02 = true ∧
      namedLedgers (fieldOf (s.part.par t 0) 15 0) = some ids) ∧
    (∃ s : State, ∃ t : Fin 1024, s.part.runs t 0x0E03 = true ∧ s.part.ledger.ckptEnd ≤ s.part.clk) ∧
    (∃ s : State, ∃ t : Fin 1024, s.part.runs t 0x0E03 = true ∧ s.part.clk < s.part.ledger.ckptEnd) ∧
    (∃ s : State, s.part.md.cur ≠ .dormant) ∧
    (∃ s : State, s.part.md.cur = .dormant) :=
  ⟨⟨(st (runs 0x0E02 [0xFFFE#32] (live .carry))), 28, by decide⟩,
    ⟨(st (rg [(selvReg 3 0, 1#32)] (live .carry))), 3, by decide⟩,
    ⟨(st (rg [(selvReg 3 0, 1#32)] (live .carry))), 3, by decide⟩,
    ⟨(st (runs 0x0E02 [0xFFFE#32] (live .carry))), 28, by decide⟩,
    ⟨(st (rg [(selvReg 3 0, 2#32)] (live .carry))), 3, by decide⟩,
    ⟨(st ({ live .carry with back := { heldFenced := [3] } })), 3, by decide⟩,
    ⟨(st (rg [(selvReg 3 0, 3#32)] (live .carry))), 3, by decide⟩,
    ⟨(st (runs 0x0E01 [0#32] (live .carry))), 3, _, by decide, rfl⟩,
    ⟨(st (runs 0x0E01 [0xFFFE#32] (live .carry))), 3, by decide⟩,
    ⟨(st (runs 0x0E02 [0xFFFE#32] (live .carry))), 3, by decide⟩,
    ⟨(st (runs 0x0E02 [0xFFFE#32] (live .carry))), 3, by decide⟩,
    ⟨(st (runs 0x0E02 [0#32] (live .carry))), 3, _, by decide, rfl⟩,
    ⟨(st (runs 0x0E03 [] (live .carry))), 3, by decide⟩,
    ⟨(st (runs 0x0E03 [] ({ live .carry with ledger := { ckptEnd := 1 } }))), 3, by decide⟩,
    ⟨(st (runs 0x0E02 [0xFFFE#32] (live .carry))), by decide⟩,
    ⟨State.reset, by decide⟩⟩

theorem wit_DomainNotesAndCommands :
    (∃ s : State, ∃ bs : List Byte, s.part.md.cur ≠ .dormant ∧ ∃ r : Fin 8, ∃ e : Nat × Note,
      (s.part.domain.inbox.find? (fun x => x.1 == r.val && x.2.bytes == bs) = some e)) ∧
    (∃ s : State, ∃ bs : List Byte, ∃ cut : Bool, s.part.md.cur ≠ .dormant ∧ ∃ q : Fin 24, s.part.linkDown q = false ∧
      s.part.portState q = 2 ∧ ∃ n : Note, cut = false ∧ gccNote bs = some n) ∧
    (∃ s : State, ∃ bs : List Byte, ∃ cut : Bool, s.part.md.cur ≠ .dormant ∧ ∃ q : Fin 24, s.part.linkDown q = false ∧
      s.part.portState q = 2 ∧ (cut = true ∨ gccNote bs = none)) ∧
    (∃ s : State, ∃ bs : List Byte, s.part.md.cur ≠ .dormant ∧ ∃ n : Note,
      (s.part.domain.self_.find? (fun n => n.bytes == bs) = some n)) ∧
    (∃ s : State, ∃ n : Note, s.part.md.cur ≠ .dormant ∧ s.part.coresAway = false ∧ s.part.domain.reqs.contains n = true) ∧
    (∃ s : State, ∃ n : Note, s.part.md.cur ≠ .dormant ∧ s.part.coresAway = false ∧ s.part.domain.reqs.contains n = false) ∧
    (∃ p : Part, ∃ n : Note, ∃ w, w = (fun i => (netWordsOf n.body).getD i 0#32) ∧ ∃ ws : List Word,
      p.fetchObject (w 1).toNat = some ws) ∧
    (∃ p : Part, ∃ n : Note, ∃ w, w = (fun i => (netWordsOf n.body).getD i 0#32) ∧ p.fetchObject (w 1).toNat = none) ∧
    (∃ s : State, ∃ q : Fin 24, ∃ body : List Word, s.part.md.cur ≠ .freeze ∧ s.part.portOn q = true ∧
      s.part.bit (0x79000 + 32 * q.val) 31 = true ∧ s.part.runMode.carries = true ∧ s.part.mapCapBody q = some body) ∧
    (∃ s : State, ∃ l : NoteLink, l.code ≠ 63 ∧ s.part.linkDown l.code = true ∧
      (s.part.domain.routes.any (fun e => onPrimary l.code e.2 && !e.2.getLsbD 29) = true)) ∧
    (∃ s : State, ∃ l : NoteLink, l.code ≠ 63 ∧ s.part.linkDown l.code = false) ∧
    (∃ s : State, ∃ t : Fin 1024, s.part.runs t 0x0D01 = true ∧ ∃ r,
      r = (s.part.originate .general (bitAt (s.part.par t 0) 16) ((s.part.par t 0).setWidth 16) (netWords ((s.part.tag
      t).params.drop 1))) ∧ (r.2 = true ∨ s.part.field 0xE004 7 0 ≤ 1)) ∧
    (∃ s : State, ∃ t : Fin 1024, s.part.runs t 0x0D01 = true ∧ ∃ r,
      r = (s.part.originate .general (bitAt (s.part.par t 0) 16) ((s.part.par t 0).setWidth 16) (netWords ((s.part.tag
      t).params.drop 1))) ∧ r.2 = false ∧ 1 < s.part.field 0xE004 7 0) ∧
    (∃ p : Part, ∃ t : Nat, p.opcode t = 0x0D01 ∧ p.par t 0 &&& ~~~0x1FFFF#32 = 0#32 ∧ 257 < (p.tag t).params.length) ∧
    (∃ s : State, ∃ t : Fin 1024, s.part.runs t 0x0D02 = true ∧ ∃ first, first = ((s.part.par t 0).toNat) ∧ ∃ n,
      n = ((s.part.par t 1).toNat) ∧ 65536 < first + n) ∧
    (∃ s : State, ∃ t : Fin 1024, s.part.runs t 0x0D02 = true ∧ ∃ first, first = ((s.part.par t 0).toNat) ∧ ∃ n,
      n = ((s.part.par t 1).toNat) ∧ ∃ ws, ws = (((s.part.tag t).params.drop 2).take n) ∧ ∃ e : Word × Nat,
      first + n ≤ 65536 ∧ ((ws.zipIdx).find? (fun e => routeBad e.1) = some e)) ∧
    (∃ s : State, ∃ t : Fin 1024, s.part.runs t 0x0D02 = true ∧ ∃ first, first = ((s.part.par t 0).toNat) ∧ ∃ n,
      n = ((s.part.par t 1).toNat) ∧ ∃ ws, ws = (((s.part.tag t).params.drop 2).take n) ∧ first + n ≤ 65536 ∧
      ((ws.zipIdx).find? (fun e => routeBad e.1) = none)) ∧
    (∃ s : State, ∃ t : Fin 1024, s.part.runs t 0x0D03 = true ∧
      (SMap.get (fun _ => none) s.part.domain.fetches t.val = none)) ∧
    (∃ s : State, ∃ t : Fin 1024, ∃ w : Word, (SMap.get (fun _ => none) s.part.domain.fetches t.val = some w) ∧
      ((s.part.tag t).st = .committed ∨ (s.part.tag t).st = .running) ∧ s.part.opcode t = 0x0D03) :=
  ⟨⟨(st ({ live .carry with domain := { inbox := [(7, note 1#16 [])] } })), (note 1#16 []).bytes, by decide, 7, _, rfl⟩,
    ⟨(st (rg [(lineReg 23 0, 0x81000000#32), (lineReg 23 0x10, 2#32), (0x79000 + 32 * 23, 0x80000000#32)] (live
      .carry))), ((gccBytes (note 1#16 [])).drop 1).dropLast, false, by decide, 23, by decide, by decide, _,
      by decide, rfl⟩,
    ⟨(st (rg [(lineReg 23 0, 0x81000000#32), (lineReg 23 0x10, 2#32), (0x79000 + 32 * 23, 0x80000000#32)] (live
      .carry))), (note 1#16 []).bytes, false, by decide, 23, by decide⟩,
    ⟨(st ({ live .carry with domain := { self_ := [note 1#16 []] } })), (note 1#16 []).bytes, by decide, note 1#16 [],
      by decide⟩,
    ⟨(st ({ live .carry with domain := { reqs := [note 1#16 []] } })), note 1#16 [], by decide⟩,
    ⟨(st ({ live .carry with domain := { inbox := [(7, note 1#16 [])] } })),
      note 5#16 [0#8, 0#8, 0#8, 9#8, 0#8, 1#8, 0#8, 23#8], by decide⟩,
    ⟨live .carry, note 5#16 [0#8, 0#8, 0#8, 9#8, 0#8, 1#8, 0#8, 23#8], _, rfl, _, rfl⟩,
    ⟨live .carry, note 1#16 [], _, rfl, by decide⟩,
    ⟨(st (rg [(lineReg 3 0, 0x81000000#32), (0x79000 + 32 * 3, 0x80000000#32), (tribReg 3 0, 0x80000003#32)] (live
      .carry))), 3, _, by decide, by decide, by decide, by decide, rfl⟩,
    ⟨(st ({ live .carry with domain := { routes := [(7, 0x80000003#32)] } })), .port 3, by decide⟩,
    ⟨(st (rg [(lineReg 3 0, 0x81000000#32), (0x79000 + 32 * 3, 0x80000000#32), (tribReg 3 0, 0x80000003#32)] (live
      .carry))), .port 3, by decide⟩,
    ⟨(st (runs 0x0D01 [0x5#32, 1#32] (rg [(0xE004, 1#32)] (live .carry)))), 3, by decide, _, rfl, by decide⟩,
    ⟨(st (runs 0x0D01 [0x5#32, 1#32] (rg [(0xE004, 2#32)] (live .carry)))), 3, by decide, _, rfl, by decide⟩,
    ⟨runs 0x0D01 (0x5#32 :: List.replicate 257 0#32) (live .carry), 3, by decide⟩,
    ⟨(st (runs 0x0D02 [65535#32, 2#32] (live .carry))), 3, by decide, _, rfl, _, rfl, by decide⟩,
    ⟨(st (runs 0x0D02 [65535#32, 1#32, 0x82000000#32] (live .carry))), 3, by decide, _, rfl, _, rfl, _, rfl,
      (0x82000000#32, 0), by decide⟩,
    ⟨(st (runs 0x0D02 [65535#32, 1#32, 0#32] (live .carry))), 3, by decide, _, rfl, _, rfl, _, rfl, by decide⟩,
    ⟨(st (runs 0x0D03 [5#32, 1#32] (live .carry))), 3, by decide⟩,
    ⟨(st (((live .carry).setTag 3 { st := .committed, hdr := [0xD03#32] }) |> fun p
      => { p with domain := { p.domain with fetches := [(3, some 5#32)] } })), 3, _, rfl, by decide⟩⟩

theorem wit_CommandRingWrites :
    (∃ s : State, ∃ c : Access, ∃ p, p = passed c s.part ∧ NativeWrite c 0x4000 s ∧ p.bit 0x4010 31 = true) ∧
    (∃ s : State, ∃ c : Access, ∃ p, p = passed c s.part ∧ NativeWrite c 0x4000 s ∧ p.bit 0x4010 31 = false) ∧
    (∃ s : State, ∃ c : Access, ∃ p, p = passed c s.part ∧ NativeWrite c 0x4018 s ∧
      (p.reg 0x4014 - c.val).toNat ≤ p.ringSize) ∧
    (∃ s : State, ∃ c : Access, ∃ p, p = passed c s.part ∧ NativeWrite c 0x4018 s ∧
      p.ringSize < (p.reg 0x4014 - c.val).toNat) ∧
    (∃ s : State, ∃ c : Access, ∃ p, p = passed c s.part ∧ NativeWrite c 0x4010 s ∧ ∃ size, size = fieldOf c.val 4 0 ∧
      (size < 10 ∨ 16 < size ∨ (p.bit 0x4010 31 = true ∧ size ≠ p.field 0x4010 4 0))) ∧
    (∃ s : State, ∃ c : Access, ∃ p, p = passed c s.part ∧ NativeWrite c 0x4010 s ∧ ∃ size, size = fieldOf c.val 4 0 ∧
      10 ≤ size ∧ size ≤ 16 ∧ p.bit 0x4010 31 = false ∧ c.val.getLsbD 31 = true) ∧
    (∃ s : State, ∃ c : Access, ∃ p, p = passed c s.part ∧ NativeWrite c 0x4010 s ∧ ∃ size, size = fieldOf c.val 4 0 ∧
      10 ≤ size ∧ size ≤ 16 ∧ p.bit 0x4010 31 = false ∧ c.val.getLsbD 31 = false) ∧
    (∃ s : State, ∃ c : Access, ∃ p, p = passed c s.part ∧ NativeWrite c 0x4010 s ∧ ∃ size, size = fieldOf c.val 4 0 ∧
      10 ≤ size ∧ size ≤ 16 ∧ p.bit 0x4010 31 = true ∧ size = p.field 0x4010 4 0) ∧
    (∃ s : State, ∃ c : Access, ∃ p, p = passed c s.part ∧ NativeWrite c 0x4040 s ∧ ∃ u, u = fieldOf c.val 9 0 ∧
      p.abortable u = true) ∧
    (∃ s : State, ∃ c : Access, ∃ p, p = passed c s.part ∧ NativeWrite c 0x4040 s ∧ ∃ u, u = fieldOf c.val 9 0 ∧
      p.abortable u = false) ∧
    (∃ c : Access, (decodeAddr c.addr.toNat).off = none) :=
  ⟨⟨(st (rg [(0x4010, 0x8000000A#32)] (live .carry))), (wr 0x4000 0x03FF03FF#32), _, rfl, by decide⟩,
    ⟨(st (live .carry)), (wr 0x4000 0x03FF03FF#32), _, rfl, by decide⟩,
    ⟨(st (rg [(0x4010, 0x8000000A#32)] (live .carry))), (wr 0x4018 0x0#32), _, rfl, by decide⟩,
    ⟨(st (rg [(0x4014, 1025#32), (0x4010, 0x8000000A#32)] (live .carry))), (wr 0x4018 0x0#32), _, rfl, by decide⟩,
    ⟨(st (rg [(0x4010, 0x8000000A#32)] (live .carry))), (wr 0x4010 0x80000010#32), _, rfl, by decide, _, rfl, by decide⟩,
    ⟨(st (live .carry)), (wr 0x4010 0x80000010#32), _, rfl, by decide, _, rfl, by decide⟩,
    ⟨(st (live .carry)), (wr 0x4010 0x10#32), _, rfl, by decide, _, rfl, by decide⟩,
    ⟨(st (rg [(0x4010, 0x8000000A#32)] (live .carry))), (wr 0x4010 0x8000000A#32), _, rfl, by decide, _, rfl, by decide⟩,
    ⟨(st (tagIs .queued 3 [] (live .carry))), (wr 0x4040 3#32), _, rfl, by decide, _, rfl, by decide⟩,
    ⟨(st (rg [(0x4010, 0x8000000A#32)] (live .carry))), (wr 0x4040 3#32), _, rfl, by decide, _, rfl, by decide⟩,
    ⟨(wr 0xC020000 0x0#32), by decide⟩⟩

theorem wit_ScratchByEveryPath :
    (∃ s : State, ∃ c : Access, ∃ k : Fin 4, s.part.reaches c.req = true ∧ c.be = 0xF#4 ∧ s.part.md.cur ≠ .dormant ∧
      s.part.md.cur ≠ .freeze ∧ ∃ o, o = (0x100 + 4 * k.val) ∧ decodeAddr c.addr.toNat = .native o ∧
      (Master.req c.req).sideband = false) ∧
    (∃ s : State, ∃ c : Access, ∃ k : Fin 4, s.part.reaches c.req = true ∧ c.be = 0xF#4 ∧ s.part.md.cur ≠ .dormant ∧
      s.part.md.cur ≠ .freeze ∧ ∃ o, o = (0x100 + 4 * k.val) ∧ decodeAddr c.addr.toNat = .native o ∧
      (Master.req c.req).sideband = true) ∧
    (∃ s : State, ∃ c : Access, ∃ k : Fin 4, s.part.reaches c.req = true ∧ c.be = 0xF#4 ∧ s.part.md.cur ≠ .dormant ∧
      s.part.md.cur ≠ .freeze ∧ ∃ o, o = (0x100 + 4 * k.val) ∧ ∃ b : Nat, b < 32 ∧ decodeAddr c.addr.toNat = .bit b o) ∧
    (∃ s : State, ∃ c : Access, ∃ k : Fin 4, s.part.reaches c.req = true ∧ c.be = 0xF#4 ∧ s.part.md.cur ≠ .dormant ∧
      s.part.md.cur ≠ .freeze ∧ ∃ p, p = passed c s.part ∧ ∃ o, o = (0x100 + 4 * k.val) ∧
      decodeAddr c.addr.toNat = .mask false o ∧ p.bit 0x038 1 = false) ∧
    (∃ s : State, ∃ c : Access, ∃ k : Fin 4, s.part.reaches c.req = true ∧ c.be = 0xF#4 ∧ s.part.md.cur ≠ .dormant ∧
      s.part.md.cur ≠ .freeze ∧ ∃ p, p = passed c s.part ∧ ∃ o, o = (0x100 + 4 * k.val) ∧
      decodeAddr c.addr.toNat = .mask true o ∧ p.bit 0x038 1 = false) ∧
    (∃ s : State, ∃ c : Access, ∃ k : Fin 4, s.part.reaches c.req = true ∧ c.be = 0xF#4 ∧ s.part.md.cur ≠ .dormant ∧
      s.part.md.cur ≠ .freeze ∧ ∃ p, p = passed c s.part ∧ ∃ o, o = (0x100 + 4 * k.val) ∧ ∃ h : Bool,
      decodeAddr c.addr.toNat = .mask h o ∧ p.bit 0x038 1 = true) ∧
    (∃ s : State, ∃ c : Access, ∃ k : Fin 4, s.part.reaches c.req = true ∧ c.be = 0xF#4 ∧ s.part.md.cur ≠ .dormant ∧
      s.part.md.cur ≠ .freeze ∧ ∃ o, o = (0x100 + 4 * k.val) ∧ decodeAddr c.addr.toNat = .basted o) ∧
    (∃ q : Part, ∃ m : Master, ∃ t : BusTarget, ∃ w : Bool, q.carriesFrom m = true ∧ m ≠ .req .host ∧
      m.hasPath t w = false ∧ m.sideband = false) ∧
    (∃ q : Part, ∃ m : Master, ∃ t : BusTarget, ∃ w : Bool, q.carriesFrom m = true ∧ m ≠ .req .host ∧ ∃ r : Req,
      m = .req r ∧ m.hasPath t w = false ∧ m.sideband = true) ∧
    (∃ q : Part, ∃ m : Master, ∃ t : BusTarget, ∃ w : Bool, q.carriesFrom m = true ∧ m ≠ .req .host ∧
      m.hasPath t w = true ∧ (t = .journal ∨ t = .coreMem ∨ t = .periph)) ∧
    (∃ q : Part, ∃ m : Master, ∃ t : BusTarget, ∃ w : Bool, q.carriesFrom m = true ∧ m ≠ .req .host ∧
      m.hasPath t w = true ∧ t = .dram) :=
  ⟨⟨(st (live .carry)), (wr 0x10C 0x0#32), 3, by decide, by decide, by decide, by decide, _, rfl, by decide⟩,
    ⟨(st (live .carry)), ({ wr 0x10C 5#32 with req := .smb }), 3, by decide, by decide, by decide, by decide, _, rfl,
      by decide⟩,
    ⟨(st (live .carry)), (wr 0x9F0010C 0x0#32), 3, by decide, by decide, by decide, by decide, _, rfl, 31, by decide⟩,
    ⟨(st (live .carry)), (wr 0x10010C 0x0#32), 3, by decide, by decide, by decide, by decide, _, rfl, _, rfl, by decide⟩,
    ⟨(st (live .carry)), (wr 0x20010C 0x0#32), 3, by decide, by decide, by decide, by decide, _, rfl, _, rfl, by decide⟩,
    ⟨(st (rg [(0x038, 2#32)] (live .carry))), (wr 0x10010C 0x0#32), 3, by decide, by decide, by decide, by decide, _,
      rfl, _, rfl, false, by decide⟩,
    ⟨(st (live .carry)), (wr 0x30010C 0x0#32), 3, by decide, by decide, by decide, by decide, _, rfl, by decide⟩,
    ⟨((st (live .carry))).part, .dma, .periph, 0, by decide⟩,
    ⟨((st (live .carry))).part, .req .smb, .journal, true, by decide, by decide, _, rfl, by decide⟩,
    ⟨((st (live .carry))).part, .req .smb, .journal, 0, by decide⟩,
    ⟨((st (live .carry))).part, .req .mc0, .dram, 0, by decide⟩⟩

theorem wit_ShadowLockAndEnable :
    (∃ s : State, ∃ c : Access, ∃ p, p = passed c s.part ∧ ∃ f : Fin 16, NativeWrite c (steerReg f) s ∧ ∃ b,
      b = (basteOne p.stitch.basted (steerReg f) 0x87FFFFFF#32 c.val) ∧ s.part.column.bastes = true ∧ b.length ≤ 65536) ∧
    (∃ (s : State) (c : Access) (f : Fin 16), NativeWrite c (steerReg f) s ∧ s.part.column.bastes = true ∧
      65536 < (basteOne (passed c s.part).stitch.basted (steerReg f) 0x87FFFFFF#32 c.val).length) ∧
    (∃ s : State, ∃ c : Access, ∃ f : Fin 16, NativeWrite c (steerReg f) s ∧ s.part.column.bastes = false) ∧
    (∃ s : State, ∃ c : Access, ∃ p, p = passed c s.part ∧ ∃ k : Fin 16, NativeWrite c (0xC040 + 4 * k.val) s ∧
      p.bit (0xC040 + 4 * k.val) 31 = false) ∧
    (∃ s : State, ∃ c : Access, ∃ p, p = passed c s.part ∧ ∃ k : Fin 16, NativeWrite c (0xC040 + 4 * k.val) s ∧
      p.bit (0xC040 + 4 * k.val) 31 = true) ∧
    (∃ s : State, ∃ c : Access, NativeWrite c 0x5004 s) :=
  ⟨⟨(st (live .fit)), (wr ((steerReg 15)) 5#32), _, rfl, 15, by decide, _, rfl, by decide⟩,
    ⟨st ({ live .fit with stitch := { basted := List.replicate 65537 (steerReg 15, (1#32, 1#32)) } }),
      wr (steerReg 15) 5#32, 15, by decide, by decide,
      basteOne_overfull _ _ _ (by show 65536 < (List.replicate 65537 _).length; rw [List.length_replicate]; decide)⟩,
    ⟨(st (live .inert)), (wr ((steerReg 15)) 5#32), 15, by decide⟩,
    ⟨(st (live .fit)), (wr 0xC07C 1#32), _, rfl, 15, by decide⟩,
    ⟨(st (rg [(0xC07C, 0x80000000#32)] (live .carry))), (wr 0xC07C 1#32), _, rfl, 15, by decide⟩,
    ⟨(st (live .fit)), (wr 0x5004 0xFFF#32), by decide⟩⟩

theorem wit_WideRegisters :
    (∃ s : State, ∃ q : Req, ∃ addr : BitVec 28, s.part.reaches q = true ∧ s.part.md.cur ≠ .dormant ∧
      decodeAddr addr.toNat = .native 0x4008) ∧
    (∃ s : State, ∃ q : Req, ∃ addr : BitVec 28, s.part.reaches q = true ∧ s.part.md.cur ≠ .dormant ∧
      decodeAddr addr.toNat = .native 0x400C) ∧
    (∃ s : State, ∃ c : Access, NativeWrite c 0x4008 s) ∧
    (∃ s : State, ∃ c : Access, ∃ p, p = passed c s.part ∧ NativeWrite c 0x400C s ∧ p.bit 0x4010 31 = false) ∧
    (∃ s : State, ∃ c : Access, NativeWrite c 0x5110 s) ∧
    (∃ s : State, ∃ c : Access, NativeWrite c 0x5114 s) ∧
    (∃ s : State, s.part.reaches .host = true ∧ s.part.md.cur ≠ .dormant) :=
  ⟨⟨(st (live .carry)), .host, 0x4008#28, by decide⟩,
    ⟨(st (live .carry)), .host, 0x400C#28, by decide⟩,
    ⟨(st (live .carry)), (wr 0x4008 0x0#32), by decide⟩,
    ⟨(st (live .carry)), (wr 0x400C 0x0#32), _, rfl, by decide⟩,
    ⟨(st (live .carry)), (wr 0x5110 0x0#32), by decide⟩,
    ⟨(st (live .carry)), (wr 0x5114 0x0#32), by decide⟩,
    ⟨(st (live .carry)), by decide⟩⟩

theorem wit_GuardProtocol :
    (∃ s : State, ∃ c : Access, ∃ x : Nat, (x = 0x2200 ∨ x = 0x6040) ∧ ∃ p, p = passed c s.part ∧ NativeWrite c x s ∧
      p.guardOf c.req = none) ∧
    (∃ s : State, ∃ c : Access, ∃ x : Nat, (x = 0x2200 ∨ x = 0x6040) ∧ ∃ p, p = passed c s.part ∧ NativeWrite c x s ∧
      ∃ g : GuardOpen, p.guardOf c.req = some g ∧ s.part.clk ≤ g.at_ + 250) ∧
    (∃ s : State, ∃ c : Access, ∃ x : Nat, (x = 0x2200 ∨ x = 0x6040) ∧ ∃ p, p = passed c s.part ∧ NativeWrite c x s ∧
      ∃ g : GuardOpen, p.guardOf c.req = some g ∧ g.at_ + 250 < s.part.clk) ∧
    (∃ s : State, ∃ c : Access, ∃ x : Nat, (x = 0x2200 ∨ x = 0x6040) ∧ ∃ p, p = passed c s.part ∧
      NativeWrite c (x + 4) s ∧ p.guardOf c.req = none) ∧
    (∃ s : State, ∃ c : Access, ∃ x : Nat, (x = 0x2200 ∨ x = 0x6040) ∧ ∃ p, p = passed c s.part ∧
      NativeWrite c (x + 4) s ∧ ∃ g : GuardOpen, p.guardOf c.req = some g ∧ s.part.clk ≤ g.at_ + 250 ∧ g.off = x ∧
      c.val = ~~~g.value ∧ x = 0x2200) ∧
    (∃ s : State, ∃ c : Access, ∃ x : Nat, (x = 0x2200 ∨ x = 0x6040) ∧ ∃ p, p = passed c s.part ∧
      NativeWrite c (x + 4) s ∧ ∃ g : GuardOpen, p.guardOf c.req = some g ∧ s.part.clk ≤ g.at_ + 250 ∧ g.off = x ∧
      c.val = ~~~g.value ∧ x = 0x6040) ∧
    (∃ s : State, ∃ c : Access, ∃ x : Nat, (x = 0x2200 ∨ x = 0x6040) ∧ ∃ p, p = passed c s.part ∧
      NativeWrite c (x + 4) s ∧ ∃ g : GuardOpen, p.guardOf c.req = some g ∧ s.part.clk ≤ g.at_ + 250 ∧ g.off = x ∧
      c.val ≠ ~~~g.value) ∧
    (∃ s : State, ∃ c : Access, ∃ x : Nat, (x = 0x2200 ∨ x = 0x6040) ∧ ∃ p, p = passed c s.part ∧
      NativeWrite c (x + 4) s ∧ ∃ g : GuardOpen, p.guardOf c.req = some g ∧ s.part.clk ≤ g.at_ + 250 ∧ g.off ≠ x) ∧
    (∃ s : State, ∃ c : Access, ∃ x : Nat, (x = 0x2200 ∨ x = 0x6040) ∧ ∃ p, p = passed c s.part ∧
      NativeWrite c (x + 4) s ∧ ∃ g : GuardOpen, p.guardOf c.req = some g ∧ g.at_ + 250 < s.part.clk) ∧
    (∃ s : State, ∃ q : Req, s.part.guardOf q = none) ∧
    (∃ s : State, ∃ q : Req, ∃ g : GuardOpen, s.part.guardOf q = some g ∧ g.at_ + 251 ≤ s.part.clk) ∧
    (∃ s : State, ∃ q : Req, ∃ g : GuardOpen, s.part.guardOf q = some g ∧ s.part.clk < g.at_ + 251) :=
  ⟨⟨(st (live .carry)), (wr 0x2200 5#32), 0x2200, by decide, _, rfl, by decide⟩,
    ⟨(st ({ live .carry with clk := 250, access := { guards := [(0, some { off := 0x2200, addr := 0x2200#28, value := 5#32, at_ := 0 })] } })),
      (wr 0x2200 5#32), 0x2200, by decide, _, rfl, by decide, _, rfl, by decide⟩,
    ⟨(st ({ live .carry with clk := 251, access := { guards := [(0, some { off := 0x2200, addr := 0x2200#28, value := 5#32, at_ := 0 })] } })),
      (wr 0x2200 5#32), 0x2200, by decide, _, rfl, by decide, _, rfl, by decide⟩,
    ⟨(st (live .carry)), (wr 0x2204 0xFFFFFFFA#32), 0x2200, by decide, _, rfl, by decide⟩,
    ⟨(st ({ live .carry with clk := 250, access := { guards := [(0, some { off := 0x2200, addr := 0x2200#28, value := 5#32, at_ := 0 })] } })),
      (wr 0x2204 0xFFFFFFFA#32), 0x2200, by decide, _, rfl, by decide, _, rfl, by decide⟩,
    ⟨(st ({ live .carry with clk := 250, access := { guards := [(0, some { off := 0x6040, addr := 0x2200#28, value := 5#32, at_ := 0 })] } })),
      (wr 0x6044 0xFFFFFFFA#32), 0x6040, by decide, _, rfl, by decide, _, rfl, by decide⟩,
    ⟨(st ({ live .carry with clk := 250, access := { guards := [(0, some { off := 0x2200, addr := 0x2200#28, value := 5#32, at_ := 0 })] } })),
      (wr 0x2204 5#32), 0x2200, by decide, _, rfl, by decide, _, rfl, by decide⟩,
    ⟨(st ({ live .carry with clk := 250, access := { guards := [(0, some { off := 0x2200, addr := 0x2200#28, value := 5#32, at_ := 0 })] } })),
      (wr 0x6044 0xFFFFFFFA#32), 0x6040, by decide, _, rfl, by decide, _, rfl, by decide⟩,
    ⟨(st ({ live .carry with clk := 251, access := { guards := [(0, some { off := 0x2200, addr := 0x2200#28, value := 5#32, at_ := 0 })] } })),
      (wr 0x2204 0xFFFFFFFA#32), 0x2200, by decide, _, rfl, by decide, _, rfl, by decide⟩,
    ⟨(st (live .carry)), .host, by decide⟩,
    ⟨(st ({ live .carry with clk := 251, access := { guards := [(0, some { off := 0x2200, addr := 0x2200#28, value := 5#32, at_ := 0 })] } })),
      .host, _, rfl, by decide⟩,
    ⟨(st ({ live .carry with clk := 250, access := { guards := [(0, some { off := 0x2200, addr := 0x2200#28, value := 5#32, at_ := 0 })] } })),
      .host, _, rfl, by decide⟩⟩

theorem wit_ThimbleNativeRead :
    (∃ s : State, ∃ q : Req, ∃ addr : BitVec 28, ∃ n : Fin 64, s.part.reaches q = true ∧ s.part.md.cur ≠ .dormant ∧
      q ≠ .smb ∧ q ≠ .jtag ∧ decodeAddr addr.toNat = .native (0x2000 + 4 * n.val) ∧
      (SMap.get (fun _ => none) s.part.access.owners n.val = none)) ∧
    (∃ s : State, ∃ q : Req, ∃ addr : BitVec 28, ∃ n : Fin 64, s.part.reaches q = true ∧ s.part.md.cur ≠ .dormant ∧
      q ≠ .smb ∧ q ≠ .jtag ∧ decodeAddr addr.toNat = .native (0x2000 + 4 * n.val) ∧
      (SMap.get (fun _ => none) s.part.access.owners n.val = some q)) ∧
    (∃ s : State, ∃ q : Req, ∃ addr : BitVec 28, ∃ n : Fin 64, s.part.reaches q = true ∧ s.part.md.cur ≠ .dormant ∧
      q ≠ .smb ∧ q ≠ .jtag ∧ decodeAddr addr.toNat = .native (0x2000 + 4 * n.val) ∧ ∃ r : Req,
      (SMap.get (fun _ => none) s.part.access.owners n.val = some r) ∧ r ≠ q) :=
  ⟨⟨(st (live .carry)), .host, 0x20FC#28, 63, by decide⟩,
    ⟨(st ({ live .carry with access := { owners := [(63, some .host)] } })), .host, 0x20FC#28, 63, by decide⟩,
    ⟨(st ({ live .carry with access := { owners := [(63, some .host)] } })), .mc0, 0x20FC#28, 63, by decide,
      by decide, by decide, by decide, by decide, _, rfl, by decide⟩⟩

theorem wit_ThimbleNativeWrite :
    (∃ s : State, ∃ c : Access, ∃ n : Fin 64, NativeWrite c (0x2000 + 4 * n.val) s ∧ ∃ p, p = passed c s.part ∧
      (SMap.get (fun _ => none) p.access.owners n.val = some c.req)) ∧
    (∃ s : State, ∃ c : Access, ∃ n : Fin 64, NativeWrite c (0x2000 + 4 * n.val) s ∧ ∃ p, p = passed c s.part ∧
      (SMap.get (fun _ => none) p.access.owners n.val ≠ some c.req)) :=
  ⟨⟨(st ({ live .carry with access := { owners := [(63, some .host)] } })), (wr 0x20FC 0x0#32), 63, by decide, _, rfl,
      by decide⟩,
    ⟨(st (live .carry)), (wr 0x20FC 0x0#32), 63, by decide, _, rfl, by decide⟩⟩

theorem wit_BitAliasReads :
    (∃ s : State, ∃ q : Req, ∃ addr : BitVec 28, ∃ b : Nat, ∃ o : Nat, s.part.reaches q = true ∧
      s.part.md.cur ≠ .dormant ∧ decodeAddr addr.toNat = .bit b o ∧ ∃ c, c = ((s.part.granted q).cross o) ∧
      ∃ i : RegInfo, regInfo o = some i ∧ c.2 = true) ∧
    (∃ s : State, ∃ q : Req, ∃ addr : BitVec 28, ∃ b : Nat, ∃ o : Nat, s.part.reaches q = true ∧
      s.part.md.cur ≠ .dormant ∧ decodeAddr addr.toNat = .bit b o ∧ ∃ c, c = ((s.part.granted q).cross o) ∧
      ∃ i : RegInfo, regInfo o = some i ∧ c.2 = false) ∧
    (∃ s : State, ∃ q : Req, ∃ addr : BitVec 28, ∃ b : Nat, ∃ o : Nat, s.part.reaches q = true ∧
      s.part.md.cur ≠ .dormant ∧ decodeAddr addr.toNat = .bit b o) :=
  ⟨⟨(st (live .carry)), .host, 0x9F0010C#28, 31, 0x10C, by decide, by decide, by decide, _, rfl, _, rfl, by decide⟩,
    ⟨(st (rg [(selvReg 26 0, 2#32)] (live .carry))), .host, 0x9F0F018#28, 31, 0xF018, by decide, by decide, by decide,
      _, rfl, _, rfl, by decide⟩,
    ⟨(st (live .carry)), .host, 0x9F0010C#28, 31, 0x10C, by decide⟩⟩

theorem wit_MaskWindowsOff :
    (∃ s : State, ∃ c : Access, ∃ h : Bool, ∃ o : Nat, ∃ i : RegInfo, s.part.reaches c.req = true ∧ c.be = 0xF#4 ∧
      s.part.md.cur ≠ .dormant ∧ (s.part.md.cur = .freeze → freezeAccepts i o = true) ∧
      decodeAddr c.addr.toNat = .mask h o ∧ regInfo o = some i ∧ (passed c s.part).bit 0x038 1 = true) ∧
    (∃ s : State, ∃ q : Req, ∃ addr : BitVec 28, ∃ h : Bool, ∃ o : Nat, ∃ i : RegInfo, s.part.reaches q = true ∧
      s.part.md.cur ≠ .dormant ∧ decodeAddr addr.toNat = .mask h o ∧ regInfo o = some i ∧ ∃ c,
      c = ((s.part.granted q).cross o) ∧ c.2 = true) :=
  ⟨⟨(st (rg [(0x038, 2#32)] (live .carry))), (wr 0x20010C 0x0#32), true, 0x10C, info 0x10C, by decide⟩,
    ⟨(st (rg [(0x038, 2#32)] (live .carry))), .host, 0x20010C#28, true, 0x10C, _, by decide, by decide, by decide,
      rfl, _, rfl, by decide⟩⟩

theorem wit_HubRegisterWrites :
    (∃ s : State, ∃ c : Access, ∃ n : Fin 24, NativeWrite c (mbReg n 0) s ∧ mbSender n = some c.req) ∧
    (∃ s : State, ∃ c : Access, ∃ n : Fin 32, 24 ≤ n.val ∧ NativeWrite c (mbReg n 0) s ∧ mbSender n = some c.req) ∧
    (∃ s : State, ∃ c : Access, ∃ n : Fin 32, NativeWrite c (mbReg n 0) s ∧ mbSender n ≠ some c.req) ∧
    (∃ s : State, ∃ c : Access, ∃ p, p = passed c s.part ∧ ∃ i : Fin 8, NativeWrite c (crcReg i 0) s ∧
      c.val.getLsbD 31 = true ∧ c.val.getLsbD 30 = false ∧ p.crcRuns i = false) ∧
    (∃ s : State, ∃ c : Access, ∃ p, p = passed c s.part ∧ ∃ i : Fin 8, NativeWrite c (crcReg i 0) s ∧
      c.val.getLsbD 31 = false ∧ c.val.getLsbD 30 = false ∧ p.crcRuns i = true) ∧
    (∃ s : State, ∃ c : Access, ∃ p, p = passed c s.part ∧ ∃ i : Fin 8, NativeWrite c (crcReg i 0) s ∧
      c.val.getLsbD 31 = false ∧ c.val.getLsbD 30 = true ∧ p.crcRuns i = false) ∧
    (∃ s : State, ∃ c : Access, NativeWrite c 0x70030 s) ∧
    (∃ s : State, ∃ c : Access, NativeWrite c 0x9040 s) ∧
    (∃ s : State, ∃ c : Access, NativeWrite c 0xE008 s) ∧
    (∃ s : State, ∃ c : Access, NativeWrite c 0xC0A0 s) :=
  ⟨⟨(st (live .carry)), (wr ((mbReg 0 0)) 0x0#32), 24, by decide⟩,
    ⟨(st (live .carry)), (wr ((mbReg 24 0)) 5#32), 24, by decide⟩,
    ⟨(st (live .carry)), ({ wr ((mbReg 24 0)) 5#32 with req := .mc0 }), 24, by decide⟩,
    ⟨(st (live .carry)), (wr ((crcReg 7 0)) 0x80000000#32), _, rfl, 7, by decide⟩,
    ⟨(st (rg [(crcReg 7 0, 0x80000000#32)] (live .carry))), (wr ((crcReg 7 0)) 0x0#32), _, rfl, 7, by decide⟩,
    ⟨(st (live .carry)), (wr ((crcReg 7 0)) 0x40000000#32), _, rfl, 7, by decide⟩,
    ⟨(st (live .carry)), (wr 0x70030 0x0#32), by decide⟩,
    ⟨(st (live .carry)), (wr 0x9040 0x0#32), by decide⟩,
    ⟨(st (live .carry)), (wr 0xE008 0x0#32), by decide⟩,
    ⟨(st (live .carry)), (wr 0xC0A0 0x0#32), by decide⟩⟩

theorem wit_IslandRegisterWrites :
    (∃ s : State, ∃ c : Access, ∃ l : Fin 96, NativeWrite c (laneReg l 8) s ∧ Carried c (laneReg l 8) s ∧
      c.val.getLsbD 0 = true ∧ ∃ p, p = (arrived c (laneReg l 8) s.part) ∧
      (p.md.cur = .listen ∨ p.md.cur = .carry ∨ p.md.cur = .trim ∨ p.md.cur = .doze)) ∧
    (∃ s : State, ∃ c : Access, ∃ l : Fin 96, NativeWrite c (laneReg l 8) s ∧ Carried c (laneReg l 8) s ∧
      c.val.getLsbD 0 = true ∧ ∃ p, p = (arrived c (laneReg l 8) s.part) ∧ p.md.cur ≠ .listen ∧ p.md.cur ≠ .carry ∧
      p.md.cur ≠ .trim ∧ p.md.cur ≠ .doze) ∧
    (∃ s : State, ∃ c : Access, NativeWrite c 0xF018 s ∧ Carried c 0xF018 s ∧ c.val = 1#32) ∧
    (∃ s : State, ∃ c : Access, ∃ r : Fin 16, NativeWrite c (refReg r 0x28) s ∧ Carried c (refReg r 0x28) s) ∧
    (∃ s : State, ∃ c : Access, ∃ k : Fin 2, NativeWrite c (0xD008 + 0x80 * k.val) s ∧
      Carried c (0xD008 + 0x80 * k.val) s ∧ c.val = 1#32 ∧ ∃ p, p = (arrived c (0xD008 + 0x80 * k.val) s.part) ∧
      p.ringPowered = true ∧ 1 < p.ringPorts) ∧
    (∃ s : State, ∃ c : Access, ∃ k : Fin 2, NativeWrite c (0xD008 + 0x80 * k.val) s ∧
      Carried c (0xD008 + 0x80 * k.val) s ∧ c.val = 1#32 ∧ ∃ p, p = (arrived c (0xD008 + 0x80 * k.val) s.part) ∧
      (p.ringPowered = false ∨ p.ringPorts ≤ 1)) ∧
    (∃ s : State, ∃ c : Access, ∃ n : Fin 48, NativeWrite c (tsReg n 0x1C) s ∧ Carried c (tsReg n 0x1C) s ∧ ∃ p,
      p = (arrived c (tsReg n 0x1C) s.part) ∧ (p.reg (tsReg n 0x18) - c.val).toNat ≤ 65536) ∧
    (∃ s : State, ∃ c : Access, ∃ n : Fin 48, NativeWrite c (tsReg n 0x1C) s ∧ Carried c (tsReg n 0x1C) s ∧ ∃ p,
      p = (arrived c (tsReg n 0x1C) s.part) ∧ 65536 < (p.reg (tsReg n 0x18) - c.val).toNat) ∧
    (∃ s : State, ∃ c : Access, NativeWrite c 0x79410 s ∧ ∃ p, p = passed c s.part ∧
      (p.reg 0x7940C - c.val).toNat ≤ 2 ^ p.field 0x79408 4 0) ∧
    (∃ s : State, ∃ c : Access, NativeWrite c 0x79410 s ∧ ∃ p, p = passed c s.part ∧
      2 ^ p.field 0x79408 4 0 < (p.reg 0x7940C - c.val).toNat) ∧
    (∃ s : State, ∃ c : Access, ∃ k : Fin 64, NativeWrite c (0x70104 + 8 * k.val) s ∧ ∃ p, p = passed c s.part ∧
      ∃ key, key = (c.req.key (0x70100 + 8 * k.val)) ∧ ∃ w0,
      w0 = (mergeMask (p.reg (0x70100 + 8 * k.val)) ((SMap.get (fun _ => none) p.access.heldLow key).getD (p.reg
      (0x70100 + 8 * k.val))) 0x800707FF#32) ∧ (pointKind (fieldOf w0 10 0) = .odu ∨ pointKind (fieldOf w0 10 0) = .lo)) ∧
    (∃ s : State, ∃ c : Access, ∃ k : Fin 64, NativeWrite c (0x70104 + 8 * k.val) s ∧ ∃ p, p = passed c s.part ∧
      ∃ key, key = (c.req.key (0x70100 + 8 * k.val)) ∧ ∃ w0,
      w0 = (mergeMask (p.reg (0x70100 + 8 * k.val)) ((SMap.get (fun _ => none) p.access.heldLow key).getD (p.reg
      (0x70100 + 8 * k.val))) 0x800707FF#32) ∧ pointKind (fieldOf w0 10 0) ≠ .odu ∧ pointKind (fieldOf w0 10 0) ≠ .lo) :=
  ⟨⟨(st (rg [(0xD100, 1#32)] (live .carry))), (wr ((laneReg 95 8)) 1#32), 95, by decide, by decide, by decide, _, rfl,
      by decide⟩,
    ⟨(st (live .fit)), (wr ((laneReg 95 8)) 1#32), 95, by decide, by decide, by decide, _, rfl, by decide⟩,
    ⟨(st (rg [(0xD100, 1#32)] (live .carry))), (wr 0xF018 1#32), by decide⟩,
    ⟨(st (rg [(0xD100, 1#32)] (live .carry))), (wr ((refReg 15 0x28)) 1#32), 15, by decide⟩,
    ⟨(st (rg [(0xD100, 1#32)] (live .carry))), (wr 0xD088 1#32), 1, by decide, by decide, by decide, _, rfl, by decide⟩,
    ⟨(st (rg [(0xD100, 0#32)] (live .carry))), (wr 0xD088 1#32), 1, by decide, by decide, by decide, _, rfl, by decide⟩,
    ⟨(st (rg [(0xD100, 1#32)] (live .carry))), (wr ((tsReg 47 0x1C)) 0x0#32), 47, by decide, by decide, _, rfl, by decide⟩,
    ⟨(st (rg [(tsReg 47 0x18, 65537#32)] (live .carry))), (wr ((tsReg 47 0x1C)) 0x0#32), 47, by decide, by decide, _,
      rfl, by decide⟩,
    ⟨(st (rg [(0xD100, 1#32)] (live .carry))), (wr 0x79410 0x0#32), by decide, _, rfl, by decide⟩,
    ⟨(st (rg [(0x7940C, 65#32), (0x79408, 6#32)] (live .carry))), (wr 0x79410 0x0#32), by decide, _, rfl, by decide⟩,
    ⟨(st ({ live .carry with access := { heldLow := [(0x702F8, some 24#32)] } })), (wr 0x702FC 0x0#32), 63, by decide,
      _, rfl, _, rfl, _, rfl, by decide⟩,
    ⟨(st (rg [(0xD100, 1#32)] (live .carry))), (wr 0x702FC 0x0#32), 63, by decide, _, rfl, _, rfl, _, rfl, by decide⟩⟩

theorem wit_TapRingWrites :
    (∃ s : State, ∃ c : Access, ∃ n : Fin 48, NativeWrite c (tapReg n 8) s ∧ Carried c (tapReg n 8) s ∧ ∃ p,
      p = (arrived c (tapReg n 8) s.part) ∧ ∃ w, w = (mergeMask (p.reg (tapReg n 8)) c.val 0x80000F1F#32) ∧
      ringCfgBad (p.reg (tapReg n 8)) w = false ∧ p.bit (tapReg n 8) 31 = false ∧ w.getLsbD 31 = true) ∧
    (∃ s : State, ∃ c : Access, ∃ n : Fin 48, NativeWrite c (tapReg n 8) s ∧ Carried c (tapReg n 8) s ∧ ∃ p,
      p = (arrived c (tapReg n 8) s.part) ∧ ∃ w, w = (mergeMask (p.reg (tapReg n 8)) c.val 0x80000F1F#32) ∧
      ringCfgBad (p.reg (tapReg n 8)) w = false ∧ p.bit (tapReg n 8) 31 = true ∧ w.getLsbD 31 = false) ∧
    (∃ s : State, ∃ c : Access, ∃ n : Fin 48, NativeWrite c (tapReg n 0x10) s ∧ Carried c (tapReg n 0x10) s ∧ ∃ p,
      p = (arrived c (tapReg n 0x10) s.part) ∧ (p.reg (tapReg n 0xC) - c.val).toNat ≤ 2 ^ p.field (tapReg n 8) 4 0) ∧
    (∃ s : State, ∃ c : Access, ∃ n : Fin 48, NativeWrite c (tapReg n 0x10) s ∧ Carried c (tapReg n 0x10) s ∧ ∃ p,
      p = (arrived c (tapReg n 0x10) s.part) ∧ 2 ^ p.field (tapReg n 8) 4 0 < (p.reg (tapReg n 0xC) - c.val).toNat) ∧
    (∃ s : State, ∃ c : Access, ∃ n : Fin 48, NativeWrite c (tapReg n 0x2C) s ∧ Carried c (tapReg n 0x2C) s ∧ ∃ p,
      p = (arrived c (tapReg n 0x2C) s.part) ∧ (c.val - p.reg (tapReg n 0x30)).toNat ≤ 2 ^ p.field (tapReg n 0x28) 4 0) ∧
    (∃ s : State, ∃ c : Access, ∃ n : Fin 48, NativeWrite c (tapReg n 0x2C) s ∧ Carried c (tapReg n 0x2C) s ∧ ∃ p,
      p = (arrived c (tapReg n 0x2C) s.part) ∧ 2 ^ p.field (tapReg n 0x28) 4 0 < (c.val - p.reg (tapReg n 0x30)).toNat) ∧
    (∃ s : State, ∃ c : Access, ∃ b : Fin 16, NativeWrite c (poolReg b 0xC) s ∧ ∃ p, p = passed c s.part ∧
      (c.val - p.reg (poolReg b 0x10)).toNat ≤ 2 ^ p.field (poolReg b 8) 4 0) ∧
    (∃ s : State, ∃ c : Access, ∃ b : Fin 16, NativeWrite c (poolReg b 0xC) s ∧ ∃ p, p = passed c s.part ∧
      2 ^ p.field (poolReg b 8) 4 0 < (c.val - p.reg (poolReg b 0x10)).toNat) ∧
    (∃ s : State, ∃ c : Access, ∃ b : Fin 16, NativeWrite c (poolReg b 8) s ∧ ∃ p, p = passed c s.part ∧ ∃ w,
      w = (mergeMask (p.reg (poolReg b 8)) c.val 0x800F001F#32) ∧ p.bit (poolReg b 8) 31 = true ∧
      withBit w 31 true = p.reg (poolReg b 8) ∧ w.getLsbD 31 = false ∧ 8 ≤ fieldOf w 19 16 ∧ fieldOf w 19 16 ≤ 14 ∧
      6 ≤ fieldOf w 4 0 ∧ fieldOf w 4 0 ≤ 16) ∧
    (∃ s : State, ∃ c : Access, ∃ b : Fin 16, NativeWrite c (poolReg b 8) s ∧ ∃ p, p = passed c s.part ∧ ∃ w,
      w = (mergeMask (p.reg (poolReg b 8)) c.val 0x800F001F#32) ∧ p.bit (poolReg b 8) 31 = true ∧
      (withBit w 31 true ≠ p.reg (poolReg b 8) ∨ w.getLsbD 31 = true)) :=
  ⟨⟨(st (rg [(tapReg 47 0xC, 65#32), (tapReg 47 8, 6#32)] (live .carry))), (wr ((tapReg 47 8)) 0x80000010#32), 47,
      by decide, by decide, _, rfl, _, rfl, by decide⟩,
    ⟨(st (rg [(tapReg 47 8, 0x80000006#32)] (live .carry))), (wr ((tapReg 47 8)) 6#32), 47, by decide, by decide, _,
      rfl, _, rfl, by decide⟩,
    ⟨(st (rg [(tapReg 47 0x28, 6#32)] (live .carry))), (wr ((tapReg 47 0x10)) 0x0#32), 47, by decide, by decide, _,
      rfl, by decide⟩,
    ⟨(st (rg [(tapReg 47 0xC, 65#32), (tapReg 47 8, 6#32)] (live .carry))), (wr ((tapReg 47 0x10)) 0x0#32), 47,
      by decide, by decide, _, rfl, by decide⟩,
    ⟨(st (rg [(tapReg 47 0xC, 65#32), (tapReg 47 8, 6#32)] (live .carry))), (wr ((tapReg 47 0x2C)) 65#32), 47,
      by decide, by decide, _, rfl, by decide⟩,
    ⟨(st (rg [(tapReg 47 0x28, 6#32)] (live .carry))), (wr ((tapReg 47 0x2C)) 65#32), 47, by decide, by decide, _,
      rfl, by decide⟩,
    ⟨(st (rg [(tapReg 47 0xC, 65#32), (tapReg 47 8, 6#32)] (live .carry))), (wr ((poolReg 15 0xC)) 65#32), 15,
      by decide, _, rfl, by decide⟩,
    ⟨(st (rg [(poolReg 15 8, 6#32)] (live .carry))), (wr ((poolReg 15 0xC)) 65#32), 15, by decide, _, rfl, by decide⟩,
    ⟨(st (rg [(poolReg 15 8, 0x80080006#32)] (live .carry))), (wr ((poolReg 15 8)) 0x80006#32), 15, by decide, _, rfl,
      _, rfl, by decide⟩,
    ⟨(st (rg [(poolReg 15 8, 0x80000006#32)] (live .carry))), (wr ((poolReg 15 8)) 0x80000006#32), 15, by decide, _,
      rfl, _, rfl, by decide⟩⟩

theorem wit_CxlMemLines :
    (∃ s : State, ∃ hpa : Nat, s.part.memServes hpa = true ∧ ∃ q, q = s.part.memDemand hpa ∧
      (s.part.memActive = false ∨ q.marching = true)) ∧
    (∃ s : State, ∃ hpa : Nat, s.part.memServes hpa = true ∧ ∃ q, q = s.part.memDemand hpa ∧ s.part.memActive = true ∧
      q.marching = false ∧ q.selvOpen 25 = false) ∧
    (∃ (s : State) (hpa : Nat), s.part.memServes hpa = true ∧ s.part.memActive = true ∧
      (s.part.memDemand hpa).marching = false ∧ (s.part.memDemand hpa).selvOpen 25 = true ∧
      (s.part.memDemand hpa).back.badChannels.contains ((s.part.memDemand hpa).lineChannel (s.part.dpaOf hpa)) = true) ∧
    (∃ s : State, ∃ hpa : Nat, s.part.memServes hpa = true ∧ ∃ q, q = s.part.memDemand hpa ∧ ∃ dpa,
      dpa = s.part.dpaOf hpa ∧ s.part.memActive = true ∧ q.marching = false ∧ q.selvOpen 25 = true ∧
      q.back.badChannels.contains (q.lineChannel dpa) = false) ∧
    (∃ s : State, ∃ hpa : Nat, s.part.memServes hpa = true ∧ ∃ q, q = s.part.memDemand hpa ∧ ∃ dpa,
      dpa = s.part.dpaOf hpa ∧ s.part.memActive = true ∧ q.marching = false ∧ q.selvOpen 25 = true ∧
      q.back.badChannels.contains (q.lineChannel dpa) = false) ∧
    (∃ s : State, ∃ hpa : Nat, s.part.memServes hpa = true ∧ s.part.memActive = false) ∧
    (∃ s : State, ∃ hpa : Nat, s.part.memServes hpa = true ∧ ∃ q, q = s.part.memDemand hpa ∧ ∃ dpa,
      dpa = s.part.dpaOf hpa ∧ ∃ base, base = (dpa / 64 * 64) ∧ s.part.memActive = true ∧
      (q.md.cur = .freeze ∨ q.marching = true ∨ q.inScratch base 64 = false)) ∧
    (∃ s : State, ∃ hpa : Nat, s.part.memServes hpa = true ∧ ∃ q, q = s.part.memDemand hpa ∧ ∃ dpa,
      dpa = s.part.dpaOf hpa ∧ ∃ base, base = (dpa / 64 * 64) ∧ s.part.memActive = true ∧ q.md.cur ≠ .freeze ∧
      q.marching = false ∧ q.inScratch base 64 = true ∧ q.selvOpen 25 = false) ∧
    (∃ s : State, ∃ hpa : Nat, s.part.memServes hpa = true ∧ ∃ q, q = s.part.memDemand hpa ∧ ∃ dpa,
      dpa = s.part.dpaOf hpa ∧ ∃ base, base = (dpa / 64 * 64) ∧ s.part.memActive = true ∧ q.md.cur ≠ .freeze ∧
      q.marching = false ∧ q.inScratch base 64 = true ∧ q.selvOpen 25 = true) :=
  ⟨⟨(st ({ moving .inert asleep with host := { linkUp := true, cxl := true, hdm := { committed := true, base := 0, size := 0x2000000000 } } })),
      0x1FFFFFFFC0, by decide, _, rfl, by decide⟩,
    ⟨(st (rg [(selvReg 25 0, 2#32)]
      { live .carry with host := { linkUp := true, cxl := true, hdm := { committed := true, base := 0, size := 0x2000000000 } } })),
      0x1FFFFFFFC0, by decide, _, rfl, by decide⟩,
    ⟨st ({ live .carry with host := { linkUp := true, cxl := true, hdm := { committed := true, base := 0, size := 0x2000000000 } }, back := { badChannels := List.range 64 } }),
      0x1FFFFFFFC0, by decide, by decide, by decide, by decide, channel_listed _ _⟩,
    ⟨(st ({ live .carry with host := { linkUp := true, cxl := true, hdm := { committed := true, base := 0, size := 0x2000000000 } } })),
      0x1FFFFFFFC0, by decide, _, rfl, _, rfl, by decide⟩,
    ⟨(st ({ live .carry with host := { linkUp := true, cxl := true, hdm := { committed := true, base := 0, size := 0x2000000000 } } })),
      0x1FFFFFFFC0, by decide, _, rfl, _, rfl, by decide⟩,
    ⟨(st ({ moving .inert asleep with host := { linkUp := true, cxl := true, hdm := { committed := true, base := 0, size := 0x2000000000 } } })),
      0x1FFFFFFFC0, by decide⟩,
    ⟨(st (rg [(selvReg 25 0, 2#32)]
      { live .carry with host := { linkUp := true, cxl := true, hdm := { committed := true, base := 0, size := 0x2000000000 } } })),
      0, by decide, _, rfl, _, rfl, _, rfl, by decide⟩,
    ⟨(st (rg [(selvReg 25 0, 2#32)]
      { live .carry with host := { linkUp := true, cxl := true, hdm := { committed := true, base := 0, size := 0x2000000000 } } })),
      0x1FFFFFFFC0, by decide, _, rfl, _, rfl, _, rfl, by decide⟩,
    ⟨(st ({ live .carry with host := { linkUp := true, cxl := true, hdm := { committed := true, base := 0, size := 0x2000000000 } } })),
      0x1FFFFFFFC0, by decide, _, rfl, _, rfl, _, rfl, by decide⟩⟩

theorem wit_LineReceivers :
    (∃ s : State, s.part.md.cur = .freeze) ∧
    (∃ s : State, ∃ l : Fin 96, s.part.md.cur ≠ .freeze ∧ ∃ p, p = s.part ∧ p.laneOn l = false) ∧
    (∃ s : State, ∃ l : Fin 96, s.part.md.cur ≠ .freeze ∧ ∃ p, p = s.part ∧ p.laneOn l = true) ∧
    (∃ s : State, ∃ l : Fin 96, s.part.md.cur ≠ .freeze ∧ ∃ p, p = s.part ∧ ∃ st, st = laneReg l 0x10 ∧
      p.laneOn l = true ∧ p.bit st 0 = true) ∧
    (∃ s : State, ∃ l : Fin 96, s.part.md.cur ≠ .freeze ∧ ∃ p, p = s.part ∧ ∃ st, st = laneReg l 0x10 ∧
      p.laneOn l = true ∧ p.bit st 0 = false) ∧
    (∃ s : State, ∃ l : Fin 96, s.part.md.cur ≠ .freeze ∧ ∃ p, p = s.part ∧ ∃ st, st = laneReg l 0x10 ∧
      p.laneOn l = true ∧ ∃ o : Dword, p.bit st 0 = true ∧ |o.toInt| ≤ cdrLimit l) ∧
    (∃ s : State, ∃ l : Fin 96, s.part.md.cur ≠ .freeze ∧ ∃ p, p = s.part ∧ ∃ st, st = laneReg l 0x10 ∧
      p.laneOn l = true ∧ ∃ o : Dword, p.bit st 0 = true ∧ cdrLimit l < |o.toInt|) ∧
    (∃ s : State, ∃ l : Fin 96, s.part.md.cur ≠ .freeze ∧ ∃ p, p = s.part ∧ p.laneOn l = true) ∧
    (∃ s : State, ∃ l : Fin 96, ∃ p, p = s.part ∧ p.laneOn l = false) ∧
    (∃ s : State, ∃ l : Fin 96, ∃ p, p = s.part ∧ p.laneOn l = true) ∧
    (∃ s : State, ∃ l : Fin 96, ∃ p, p = s.part ∧ p.laneOn l = true) ∧
    (∃ s : State, ∃ l : Fin 96, ∃ p, p = s.part ∧ p.laneOn l = true) ∧
    (∃ s : State, s.part.md.cur ≠ .freeze ∧ ∃ p, p = s.part ∧ p.clocked = false) ∧
    (∃ s : State, ∃ l : Fin 96, s.part.md.cur ≠ .freeze ∧ ∃ p, p = s.part ∧ ∃ thr,
      thr = ((p.reg (laneReg l 0x48)).toNat) ∧ p.clocked = true ∧ thr = 0) ∧
    (∃ s : State, ∃ l : Fin 96, s.part.md.cur ≠ .freeze ∧ ∃ p, p = s.part ∧ ∃ st, st = laneReg l 0x10 ∧ ∃ now,
      now = (p.reg64 (laneReg l 0x38)) ∧ ∃ thr, thr = ((p.reg (laneReg l 0x48)).toNat) ∧ ∃ rise,
      rise = ((now - (p.lane l).lastSym).toNat) ∧ p.clocked = true ∧ 0 < thr ∧ thr < rise ∧ p.bit st 5 = false) ∧
    (∃ s : State, ∃ l : Fin 96, s.part.md.cur ≠ .freeze ∧ ∃ p, p = s.part ∧ ∃ st, st = laneReg l 0x10 ∧ ∃ now,
      now = (p.reg64 (laneReg l 0x38)) ∧ ∃ thr, thr = ((p.reg (laneReg l 0x48)).toNat) ∧ ∃ rise,
      rise = ((now - (p.lane l).lastSym).toNat) ∧ p.clocked = true ∧ 0 < thr ∧ thr < rise ∧ p.bit st 5 = true) ∧
    (∃ s : State, ∃ l : Fin 96, s.part.md.cur ≠ .freeze ∧ ∃ p, p = s.part ∧ ∃ now, now = (p.reg64 (laneReg l 0x38)) ∧
      ∃ thr, thr = ((p.reg (laneReg l 0x48)).toNat) ∧ ∃ rise, rise = ((now - (p.lane l).lastSym).toNat) ∧
      p.clocked = true ∧ 0 < thr ∧ rise ≤ thr) ∧
    (∃ s : State, s.part.md.cur ≠ .freeze) ∧
    (∃ s : State, ∃ q : Fin 24, s.part.md.cur ≠ .freeze ∧ ∃ p, p = s.part ∧
      (p.portOn q = false ∨ p.clocked = false ∨ p.runMode.receives = false)) ∧
    (∃ s : State, ∃ q : Fin 24, s.part.md.cur ≠ .freeze ∧ ∃ p, p = s.part ∧ p.portOn q = true ∧ p.clocked = true ∧
      p.runMode.receives = true) ∧
    (∃ s : State, ∃ q : Fin 24, s.part.md.cur ≠ .freeze ∧ ∃ p, p = s.part ∧
      (p.portOn q = false ∨ p.huntMode = false ∨ (p.portState q ≠ 1 ∧ p.portState q ≠ 2))) ∧
    (∃ s : State, ∃ q : Fin 24, s.part.md.cur ≠ .freeze ∧ ∃ p, p = s.part ∧ p.portOn q = true ∧ p.huntMode = true ∧
      p.portState q = 1) ∧
    (∃ s : State, ∃ q : Fin 24, s.part.md.cur ≠ .freeze ∧ ∃ p, p = s.part ∧ p.portOn q = true ∧ p.huntMode = true ∧
      ∃ f : OtucFrame, p.portState q = 2 ∧ fasFound (p.portN q) false f.cols = true) ∧
    (∃ s : State, ∃ q : Fin 24, s.part.md.cur ≠ .freeze ∧ ∃ p, p = s.part ∧ ∃ c, c = p.port q ∧ p.portOn q = true ∧
      p.huntMode = true ∧ ∃ f : OtucFrame, p.portState q = 2 ∧ fasFound (p.portN q) false f.cols = false ∧ c.ifMiss < 4) ∧
    (∃ s : State, ∃ q : Fin 24, s.part.md.cur ≠ .freeze ∧ ∃ p, p = s.part ∧ ∃ c, c = p.port q ∧ p.portOn q = true ∧
      p.huntMode = true ∧ ∃ f : OtucFrame, p.portState q = 2 ∧ fasFound (p.portN q) false f.cols = false ∧ 4 ≤ c.ifMiss) ∧
    (∃ s : State, s.part.md.cur ≠ .freeze) :=
  ⟨⟨(st (live .freeze)), by decide⟩,
    ⟨(st (rg [(laneReg 95 0, 0x80000000#32), (laneReg 95 0x10, 0x21#32), (laneReg 95 0x48, 1#32), (laneReg 95 0x38, 2#32)]
      (live .carry))), 47, by decide, _, rfl, by decide⟩,
    ⟨(st (rg [(laneReg 95 0, 0x80000000#32), (laneReg 95 0x10, 0x21#32), (laneReg 95 0x48, 1#32), (laneReg 95 0x38, 2#32)]
      (live .carry))), 95, by decide, _, rfl, by decide⟩,
    ⟨(st (rg [(laneReg 95 0, 0x80000000#32), (laneReg 95 0x10, 0x21#32), (laneReg 95 0x48, 1#32), (laneReg 95 0x38, 2#32)]
      (live .carry))), 95, by decide, _, rfl, _, rfl, by decide⟩,
    ⟨(st (rg [(laneReg 95 0, 0x80000000#32), (laneReg 95 0x10, 0#32)] (live .carry))), 95, by decide, _, rfl, _, rfl,
      by decide⟩,
    ⟨(st (rg [(laneReg 95 0, 0x80000000#32), (laneReg 95 0x10, 0x21#32), (laneReg 95 0x48, 1#32), (laneReg 95 0x38, 2#32)]
      (live .carry))), 95, by decide, _, rfl, _, rfl, by decide, 0#64, by decide⟩,
    ⟨(st (rg [(laneReg 95 0, 0x80000000#32), (laneReg 95 0x10, 0x21#32), (laneReg 95 0x48, 1#32), (laneReg 95 0x38, 2#32)]
      (live .carry))), 95, by decide, _, rfl, _, rfl, by decide, 0x1000000000000#64, by decide⟩,
    ⟨(st (rg [(laneReg 95 0, 0x80000000#32), (laneReg 95 0x10, 0x21#32), (laneReg 95 0x48, 1#32), (laneReg 95 0x38, 2#32)]
      (live .carry))), 95, by decide, _, rfl, by decide⟩,
    ⟨(st (rg [(laneReg 95 0, 0x80000000#32), (laneReg 95 0x10, 0x21#32), (laneReg 95 0x48, 1#32), (laneReg 95 0x38, 2#32)]
      (live .carry))), 47, _, rfl, by decide⟩,
    ⟨(st (rg [(laneReg 95 0, 0x80000000#32), (laneReg 95 0x10, 0x21#32), (laneReg 95 0x48, 1#32), (laneReg 95 0x38, 2#32)]
      (live .carry))), 95, _, rfl, by decide⟩,
    ⟨(st (rg [(laneReg 95 0, 0x80000000#32), (laneReg 95 0x10, 0x21#32), (laneReg 95 0x48, 1#32), (laneReg 95 0x38, 2#32)]
      (live .carry))), 95, _, rfl, by decide⟩,
    ⟨(st (rg [(laneReg 95 0, 0x80000000#32), (laneReg 95 0x10, 0x21#32), (laneReg 95 0x48, 1#32), (laneReg 95 0x38, 2#32)]
      (live .carry))), 95, _, rfl, by decide⟩,
    ⟨State.reset, by decide, _, rfl, by decide⟩,
    ⟨(st (rg [(laneReg 95 0, 0x80000000#32), (laneReg 95 0x10, 0x21#32), (laneReg 95 0x48, 1#32), (laneReg 95 0x38, 2#32)]
      (live .carry))), 47, by decide, _, rfl, _, rfl, by decide⟩,
    ⟨(st (rg [(laneReg 95 0, 0x80000000#32), (laneReg 95 0x10, 1#32), (laneReg 95 0x48, 1#32), (laneReg 95 0x38, 2#32)]
      (live .carry))), 95, by decide, _, rfl, _, rfl, _, rfl, _, rfl, _, rfl, by decide⟩,
    ⟨(st (rg [(laneReg 95 0, 0x80000000#32), (laneReg 95 0x10, 0x21#32), (laneReg 95 0x48, 1#32), (laneReg 95 0x38, 2#32)]
      (live .carry))), 95, by decide, _, rfl, _, rfl, _, rfl, _, rfl, _, rfl, by decide⟩,
    ⟨(st (rg [(laneReg 95 0, 0x80000000#32), (laneReg 95 0x10, 0x21#32), (laneReg 95 0x48, 2#32), (laneReg 95 0x38, 2#32)]
      (live .carry))), 95, by decide, _, rfl, _, rfl, _, rfl, _, rfl, by decide⟩,
    ⟨(st (rg [(laneReg 95 0, 0x80000000#32), (laneReg 95 0x10, 0x21#32), (laneReg 95 0x48, 1#32), (laneReg 95 0x38, 2#32)]
      (live .carry))), by decide⟩,
    ⟨(st (rg [(laneReg 95 0, 0x80000000#32), (laneReg 95 0x10, 0x21#32), (laneReg 95 0x48, 1#32), (laneReg 95 0x38, 2#32)]
      (live .carry))), 23, by decide, _, rfl, by decide⟩,
    ⟨(st (rg [(lineReg 23 0, 0x81000200#32), (lineReg 23 0x10, 2#32)] (live .carry))), 23, by decide, _, rfl, by decide⟩,
    ⟨(st (rg [(laneReg 95 0, 0x80000000#32), (laneReg 95 0x10, 0x21#32), (laneReg 95 0x48, 1#32), (laneReg 95 0x38, 2#32)]
      (live .carry))), 23, by decide, _, rfl, by decide⟩,
    ⟨(st (rg [(lineReg 3 0, 0x81000200#32), (lineReg 3 0x10, 1#32)] (live .carry))), 3, by decide, _, rfl, by decide⟩,
    ⟨(st (rg [(lineReg 23 0, 0x81000200#32), (lineReg 23 0x10, 2#32)] (live .carry))), 23, by decide, _, rfl,
      by decide, by decide, { sites := [], cols := [0xF62828#32], mfas := 0#8, sm := quiet, odu := quiet }, by decide⟩,
    ⟨(st (rg [(lineReg 23 0, 0x81000200#32), (lineReg 23 0x10, 2#32)] (live .carry))), 23, by decide, _, rfl, _, rfl,
      by decide, by decide, { sites := [], cols := [], mfas := 0#8, sm := quiet, odu := quiet }, by decide⟩,
    ⟨(st (rg [(lineReg 23 0, 0x81000200#32), (lineReg 23 0x10, 2#32)]
      ({ live .carry with ports := [(23, { ifMiss := 4 })] }))), 23, by decide, _, rfl, _, rfl, by decide, by decide,
      { sites := [], cols := [], mfas := 0#8, sm := quiet, odu := quiet }, by decide⟩,
    ⟨(st (rg [(laneReg 95 0, 0x80000000#32), (laneReg 95 0x10, 0x21#32), (laneReg 95 0x48, 1#32), (laneReg 95 0x38, 2#32)]
      (live .carry))), by decide⟩⟩

theorem wit_PointsAndMapping :
    (∃ s : State, s.part.md.cur = .freeze) ∧
    (∃ s : State, ∃ t : Fin 1024, ∃ p, p = s.part ∧ ∃ runs,
      runs = (p.tribOn t && (p.trib t).built && p.runMode.receives) ∧ runs = true) ∧
    (∃ s : State, ∃ t : Fin 1024, ∃ p, p = s.part ∧ ∃ runs,
      runs = (p.tribOn t && (p.trib t).built && p.runMode.receives) ∧ runs = false) ∧
    (∃ s : State, s.part.md.cur ≠ .freeze) ∧
    (∃ s : State, ∃ q : Fin 2048, ∃ a : ConseqAction, s.part.md.cur ≠ .freeze ∧ ∃ inst, inst = (q + a.code * 2 ^ 13) ∧
      s.part.steered 1 inst = true) ∧
    (∃ s : State, ∃ q : Fin 2048, ∃ a : ConseqAction, s.part.md.cur ≠ .freeze ∧ ∃ inst, inst = (q + a.code * 2 ^ 13) ∧
      s.part.steered 1 inst = false) ∧
    (∃ s : State, s.part.md.cur ≠ .freeze ∧ ∃ p, p = s.part ∧ p.time.running = false) ∧
    (∃ s : State, s.part.md.cur ≠ .freeze ∧ ∃ p, p = s.part ∧ p.time.running = true ∧ p.pm.last = none) ∧
    (∃ s : State, ∃ sec : Nat, s.part.md.cur ≠ .freeze ∧ ∃ p, p = s.part ∧ p.time.running = true ∧ ∃ l : Nat,
      p.pm.last = some l ∧ sec ≤ l) ∧
    (∃ s : State, ∃ sec : Nat, s.part.md.cur ≠ .freeze ∧ ∃ p, p = s.part ∧ p.time.running = true ∧ ∃ l : Nat,
      p.pm.last = some l ∧ sec = l + 1) ∧
    (∃ s : State, ∃ sec : Nat, s.part.md.cur ≠ .freeze ∧ ∃ p, p = s.part ∧ p.time.running = true ∧ ∃ l : Nat,
      p.pm.last = some l ∧ l + 1 < sec) ∧
    (∃ s : State, s.part.md.cur ≠ .freeze) ∧
    (∃ s : State, s.part.md.cur ≠ .freeze ∧ ∃ p, p = s.part ∧ (p.pm.toClose = none ∨ p.time.running = false)) ∧
    (∃ s : State, s.part.md.cur ≠ .freeze ∧ ∃ p, p = s.part ∧ ∃ n : Nat, p.pm.toClose = some n ∧ p.time.running = true) ∧
    (∃ (s : State) (k : Fin 64), s.part.md.cur ≠ .freeze ∧ (s.part.reg (0x70100 + 8 * k)).getLsbD 31 = true ∧
      s.part.runMode.carries = true ∧ ∃ q : Part, q =
      { s.part with pm := { s.part.pm with apsOut := SMap.set (fun _ => none) s.part.pm.apsOut k (some (s.part.reg (0x70100 + 8 * k), s.part.reg (0x70104 + 8 * k))) } }
      ∧ ¬ ∃ j, k.val < j ∧ j < 64 ∧ s.part.bit (0x70100 + 8 * j) 31 = true ∧
      s.part.field (0x70100 + 8 * j) 10 0 = s.part.field (0x70100 + 8 * k.val) 10 0 ∧
      s.part.field (0x70100 + 8 * j) 18 16 = s.part.field (0x70100 + 8 * k.val) 18 16 ∧ (q.apsBytes j).isSome = true) ∧
    (∃ (s : State) (k : Fin 64), s.part.md.cur ≠ .freeze ∧ (s.part.reg (0x70100 + 8 * k)).getLsbD 31 = true ∧
      s.part.runMode.carries = true ∧ ∃ q : Part, q =
      { s.part with pm := { s.part.pm with apsOut := SMap.set (fun _ => none) s.part.pm.apsOut k (some (s.part.reg (0x70100 + 8 * k), s.part.reg (0x70104 + 8 * k))) } }
      ∧ ∃ j, k.val < j ∧ j < 64 ∧ s.part.bit (0x70100 + 8 * j) 31 = true ∧
      s.part.field (0x70100 + 8 * j) 10 0 = s.part.field (0x70100 + 8 * k.val) 10 0 ∧
      s.part.field (0x70100 + 8 * j) 18 16 = s.part.field (0x70100 + 8 * k.val) 18 16 ∧ (q.apsBytes j).isSome = true) ∧
    (∃ s : State, ∃ k : Fin 64, s.part.md.cur ≠ .freeze ∧ ∃ p, p = s.part ∧ ∃ w, w = (p.reg (0x70100 + 8 * k)) ∧
      (w.getLsbD 31 = false ∨ p.runMode.carries = false)) ∧
    (∃ s : State, ∃ t : Fin 1024, ∃ p, p = s.part ∧ ∃ c, c = p.trib t ∧ ∃ runs,
      runs = (p.tribOn t && c.built && p.runMode.carries) ∧ runs = false) ∧
    (∃ s : State, ∃ t : Fin 1024, ∃ q : MapIn, ∃ p, p = s.part ∧ ∃ c, c = p.trib t ∧ ∃ runs,
      runs = (p.tribOn t && c.built && p.runMode.carries) ∧ runs = true ∧ ∃ bits : List Bool, ∃ g : Stage,
      q = .carrier bits ∧ p.stage t = some g ∧ p.txFjm t = true) ∧
    (∃ s : State, ∃ t : Fin 1024, ∃ q : MapIn, ∃ p, p = s.part ∧ ∃ c, c = p.trib t ∧ ∃ runs,
      runs = (p.tribOn t && c.built && p.runMode.carries) ∧ runs = true ∧ ∃ bits : List Bool, ∃ g : Stage,
      q = .carrier bits ∧ p.stage t = some g ∧ p.txFjm t = false) ∧
    (∃ s : State, ∃ t : Fin 1024, ∃ q : MapIn, ∃ p, p = s.part ∧ ∃ c, c = p.trib t ∧ ∃ runs,
      runs = (p.tribOn t && c.built && p.runMode.carries) ∧ runs = true ∧ ∃ bits : List Bool, q = .carrier bits ∧
      p.stage t = none) ∧
    (∃ s : State, ∃ t : Fin 1024, ∃ q : MapIn, ∃ p, p = s.part ∧ ∃ c, c = p.trib t ∧ ∃ runs,
      runs = (p.tribOn t && c.built && p.runMode.carries) ∧ runs = true ∧ ∃ bits : List Bool, ∃ n : Nat,
      q = .client bits ∧ p.mapsClient t = some n ∧ p.tribType t = 4) ∧
    (∃ s : State, ∃ t : Fin 1024, ∃ q : MapIn, ∃ p, p = s.part ∧ ∃ c, c = p.trib t ∧ ∃ runs,
      runs = (p.tribOn t && c.built && p.runMode.carries) ∧ runs = true ∧ ∃ bs : List PcsBlock, ∃ slots : Nat,
      ∃ n : Nat, q = .blocks bs slots ∧ p.mapsClient t = some n ∧ p.tribType t = 6) ∧
    (∃ s : State, ∃ t : Fin 1024, ∃ q : MapIn, ∃ p, p = s.part ∧ ∃ c, c = p.trib t ∧ ∃ runs,
      runs = (p.tribOn t && c.built && p.runMode.carries) ∧ runs = true ∧ ∃ bits : List Bool, q = .client bits ∧
      (p.mapsClient t = none ∨ p.tribType t ≠ 4)) ∧
    (∃ s : State, ∃ t : Fin 1024, ∃ q : MapIn, ∃ p, p = s.part ∧ ∃ c, c = p.trib t ∧ ∃ runs,
      runs = (p.tribOn t && c.built && p.runMode.carries) ∧ runs = true ∧ ∃ bs : List PcsBlock, ∃ slots : Nat,
      q = .blocks bs slots ∧ (p.mapsClient t = none ∨ p.tribType t ≠ 6)) ∧
    (∃ s : State, ∃ t : Fin 1024, ∃ p, p = s.part ∧ ∃ runs,
      runs = (p.tribOn t && (p.trib t).built && p.runMode.receives) ∧ runs = false) ∧
    (∃ (s : State) (t : Fin 1024) (jc : List Byte) (data : List Bool) (g : Stage),
      (s.part.tribOn t && (s.part.trib t).built && s.part.runMode.receives) = true ∧ s.part.stage t = some g ∧
      s.part.tribSecond t = false ∧ s.part.rxFjm t = false ∧ fjcStart (fjcOf jc data) = none ∧ ((∃ v,
      s.part.gmpHeard t g jc = some v) ∨ s.part.gmpHeard t g jc = none)) ∧
    (∃ s : State, ∃ t : Fin 1024, ∃ j : JcIn, ∃ p, p = s.part ∧ ∃ runs,
      runs = (p.tribOn t && (p.trib t).built && p.runMode.receives) ∧ runs = true ∧ ∃ jc : List Byte,
      ∃ data : List Bool, ∃ g : Stage, j = .carrier jc data ∧ p.stage t = some g ∧ ∃ f, f = fjcOf jc data ∧ ∃ c : Nat,
      p.tribSecond t = false ∧ p.rxFjm t = false ∧ fjcStart f = some c) ∧
    (∃ s : State, ∃ t : Fin 1024, ∃ j : JcIn, ∃ p, p = s.part ∧ ∃ runs,
      runs = (p.tribOn t && (p.trib t).built && p.runMode.receives) ∧ runs = true ∧ ∃ jc : List Byte,
      ∃ data : List Bool, ∃ g : Stage, j = .carrier jc data ∧ p.stage t = some g ∧ ∃ f, f = fjcOf jc data ∧
      p.tribSecond t = false ∧ p.rxFjm t = true ∧ ∃ c : Nat, fjcAccept (p.pbit t) f = some c) ∧
    (∃ (s : State) (t : Fin 1024) (jc : List Byte) (data : List Bool) (g : Stage),
      (s.part.tribOn t && (s.part.trib t).built && s.part.runMode.receives) = true ∧ s.part.stage t = some g ∧
      s.part.tribSecond t = false ∧ s.part.rxFjm t = true ∧ fjcAccept (s.part.pbit t) (fjcOf jc data) = none ∧ ((∃ v,
      s.part.gmpHeard t g jc = some v) ∨ s.part.gmpHeard t g jc = none)) ∧
    (∃ s : State, ∃ t : Fin 1024, ∃ j : JcIn, ∃ p, p = s.part ∧ ∃ runs,
      runs = (p.tribOn t && (p.trib t).built && p.runMode.receives) ∧ runs = true ∧ ∃ jc : List Byte,
      ∃ data : List Bool, j = .carrier jc data ∧ p.stage t = none) ∧
    (∃ s : State, ∃ t : Fin 1024, ∃ j : JcIn, ∃ p, p = s.part ∧ ∃ runs,
      runs = (p.tribOn t && (p.trib t).built && p.runMode.receives) ∧ runs = true ∧ ∃ jc : List Byte,
      ∃ data : List Bool, j = .client jc data) ∧
    (∃ s : State, ∃ t : Fin 1024, ∃ j : JcIn, ∃ p, p = s.part ∧ ∃ runs,
      runs = (p.tribOn t && (p.trib t).built && p.runMode.receives) ∧ runs = true ∧ ∃ bs : List PcsBlock,
      ∃ slots : Nat, j = .blocks bs slots) ∧
    (∃ s : State, ∃ t : Fin 1024, s.part.md.cur ≠ .freeze ∧ ∃ p, p = s.part ∧ ∃ own,
      own = (p.tribOn t && !p.tribSecond t && (p.trib t).built) ∧ (own = false ∨ p.methodDue t = none)) ∧
    (∃ s : State, ∃ t : Fin 1024, s.part.md.cur ≠ .freeze ∧ ∃ p, p = s.part ∧ ∃ own,
      own = (p.tribOn t && !p.tribSecond t && (p.trib t).built) ∧ ∃ fjm : Bool, own = true ∧ p.methodDue t = some fjm) ∧
    (∃ s : State, s.part.md.cur ≠ .freeze) ∧
    (∃ s : State, s.part.md.cur ≠ .freeze) :=
  ⟨⟨(st (live .freeze)), by decide⟩,
    ⟨(st (rg [(tribReg 1023 0, 0x80000000#32)] ({ live .carry with tribs := [(1023, { built := true })] }))), 1023, _,
      rfl, _, rfl, by decide⟩,
    ⟨(st (rg [(0x702F8, 0x80000000#32)] (live .carry))), 1023, _, rfl, _, rfl, by decide⟩,
    ⟨(st (rg [(0x702F8, 0x80000000#32)] (live .carry))), by decide⟩,
    ⟨(st (rg [(steerReg 1, 0x80000000#32)] (live .carry))), 2047, .aAIS, by decide, _, rfl, by decide⟩,
    ⟨(st (rg [(0x702F8, 0x80000000#32)] (live .carry))), 2047, .aAIS, by decide, _, rfl, by decide⟩,
    ⟨(st (rg [(0x702F8, 0x80000000#32)] (live .carry))), by decide, _, rfl, by decide⟩,
    ⟨(st ({ live .carry with time := { running := true }, pm := { toClose := some 96 } })), by decide, _, rfl, by decide⟩,
    ⟨(st ({ live .carry with time := { running := true }, pm := { last := some 3 } })), 0, by decide, _, rfl,
      by decide, _, rfl, by decide⟩,
    ⟨(st ({ live .carry with time := { running := true }, pm := { last := some 4 } })), 5, by decide, _, rfl,
      by decide, _, rfl, by decide⟩,
    ⟨(st ({ live .carry with time := { running := true }, pm := { last := some 3 } })), 5, by decide, _, rfl,
      by decide, _, rfl, by decide⟩,
    ⟨(st (rg [(0x702F8, 0x80000000#32)] (live .carry))), by decide⟩,
    ⟨(st (rg [(0x702F8, 0x80000000#32)] (live .carry))), by decide, _, rfl, by decide⟩,
    ⟨(st ({ live .carry with time := { running := true }, pm := { toClose := some 96 } })), by decide, _, rfl, _, rfl,
      by decide⟩,
    ⟨st (rg [(0x702F8, 0x80000000#32)] (live .carry)), 63, by decide, by decide, by decide, _, rfl, fun ⟨j, a, b,
      _⟩ => absurd a (by omega)⟩,
    ⟨st (rg [(0x702F0, 0x80000000#32), (0x702F8, 0x80000000#32)]
      { live .carry with pm := { apsOut := [(63, some (0x80000000#32, 0#32))] } }), 62, by decide, by decide,
      by decide, _, rfl, 63, by decide⟩,
    ⟨(st (rg [(0x702F8, 0x80000000#32)] (live .carry))), 0, by decide, _, rfl, _, rfl, by decide⟩,
    ⟨(st (rg [(0x702F8, 0x80000000#32)] (live .carry))), 1023, _, rfl, _, rfl, _, rfl, by decide⟩,
    ⟨(st (rg [(tribReg 1023 0, 0x80000000#32), (tribReg 1023 0x14, 0x40000000#32)]
      ({ live .carry with tribs := [(1023, { built := true })] }))), 1023, .carrier [true], _, rfl, _, rfl, _, rfl,
      by decide, _, _, rfl, rfl, by decide⟩,
    ⟨(st (rg [(tribReg 1023 0, 0x80000000#32)] ({ live .carry with tribs := [(1023, { built := true })] }))), 1023,
      .carrier [true], _, rfl, _, rfl, _, rfl, by decide, _, _, rfl, rfl, by decide⟩,
    ⟨(st (rg [(tribReg 1023 0, 0x80000000#32), (tribReg 1023 0, 0x92000000#32)]
      ({ live .carry with tribs := [(1023, { built := true })] }))), 1023, .carrier [true], _, rfl, _, rfl, _, rfl,
      by decide, _, rfl, by decide⟩,
    ⟨(st (rg [(tribReg 1023 0, 0x80000000#32), (tribReg 1023 0, 0xC0000000#32), (tribReg 1023 0x10, 0x4000002F#32)]
      ({ live .carry with tribs := [(1023, { built := true })] }))), 1023, .client [true], _, rfl, _, rfl, _, rfl,
      by decide, _, _, rfl, rfl, by decide⟩,
    ⟨(st (rg [(tribReg 1023 0, 0x80000000#32), (tribReg 1023 0, 0xE0000000#32), (tribReg 1023 0x10, 0x4000002F#32)]
      ({ live .carry with tribs := [(1023, { built := true })] }))), 1023, .blocks [] 1, _, rfl, _, rfl, _, rfl,
      by decide, _, _, _, rfl, rfl, by decide⟩,
    ⟨(st (rg [(tribReg 1023 0, 0x80000000#32)] ({ live .carry with tribs := [(1023, { built := true })] }))), 1023,
      .client [true], _, rfl, _, rfl, _, rfl, by decide, _, rfl, by decide⟩,
    ⟨(st (rg [(tribReg 1023 0, 0x80000000#32)] ({ live .carry with tribs := [(1023, { built := true })] }))), 1023,
      .blocks [] 1, _, rfl, _, rfl, _, rfl, by decide, _, _, rfl, by decide⟩,
    ⟨(st (rg [(0x702F8, 0x80000000#32)] (live .carry))), 1023, _, rfl, _, rfl, by decide⟩,
    ⟨st (rg [(tribReg 1023 0, 0x80000000#32), (tribReg 1023 0x14, 0#32)]
      { live .carry with tribs := [(1023, { built := true })] }), 1023, List.replicate 6 0#8, [], _, by decide, rfl,
      by decide, by decide, by decide, someOrNone _⟩,
    ⟨(st (rg [(tribReg 1023 0, 0x80000000#32)] ({ live .carry with tribs := [(1023, { built := true })] }))), 1023,
      startJc, _, rfl, _, rfl, by decide, _, _, _, rfl, rfl, _, rfl, _, by decide, by decide, rfl⟩,
    ⟨(st (rg [(tribReg 1023 0, 0x80000000#32), (tribReg 1023 0x14, 0x80000000#32)]
      ({ live .carry with tribs := [(1023, { built := true })] }))), 1023, startJc, _, rfl, _, rfl, by decide, _, _,
      _, rfl, rfl, _, rfl, by decide, by decide, _, rfl⟩,
    ⟨st (rg [(tribReg 1023 0, 0x80000000#32), (tribReg 1023 0x14, 0x80000000#32)]
      { live .carry with tribs := [(1023, { built := true })] }), 1023, List.replicate 6 0#8, [], _, by decide, rfl,
      by decide, by decide, by decide, someOrNone _⟩,
    ⟨(st (rg [(tribReg 1023 0, 0x80000000#32), (tribReg 1023 0, 0x92000000#32)]
      ({ live .carry with tribs := [(1023, { built := true })] }))), 1023, noJc, _, rfl, _, rfl, by decide, _, _, rfl,
      by decide⟩,
    ⟨(st (rg [(tribReg 1023 0, 0x80000000#32)] ({ live .carry with tribs := [(1023, { built := true })] }))), 1023,
      .client (List.replicate 6 0#8) [], _, rfl, _, rfl, by decide, _, _, rfl⟩,
    ⟨(st (rg [(tribReg 1023 0, 0x80000000#32)] ({ live .carry with tribs := [(1023, { built := true })] }))), 1023,
      .blocks [] 1, _, rfl, _, rfl, by decide, _, _, rfl⟩,
    ⟨(st (rg [(0x702F8, 0x80000000#32)] (live .carry))), 1023, by decide, _, rfl, _, rfl, by decide⟩,
    ⟨(st (rg [(tribReg 1023 0, 0x80000000#32), (tribReg 1023 0x14, 0x40000000#32)]
      ({ live .carry with tribs := [(1023, { built := true })] }))), 1023, by decide, _, rfl, _, rfl, _, by decide, rfl⟩,
    ⟨(st (rg [(0x702F8, 0x80000000#32)] (live .carry))), by decide⟩,
    ⟨(st (rg [(0x702F8, 0x80000000#32)] (live .carry))), by decide⟩⟩

theorem wit_SeamMerging :
    (∃ s : State, s.part.md.cur = .freeze) ∧
    (∃ s : State, ∃ g : Fin 512, s.part.md.cur ≠ .freeze ∧ ∃ p, p = s.part ∧ ∃ runs,
      runs = (p.seamOn g && p.seamMatched g && p.weftRuns && (p.seam g).built) ∧ runs = false) ∧
    (∃ s : State, ∃ g : Fin 512, s.part.md.cur ≠ .freeze ∧ ∃ p, p = s.part ∧ ∃ runs,
      runs = (p.seamOn g && p.seamMatched g && p.weftRuns && (p.seam g).built) ∧ runs = true ∧ p.legsIn g 4 = []) ∧
    (∃ s : State, ∃ g : Fin 512, ∃ c : Word, ∃ bad : BitVec 3, s.part.md.cur ≠ .freeze ∧ ∃ p, p = s.part ∧ ∃ runs,
      runs = (p.seamOn g && p.seamMatched g && p.weftRuns && (p.seam g).built) ∧ ∃ q : Part,
      q = ((List.range 3).foldl (fun (x : Part) k => if bad.getLsbD k then x.badCopy g k c else x) p) ∧ runs = true ∧
      ∃ k : Nat, p.legsIn g 4 ≠ [] ∧ q.chooseLeg g c = some k) ∧
    (∃ s : State, ∃ g : Fin 512, ∃ c : Word, ∃ bad : BitVec 3, s.part.md.cur ≠ .freeze ∧ ∃ p, p = s.part ∧ ∃ runs,
      runs = (p.seamOn g && p.seamMatched g && p.weftRuns && (p.seam g).built) ∧ ∃ q : Part,
      q = ((List.range 3).foldl (fun (x : Part) k => if bad.getLsbD k then x.badCopy g k c else x) p) ∧ runs = true ∧
      p.legsIn g 4 ≠ [] ∧ q.chooseLeg g c = none) ∧
    (∃ s : State, ∃ g : Fin 512, ∃ k : Fin 3, s.part.md.cur ≠ .freeze ∧ ∃ p, p = s.part ∧ ∃ runs,
      runs = (p.seamOn g && p.seamFirst g && !p.seamElim g && p.weftRuns) ∧ (runs = false ∨ (p.legState g k ≠ 3 ∧
      p.legState g k ≠ 4))) ∧
    (∃ s : State, ∃ g : Fin 512, ∃ k : Fin 3, s.part.md.cur ≠ .freeze ∧ ∃ p, p = s.part ∧ ∃ runs,
      runs = (p.seamOn g && p.seamFirst g && !p.seamElim g && p.weftRuns) ∧ ∃ degraded,
      degraded = (p.tsdOf (48 + p.legTrib g k) && p.otherClean g k) ∧ runs = true ∧ p.legState g k = 4 ∧ degraded = true) ∧
    (∃ s : State, ∃ g : Fin 512, ∃ k : Fin 3, ∃ c : Word, s.part.md.cur ≠ .freeze ∧ ∃ p, p = s.part ∧ ∃ runs,
      runs = (p.seamOn g && p.seamFirst g && !p.seamElim g && p.weftRuns) ∧ ∃ degraded,
      degraded = (p.tsdOf (48 + p.legTrib g k) && p.otherClean g k) ∧ runs = true ∧ p.legState g k = 4 ∧
      degraded = false ∧ (p.expect g = none ∨ p.expect g = some c)) ∧
    (∃ s : State, ∃ g : Fin 512, ∃ k : Fin 3, ∃ c : Word, s.part.md.cur ≠ .freeze ∧ ∃ p, p = s.part ∧ ∃ runs,
      runs = (p.seamOn g && p.seamFirst g && !p.seamElim g && p.weftRuns) ∧ ∃ degraded,
      degraded = (p.tsdOf (48 + p.legTrib g k) && p.otherClean g k) ∧ runs = true ∧ p.legState g k = 4 ∧ ∃ e : Word,
      degraded = false ∧ p.expect g = some e ∧ c ≠ e) ∧
    (∃ s : State, ∃ g : Fin 512, ∃ k : Fin 3, ∃ c : Word, s.part.md.cur ≠ .freeze ∧ ∃ p, p = s.part ∧ ∃ led,
      led = (0x5000 + g.val) ∧ ∃ runs, runs = (p.seamOn g && p.seamFirst g && !p.seamElim g && p.weftRuns) ∧ ∃ r,
      r = p.count led 4 1 ∧ runs = true ∧ p.legState g k = 3 ∧ ∃ leads,
      leads = (((p.expect g).map fun e => laterThan c e).getD false) ∧ ∃ r1,
      r1 = (p.setBit (seamReg g 0x14) (23 + k.val) leads) ∧ ∃ r2,
      r2 = (r1.setLeg g k { r1.leg g k with next := some (c + 1#32) }) ∧ leads = true ∧ r2.legsIn g 4 = [] ∧
      r2.peerAdmits g k = true) ∧
    (∃ s : State, ∃ g : Fin 512, ∃ k : Fin 3, ∃ c : Word, s.part.md.cur ≠ .freeze ∧ ∃ p, p = s.part ∧ ∃ led,
      led = (0x5000 + g.val) ∧ ∃ runs, runs = (p.seamOn g && p.seamFirst g && !p.seamElim g && p.weftRuns) ∧ ∃ r,
      r = p.count led 4 1 ∧ runs = true ∧ p.legState g k = 3 ∧ ∃ leads,
      leads = (((p.expect g).map fun e => laterThan c e).getD false) ∧ ∃ r1,
      r1 = (p.setBit (seamReg g 0x14) (23 + k.val) leads) ∧ ∃ r2,
      r2 = (r1.setLeg g k { r1.leg g k with next := some (c + 1#32) }) ∧
      (leads = false ∨ r2.legsIn g 4 ≠ [] ∨ r2.peerAdmits g k = false)) ∧
    (∃ s : State, ∃ g : Fin 512, s.part.md.cur ≠ .freeze ∧ ∃ p, p = s.part ∧ ∃ ready, ready = p.legsIn g 3 ∧ ∃ due,
      due = (p.seamOn g && p.seamMatched g && (p.legsIn g 4).isEmpty && !ready.isEmpty && !p.notesStale g) ∧ due = false) ∧
    (∃ s : State, ∃ g : Fin 512, s.part.md.cur ≠ .freeze ∧ ∃ p, p = s.part ∧ ∃ ready, ready = p.legsIn g 3 ∧ ∃ due,
      due = (p.seamOn g && p.seamMatched g && (p.legsIn g 4).isEmpty && !ready.isEmpty && !p.notesStale g) ∧ due = true) ∧
    (∃ s : State, ∃ g : Fin 512, ∃ k : Fin 3, s.part.md.cur ≠ .freeze ∧ ∃ p, p = s.part ∧ ∃ slewOf,
      slewOf = ((p.seam g).slew.find? fun e => e.1 == k) ∧ slewOf = none) ∧
    (∃ s : State, ∃ g : Fin 512, ∃ k : Fin 3, s.part.md.cur ≠ .freeze ∧ ∃ p, p = s.part ∧ ∃ slewOf,
      slewOf = ((p.seam g).slew.find? fun e => e.1 == k) ∧ ∃ e : Fin 3 × Nat, slewOf = some e ∧ p.legState g k ≠ 5) ∧
    (∃ s : State, ∃ g : Fin 512, ∃ k : Fin 3, s.part.md.cur ≠ .freeze ∧ ∃ p, p = s.part ∧ ∃ slewOf,
      slewOf = ((p.seam g).slew.find? fun e => e.1 == k) ∧ ∃ e : Fin 3 × Nat, slewOf = some e ∧ p.legState g k = 5) ∧
    (∃ s : State, ∃ g : Fin 512, s.part.md.cur ≠ .freeze ∧ ((s.part.seam g).fallback = false ∨ s.part.memCopies = false)) ∧
    (∃ s : State, ∃ g : Fin 512, s.part.md.cur ≠ .freeze ∧ (s.part.seam g).fallback = true ∧ s.part.memCopies = true) ∧
    (∃ s : State, s.part.md.cur ≠ .freeze) ∧
    (∃ s : State, ∃ g : Fin 512, ∃ k : Fin 3, s.part.md.cur ≠ .freeze ∧ ∃ p, p = s.part ∧ ∃ tsd,
      tsd = (p.tsdOf (48 + p.legTrib g k)) ∧ ∃ degrades,
      degrades = (decide (p.legState g k = 4) && tsd && p.otherClean g k) ∧ degrades = true ∧
      p.steered 3 (legInst g k) = false) ∧
    (∃ s : State, ∃ g : Fin 512, ∃ k : Fin 3, s.part.md.cur ≠ .freeze ∧ ∃ p, p = s.part ∧ ∃ tsd,
      tsd = (p.tsdOf (48 + p.legTrib g k)) ∧ ∃ degrades,
      degrades = (decide (p.legState g k = 4) && tsd && p.otherClean g k) ∧ degrades = true ∧
      p.steered 3 (legInst g k) = true) ∧
    (∃ s : State, ∃ g : Fin 512, ∃ k : Fin 3, s.part.md.cur ≠ .freeze ∧ ∃ p, p = s.part ∧ ∃ tsd,
      tsd = (p.tsdOf (48 + p.legTrib g k)) ∧ ∃ degrades,
      degrades = (decide (p.legState g k = 4) && tsd && p.otherClean g k) ∧ degrades = false) ∧
    (∃ s : State, ∃ g : Fin 512, ∃ k : Fin 3, s.part.md.cur ≠ .freeze ∧ ∃ p, p = s.part ∧ ∃ st, st = p.legState g k ∧
      ∃ inUse, inUse = (p.seamOn g && decide (k.val < p.seamLegs g) && decide (st ≠ 0)) ∧ ∃ measured,
      measured = (inUse && !(decide (st = 4) && decide (k.val = p.seamRef g))) ∧ measured = false) ∧
    (∃ s : State, ∃ g : Fin 512, ∃ k : Fin 3, ∃ h : Int, s.part.md.cur ≠ .freeze ∧ ∃ p, p = s.part ∧ ∃ st,
      st = p.legState g k ∧ ∃ inUse, inUse = (p.seamOn g && decide (k.val < p.seamLegs g) && decide (st ≠ 0)) ∧
      ∃ measured, measured = (inUse && !(decide (st = 4) && decide (k.val = p.seamRef g))) ∧ ∃ r,
      r = (p.setLeg g k { p.leg g k with hold := h, ahead := h }) ∧ ∃ tooFar,
      tooFar = (r.seamMatched g && !(r.legsIn g 4).isEmpty && decide (2 ≤ st) && decide (st ≤ 6) && (decide
      (r.skewHold g < h) || st != 4 && decide (r.skewHold g < r.matched g - h + r.guardHold g))) ∧ measured = true ∧
      tooFar = true) ∧
    (∃ s : State, ∃ g : Fin 512, ∃ k : Fin 3, ∃ h : Int, s.part.md.cur ≠ .freeze ∧ ∃ p, p = s.part ∧ ∃ st,
      st = p.legState g k ∧ ∃ inUse, inUse = (p.seamOn g && decide (k.val < p.seamLegs g) && decide (st ≠ 0)) ∧
      ∃ measured, measured = (inUse && !(decide (st = 4) && decide (k.val = p.seamRef g))) ∧ ∃ r,
      r = (p.setLeg g k { p.leg g k with hold := h, ahead := h }) ∧ ∃ tooFar,
      tooFar = (r.seamMatched g && !(r.legsIn g 4).isEmpty && decide (2 ≤ st) && decide (st ≤ 6) && (decide
      (r.skewHold g < h) || st != 4 && decide (r.skewHold g < r.matched g - h + r.guardHold g))) ∧ measured = true ∧
      tooFar = false ∧ st ≠ 3 ∧ st ≠ 4) ∧
    (∃ s : State, ∃ g : Fin 512, ∃ k : Fin 3, ∃ h : Int, s.part.md.cur ≠ .freeze ∧ ∃ p, p = s.part ∧ ∃ st,
      st = p.legState g k ∧ ∃ inUse, inUse = (p.seamOn g && decide (k.val < p.seamLegs g) && decide (st ≠ 0)) ∧
      ∃ measured, measured = (inUse && !(decide (st = 4) && decide (k.val = p.seamRef g))) ∧ ∃ r,
      r = (p.setLeg g k { p.leg g k with hold := h, ahead := h }) ∧ ∃ tooFar,
      tooFar = (r.seamMatched g && !(r.legsIn g 4).isEmpty && decide (2 ≤ st) && decide (st ≤ 6) && (decide
      (r.skewHold g < h) || st != 4 && decide (r.skewHold g < r.matched g - h + r.guardHold g))) ∧ measured = true ∧
      tooFar = false ∧ st = 4) ∧
    (∃ s : State, ∃ g : Fin 512, ∃ k : Fin 3, ∃ h : Int, s.part.md.cur ≠ .freeze ∧ ∃ p, p = s.part ∧ ∃ st,
      st = p.legState g k ∧ ∃ inUse, inUse = (p.seamOn g && decide (k.val < p.seamLegs g) && decide (st ≠ 0)) ∧
      ∃ measured, measured = (inUse && !(decide (st = 4) && decide (k.val = p.seamRef g))) ∧ ∃ r,
      r = (p.setLeg g k { p.leg g k with hold := h, ahead := h }) ∧ ∃ tooFar,
      tooFar = (r.seamMatched g && !(r.legsIn g 4).isEmpty && decide (2 ≤ st) && decide (st ≤ 6) && (decide
      (r.skewHold g < h) || st != 4 && decide (r.skewHold g < r.matched g - h + r.guardHold g))) ∧ ∃ alone,
      alone = ((r.legsIn g 4).isEmpty && r.seamMatched g) ∧ measured = true ∧ tooFar = false ∧ st = 3 ∧ alone = true) ∧
    (∃ s : State, ∃ g : Fin 512, ∃ k : Fin 3, ∃ h : Int, s.part.md.cur ≠ .freeze ∧ ∃ p, p = s.part ∧ ∃ st,
      st = p.legState g k ∧ ∃ inUse, inUse = (p.seamOn g && decide (k.val < p.seamLegs g) && decide (st ≠ 0)) ∧
      ∃ measured, measured = (inUse && !(decide (st = 4) && decide (k.val = p.seamRef g))) ∧ ∃ r,
      r = (p.setLeg g k { p.leg g k with hold := h, ahead := h }) ∧ ∃ tooFar,
      tooFar = (r.seamMatched g && !(r.legsIn g 4).isEmpty && decide (2 ≤ st) && decide (st ≤ 6) && (decide
      (r.skewHold g < h) || st != 4 && decide (r.skewHold g < r.matched g - h + r.guardHold g))) ∧ ∃ alone,
      alone = ((r.legsIn g 4).isEmpty && r.seamMatched g) ∧ measured = true ∧ tooFar = false ∧ st = 3 ∧
      alone = false ∧ r.admits g k = false) ∧
    (∃ s : State, ∃ g : Fin 512, ∃ k : Fin 3, ∃ h : Int, s.part.md.cur ≠ .freeze ∧ ∃ p, p = s.part ∧ ∃ st,
      st = p.legState g k ∧ ∃ inUse, inUse = (p.seamOn g && decide (k.val < p.seamLegs g) && decide (st ≠ 0)) ∧
      ∃ measured, measured = (inUse && !(decide (st = 4) && decide (k.val = p.seamRef g))) ∧ ∃ r,
      r = (p.setLeg g k { p.leg g k with hold := h, ahead := h }) ∧ ∃ tooFar,
      tooFar = (r.seamMatched g && !(r.legsIn g 4).isEmpty && decide (2 ≤ st) && decide (st ≤ 6) && (decide
      (r.skewHold g < h) || st != 4 && decide (r.skewHold g < r.matched g - h + r.guardHold g))) ∧ ∃ alone,
      alone = ((r.legsIn g 4).isEmpty && r.seamMatched g) ∧ measured = true ∧ tooFar = false ∧ st = 3 ∧
      alone = false ∧ r.admits g k = true ∧ r.steered 3 (legInst g k) = false) ∧
    (∃ s : State, ∃ g : Fin 512, ∃ k : Fin 3, ∃ h : Int, s.part.md.cur ≠ .freeze ∧ ∃ p, p = s.part ∧ ∃ st,
      st = p.legState g k ∧ ∃ inUse, inUse = (p.seamOn g && decide (k.val < p.seamLegs g) && decide (st ≠ 0)) ∧
      ∃ measured, measured = (inUse && !(decide (st = 4) && decide (k.val = p.seamRef g))) ∧ ∃ r,
      r = (p.setLeg g k { p.leg g k with hold := h, ahead := h }) ∧ ∃ tooFar,
      tooFar = (r.seamMatched g && !(r.legsIn g 4).isEmpty && decide (2 ≤ st) && decide (st ≤ 6) && (decide
      (r.skewHold g < h) || st != 4 && decide (r.skewHold g < r.matched g - h + r.guardHold g))) ∧ ∃ alone,
      alone = ((r.legsIn g 4).isEmpty && r.seamMatched g) ∧ measured = true ∧ tooFar = false ∧ st = 3 ∧
      alone = false ∧ r.admits g k = true ∧ r.steered 3 (legInst g k) = true) :=
  ⟨⟨(st (live .freeze)), by decide⟩,
    ⟨(st (rg [(seamReg 511 0, 0xA0000FFF#32), (seamReg 511 0x14, 0x4#32), (seamReg 511 8, 0x00100400#32)]
      ({ live .carry with seams := [(511, { built := true, leg0 := { buf := [(5#32, some 0)] } })] }))), 0, by decide,
      _, rfl, _, rfl, by decide⟩,
    ⟨(st (rg [(seamReg 511 0, 0xA0000FFF#32), (seamReg 511 0x14, 0#32), (seamReg 511 8, 0x00100400#32)]
      ({ live .carry with seams := [(511, { built := true })] }))), 511, by decide, _, rfl, _, rfl, by decide⟩,
    ⟨(st (rg [(seamReg 511 0, 0xA0000FFF#32), (seamReg 511 0x14, 0x4#32), (seamReg 511 8, 0x00100400#32)]
      ({ live .carry with seams := [(511, { built := true, leg0 := { buf := [(5#32, some 0)] } })] }))), 511, 5#32,
      0#3, by decide, _, rfl, _, rfl, _, rfl, by decide, _, by decide, rfl⟩,
    ⟨(st (rg [(seamReg 511 0, 0xA0000FFF#32), (seamReg 511 0x14, 0x4#32), (seamReg 511 8, 0x00100400#32)]
      ({ live .carry with seams := [(511, { built := true, leg0 := { buf := [(5#32, some 0)] } })] }))), 511, 5#32,
      1#3, by decide, _, rfl, _, rfl, _, rfl, by decide⟩,
    ⟨(st (rg [(seamReg 511 0, 0xA0000FFF#32), (seamReg 511 0x14, 0x4#32), (seamReg 511 8, 0x00100400#32)]
      ({ live .carry with seams := [(511, { built := true, leg0 := { buf := [(5#32, some 0)] } })] }))), 511, 2,
      by decide, _, rfl, _, rfl, by decide⟩,
    ⟨(st (rg [(seamReg 511 0, 0xE0000FFF#32), (seamReg 511 0x14, 0x44#32), (seamReg 511 8, 0x00100400#32), (pointDef 49, 4#32)]
      ({ live .carry with seams := [(511, { last := some 4#32 })] }))), 511, 1, by decide, _, rfl, _, rfl, _, rfl,
      by decide⟩,
    ⟨(st (rg [(seamReg 511 0, 0xE0000FFF#32), (seamReg 511 0x14, 0x304#32), (seamReg 511 8, 0x00100400#32)]
      ({ live .carry with seams := [(511, { last := some 4#32, peerIn := 4#3 })] }))), 511, 0, 5#32, by decide, _,
      rfl, _, rfl, _, rfl, by decide⟩,
    ⟨(st (rg [(seamReg 511 0, 0xE0000FFF#32), (seamReg 511 0x14, 0x304#32), (seamReg 511 8, 0x00100400#32)]
      ({ live .carry with seams := [(511, { last := some 4#32, peerIn := 4#3 })] }))), 511, 0, 6#32, by decide, _,
      rfl, _, rfl, _, rfl, by decide, by decide, _, by decide, rfl, by decide⟩,
    ⟨(st (rg [(seamReg 511 0, 0xE0000FFF#32), (seamReg 511 0x14, 0x3#32), (seamReg 511 8, 0x00100400#32)]
      ({ live .carry with seams := [(511, { last := some 4#32, peerIn := 1#3 })] }))), 511, 0, 6#32, by decide, _,
      rfl, _, rfl, _, rfl, _, rfl, by decide, by decide, _, rfl, _, rfl, _, rfl, by decide⟩,
    ⟨(st (rg [(seamReg 511 0, 0xE0000FFF#32), (seamReg 511 0x14, 0x3#32), (seamReg 511 8, 0x00100400#32)]
      ({ live .carry with seams := [(511, { last := some 4#32, peerIn := 1#3 })] }))), 511, 0, 5#32, by decide, _,
      rfl, _, rfl, _, rfl, _, rfl, by decide, by decide, _, rfl, _, rfl, _, rfl, by decide⟩,
    ⟨(st (rg [(seamReg 511 0, 0xA0000FFF#32), (seamReg 511 0x14, 0x4#32), (seamReg 511 8, 0x00100400#32)]
      ({ live .carry with seams := [(511, { built := true, leg0 := { buf := [(5#32, some 0)] } })] }))), 511,
      by decide, _, rfl, _, rfl, _, rfl, by decide⟩,
    ⟨(st (rg [(seamReg 3 0, 0xA0000FFF#32), (seamReg 3 0x14, 0x30#32), (seamReg 3 8, 0x00100400#32)] (live .carry))),
      3, by decide, _, rfl, _, rfl, _, rfl, by decide⟩,
    ⟨(st (rg [(seamReg 511 0, 0xA0000FFF#32), (seamReg 511 0x14, 0x4#32), (seamReg 511 8, 0x00100400#32)]
      ({ live .carry with seams := [(511, { built := true, leg0 := { buf := [(5#32, some 0)] } })] }))), 511, 2,
      by decide, _, rfl, _, rfl, by decide⟩,
    ⟨(st (rg [(seamReg 511 0, 0xA0000FFF#32), (seamReg 511 0x14, 0x304#32), (seamReg 511 8, 0x00100400#32)]
      ({ live .carry with seams := [(511, { slew := [(2, 9)] })] }))), 511, 2, by decide, _, rfl, _, rfl, _, rfl,
      by decide⟩,
    ⟨(st (rg [(seamReg 511 0, 0xA0000FFF#32), (seamReg 511 0x14, 0x504#32), (seamReg 511 8, 0x00100400#32)]
      ({ live .carry with seams := [(511, { slew := [(2, 9)] })] }))), 511, 2, by decide, _, rfl, _, rfl, _, rfl,
      by decide⟩,
    ⟨(st (rg [(seamReg 511 0, 0xA0000FFF#32), (seamReg 511 0x14, 0x4#32), (seamReg 511 8, 0x00100400#32)]
      ({ live .carry with seams := [(511, { built := true, leg0 := { buf := [(5#32, some 0)] } })] }))), 511, by decide⟩,
    ⟨(st (rg [(seamReg 511 0, 0xA0000FFF#32), (seamReg 511 0x14, 0x504#32), (seamReg 511 8, 0x00100400#32)]
      ({ live .carry with seams := [(511, { fallback := true })] }))), 511, by decide⟩,
    ⟨(st (rg [(seamReg 511 0, 0xA0000FFF#32), (seamReg 511 0x14, 0x4#32), (seamReg 511 8, 0x00100400#32)]
      ({ live .carry with seams := [(511, { built := true, leg0 := { buf := [(5#32, some 0)] } })] }))), by decide⟩,
    ⟨(st (rg [(seamReg 511 0, 0xE0000FFF#32), (seamReg 511 0x14, 0x44#32), (seamReg 511 8, 0x00100400#32), (pointDef 49, 4#32)]
      ({ live .carry with seams := [(511, { last := some 4#32 })] }))), 511, 1, by decide, _, rfl, _, rfl, _, rfl,
      by decide⟩,
    ⟨(st (rg [(seamReg 3 0, 0xA0000FFF#32), (seamReg 3 0x14, 0x44#32), (seamReg 3 8, 0x00100400#32), (pointDef 49, 4#32), (steerReg 3, 0x80000000#32)]
      (live .carry))), 3, 1, by decide, _, rfl, _, rfl, _, rfl, by decide⟩,
    ⟨(st (rg [(seamReg 511 0, 0xA0000FFF#32), (seamReg 511 0x14, 0x4#32), (seamReg 511 8, 0x00100400#32)]
      ({ live .carry with seams := [(511, { built := true, leg0 := { buf := [(5#32, some 0)] } })] }))), 511, 2,
      by decide, _, rfl, _, rfl, _, rfl, by decide⟩,
    ⟨(st (rg [(seamReg 511 0, 0xA0000FFF#32), (seamReg 511 0x14, 0x4#32), (seamReg 511 8, 0x00100400#32)]
      ({ live .carry with seams := [(511, { built := true, leg0 := { buf := [(5#32, some 0)] } })] }))), 511, 2,
      by decide, _, rfl, _, rfl, _, rfl, _, rfl, by decide⟩,
    ⟨(st (rg [(seamReg 511 0, 0xA0000FFF#32), (seamReg 511 0x14, 0x44#32), (seamReg 511 8, 0x00100400#32)] (live
      .carry))), 511, 1, 65536000, by decide, _, rfl, _, rfl, _, rfl, _, rfl, _, rfl, _, rfl, by decide⟩,
    ⟨(st (rg [(seamReg 3 0, 0xA0000FFF#32), (seamReg 3 0x14, 0x20#32), (seamReg 3 8, 0x00100400#32)] (live .carry))),
      3, 1, 0, by decide, _, rfl, _, rfl, _, rfl, _, rfl, _, rfl, _, rfl, by decide⟩,
    ⟨(st (rg [(seamReg 511 0, 0xA0000FFF#32), (seamReg 511 0x14, 0x44#32), (seamReg 511 8, 0x00100400#32)] (live
      .carry))), 511, 1, 0, by decide, _, rfl, _, rfl, _, rfl, _, rfl, _, rfl, _, rfl, by decide⟩,
    ⟨(st (rg [(seamReg 3 0, 0xA0000FFF#32), (seamReg 3 0x14, 0x30#32), (seamReg 3 8, 0x00100400#32)] (live .carry))),
      3, 1, 0, by decide, _, rfl, _, rfl, _, rfl, _, rfl, _, rfl, _, rfl, _, rfl, by decide⟩,
    ⟨(st (rg [(seamReg 3 0, 0xA0000FFF#32), (seamReg 3 0x14, 0x34#32), (seamReg 3 8, 0x00100400#32)]
      ({ live .carry with seams := [(3, { peerIn := 2#3 })] }))), 3, 1, 0, by decide, _, rfl, _, rfl, _, rfl, _, rfl,
      _, rfl, _, rfl, _, rfl, by decide⟩,
    ⟨(st (rg [(seamReg 511 0, 0xE0000FFF#32), (seamReg 511 0x14, 0x3#32), (seamReg 511 8, 0x00100400#32)]
      ({ live .carry with seams := [(511, { last := some 4#32, peerIn := 1#3 })] }))), 511, 0, 0, by decide, _, rfl,
      _, rfl, _, rfl, _, rfl, _, rfl, _, rfl, _, rfl, by decide⟩,
    ⟨(st (rg [(seamReg 3 0, 0xA0000FFF#32), (seamReg 3 0x14, 0x34#32), (seamReg 3 8, 0x00100400#32), (steerReg 3, 0x80000000#32)]
      ({ live .carry with seams := [(3, { peerIn := 2#3 })] }))), 3, 1, 16777216, by decide, _, rfl, _, rfl, _, rfl,
      _, rfl, _, rfl, _, rfl, _, rfl, by decide⟩⟩

theorem wit_SeamNotesAndCommands :
    (∃ s : State, s.part.md.cur = .freeze) ∧
    (∃ s : State, s.part.md.cur ≠ .freeze) ∧
    (∃ s : State, ∃ g : Fin 512, s.part.md.cur ≠ .freeze ∧ ∃ p, p = s.part ∧ ∃ legs : BitVec 3, ∃ sn : Word,
      (p.seam g).retire = some (legs, sn)) ∧
    (∃ s : State, ∃ g : Fin 512, s.part.md.cur ≠ .freeze ∧ ∃ p, p = s.part ∧ (p.seam g).retire = none) ∧
    (∃ s : State, s.part.md.cur ≠ .freeze) ∧
    (∃ s : State, ∃ n : SeamNote, s.part.md.cur ≠ .freeze ∧ ∃ p, p = s.part.count 0xA000 0 1 ∧ ∃ i, ∃ m, (i,
      m) ∈ [(1, Instr.seamStatusNoteRx n), (2, .seamRetireNoteRx n), (3, .seamRetireAckRx n)] ∧ p.coresAway = true) ∧
    (∃ s : State, ∃ n : SeamNote, s.part.md.cur ≠ .freeze ∧ ∃ p, p = s.part.count 0xA000 0 1 ∧ ∃ g, g = n.group.val ∧
      ∃ good, good = (n.version == 1#8 && p.seamOn g && (p.reg (seamReg g 0xC)).setWidth 16 == n.srcNode && p.field
      (seamReg g 0xC) 24 16 == n.srcGroup.toNat) ∧ ∃ i, ∃ m, (i,
      m) ∈ [(1, Instr.seamStatusNoteRx n), (2, .seamRetireNoteRx n), (3, .seamRetireAckRx n)] ∧ p.coresAway = false ∧
      good = false) ∧
    (∃ s : State, ∃ n : SeamNote, s.part.md.cur ≠ .freeze ∧ ∃ p, p = s.part.count 0xA000 0 1 ∧ ∃ g, g = n.group.val ∧
      ∃ good, good = (n.version == 1#8 && p.seamOn g && (p.reg (seamReg g 0xC)).setWidth 16 == n.srcNode && p.field
      (seamReg g 0xC) 24 16 == n.srcGroup.toNat) ∧ p.coresAway = false ∧ good = true) ∧
    (∃ s : State, ∃ n : SeamNote, s.part.md.cur ≠ .freeze ∧ ∃ p, p = s.part.count 0xA000 0 1 ∧ ∃ g, g = n.group.val ∧
      ∃ good, good = (n.version == 1#8 && p.seamOn g && (p.reg (seamReg g 0xC)).setWidth 16 == n.srcNode && p.field
      (seamReg g 0xC) 24 16 == n.srcGroup.toNat) ∧ p.coresAway = false ∧ good = true) ∧
    (∃ s : State, ∃ n : SeamNote, s.part.md.cur ≠ .freeze ∧ ∃ p, p = s.part.count 0xA000 0 1 ∧ ∃ g, g = n.group.val ∧
      ∃ good, good = (n.version == 1#8 && p.seamOn g && (p.reg (seamReg g 0xC)).setWidth 16 == n.srcNode && p.field
      (seamReg g 0xC) 24 16 == n.srcGroup.toNat) ∧ p.coresAway = false ∧ good = true ∧ ∃ legs : BitVec 3,
      (p.seam g).retire = some (legs, n.serial)) ∧
    (∃ s : State, ∃ n : SeamNote, s.part.md.cur ≠ .freeze ∧ ∃ p, p = s.part.count 0xA000 0 1 ∧ ∃ g, g = n.group.val ∧
      ∃ good, good = (n.version == 1#8 && p.seamOn g && (p.reg (seamReg g 0xC)).setWidth 16 == n.srcNode && p.field
      (seamReg g 0xC) 24 16 == n.srcGroup.toNat) ∧ p.coresAway = false ∧ good = true ∧ (∀ legs : BitVec 3,
      (p.seam g).retire ≠ some (legs, n.serial))) ∧
    (∃ s : State, ∃ t : Fin 1024, ∃ p, p = s.part ∧ ∃ op, ∃ i, (op,
      i) ∈ [(0x0701, Instr.seamAdmit t), (0x0702, .seamRetire t), (0x0703, .seamStatus t)] ∧ p.runs t op = false) ∧
    (∃ s : State, ∃ t : Fin 1024, ∃ p, p = s.part ∧ ∃ g, g = (fieldOf (p.par t 0) 8 0) ∧ ∃ k,
      k = (fieldOf (p.par t 0) 17 16) ∧ ∃ named, named = (p.seamOn g && decide (k < p.seamLegs g)) ∧
      p.runs t 0x0701 = true ∧ named = false) ∧
    (∃ s : State, ∃ t : Fin 1024, ∃ p, p = s.part ∧ ∃ g, g = (fieldOf (p.par t 0) 8 0) ∧ ∃ k,
      k = (fieldOf (p.par t 0) 17 16) ∧ ∃ named, named = (p.seamOn g && decide (k < p.seamLegs g)) ∧ ∃ st,
      st = p.legState g k ∧ p.runs t 0x0701 = true ∧ named = true ∧ (st = 0 ∨ st = 4)) ∧
    (∃ s : State, ∃ t : Fin 1024, ∃ p, p = s.part ∧ ∃ g, g = (fieldOf (p.par t 0) 8 0) ∧ ∃ k,
      k = (fieldOf (p.par t 0) 17 16) ∧ ∃ named, named = (p.seamOn g && decide (k < p.seamLegs g)) ∧ ∃ st,
      st = p.legState g k ∧ ∃ leads, leads = (p.legGood g k && p.bit (seamReg g 0x14) (23 + k) && p.peerAdmits g k) ∧
      p.runs t 0x0701 = true ∧ named = true ∧ st ≠ 0 ∧ st ≠ 4 ∧ leads = true) ∧
    (∃ s : State, ∃ t : Fin 1024, ∃ p, p = s.part ∧ ∃ g, g = (fieldOf (p.par t 0) 8 0) ∧ ∃ k,
      k = (fieldOf (p.par t 0) 17 16) ∧ ∃ named, named = (p.seamOn g && decide (k < p.seamLegs g)) ∧ ∃ st,
      st = p.legState g k ∧ ∃ leads, leads = (p.legGood g k && p.bit (seamReg g 0x14) (23 + k) && p.peerAdmits g k) ∧
      ∃ passes, passes = (leads || (p.legGood g k && p.admits g k)) ∧ p.runs t 0x0701 = true ∧ named = true ∧ st ≠ 0 ∧
      st ≠ 4 ∧ leads = false ∧ passes = true) ∧
    (∃ s : State, ∃ t : Fin 1024, ∃ p, p = s.part ∧ ∃ g, g = (fieldOf (p.par t 0) 8 0) ∧ ∃ k,
      k = (fieldOf (p.par t 0) 17 16) ∧ ∃ named, named = (p.seamOn g && decide (k < p.seamLegs g)) ∧ ∃ st,
      st = p.legState g k ∧ ∃ leads, leads = (p.legGood g k && p.bit (seamReg g 0x14) (23 + k) && p.peerAdmits g k) ∧
      ∃ passes, passes = (leads || (p.legGood g k && p.admits g k)) ∧ p.runs t 0x0701 = true ∧ named = true ∧
      passes = false ∧ st = 8) ∧
    (∃ s : State, ∃ t : Fin 1024, ∃ p, p = s.part ∧ ∃ g, g = (fieldOf (p.par t 0) 8 0) ∧ ∃ k,
      k = (fieldOf (p.par t 0) 17 16) ∧ ∃ named, named = (p.seamOn g && decide (k < p.seamLegs g)) ∧ ∃ st,
      st = p.legState g k ∧ ∃ leads, leads = (p.legGood g k && p.bit (seamReg g 0x14) (23 + k) && p.peerAdmits g k) ∧
      ∃ passes, passes = (leads || (p.legGood g k && p.admits g k)) ∧ ∃ need : Int,
      need = (((p.leg g k).lag : Int) + p.guardHold g) ∧ ∃ late,
      late = (decide (st = 5) && (p.leg g k).byLate && !(p.legsIn g 4).isEmpty) ∧ p.runs t 0x0701 = true ∧
      named = true ∧ passes = false ∧ late = true ∧ p.skewHold g < need) ∧
    (∃ s : State, ∃ t : Fin 1024, ∃ p, p = s.part ∧ ∃ g, g = (fieldOf (p.par t 0) 8 0) ∧ ∃ k,
      k = (fieldOf (p.par t 0) 17 16) ∧ ∃ named, named = (p.seamOn g && decide (k < p.seamLegs g)) ∧ ∃ st,
      st = p.legState g k ∧ ∃ leads, leads = (p.legGood g k && p.bit (seamReg g 0x14) (23 + k) && p.peerAdmits g k) ∧
      ∃ passes, passes = (leads || (p.legGood g k && p.admits g k)) ∧ ∃ need : Int,
      need = (((p.leg g k).lag : Int) + p.guardHold g) ∧ ∃ late,
      late = (decide (st = 5) && (p.leg g k).byLate && !(p.legsIn g 4).isEmpty) ∧ p.runs t 0x0701 = true ∧
      named = true ∧ passes = false ∧ late = true ∧ need ≤ p.skewHold g) ∧
    (∃ s : State, ∃ t : Fin 1024, ∃ p, p = s.part ∧ ∃ g, g = (fieldOf (p.par t 0) 8 0) ∧ ∃ k,
      k = (fieldOf (p.par t 0) 17 16) ∧ ∃ named, named = (p.seamOn g && decide (k < p.seamLegs g)) ∧ ∃ st,
      st = p.legState g k ∧ ∃ leads, leads = (p.legGood g k && p.bit (seamReg g 0x14) (23 + k) && p.peerAdmits g k) ∧
      ∃ passes, passes = (leads || (p.legGood g k && p.admits g k)) ∧ ∃ late,
      late = (decide (st = 5) && (p.leg g k).byLate && !(p.legsIn g 4).isEmpty) ∧ p.runs t 0x0701 = true ∧
      named = true ∧ passes = false ∧ late = false ∧ st ≠ 8) ∧
    (∃ s : State, ∃ t : Fin 1024, ∃ p, p = s.part ∧ ∃ g, g = (fieldOf (p.par t 0) 8 0) ∧ ∃ k,
      k = (fieldOf (p.par t 0) 17 16) ∧ ∃ named, named = (p.seamOn g && decide (k < p.seamLegs g)) ∧
      p.runs t 0x0702 = true ∧ named = false) ∧
    (∃ s : State, ∃ t : Fin 1024, ∃ p, p = s.part ∧ ∃ g, g = (fieldOf (p.par t 0) 8 0) ∧ ∃ k,
      k = (fieldOf (p.par t 0) 17 16) ∧ ∃ named, named = (p.seamOn g && decide (k < p.seamLegs g)) ∧
      p.runs t 0x0702 = true ∧ named = true) ∧
    (∃ s : State, ∃ t : Fin 1024, ∃ p, p = s.part ∧ ∃ g, g = (fieldOf (p.par t 0) 8 0) ∧ p.runs t 0x0703 = true ∧
      p.seamOn g = false) ∧
    (∃ s : State, ∃ t : Fin 1024, ∃ p, p = s.part ∧ ∃ g, g = (fieldOf (p.par t 0) 8 0) ∧ p.runs t 0x0703 = true ∧
      p.seamOn g = true) :=
  ⟨⟨(st (live .freeze)), by decide⟩,
    ⟨(st (rg [(seamReg 511 0, 0xA0000FFF#32), (seamReg 511 0x14, 0#32), (seamReg 511 8, 0x00100400#32)]
      ({ live .carry with seams := [(511, { retire := some (1#3, 5#32) })] }))), by decide⟩,
    ⟨(st (rg [(seamReg 511 0, 0xA0000FFF#32), (seamReg 511 0x14, 0#32), (seamReg 511 8, 0x00100400#32)]
      ({ live .carry with seams := [(511, { retire := some (1#3, 5#32) })] }))), 511, by decide, _, rfl, _, _, rfl⟩,
    ⟨(st (rg [(seamReg 511 0, 0xA0000FFF#32), (seamReg 511 0x14, 0#32), (seamReg 511 8, 0x00100400#32)]
      ({ live .carry with seams := [(511, { retire := some (1#3, 5#32) })] }))), 0, by decide, _, rfl, by decide⟩,
    ⟨(st (rg [(seamReg 511 0, 0xA0000FFF#32), (seamReg 511 0x14, 0#32), (seamReg 511 8, 0x00100400#32)]
      ({ live .carry with seams := [(511, { retire := some (1#3, 5#32) })] }))), by decide⟩,
    ⟨(st (live .renew)),
      { version := 1#8, srcNode := 0#16, group := 511, srcGroup := 0, legs := 1#3, active := 0#3, serial := 5#32 },
      by decide, _, rfl, 2, .seamRetireNoteRx
      { version := 1#8, srcNode := 0#16, group := 511, srcGroup := 0, legs := 1#3, active := 0#3, serial := 5#32 },
      by simp, by decide⟩,
    ⟨(st (live .carry)),
      { version := 1#8, srcNode := 0#16, group := 511, srcGroup := 0, legs := 1#3, active := 0#3, serial := 5#32 },
      by decide, _, rfl, _, rfl, _, rfl, 2, .seamRetireNoteRx
      { version := 1#8, srcNode := 0#16, group := 511, srcGroup := 0, legs := 1#3, active := 0#3, serial := 5#32 },
      by simp, by decide⟩,
    ⟨(st (rg [(seamReg 511 0, 0xA0000FFF#32), (seamReg 511 0x14, 0#32), (seamReg 511 8, 0x00100400#32)]
      ({ live .carry with seams := [(511, { retire := some (1#3, 5#32) })] }))),
      { version := 1#8, srcNode := 0#16, group := 511, srcGroup := 0, legs := 1#3, active := 0#3, serial := 5#32 },
      by decide, _, rfl, _, rfl, _, rfl, by decide⟩,
    ⟨(st (rg [(seamReg 511 0, 0xA0000FFF#32), (seamReg 511 0x14, 0#32), (seamReg 511 8, 0x00100400#32)]
      ({ live .carry with seams := [(511, { retire := some (1#3, 5#32) })] }))),
      { version := 1#8, srcNode := 0#16, group := 511, srcGroup := 0, legs := 1#3, active := 0#3, serial := 5#32 },
      by decide, _, rfl, _, rfl, _, rfl, by decide⟩,
    ⟨(st (rg [(seamReg 511 0, 0xA0000FFF#32), (seamReg 511 0x14, 0#32), (seamReg 511 8, 0x00100400#32)]
      ({ live .carry with seams := [(511, { retire := some (1#3, 5#32) })] }))),
      { version := 1#8, srcNode := 0#16, group := 511, srcGroup := 0, legs := 1#3, active := 0#3, serial := 5#32 },
      by decide, _, rfl, _, rfl, _, rfl, by decide, by decide, 1#3, by decide⟩,
    ⟨(st (runs 0x0701 [0x1ff#32] ((rg
      [(seamReg 511 0, 0xE0000FFF#32), (seamReg 511 0x14, 0x3#32), (seamReg 511 8, 0x00100400#32)]
      ({ live .carry with tribs := [(0, { acq := true })], seams := [(511, { peerIn := 1#3 })] }))))),
      { version := 1#8, srcNode := 0#16, group := 511, srcGroup := 0, legs := 1#3, active := 0#3, serial := 5#32 },
      by decide, _, rfl, _, rfl, _, rfl, by decide⟩,
    ⟨(st (runs 0x0702 [0x301ff#32] ((rg
      [(seamReg 511 0, 0xA0000FFF#32), (seamReg 511 0x14, 0#32), (seamReg 511 8, 0x00100400#32)] (live .carry))))), 3,
      _, rfl, 0x0701, .seamAdmit 3, by simp, by decide⟩,
    ⟨(st (runs 0x0701 [0x20003#32] (rg
      [(seamReg 3 0, 0xA0000FFF#32), (seamReg 3 0x14, 0x40#32), (seamReg 3 8, 0x00100400#32)] (live .carry)))), 3, _,
      rfl, _, rfl, _, rfl, _, rfl, by decide⟩,
    ⟨(st (runs 0x0701 [0x10003#32] (rg
      [(seamReg 3 0, 0xA0000FFF#32), (seamReg 3 0x14, 0x40#32), (seamReg 3 8, 0x00100400#32)] (live .carry)))), 3, _,
      rfl, _, rfl, _, rfl, _, rfl, _, rfl, by decide⟩,
    ⟨(st (runs 0x0701 [0x1ff#32] ((rg
      [(seamReg 511 0, 0xE0000FFF#32), (seamReg 511 0x14, 0x800003#32), (seamReg 511 8, 0x00100400#32)]
      ({ live .carry with tribs := [(0, { acq := true })], seams := [(511, { peerIn := 1#3 })] }))))), 3, _, rfl, _,
      rfl, _, rfl, _, rfl, _, rfl, _, rfl, by decide⟩,
    ⟨(st (runs 0x0701 [0x1ff#32] ((rg
      [(seamReg 511 0, 0xE0000FFF#32), (seamReg 511 0x14, 0x3#32), (seamReg 511 8, 0x00100400#32)]
      ({ live .carry with tribs := [(0, { acq := true })], seams := [(511, { peerIn := 1#3 })] }))))), 3, _, rfl, _,
      rfl, _, rfl, _, rfl, _, rfl, _, rfl, _, rfl, by decide⟩,
    ⟨(st (runs 0x0701 [0x1ff#32] ((rg
      [(seamReg 511 0, 0xA0000FFF#32), (seamReg 511 0x14, 8#32), (seamReg 511 8, 0x00100400#32)] (live .carry))))), 3,
      _, rfl, _, rfl, _, rfl, _, rfl, _, rfl, _, rfl, _, rfl, by decide⟩,
    ⟨(st (runs 0x0701 [0x1ff#32] ((rg
      [(seamReg 511 0, 0xA0000FFF#32), (seamReg 511 0x14, 0x45#32), (seamReg 511 8, 0x00100400#32)]
      ({ live .carry with seams := [(511, { leg0 := { byLate := true, lag := 1000000000 } })] }))))), 3, _, rfl, _,
      rfl, _, rfl, _, rfl, _, rfl, _, rfl, _, rfl, _, rfl, _, rfl, by decide⟩,
    ⟨(st (runs 0x0701 [0x1ff#32] ((rg
      [(seamReg 511 0, 0xA0000FFF#32), (seamReg 511 0x14, 0x45#32), (seamReg 511 8, 0x00100400#32)]
      ({ live .carry with seams := [(511, { leg0 := { byLate := true } })] }))))), 3, _, rfl, _, rfl, _, rfl, _, rfl,
      _, rfl, _, rfl, _, rfl, _, rfl, _, rfl, by decide⟩,
    ⟨(st (runs 0x0701 [0x1ff#32] ((rg
      [(seamReg 511 0, 0xA0000FFF#32), (seamReg 511 0x14, 0x3#32), (seamReg 511 8, 0x00100400#32)]
      ({ live .carry with tribs := [(0, { acq := true })], seams := [(511, { peerIn := 1#3 })] }))))), 3, _, rfl, _,
      rfl, _, rfl, _, rfl, _, rfl, _, rfl, _, rfl, _, rfl, by decide⟩,
    ⟨(st (runs 0x0702 [0x301ff#32] ((rg
      [(seamReg 511 0, 0xA0000FFF#32), (seamReg 511 0x14, 0#32), (seamReg 511 8, 0x00100400#32)] (live .carry))))), 3,
      _, rfl, _, rfl, _, rfl, _, rfl, by decide⟩,
    ⟨(st (runs 0x0702 [0x10003#32] (rg
      [(seamReg 3 0, 0xA0000FFF#32), (seamReg 3 0x14, 0x40#32), (seamReg 3 8, 0x00100400#32)] (live .carry)))), 3, _,
      rfl, _, rfl, _, rfl, _, rfl, by decide⟩,
    ⟨(st (runs 0x0703 [3#32] (live .carry))), 3, _, rfl, _, rfl, by decide⟩,
    ⟨(st (runs 0x0703 [3#32] (rg
      [(seamReg 3 0, 0xA0000FFF#32), (seamReg 3 0x14, 0x40#32), (seamReg 3 8, 0x00100400#32)] (live .carry)))), 3, _,
      rfl, _, rfl, by decide⟩⟩

theorem wit_ReferenceMonitors :
    (∃ s : State, s.part.md.cur = .freeze) ∧
    (∃ s : State, ∃ j : Fin 2, s.part.md.cur ≠ .freeze ∧ ∃ p, p = s.part ∧ p.refFor 3 j = none) ∧
    (∃ s : State, ∃ j : Fin 2, s.part.md.cur ≠ .freeze ∧ ∃ p, p = s.part ∧ ∃ r : Nat, p.refFor 3 j = some r ∧ ∃ off,
      off = (decide (p.refState r = 0) || p.refHeld r) ∧ off = true) ∧
    (∃ s : State, ∃ j : Fin 2, s.part.md.cur ≠ .freeze ∧ ∃ p, p = s.part ∧ ∃ r : Nat, p.refFor 3 j = some r ∧ ∃ off,
      off = (decide (p.refState r = 0) || p.refHeld r) ∧ ∃ byTod, byTod = (p.bit (refReg r 0) 14) ∧ off = false ∧
      byTod = false) ∧
    (∃ s : State, ∃ j : Fin 2, s.part.md.cur ≠ .freeze ∧ ∃ p, p = s.part ∧ ∃ r : Nat, p.refFor 3 j = some r ∧ ∃ c,
      c = p.refSt r ∧ ∃ off, off = (decide (p.refState r = 0) || p.refHeld r) ∧ ∃ byTod,
      byTod = (p.bit (refReg r 0) 14) ∧ ∃ n : Nat, off = false ∧ byTod = true ∧ c.tod = some n) ∧
    (∃ s : State, ∃ j : Fin 2, s.part.md.cur ≠ .freeze ∧ ∃ p, p = s.part ∧ ∃ r : Nat, p.refFor 3 j = some r ∧ ∃ c,
      c = p.refSt r ∧ ∃ off, off = (decide (p.refState r = 0) || p.refHeld r) ∧ ∃ byTod,
      byTod = (p.bit (refReg r 0) 14) ∧ off = false ∧ byTod = true ∧ c.tod = none) ∧
    (∃ s : State, ∃ j : Fin 2, s.part.md.cur ≠ .freeze ∧ ∃ p, p = s.part ∧ p.refFor 3 j = none) ∧
    (∃ s : State, ∃ j : Fin 2, ∃ bs : List Byte, s.part.md.cur ≠ .freeze ∧ ∃ p, p = s.part ∧ ∃ r : Nat,
      p.refFor 3 j = some r ∧ (p.refState r = 0 ∨ todGood bs = false)) ∧
    (∃ s : State, ∃ j : Fin 2, ∃ bs : List Byte, s.part.md.cur ≠ .freeze ∧ ∃ p, p = s.part ∧ ∃ fl,
      fl = (bs.getD 3 0#8) ∧ ∃ r : Nat, p.refFor 3 j = some r ∧ p.refState r ≠ 0 ∧ todGood bs = true ∧
      fl.getLsbD 2 = false) ∧
    (∃ s : State, ∃ j : Fin 2, ∃ bs : List Byte, s.part.md.cur ≠ .freeze ∧ ∃ p, p = s.part ∧ ∃ fl,
      fl = (bs.getD 3 0#8) ∧ ∃ r : Nat, p.refFor 3 j = some r ∧ p.refState r ≠ 0 ∧ todGood bs = true ∧
      fl.getLsbD 2 = true) ∧
    (∃ s : State, ∃ r : Fin 16, s.part.md.cur ≠ .freeze ∧ ∃ p, p = s.part ∧ ∃ off,
      off = (decide (p.refState r = 0) || p.refHeld r) ∧ off = true) ∧
    (∃ s : State, ∃ r : Fin 16, s.part.md.cur ≠ .freeze ∧ ∃ p, p = s.part ∧ ∃ off,
      off = (decide (p.refState r = 0) || p.refHeld r) ∧ off = false ∧ p.refType r = 2) ∧
    (∃ s : State, ∃ r : Fin 16, s.part.md.cur ≠ .freeze ∧ ∃ p, p = s.part ∧ ∃ off,
      off = (decide (p.refState r = 0) || p.refHeld r) ∧ off = false ∧ p.refType r ≠ 2 ∧ phaseType (p.refType r) = false) ∧
    (∃ s : State, ∃ r : Fin 16, s.part.md.cur ≠ .freeze ∧ ∃ p, p = s.part ∧ ∃ c, c = p.refSt r ∧ ∃ off,
      off = (decide (p.refState r = 0) || p.refHeld r) ∧ ∃ hit, hit = (c.hit && p.refRuns r) ∧ off = false ∧
      phaseType (p.refType r) = true ∧ hit = true) ∧
    (∃ s : State, ∃ r : Fin 16, s.part.md.cur ≠ .freeze ∧ ∃ p, p = s.part ∧ ∃ c, c = p.refSt r ∧ ∃ off,
      off = (decide (p.refState r = 0) || p.refHeld r) ∧ ∃ hit, hit = (c.hit && p.refRuns r) ∧ off = false ∧
      phaseType (p.refType r) = true ∧ hit = false) ∧
    (∃ s : State, ∃ r : Fin 16, s.part.md.cur ≠ .freeze ∧ ∃ p, p = s.part ∧ ∃ off,
      off = (decide (p.refState r = 0) || p.refHeld r) ∧ off = false) ∧
    (∃ s : State, s.part.md.cur ≠ .freeze) ∧
    (∃ s : State, ∃ r : Fin 16, s.part.md.cur ≠ .freeze ∧ ∃ p, p = s.part ∧ ∃ used,
      used = (decide (p.tkState ≠ 0) && decide (p.selected ≠ none) && p.refPass r && !p.refHeld r) ∧ used = false) ∧
    (∃ s : State, ∃ r : Fin 16, s.part.md.cur ≠ .freeze ∧ ∃ p, p = s.part ∧ ∃ used,
      used = (decide (p.tkState ≠ 0) && decide (p.selected ≠ none) && p.refPass r && !p.refHeld r) ∧ ∃ isF,
      isF = (p.freqSrc == some r.val) ∧ ∃ isP, isP = (p.phaseSrc == some r.val) ∧ used = true ∧ isF = false ∧ isP = false) ∧
    (∃ s : State, ∃ r : Fin 16, s.part.md.cur ≠ .freeze ∧ ∃ p, p = s.part ∧ ∃ used,
      used = (decide (p.tkState ≠ 0) && decide (p.selected ≠ none) && p.refPass r && !p.refHeld r) ∧ ∃ isF,
      isF = (p.freqSrc == some r.val) ∧ ∃ isP, isP = (p.phaseSrc == some r.val) ∧ used = true ∧ isF = true ∧
      (isP = false ∨ (p.refSt r).meas = none)) ∧
    (∃ s : State, ∃ r : Fin 16, s.part.md.cur ≠ .freeze ∧ ∃ p, p = s.part ∧ ∃ used,
      used = (decide (p.tkState ≠ 0) && decide (p.selected ≠ none) && p.refPass r && !p.refHeld r) ∧ ∃ isP,
      isP = (p.phaseSrc == some r.val) ∧ used = true ∧ ∃ x : Int, isP = true ∧ (p.refSt r).meas = some x) ∧
    (∃ s : State, ∃ r : Fin 16, s.part.md.cur ≠ .freeze ∧ ∃ p, p = s.part ∧ ∃ used,
      used = (decide (p.tkState ≠ 0) && decide (p.selected ≠ none) && p.refPass r && !p.refHeld r) ∧ ∃ isF,
      isF = (p.freqSrc == some r.val) ∧ ∃ isP, isP = (p.phaseSrc == some r.val) ∧ used = true ∧ isF = false ∧
      isP = true ∧ (p.refSt r).meas = none) ∧
    (∃ s : State, s.part.md.cur ≠ .freeze ∧ s.part.tkState = 0) ∧
    (∃ s : State, s.part.md.cur ≠ .freeze ∧ s.part.tkState ≠ 0) ∧
    (∃ s : State, s.part.md.cur ≠ .freeze) :=
  ⟨⟨(st (live .freeze)), by decide⟩,
    ⟨(st (rg [(refReg 15 0, 0xA0010000#32), (refReg 15 0x20, 1#32), (refReg 15 0xC, 0#32)] (live .carry))), 1,
      by decide, _, rfl, by decide⟩,
    ⟨(st (rg [(refReg 15 0, 0xB0010000#32), (refReg 15 0x20, 0x180#32), (refReg 15 0xC, 0#32), (tkReg 0x10, 3#32), (tkReg 8, 0xF0#32)]
      (live .carry))), 1, by decide, _, rfl, _, rfl, _, rfl, by decide⟩,
    ⟨(st (rg [(refReg 15 0, 0xB0010000#32), (refReg 15 0x20, 1#32), (refReg 15 0xC, 0#32)] (live .carry))), 1,
      by decide, _, rfl, _, rfl, _, rfl, _, rfl, by decide⟩,
    ⟨(st (rg [(refReg 15 0, 0xB0014000#32), (refReg 15 0x20, 1#32), (refReg 15 0xC, 0#32)]
      ({ live .carry with time := { refs := [(15, { tod := some 5 })] } }))), 1, by decide, _, rfl, _, rfl, _, rfl, _,
      rfl, _, rfl, _, by decide, by decide, rfl⟩,
    ⟨(st (rg [(refReg 15 0, 0xB0014000#32), (refReg 15 0x20, 1#32), (refReg 15 0xC, 0#32)] (live .carry))), 1,
      by decide, _, rfl, _, rfl, _, rfl, _, rfl, _, rfl, by decide⟩,
    ⟨(st (rg [(refReg 15 0, 0xA0010000#32), (refReg 15 0x20, 1#32), (refReg 15 0xC, 0#32)] (live .carry))), 1,
      by decide, _, rfl, by decide⟩,
    ⟨(st (rg [(refReg 15 0, 0xB0014000#32), (refReg 15 0x20, 1#32), (refReg 15 0xC, 0#32)]
      ({ live .carry with time := { refs := [(15, { tod := some 5 })] } }))), 1, [], by decide, _, rfl, _, rfl, by decide⟩,
    ⟨(st (rg [(refReg 15 0, 0xB0014000#32), (refReg 15 0x20, 1#32), (refReg 15 0xC, 0#32)]
      ({ live .carry with time := { refs := [(15, { tod := some 5 })] } }))), 1, todZero, by decide, _, rfl, _, rfl,
      _, rfl, by decide⟩,
    ⟨(st (rg [(refReg 15 0, 0xB0014000#32), (refReg 15 0x20, 1#32), (refReg 15 0xC, 0#32)]
      ({ live .carry with time := { refs := [(15, { tod := some 5 })] } }))), 1, todUtc, by decide, _, rfl, _, rfl, _,
      rfl, by decide⟩,
    ⟨(st (rg [(refReg 15 0, 0xA0010000#32), (refReg 15 0x20, 1#32), (refReg 15 0xC, 0#32)] (live .carry))), 0,
      by decide, _, rfl, _, rfl, by decide⟩,
    ⟨(st (rg [(refReg 15 0, 0xA0010000#32), (refReg 15 0x20, 1#32), (refReg 15 0xC, 0#32)] (live .carry))), 15,
      by decide, _, rfl, _, rfl, by decide⟩,
    ⟨(st (rg [(refReg 15 0, 0x90010000#32), (refReg 15 0x20, 1#32), (refReg 15 0xC, 0#32)] (live .carry))), 15,
      by decide, _, rfl, _, rfl, by decide⟩,
    ⟨(st (rg [(refReg 15 0, 0xB0010000#32), (refReg 15 0x20, 1#32), (refReg 15 0xC, 0#32)]
      ({ live .carry with time := { refs := [(15, { hit := true })] } }))), 15, by decide, _, rfl, _, rfl, _, rfl, _,
      rfl, by decide⟩,
    ⟨(st (rg [(refReg 15 0, 0xC0010000#32), (refReg 15 0x20, 1#32), (refReg 15 0xC, 0#32)] (live .carry))), 15,
      by decide, _, rfl, _, rfl, _, rfl, _, rfl, by decide⟩,
    ⟨(st (rg [(refReg 15 0, 0xA0010000#32), (refReg 15 0x20, 1#32), (refReg 15 0xC, 0#32)] (live .carry))), 15,
      by decide, _, rfl, _, rfl, by decide⟩,
    ⟨(st (rg [(refReg 15 0, 0xA0010000#32), (refReg 15 0x20, 1#32), (refReg 15 0xC, 0#32)] (live .carry))), by decide⟩,
    ⟨(st (rg [(refReg 15 0, 0xA0010000#32), (refReg 15 0x20, 1#32), (refReg 15 0xC, 0#32)] (live .carry))), 15,
      by decide, _, rfl, _, rfl, by decide⟩,
    ⟨(st (rg [(refReg 15 0, 0xB0010000#32), (refReg 15 0x20, 0x181#32), (refReg 15 0xC, 0#32), (tkReg 0x10, 3#32), (tkReg 8, 0#32)]
      (live .carry))), 15, by decide, _, rfl, _, rfl, _, rfl, _, rfl, by decide⟩,
    ⟨(st (rg [(refReg 15 0, 0xB0010000#32), (refReg 15 0x20, 0x180#32), (refReg 15 0xC, 0#32), (tkReg 0x10, 3#32), (tkReg 8, 0xF0#32)]
      (live .carry))), 15, by decide, _, rfl, _, rfl, _, rfl, _, rfl, by decide⟩,
    ⟨(st (rg [(refReg 15 0, 0xB0010000#32), (refReg 15 0x20, 0x181#32), (refReg 15 0xC, 0#32), (tkReg 0x10, 3#32), (tkReg 8, 0xF00#32)]
      ({ live .carry with time := { refs := [(15, { meas := some 5 })] } }))), 15, by decide, _, rfl, _, rfl, _, rfl,
      by decide, _, by decide, rfl⟩,
    ⟨(st (rg [(refReg 15 0, 0xB0010000#32), (refReg 15 0x20, 0x181#32), (refReg 15 0xC, 0#32), (tkReg 0x10, 3#32), (tkReg 8, 0xF00#32)]
      (live .carry))), 15, by decide, _, rfl, _, rfl, _, rfl, _, rfl, by decide⟩,
    ⟨(st (rg [(refReg 15 0, 0xA0010000#32), (refReg 15 0x20, 1#32), (refReg 15 0xC, 0#32)] (live .carry))), by decide⟩,
    ⟨(st (rg [(refReg 15 0, 0xB0010000#32), (refReg 15 0x20, 0x181#32), (refReg 15 0xC, 0#32), (tkReg 0x10, 3#32), (tkReg 8, 0#32)]
      (live .carry))), by decide⟩,
    ⟨(st (rg [(refReg 15 0, 0xA0010000#32), (refReg 15 0x20, 1#32), (refReg 15 0xC, 0#32)] (live .carry))), by decide⟩⟩

theorem wit_TimeScaleMoves :
    (∃ s : State, s.part.md.cur = .freeze) ∧
    (∃ s : State, s.part.md.cur ≠ .freeze) ∧
    (∃ s : State, ∃ j : Fin 2, s.part.md.cur ≠ .freeze ∧ ∃ p, p = s.part ∧ p.outRuns (4 + j) = true) ∧
    (∃ s : State, ∃ j : Fin 2, s.part.md.cur ≠ .freeze ∧ ∃ p, p = s.part ∧ p.outRuns (4 + j) = false) ∧
    (∃ s : State, s.part.md.cur ≠ .freeze) ∧
    (∃ s : State, ∃ t : Fin 1024, ∃ p, p = s.part ∧ ∃ op, ∃ i, (op,
      i) ∈ [(0x0801, Instr.refSelect t), (0x0802, .refAuto t), (0x0803, .refStatus t), (0x0601, .pleatStep t), (0x0602, .pleatSlew t), (0x0603, .pleatSum t), (0x0A01, .calRun t)]
      ∧ p.runs t op = false) ∧
    (∃ s : State, ∃ t : Fin 1024, ∃ p, p = s.part ∧ ∃ r, r = (fieldOf (p.par t 0) 3 0) ∧ p.runs t 0x0801 = true ∧
      p.refOn r = true) ∧
    (∃ s : State, ∃ t : Fin 1024, ∃ p, p = s.part ∧ ∃ r, r = (fieldOf (p.par t 0) 3 0) ∧ p.runs t 0x0801 = true ∧
      p.refOn r = false) ∧
    (∃ s : State, ∃ t : Fin 1024, ∃ p, p = s.part ∧ p.runs t 0x0802 = true) ∧
    (∃ s : State, ∃ t : Fin 1024, ∃ p, p = s.part ∧ p.runs t 0x0803 = true) ∧
    (∃ s : State, ∃ t : Fin 1024, ∃ p, p = s.part ∧ ∃ x, x = ((p.par64 t 0).toInt) ∧ p.runs t 0x0601 = true ∧
      p.pleatFits x = true ∧ 0 ≤ p.time.now + x) ∧
    (∃ s : State, ∃ t : Fin 1024, ∃ p, p = s.part ∧ ∃ x, x = ((p.par64 t 0).toInt) ∧ p.runs t 0x0601 = true ∧
      (p.pleatFits x = false ∨ p.time.now + x < 0)) ∧
    (∃ s : State, ∃ t : Fin 1024, ∃ p, p = s.part ∧ p.runs t 0x0602 = true ∧ p.slewLeft ≠ 0) ∧
    (∃ s : State, ∃ t : Fin 1024, ∃ p, p = s.part ∧ ∃ v, v = ((p.par t 2).toNat) ∧ p.runs t 0x0602 = true ∧ ∃ good,
      good = (decide (1 ≤ v) && decide (v ≤ 10000)) ∧ p.slewLeft = 0 ∧ good = false) ∧
    (∃ s : State, ∃ t : Fin 1024, ∃ p, p = s.part ∧ ∃ x, x = ((p.par64 t 0).toInt) ∧ ∃ v, v = ((p.par t 2).toNat) ∧
      p.runs t 0x0602 = true ∧ ∃ good, good = (decide (1 ≤ v) && decide (v ≤ 10000)) ∧ p.slewLeft = 0 ∧ good = true ∧
      x = 0) ∧
    (∃ s : State, ∃ t : Fin 1024, ∃ p, p = s.part ∧ ∃ x, x = ((p.par64 t 0).toInt) ∧ ∃ v, v = ((p.par t 2).toNat) ∧
      p.runs t 0x0602 = true ∧ ∃ good, good = (decide (1 ≤ v) && decide (v ≤ 10000)) ∧ p.slewLeft = 0 ∧ good = true ∧
      x ≠ 0 ∧ p.pleatFits x = false) ∧
    (∃ s : State, ∃ t : Fin 1024, ∃ p, p = s.part ∧ ∃ x, x = ((p.par64 t 0).toInt) ∧ ∃ v, v = ((p.par t 2).toNat) ∧
      p.runs t 0x0602 = true ∧ ∃ good, good = (decide (1 ≤ v) && decide (v ≤ 10000)) ∧ p.slewLeft = 0 ∧ good = true ∧
      x ≠ 0 ∧ p.pleatFits x = true) ∧
    (∃ s : State, ∃ t : Fin 1024, ∃ p, p = s.part ∧ p.runs t 0x0603 = true) ∧
    (∃ s : State, ∃ t : Fin 1024, ∃ p, p = s.part ∧ ∃ r, r = (fieldOf (p.par t 0) 3 0) ∧ p.runs t 0x0A01 = true ∧ 2 ≤ r) ∧
    (∃ s : State, ∃ t : Fin 1024, ∃ p, p = s.part ∧ ∃ r, r = (fieldOf (p.par t 0) 3 0) ∧ p.runs t 0x0A01 = true ∧
      r < 2 ∧ p.coresAway = false) ∧
    (∃ s : State, ∃ t : Fin 1024, ∃ p, p = s.part ∧ ∃ r, r = (fieldOf (p.par t 0) 3 0) ∧ p.runs t 0x0A01 = true ∧
      r < 2 ∧ p.coresAway = true) :=
  ⟨⟨(st (live .freeze)), by decide⟩,
    ⟨(st (runs 0x0601 [0xFFFFFFFF#32, 0xFFFFFFFF#32] (live .carry))), by decide⟩,
    ⟨(st (rg [(outReg 5 0, 0x80000000#32)] (live .carry))), 1, by decide, _, rfl, by decide⟩,
    ⟨(st (runs 0x0601 [0xFFFFFFFF#32, 0xFFFFFFFF#32] (live .carry))), 0, by decide, _, rfl, by decide⟩,
    ⟨(st (runs 0x0601 [0xFFFFFFFF#32, 0xFFFFFFFF#32] (live .carry))), by decide⟩,
    ⟨(st (runs 0x0601 [0xFFFFFFFF#32, 0xFFFFFFFF#32] (live .carry))), 3, _, rfl, 0x0801, .refSelect 3, by simp, by decide⟩,
    ⟨(st (runs 0x0801 [15#32] (rg [(refReg 15 0, 0xB0010000#32), (refReg 15 0x20, 1#32), (refReg 15 0xC, 0#32)] (live
      .carry)))), 3, _, rfl, _, rfl, by decide⟩,
    ⟨(st (runs 0x0801 [15#32] (live .carry))), 3, _, rfl, _, rfl, by decide⟩,
    ⟨(st (runs 0x0802 [] (live .carry))), 3, _, rfl, by decide⟩,
    ⟨(st (runs 0x0803 [15#32] (live .carry))), 3, _, rfl, by decide⟩,
    ⟨(st (runs 0x0601 [0#32, 0#32] (live .carry))), 3, _, rfl, _, rfl, by decide⟩,
    ⟨(st (runs 0x0601 [0xFFFFFFFF#32, 0xFFFFFFFF#32] (live .carry))), 3, _, rfl, _, rfl, by decide⟩,
    ⟨(st (runs 0x0602 [5#32, 0#32, 1#32] (rg [(tkReg 0x48, 1#32)] (live .carry)))), 3, _, rfl, by decide⟩,
    ⟨(st (runs 0x0602 [5#32, 0#32, 0#32] (live .carry))), 3, _, rfl, _, rfl, by decide, _, rfl, by decide⟩,
    ⟨(st (runs 0x0602 [0#32, 0#32, 10000#32] (live .carry))), 3, _, rfl, _, rfl, _, rfl, by decide, _, rfl, by decide⟩,
    ⟨(st (runs 0x0602 [1#32, 0#32, 10000#32] (rg
      [(tkReg 0x10, 0x20#32), (tkReg 0x40, 0xFFFFFFFF#32), (tkReg 0x44, 0x7FFFFFFF#32)] (live .carry)))), 3, _, rfl,
      _, rfl, _, rfl, by decide, _, rfl, by decide⟩,
    ⟨(st (runs 0x0602 [5#32, 0#32, 10000#32] (live .carry))), 3, _, rfl, _, rfl, _, rfl, by decide, _, rfl, by decide⟩,
    ⟨(st (runs 0x0603 [] (live .carry))), 3, _, rfl, by decide⟩,
    ⟨(st (runs 0x0A01 [2#32] (live .carry))), 3, _, rfl, _, rfl, by decide⟩,
    ⟨(st (runs 0x0A01 [1#32] (live .carry))), 3, _, rfl, _, rfl, by decide⟩,
    ⟨(st (runs 0x0A01 [1#32] (live .renew))), 3, _, rfl, _, rfl, by decide⟩⟩

theorem wit_CalibrationAndPtp :
    (∃ s : State, s.part.md.cur = .freeze) ∧
    (∃ s : State, ∃ i : Fin 2247, s.part.md.cur ≠ .freeze ∧ ∃ p, p = s.part ∧ ∃ ready,
      ready = (p.segUsed i && p.segLocked i) ∧ ready = false) ∧
    (∃ s : State, ∃ i : Fin 2247, ∃ v : Dword, s.part.md.cur ≠ .freeze ∧ ∃ p, p = s.part ∧ ∃ ready,
      ready = (p.segUsed i && p.segLocked i) ∧ ∃ diff, diff = ((v.toInt - (p.segDelay i).toInt).natAbs) ∧
      ready = true ∧ diff ≤ 3277) ∧
    (∃ s : State, ∃ i : Fin 2247, ∃ v : Dword, s.part.md.cur ≠ .freeze ∧ ∃ p, p = s.part ∧ ∃ ready,
      ready = (p.segUsed i && p.segLocked i) ∧ ∃ diff, diff = ((v.toInt - (p.segDelay i).toInt).natAbs) ∧
      ready = true ∧ 3277 < diff) ∧
    (∃ s : State, s.part.md.cur ≠ .freeze) ∧
    (∃ s : State, ∃ t : Fin 1024, ∃ p, p = s.part ∧ p.runs t 0x0A02 = false) ∧
    (∃ s : State, ∃ t : Fin 1024, ∃ p, p = s.part ∧ ∃ kind, kind = (fieldOf (p.par t 0) 3 0) ∧
      p.runs t 0x0A02 = true ∧ 3 ≤ kind) ∧
    (∃ s : State, ∃ t : Fin 1024, ∃ p, p = s.part ∧ ∃ kind, kind = (fieldOf (p.par t 0) 3 0) ∧
      p.runs t 0x0A02 = true ∧ kind < 3 ∧ p.coresAway = false) ∧
    (∃ s : State, ∃ t : Fin 1024, ∃ p, p = s.part ∧ ∃ kind, kind = (fieldOf (p.par t 0) 3 0) ∧
      p.runs t 0x0A02 = true ∧ kind < 3 ∧ p.coresAway = true) ∧
    (∃ s : State, ∃ t : PtpPort, ∃ h : PtpHead, ∃ one : Bool, ∃ a : Int, ∃ b : Int, ∃ c : Int, ∃ cls : Nat,
      ∃ l : Announce, ∃ sq : BitVec 16, ∃ u : Option Word, s.part.md.cur ≠ .freeze ∧ ∃ p, p = s.part ∧ ∃ ty, ∃ i, (ty,
      i) ∈ [(0#4, Instr.ptpSyncRx t h one a b c), (8#4, .ptpFollowUpRx t h a c), (1#4, .ptpDelayReqRx t h a), (9#4, .ptpDelayRespRx t h sq b), (0xB#4, .ptpAnnounceRx t h cls l u)]
      ∧ p.ptpRx t = false) ∧
    (∃ s : State, ∃ t : PtpPort, ∃ h : PtpHead, ∃ one : Bool, ∃ a : Int, ∃ b : Int, ∃ c : Int, ∃ cls : Nat,
      ∃ l : Announce, ∃ sq : BitVec 16, ∃ u : Option Word, s.part.md.cur ≠ .freeze ∧ ∃ p, p = s.part ∧ ∃ fits,
      fits = (fun ty : BitVec 4 => h.etherType == 0x88F7#16 && p.ptpDest t h.dest && decide (h.tags ≤ 2) && h.mtype ==
      ty && h.domain == p.ptpDomain) ∧ ∃ ty, ∃ i, (ty,
      i) ∈ [(0#4, Instr.ptpSyncRx t h one a b c), (8#4, .ptpFollowUpRx t h a c), (1#4, .ptpDelayReqRx t h a), (9#4, .ptpDelayRespRx t h sq b), (0xB#4, .ptpAnnounceRx t h cls l u)]
      ∧ p.ptpRx t = true ∧ fits ty = false) ∧
    (∃ s : State, ∃ t : PtpPort, ∃ h : PtpHead, s.part.md.cur ≠ .freeze ∧ ∃ p, p = s.part ∧ ∃ st, st = p.ptpSt t ∧
      ∃ fits, fits = (fun ty : BitVec 4 => h.etherType == 0x88F7#16 && p.ptpDest t h.dest && decide (h.tags ≤ 2) &&
      h.mtype == ty && h.domain == p.ptpDomain) ∧ p.ptpRx t = true ∧ fits 0#4 = true ∧ st.st ≠ 3) ∧
    (∃ s : State, ∃ t : PtpPort, ∃ h : PtpHead, s.part.md.cur ≠ .freeze ∧ ∃ p, p = s.part ∧ ∃ st, st = p.ptpSt t ∧
      ∃ fits, fits = (fun ty : BitVec 4 => h.etherType == 0x88F7#16 && p.ptpDest t h.dest && decide (h.tags ≤ 2) &&
      h.mtype == ty && h.domain == p.ptpDomain) ∧ p.ptpRx t = true ∧ fits 0#4 = true ∧ st.st = 3) ∧
    (∃ s : State, ∃ t : PtpPort, ∃ h : PtpHead, s.part.md.cur ≠ .freeze ∧ ∃ p, p = s.part ∧ ∃ st, st = p.ptpSt t ∧
      ∃ fits, fits = (fun ty : BitVec 4 => h.etherType == 0x88F7#16 && p.ptpDest t h.dest && decide (h.tags ≤ 2) &&
      h.mtype == ty && h.domain == p.ptpDomain) ∧ p.ptpRx t = true ∧ fits 8#4 = true ∧ st.sync = none) ∧
    (∃ s : State, ∃ t : PtpPort, ∃ h : PtpHead, s.part.md.cur ≠ .freeze ∧ ∃ p, p = s.part ∧ ∃ st, st = p.ptpSt t ∧
      ∃ fits, fits = (fun ty : BitVec 4 => h.etherType == 0x88F7#16 && p.ptpDest t h.dest && decide (h.tags ≤ 2) &&
      h.mtype == ty && h.domain == p.ptpDomain) ∧ p.ptpRx t = true ∧ fits 8#4 = true ∧ ∃ x : Int, ∃ old : Bool,
      st.sync = some (x, old)) ∧
    (∃ s : State, ∃ t : PtpPort, ∃ h : PtpHead, s.part.md.cur ≠ .freeze ∧ ∃ p, p = s.part ∧ ∃ fits,
      fits = (fun ty : BitVec 4 => h.etherType == 0x88F7#16 && p.ptpDest t h.dest && decide (h.tags ≤ 2) && h.mtype ==
      ty && h.domain == p.ptpDomain) ∧ p.ptpRx t = true ∧ fits 1#4 = true) ∧
    (∃ s : State, ∃ t : PtpPort, ∃ h : PtpHead, s.part.md.cur ≠ .freeze ∧ ∃ p, p = s.part ∧ ∃ st, st = p.ptpSt t ∧
      ∃ fits, fits = (fun ty : BitVec 4 => h.etherType == 0x88F7#16 && p.ptpDest t h.dest && decide (h.tags ≤ 2) &&
      h.mtype == ty && h.domain == p.ptpDomain) ∧ p.ptpRx t = true ∧ fits 9#4 = true ∧ st.asked = none) ∧
    (∃ s : State, ∃ t : PtpPort, ∃ h : PtpHead, s.part.md.cur ≠ .freeze ∧ ∃ p, p = s.part ∧ ∃ st, st = p.ptpSt t ∧
      ∃ fits, fits = (fun ty : BitVec 4 => h.etherType == 0x88F7#16 && p.ptpDest t h.dest && decide (h.tags ≤ 2) &&
      h.mtype == ty && h.domain == p.ptpDomain) ∧ p.ptpRx t = true ∧ fits 9#4 = true ∧ ∃ n : BitVec 16, ∃ t3 : Int,
      ∃ old : Bool, st.asked = some (n, t3, old)) ∧
    (∃ s : State, ∃ t : PtpPort, ∃ h : PtpHead, s.part.md.cur ≠ .freeze ∧ ∃ p, p = s.part ∧ ∃ fits,
      fits = (fun ty : BitVec 4 => h.etherType == 0x88F7#16 && p.ptpDest t h.dest && decide (h.tags ≤ 2) && h.mtype ==
      ty && h.domain == p.ptpDomain) ∧ p.ptpRx t = true ∧ fits 0xB#4 = true ∧ p.coresAway = true) ∧
    (∃ s : State, ∃ t : PtpPort, ∃ h : PtpHead, ∃ cls : Nat, ∃ l : Announce, ∃ u : Option Word,
      s.part.md.cur ≠ .freeze ∧ ∃ p, p = s.part ∧ ∃ fits,
      fits = (fun ty : BitVec 4 => h.etherType == 0x88F7#16 && p.ptpDest t h.dest && decide (h.tags ≤ 2) && h.mtype ==
      ty && h.domain == p.ptpDomain) ∧ ∃ moved, moved = ((p.noteMaster t (cls, l)).bmca) ∧ p.ptpRx t = true ∧
      fits 0xB#4 = true ∧ p.coresAway = false ∧ (u = none ∨ moved.refFor 4 t = none)) ∧
    (∃ (s : State) (t : PtpPort) (h : PtpHead) (cls : Nat) (l : Announce) (u : Option Word), s.part.md.cur ≠ .freeze ∧
      s.part.ptpRx t = true ∧ (h.etherType == 0x88F7#16 && s.part.ptpDest t h.dest && decide (h.tags ≤ 2) && h.mtype
      == 0xB#4 && h.domain == s.part.ptpDomain) = true ∧ ∃ (w : Word) (r : Nat), s.part.coresAway = false ∧
      u = some w ∧ ((s.part.noteMaster t (cls, l)).bmca).refFor 4 t = some r) ∧
    (∃ s : State, s.part.md.cur ≠ .freeze) ∧
    (∃ s : State, ∃ t : PtpPort, s.part.md.cur ≠ .freeze ∧ ∃ p, p = s.part ∧ ∃ c, c = p.ptpSt t ∧ ∃ st, st = c.st ∧
      p.ptpTx t = true ∧ st = 4) ∧
    (∃ s : State, ∃ t : PtpPort, s.part.md.cur ≠ .freeze ∧ ∃ p, p = s.part ∧ ∃ c, c = p.ptpSt t ∧ ∃ st, st = c.st ∧
      (p.ptpTx t = false ∨ st ≠ 4)) ∧
    (∃ s : State, s.part.md.cur ≠ .freeze) :=
  ⟨⟨(st (live .freeze)), by decide⟩,
    ⟨(st (rg [(0x11D80, 0x80000000#32), (exReg 23 0, 0x40000000#32), (lineReg 23 0, 0x80000200#32)]
      ({ live .carry with ptp := [(71, { st := 3, asked := some (5#16, 7, false) })] }))), 2246, by decide, _, rfl, _,
      rfl, by decide⟩,
    ⟨(st (rg [(laneReg 3 0, 0x80000000#32), (laneReg 3 0x10, 8#32)]
      ({ live .carry with segs := [(3, some 100#64)] }))), 3, 3376#64, by decide, _, rfl, _, rfl, _, rfl, by decide⟩,
    ⟨(st (rg [(0x11D80, 0x80000000#32), (exReg 23 0, 0x40000000#32), (lineReg 23 0, 0x80000200#32)]
      ({ live .carry with ptp := [(71, { st := 3, asked := some (5#16, 7, false) })] }))), 2240, 3376#64, by decide,
      _, rfl, _, rfl, _, rfl, by decide⟩,
    ⟨(st (rg [(0x11D80, 0x80000000#32), (exReg 23 0, 0x40000000#32), (lineReg 23 0, 0x80000200#32)]
      ({ live .carry with ptp := [(71, { st := 3, asked := some (5#16, 7, false) })] }))), by decide⟩,
    ⟨(st (rg [(0x11D80, 0x80000000#32), (exReg 23 0, 0x40000000#32), (lineReg 23 0, 0x80000200#32)]
      ({ live .carry with ptp := [(71, { st := 3, asked := some (5#16, 7, false) })] }))), 71, _, rfl, by decide⟩,
    ⟨(st (runs 0x0A02 [3#32] (live .carry))), 3, _, rfl, _, rfl, by decide⟩,
    ⟨(st (runs 0x0A02 [0#32] (live .carry))), 3, _, rfl, _, rfl, by decide⟩,
    ⟨(st (runs 0x0A02 [2#32] (live .renew))), 3, _, rfl, _, rfl, by decide⟩,
    ⟨(st (runs 0x0A02 [2#32] (live .renew))), 71, ptpHead 0#4, false, 0, 0, 0, 0,
      { accuracy := 0#8, variance := 0#16, priority1 := 128#8, priority2 := 128#8, gm := 5#64, steps := 0, timeSource := 0#8, sender := 5#64, senderPort := 1#16 },
      5#16, none, by decide, _, rfl, 0#4, .ptpSyncRx 71 (ptpHead 0#4) false 0 0 0, by simp, by decide⟩,
    ⟨(st (rg [(0x11D80, 0x80000000#32), (exReg 23 0, 0x40000000#32), (lineReg 23 0, 0x80000200#32)]
      ({ live .carry with ptp := [(71, { st := 3, asked := some (5#16, 7, false) })] }))), 71, ptpHead 8#4, false, 0,
      0, 0, 0, { accuracy := 0#8, variance := 0#16, priority1 := 128#8, priority2 := 128#8, gm := 5#64, steps := 0, timeSource := 0#8, sender := 5#64, senderPort := 1#16 },
      5#16, none, by decide, _, rfl, _, rfl, 0#4, .ptpSyncRx 71 (ptpHead 8#4) false 0 0 0, by simp, by decide⟩,
    ⟨(st (rg [(0x11D80, 0x80000000#32), (exReg 23 0, 0x40000000#32), (lineReg 23 0, 0x80000200#32)]
      ({ live .carry with ptp := [(71, { st := 4 })] }))), 71, ptpHead 0#4, by decide, _, rfl, _, rfl, _, rfl, by decide⟩,
    ⟨(st (rg [(0x11D80, 0x80000000#32), (exReg 23 0, 0x40000000#32), (lineReg 23 0, 0x80000200#32)]
      ({ live .carry with ptp := [(71, { st := 3, asked := some (5#16, 7, false) })] }))), 71, ptpHead 0#4, by decide,
      _, rfl, _, rfl, _, rfl, by decide⟩,
    ⟨(st (rg [(0x11D80, 0x80000000#32), (exReg 23 0, 0x40000000#32), (lineReg 23 0, 0x80000200#32)]
      ({ live .carry with ptp := [(71, { st := 3, asked := some (5#16, 7, false) })] }))), 71, ptpHead 8#4, by decide,
      _, rfl, _, rfl, _, rfl, by decide⟩,
    ⟨(st (rg [(0x11D80, 0x80000000#32), (exReg 23 0, 0x40000000#32), (lineReg 23 0, 0x80000200#32)]
      ({ live .carry with ptp := [(71, { st := 3, sync := some (5, false) })] }))), 71, ptpHead 8#4, by decide, _,
      rfl, _, rfl, _, rfl, by decide, by decide, _, _, rfl⟩,
    ⟨(st (rg [(0x11D80, 0x80000000#32), (exReg 23 0, 0x40000000#32), (lineReg 23 0, 0x80000200#32)]
      ({ live .carry with ptp := [(71, { st := 3, asked := some (5#16, 7, false) })] }))), 71, ptpHead 1#4, by decide,
      _, rfl, _, rfl, by decide⟩,
    ⟨(st (rg [(0x11D80, 0x80000000#32), (exReg 23 0, 0x40000000#32), (lineReg 23 0, 0x80000200#32)]
      ({ live .carry with ptp := [(71, { st := 4 })] }))), 71, ptpHead 9#4, by decide, _, rfl, _, rfl, _, rfl, by decide⟩,
    ⟨(st (rg [(0x11D80, 0x80000000#32), (exReg 23 0, 0x40000000#32), (lineReg 23 0, 0x80000200#32)]
      ({ live .carry with ptp := [(71, { st := 3, asked := some (5#16, 7, false) })] }))), 71, ptpHead 9#4, by decide,
      _, rfl, _, rfl, _, rfl, by decide, by decide, _, _, _, rfl⟩,
    ⟨(st ({ rg [(0x11D80, 0x80000000#32), (exReg 23 0, 0x40000000#32), (lineReg 23 0, 0x80000200#32)] (live .carry) with md := { cur := .carry, coresOut := true } })),
      71, ptpHead 0xB#4, by decide, _, rfl, _, rfl, by decide⟩,
    ⟨(st (rg [(0x11D80, 0x80000000#32), (exReg 23 0, 0x40000000#32), (lineReg 23 0, 0x80000200#32)]
      ({ live .carry with ptp := [(71, { st := 3, asked := some (5#16, 7, false) })] }))), 71, ptpHead 0xB#4, 0,
      { accuracy := 0#8, variance := 0#16, priority1 := 128#8, priority2 := 128#8, gm := 5#64, steps := 0, timeSource := 0#8, sender := 5#64, senderPort := 1#16 },
      none, by decide, _, rfl, _, rfl, _, rfl, by decide⟩,
    ⟨(st (rg [(0x11D80, 0x80000000#32), (exReg 23 0, 0x40000000#32), (lineReg 23 0, 0x80000200#32), (refReg 0 0, 0xC0470000#32)]
      ({ live .carry with ptp := [(71, { st := 1 })] }))), 71, ptpHead 0xB#4, 0, far, some 5#32, by decide, by decide,
      by decide, 5#32, 0, by decide, rfl, by rw [noteMaster_far _ _ _ (by decide)]; decide⟩,
    ⟨(st (rg [(0x11D80, 0x80000000#32), (exReg 23 0, 0x40000000#32), (lineReg 23 0, 0x80000200#32)]
      ({ live .carry with ptp := [(71, { st := 3, asked := some (5#16, 7, false) })] }))), by decide⟩,
    ⟨(st (rg [(0x11D80, 0x80000000#32), (exReg 23 0, 0x40000000#32), (lineReg 23 0, 0x80000200#32)]
      ({ live .carry with ptp := [(71, { st := 4 })] }))), 71, by decide, _, rfl, _, rfl, _, rfl, by decide⟩,
    ⟨(st (rg [(0x11D80, 0x80000000#32), (exReg 23 0, 0x40000000#32), (lineReg 23 0, 0x80000200#32)]
      ({ live .carry with ptp := [(71, { st := 3, asked := some (5#16, 7, false) })] }))), 71, by decide, _, rfl, _,
      rfl, _, rfl, by decide⟩,
    ⟨(st (rg [(0x11D80, 0x80000000#32), (exReg 23 0, 0x40000000#32), (lineReg 23 0, 0x80000200#32)]
      ({ live .carry with ptp := [(71, { st := 3, asked := some (5#16, 7, false) })] }))), by decide⟩⟩

theorem wit_ExchangeAndStamps :
    (∃ s : State, s.part.md.cur = .freeze) ∧
    (∃ s : State, ∃ q : Fin 24, s.part.md.cur ≠ .freeze ∧ ∃ p, p = s.part ∧ ∃ on,
      on = (p.bit (exReg q 0) 31 && p.portOn q && p.runMode.carries) ∧ on = false) ∧
    (∃ s : State, ∃ q : Fin 24, s.part.md.cur ≠ .freeze ∧ ∃ p, p = s.part ∧ ∃ on,
      on = (p.bit (exReg q 0) 31 && p.portOn q && p.runMode.carries) ∧ ∃ id, id = (p.field (exReg q 0) 27 26) ∧
      ∃ auth, auth = (p.bit (exReg q 0) 29) ∧ on = true ∧ auth = true ∧ p.linkKey q id = none) ∧
    (∃ s : State, ∃ q : Fin 24, s.part.md.cur ≠ .freeze ∧ ∃ p, p = s.part ∧ ∃ on,
      on = (p.bit (exReg q 0) 31 && p.portOn q && p.runMode.carries) ∧ ∃ id, id = (p.field (exReg q 0) 27 26) ∧
      ∃ auth, auth = (p.bit (exReg q 0) 29) ∧ on = true ∧ ∃ k : BitVec 256, auth = true ∧ p.linkKey q id = some k) ∧
    (∃ s : State, ∃ q : Fin 24, s.part.md.cur ≠ .freeze ∧ ∃ p, p = s.part ∧ ∃ on,
      on = (p.bit (exReg q 0) 31 && p.portOn q && p.runMode.carries) ∧ ∃ auth, auth = (p.bit (exReg q 0) 29) ∧
      on = true ∧ auth = false) ∧
    (∃ s : State, ∃ q : Fin 24, s.part.md.cur ≠ .freeze ∧ ∃ on,
      on = (s.part.bit (exReg q 0) 31 && s.part.portOn q && s.part.runMode.receives) ∧ on = false) ∧
    (∃ s : State, ∃ q : Fin 24, ∃ m : ExchMsg, s.part.md.cur ≠ .freeze ∧ ∃ on,
      on = (s.part.bit (exReg q 0) 31 && s.part.portOn q && s.part.runMode.receives) ∧ ∃ p,
      p = s.part.snoopOpen 0x24 q 98 ∧ ∃ wrong, wrong = (decide (m.version ≠ 1#8) || decide (m.kind ≠ 1#8) || (!p.bit
      (exReg q 4) 16 && p.field (exReg q 4) 15 0 != m.node.toNat)) ∧ on = true ∧ wrong = true) ∧
    (∃ s : State, ∃ q : Fin 24, ∃ m : ExchMsg, s.part.md.cur ≠ .freeze ∧ ∃ on,
      on = (s.part.bit (exReg q 0) 31 && s.part.portOn q && s.part.runMode.receives) ∧ ∃ p,
      p = s.part.snoopOpen 0x24 q 98 ∧ ∃ wrong, wrong = (decide (m.version ≠ 1#8) || decide (m.kind ≠ 1#8) || (!p.bit
      (exReg q 4) 16 && p.field (exReg q 4) 15 0 != m.node.toNat)) ∧ ∃ auth, auth = (p.bit (exReg q 0) 29) ∧
      ∃ macGood, macGood = (match
      p.linkKey q m.keyId with | some k => hmac128 k (shaBytes (exchWords m)) == m.mac | none => false) ∧ on = true ∧
      wrong = false ∧ auth = true ∧ macGood = false) ∧
    (∃ (s : State) (q : Fin 24) (m : ExchMsg), s.part.md.cur ≠ .freeze ∧
      (s.part.bit (exReg q 0) 31 && s.part.portOn q && s.part.runMode.receives) = true ∧ ∃ p : Part,
      p = s.part.snoopOpen 0x24 q 98 ∧ m.version = 1#8 ∧ m.kind = 1#8 ∧
      (p.bit (exReg q 4) 16 || p.field (exReg q 4) 15 0 == m.node.toNat) = true ∧ p.bit (exReg q 0) 29 = true ∧ (∃ k,
      p.linkKey q m.keyId = some k ∧ hmac128 k (shaBytes (exchWords m)) = m.mac) ∧ ∃ r, (p.exchSt q).rx = some r ∧
      (laterThan m.seq r.1 || decide (edgesSilent ≤ p.clk - (p.exchSt q).rxAt)) = false) ∧
    (∃ s : State, ∃ q : Fin 24, ∃ m : ExchMsg, s.part.md.cur ≠ .freeze ∧ ∃ on,
      on = (s.part.bit (exReg q 0) 31 && s.part.portOn q && s.part.runMode.receives) ∧ ∃ p,
      p = s.part.snoopOpen 0x24 q 98 ∧ ∃ c, c = p.exchSt q ∧ ∃ wrong,
      wrong = (decide (m.version ≠ 1#8) || decide (m.kind ≠ 1#8) || (!p.bit (exReg q 4) 16 && p.field (exReg q 4) 15 0
      != m.node.toNat)) ∧ ∃ auth, auth = (p.bit (exReg q 0) 29) ∧ ∃ macGood,
      macGood = (match
      p.linkKey q m.keyId with | some k => hmac128 k (shaBytes (exchWords m)) == m.mac | none => false) ∧ ∃ old,
      old = (match c.rx with | some r => !(laterThan m.seq r.1 || decide (edgesSilent ≤ p.clk - c.rxAt)) | none => false) ∧ on = true ∧ wrong = false ∧ (auth = false ∨ (macGood = true ∧ old = false))) ∧
    (∃ s : State, s.part.md.cur ≠ .freeze) ∧
    (∃ s : State, ∃ n : Fin 48, s.part.md.cur ≠ .freeze ∧ ∃ p, p = s.part ∧ (p.stampSt n).waiting = []) ∧
    (∃ s : State, ∃ n : Fin 48, s.part.md.cur ≠ .freeze ∧ ∃ p, p = s.part ∧ ∃ r : StampReq, ∃ l : List StampReq,
      (p.stampSt n).waiting = r :: l ∧ ∃ q, q = ((p.setStampSt n { p.stampSt n with waiting := l }).count (0x6000 + n)
      0 1) ∧ ∃ full, full = (decide (512 ≤ (q.stampSt n).fifo.length)) ∧ full = false) ∧
    (∃ s : State, ∃ n : Fin 48, s.part.md.cur ≠ .freeze ∧ ∃ p, p = s.part ∧ ∃ r : StampReq, ∃ l : List StampReq,
      (p.stampSt n).waiting = r :: l ∧ ∃ q, q = ((p.setStampSt n { p.stampSt n with waiting := l }).count (0x6000 + n)
      0 1) ∧ ∃ full, full = (decide (512 ≤ (q.stampSt n).fifo.length)) ∧ full = true ∧ q.canSpill n = true) ∧
    (∃ s : State, ∃ n : Fin 48, s.part.md.cur ≠ .freeze ∧ ∃ p, p = s.part ∧ ∃ r : StampReq, ∃ l : List StampReq,
      (p.stampSt n).waiting = r :: l ∧ ∃ q, q = ((p.setStampSt n { p.stampSt n with waiting := l }).count (0x6000 + n)
      0 1) ∧ ∃ full, full = (decide (512 ≤ (q.stampSt n).fifo.length)) ∧ full = true ∧ q.canSpill n = false) ∧
    (∃ s : State, s.part.md.cur ≠ .freeze) ∧
    (∃ s : State, s.part.reaches .host = false) ∧
    (∃ s : State, ∃ p, p = s.part.granted .host ∧ s.part.reaches .host = true ∧ p.early .host = true) ∧
    (∃ s : State, ∃ n : Fin 48, ∃ off, off = tsReg n 0x20 ∧ ∃ p, p = s.part.granted .host ∧ ∃ c, c = p.cross off ∧
      s.part.reaches .host = true ∧ p.early .host = false ∧ c.2 = false) ∧
    (∃ s : State, ∃ n : Fin 48, ∃ off, off = tsReg n 0x20 ∧ ∃ p, p = s.part.granted .host ∧ ∃ c, c = p.cross off ∧
      ∃ q, q = c.1 ∧ s.part.reaches .host = true ∧ p.early .host = false ∧ c.2 = true ∧ ∃ r : List Word,
      ∃ l : List (List Word), q.spilling n = false ∧ (q.stampSt n).fifo = r :: l) ∧
    (∃ s : State, ∃ n : Fin 48, ∃ off, off = tsReg n 0x20 ∧ ∃ p, p = s.part.granted .host ∧ ∃ c, c = p.cross off ∧
      ∃ q, q = c.1 ∧ s.part.reaches .host = true ∧ p.early .host = false ∧ c.2 = true ∧
      (q.spilling n = true ∨ (q.stampSt n).fifo = [])) :=
  ⟨⟨(st (live .freeze)), by decide⟩,
    ⟨(st (rg [(exReg 23 0, 0xA0000000#32), (lineReg 23 0, 0x80000000#32)] (live .carry))), 0, by decide, _, rfl, _,
      rfl, by decide⟩,
    ⟨(st (rg [(exReg 23 0, 0xA0000000#32), (lineReg 23 0, 0x80000000#32)] (live .carry))), 23, by decide, _, rfl, _,
      rfl, _, rfl, _, rfl, by decide⟩,
    ⟨(st (rg [(exReg 23 0, 0xA0000000#32), (lineReg 23 0, 0x80000000#32)]
      ({ live .carry with journal := { keys := [(0, { kind := 1 })] } }))), 23, by decide, _, rfl, _, rfl, _, rfl, _,
      rfl, by decide, _, by decide, rfl⟩,
    ⟨(st (rg [(exReg 23 0, 0x80000000#32), (lineReg 23 0, 0x80000000#32)] (live .carry))), 23, by decide, _, rfl, _,
      rfl, _, rfl, by decide⟩,
    ⟨(st (rg [(exReg 23 0, 0xA0000000#32), (lineReg 23 0, 0x80000000#32)] (live .carry))), 0, by decide, _, rfl, by decide⟩,
    ⟨(st (rg [(exReg 23 0, 0xA0000000#32), (lineReg 23 0, 0x80000000#32)] (live .carry))), 23, oddMsg, by decide, _,
      rfl, _, rfl, _, rfl, by decide⟩,
    ⟨(st (rg [(exReg 23 0, 0xA0000000#32), (lineReg 23 0, 0x80000000#32)] (live .carry))), 23, goodMsg, by decide, _,
      rfl, _, rfl, _, rfl, _, rfl, _, rfl, by decide⟩,
    ⟨st (rg [(exReg 23 0, 0xA0000000#32), (lineReg 23 0, 0x80000000#32)]
      { live .carry with journal := { keys := [(0, { kind := 1 })] }, exch := [(23, { rx := some (0#32, 0, false) })] }),
      23, { goodMsg with mac := hmac128 0#256 (shaBytes (exchWords goodMsg)) }, by decide, by decide, _, rfl, rfl,
      rfl, by decide, by decide, ⟨_, rfl, rfl⟩, _, rfl, by decide⟩,
    ⟨(st (rg [(exReg 23 0, 0x80000000#32), (lineReg 23 0, 0x80000000#32)] (live .carry))), 23, goodMsg, by decide, _,
      rfl, _, rfl, _, rfl, _, rfl, _, rfl, _, rfl, _, rfl, by decide⟩,
    ⟨(st (rg [(exReg 23 0, 0xA0000000#32), (lineReg 23 0, 0x80000000#32)] (live .carry))), by decide⟩,
    ⟨(st (rg [(exReg 23 0, 0xA0000000#32), (lineReg 23 0, 0x80000000#32)] (live .carry))), 47, by decide, _, rfl,
      by decide⟩,
    ⟨(st ({ live .carry with stamps := [(47, { waiting := [req] })] })), 47, by decide, _, rfl, _, _, rfl, _, rfl, _,
      rfl, by decide⟩,
    ⟨(st ({ live .carry with stamps := [(47, { waiting := [req], fifo := List.replicate 512 [] })] })), 47, by decide,
      _, rfl, _, _, rfl, _, rfl, _, rfl, by decide⟩,
    ⟨(st (rg [(selvReg 25 0, 2#32)]
      ({ live .carry with stamps := [(47, { waiting := [req], fifo := List.replicate 512 [] })] }))), 47, by decide,
      _, rfl, _, _, rfl, _, rfl, _, rfl, by decide⟩,
    ⟨(st (rg [(exReg 23 0, 0xA0000000#32), (lineReg 23 0, 0x80000000#32)] (live .carry))), by decide⟩,
    ⟨State.reset, by decide⟩,
    ⟨(st (moving .inert { asleep with host := { linkUp := true, cfgLoaded := true, bar0 := some 0 } })), _, rfl, by decide⟩,
    ⟨(st (rg [(selvReg 23 0, 2#32)] (live .carry))), 47, _, rfl, _, rfl, _, rfl, by decide⟩,
    ⟨(st (rg [(selvReg 25 0, 2#32)]
      ({ live .carry with stamps := [(47, { waiting := [req], fifo := List.replicate 512 [] })] }))), 47, _, rfl, _,
      rfl, _, rfl, _, rfl, by decide, by decide, by decide, _, _, by decide, rfl⟩,
    ⟨(st (rg [(exReg 23 0, 0xA0000000#32), (lineReg 23 0, 0x80000000#32)] (live .carry))), 47, _, rfl, _, rfl, _, rfl,
      _, rfl, by decide⟩⟩

theorem wit_ClientPath :
    (∃ s : State, s.part.md.cur = .freeze) ∧
    (∃ s : State, ∃ n : Fin 48, ∃ a : List Nat, s.part.md.cur ≠ .freeze ∧ ∃ p, p = s.part ∧ ∃ ls,
      ls = p.clientLanes n ∧ ∃ ready, ready = (p.clientRx n && !p.clientAligned n && decide (a.length = ls.length) &&
      ls.all fun l => p.bit (laneReg l 0x10) 2) ∧ ready = false) ∧
    (∃ s : State, ∃ n : Fin 48, ∃ a : List Nat, s.part.md.cur ≠ .freeze ∧ ∃ p, p = s.part ∧ ∃ ls,
      ls = p.clientLanes n ∧ ∃ ready, ready = (p.clientRx n && !p.clientAligned n && decide (a.length = ls.length) &&
      ls.all fun l => p.bit (laneReg l 0x10) 2) ∧ ∃ lo, lo = (a.foldl min (a.headD 0)) ∧ ∃ hi, hi = a.foldl max 0 ∧
      ready = true ∧ 11796480 < hi - lo) ∧
    (∃ s : State, ∃ n : Fin 48, ∃ a : List Nat, s.part.md.cur ≠ .freeze ∧ ∃ p, p = s.part ∧ ∃ ls,
      ls = p.clientLanes n ∧ ∃ ready, ready = (p.clientRx n && !p.clientAligned n && decide (a.length = ls.length) &&
      ls.all fun l => p.bit (laneReg l 0x10) 2) ∧ ∃ lo, lo = (a.foldl min (a.headD 0)) ∧ ∃ hi, hi = a.foldl max 0 ∧
      ready = true ∧ hi - lo ≤ 11796480) ∧
    (∃ s : State, ∃ n : Fin 48, ∃ f : ClientFrame, s.part.md.cur ≠ .freeze ∧ ∃ p, p = s.part ∧ ∃ up,
      up = (p.clientRx n && p.clientAligned n) ∧ (up = false ∨ f.len < 64)) ∧
    (∃ s : State, ∃ n : Fin 48, ∃ f : ClientFrame, s.part.md.cur ≠ .freeze ∧ ∃ p, p = s.part ∧ ∃ up,
      up = (p.clientRx n && p.clientAligned n) ∧ ∃ v, v = p.verdict n f ∧ up = true ∧ 64 ≤ f.len ∧ v.step = 1) ∧
    (∃ s : State, ∃ n : Fin 48, ∃ f : ClientFrame, s.part.md.cur ≠ .freeze ∧ ∃ p, p = s.part ∧ ∃ up,
      up = (p.clientRx n && p.clientAligned n) ∧ ∃ v, v = p.verdict n f ∧ ∃ copied,
      copied = (v.offered || (decide (v.step = 5) && (p.bit (steerReg 14) 31 || p.bit (macReg n 4) 28))) ∧ up = true ∧
      64 ≤ f.len ∧ v.step ≠ 1 ∧ copied = true) ∧
    (∃ s : State, ∃ n : Fin 48, ∃ f : ClientFrame, s.part.md.cur ≠ .freeze ∧ ∃ p, p = s.part ∧ ∃ up,
      up = (p.clientRx n && p.clientAligned n) ∧ ∃ v, v = p.verdict n f ∧ ∃ copied,
      copied = (v.offered || (decide (v.step = 5) && (p.bit (steerReg 14) 31 || p.bit (macReg n 4) 28))) ∧ up = true ∧
      64 ≤ f.len ∧ v.step ≠ 1 ∧ copied = false) ∧
    (∃ s : State, ∃ n : Fin 48, s.part.md.cur ≠ .freeze ∧ ∃ p, p = s.part ∧ ∃ up,
      up = (p.clientRx n && p.clientAligned n) ∧ up = false) ∧
    (∃ s : State, ∃ n : Fin 48, ∃ f : ClientFrame, s.part.md.cur ≠ .freeze ∧ ∃ p, p = s.part ∧ ∃ up,
      up = (p.clientRx n && p.clientAligned n) ∧ up = true ∧ f.len < 64) ∧
    (∃ s : State, ∃ n : Fin 48, ∃ f : ClientFrame, s.part.md.cur ≠ .freeze ∧ ∃ p, p = s.part ∧ ∃ up,
      up = (p.clientRx n && p.clientAligned n) ∧ up = true ∧ 64 ≤ f.len) ∧
    (∃ s : State, ∃ n : Fin 48, s.part.md.cur ≠ .freeze ∧ ∃ p, p = s.part ∧ ∃ down,
      down = (p.clientTx n && !p.clientFaulted n && p.weftRuns) ∧ down = false) ∧
    (∃ s : State, ∃ n : Fin 48, s.part.md.cur ≠ .freeze ∧ ∃ p, p = s.part ∧ ∃ down,
      down = (p.clientTx n && !p.clientFaulted n && p.weftRuns) ∧ down = true) ∧
    (∃ (s : State) (n : Fin 48), s.part.md.cur ≠ .freeze ∧ ∀ (f : TapFrame) (r : List TapFrame),
      (s.part.client n).frames = f :: r → (f.ended && f.dec.isNone && f.left == 0 && !f.dead && s.part.host.linkUp) =
      false) ∧
    (∃ s : State, ∃ n : Fin 48, s.part.md.cur ≠ .freeze ∧ ∃ p, p = s.part ∧ ∃ whole,
      whole = (fun f : TapFrame => f.ended && f.dec.isNone && f.left == 0 && !f.dead && p.host.linkUp) ∧
      ∃ f : TapFrame, ∃ r : List TapFrame, (p.client n).frames = f :: r ∧ whole f = true) ∧
    (∃ s : State, ∃ n : Fin 48, s.part.md.cur ≠ .freeze ∧ ∃ p, p = s.part ∧ ∃ waits,
      waits = (fun f : TapFrame => f.ended && !f.dead && f.dec.isNone && decide (0 < f.left)) ∧
      (p.client n).frames.any waits = false) ∧
    (∃ s : State, ∃ n : Fin 48, s.part.md.cur ≠ .freeze ∧ ∃ p, p = s.part ∧ ∃ waits,
      waits = (fun f : TapFrame => f.ended && !f.dead && f.dec.isNone && decide (0 < f.left)) ∧ ∃ first,
      first = (fun (f : TapFrame) (a b : List TapFrame) => (p.client n).frames = a ++ f :: b ∧ waits f = true ∧
      (∀ g ∈ a, waits g = true → f.since < g.since) ∧ ∀ g ∈ b, waits g = true → f.since ≤ g.since) ∧ ∃ f : TapFrame,
      ∃ a : List TapFrame, ∃ b : List TapFrame, first f a b) ∧
    (∃ s : State, ∃ b : Fin 16, s.part.md.cur ≠ .freeze ∧ ∃ p, p = s.part ∧ ∃ ready,
      ready = (p.bit (poolReg b 8) 31 && p.host.linkUp && p.reg (poolReg b 0xC) != p.reg (poolReg b 0x10) && decide
      ((p.onDie b).length < 64)) ∧ ready = false) ∧
    (∃ s : State, ∃ b : Fin 16, ∃ e : Dword, s.part.md.cur ≠ .freeze ∧ ∃ p, p = s.part ∧ ∃ ready,
      ready = (p.bit (poolReg b 8) 31 && p.host.linkUp && p.reg (poolReg b 0xC) != p.reg (poolReg b 0x10) && decide
      ((p.onDie b).length < 64)) ∧ ready = true ∧ e.extractLsb' 0 6 ≠ 0#6) ∧
    (∃ s : State, ∃ b : Fin 16, ∃ e : Dword, s.part.md.cur ≠ .freeze ∧ ∃ p, p = s.part ∧ ∃ ready,
      ready = (p.bit (poolReg b 8) 31 && p.host.linkUp && p.reg (poolReg b 0xC) != p.reg (poolReg b 0x10) && decide
      ((p.onDie b).length < 64)) ∧ ready = true ∧ e.extractLsb' 0 6 = 0#6) ∧
    (∃ s : State, ∃ n : Fin 48, s.part.md.cur ≠ .freeze ∧ ∃ p, p = s.part ∧ ∃ c, c = p.client n ∧ ∃ ready,
      ready = (p.bit (tapReg n 0x28) 31 && p.host.linkUp && p.reg (tapReg n 0x2C) != p.reg (tapReg n 0x30) +
      BitVec.ofNat 32 c.tx.length) ∧ ready = false) ∧
    (∃ s : State, ∃ n : Fin 48, ∃ d : TxDesc, s.part.md.cur ≠ .freeze ∧ ∃ p, p = s.part ∧ ∃ c, c = p.client n ∧
      ∃ ready, ready = (p.bit (tapReg n 0x28) 31 && p.host.linkUp && p.reg (tapReg n 0x2C) != p.reg (tapReg n 0x30) +
      BitVec.ofNat 32 c.tx.length) ∧ ready = true ∧ p.txInvalid n d = false) ∧
    (∃ s : State, ∃ n : Fin 48, ∃ d : TxDesc, s.part.md.cur ≠ .freeze ∧ ∃ p, p = s.part ∧ ∃ c, c = p.client n ∧
      ∃ ready, ready = (p.bit (tapReg n 0x28) 31 && p.host.linkUp && p.reg (tapReg n 0x2C) != p.reg (tapReg n 0x30) +
      BitVec.ofNat 32 c.tx.length) ∧ ready = true ∧ p.txInvalid n d = true) ∧
    (∃ s : State, ∃ n : Fin 48, s.part.md.cur ≠ .freeze ∧ ∃ p, p = s.part ∧ (p.client n).tx.any TxFrame.waits = false) ∧
    (∃ s : State, ∃ n : Fin 48, ∃ run : IdleRun, s.part.md.cur ≠ .freeze ∧ ∃ p, p = s.part ∧ ∃ f : TxFrame,
      ∃ a : List TxFrame, ∃ b : List TxFrame, (p.client n).tx = a ++ f :: b ∧ a.any TxFrame.waits = false ∧
      f.dead = false ∧ f.leaves = none ∧ ∃ len, len = f.bytes.length ∧ ∃ fits,
      fits = (p.clientTx n && !p.clientFaulted n && decide ((len + 27) / 8 + 1 ≤ run.blocks) && decide (run.blocks ≤
      2048)) ∧ fits = false) ∧
    (∃ s : State, ∃ n : Fin 48, ∃ run : IdleRun, s.part.md.cur ≠ .freeze ∧ ∃ p, p = s.part ∧ ∃ f : TxFrame,
      ∃ a : List TxFrame, ∃ b : List TxFrame, (p.client n).tx = a ++ f :: b ∧ a.any TxFrame.waits = false ∧
      f.dead = false ∧ f.leaves = none ∧ ∃ len, len = f.bytes.length ∧ ∃ fits,
      fits = (p.clientTx n && !p.clientFaulted n && decide ((len + 27) / 8 + 1 ≤ run.blocks) && decide (run.blocks ≤
      2048)) ∧ fits = true) ∧
    (∃ s : State, ∃ n : Fin 48, s.part.md.cur ≠ .freeze ∧ ∃ p, p = s.part ∧ ∃ f : TxFrame, ∃ a : List TxFrame,
      ∃ b : List TxFrame, (p.client n).tx = a ++ f :: b ∧ a.any TxFrame.waits = false ∧ f.dead = false ∧ f.leaves = none) ∧
    (∃ s : State, s.part.md.cur ≠ .freeze) ∧
    (∃ p : Part, ∃ n : Fin 48, ∃ f : TxFrame, ∃ r : List TxFrame, (p.client n).tx = f :: r) ∧
    (∃ s : State, ∃ n : Fin 48, s.part.md.cur ≠ .freeze ∧ ∃ p, p = s.part ∧ p.clientRx n = false) ∧
    (∃ s : State, ∃ n : Fin 48, s.part.md.cur ≠ .freeze ∧ ∃ p, p = s.part ∧ ∃ on : Bool, p.clientRx n = true ∧ on = true) ∧
    (∃ s : State, ∃ n : Fin 48, s.part.md.cur ≠ .freeze ∧ ∃ p, p = s.part ∧ ∃ on : Bool, p.clientRx n = true ∧ on = false) ∧
    (∃ s : State, ∃ n : Fin 48, ∃ k : Fin 3, s.part.md.cur ≠ .freeze ∧ ∃ p, p = s.part ∧ ∃ mode,
      mode = (p.field (macReg n 0xC0) 27 26) ∧ ∃ on, on = (decide (mode = 1) || decide (mode = 2)) ∧ ∃ enters,
      enters = (p.clientTx n && on && p.legEnters n k && p.weftRuns) ∧ enters = false) ∧
    (∃ s : State, ∃ n : Fin 48, ∃ k : Fin 3, s.part.md.cur ≠ .freeze ∧ ∃ p, p = s.part ∧ ∃ mode,
      mode = (p.field (macReg n 0xC0) 27 26) ∧ ∃ on, on = (decide (mode = 1) || decide (mode = 2)) ∧ ∃ enters,
      enters = (p.clientTx n && on && p.legEnters n k && p.weftRuns) ∧ enters = true) ∧
    (∃ s : State, ∃ n : Fin 48, ∃ k : Fin 3, s.part.md.cur ≠ .freeze ∧ ∃ p, p = s.part ∧ ∃ mode,
      mode = (p.field (macReg n 0xC0) 27 26) ∧ ∃ on, on = (decide (mode = 1) || decide (mode = 2)) ∧ ∃ enters,
      enters = (p.clientTx n && on && p.legEnters n k && p.weftRuns) ∧ ∃ u, u = p.elimCount n 11 ∧ ∃ c,
      c = u.recovSt n ∧ enters = true ∧ c.takeAny = true) ∧
    (∃ s : State, ∃ n : Fin 48, ∃ k : Fin 3, s.part.md.cur ≠ .freeze ∧ ∃ p, p = s.part ∧ ∃ mode,
      mode = (p.field (macReg n 0xC0) 27 26) ∧ ∃ on, on = (decide (mode = 1) || decide (mode = 2)) ∧ ∃ enters,
      enters = (p.clientTx n && on && p.legEnters n k && p.weftRuns) ∧ ∃ u, u = p.elimCount n 11 ∧ ∃ c,
      c = u.recovSt n ∧ enters = true ∧ c.takeAny = false ∧ mode = 2) ∧
    (∃ s : State, ∃ n : Fin 48, ∃ k : Fin 3, s.part.md.cur ≠ .freeze ∧ ∃ p, p = s.part ∧ ∃ mode,
      mode = (p.field (macReg n 0xC0) 27 26) ∧ ∃ on, on = (decide (mode = 1) || decide (mode = 2)) ∧ ∃ enters,
      enters = (p.clientTx n && on && p.legEnters n k && p.weftRuns) ∧ ∃ u, u = p.elimCount n 11 ∧ ∃ c,
      c = u.recovSt n ∧ ∃ h, h = (if u.field (macReg n 0xC0) 20 16 = 0 then 32 else u.field (macReg n 0xC0) 20 16) ∧
      enters = true ∧ ∃ q : BitVec 16, c.takeAny = false ∧ mode = 1 ∧ ∃ d, d = ((q - c.seq).toInt) ∧
      (h ≤ d ∨ d ≤ -(h : Int))) ∧
    (∃ s : State, ∃ n : Fin 48, ∃ k : Fin 3, s.part.md.cur ≠ .freeze ∧ ∃ p, p = s.part ∧ ∃ mode,
      mode = (p.field (macReg n 0xC0) 27 26) ∧ ∃ on, on = (decide (mode = 1) || decide (mode = 2)) ∧ ∃ enters,
      enters = (p.clientTx n && on && p.legEnters n k && p.weftRuns) ∧ ∃ u, u = p.elimCount n 11 ∧ ∃ c,
      c = u.recovSt n ∧ ∃ h, h = (if u.field (macReg n 0xC0) 20 16 = 0 then 32 else u.field (macReg n 0xC0) 20 16) ∧
      enters = true ∧ ∃ q : BitVec 16, c.takeAny = false ∧ mode = 1 ∧ ∃ d, d = ((q - c.seq).toInt) ∧ -(h : Int) < d ∧
      d ≤ 0 ∧ d < h) ∧
    (∃ s : State, ∃ n : Fin 48, ∃ k : Fin 3, s.part.md.cur ≠ .freeze ∧ ∃ p, p = s.part ∧ ∃ mode,
      mode = (p.field (macReg n 0xC0) 27 26) ∧ ∃ on, on = (decide (mode = 1) || decide (mode = 2)) ∧ ∃ enters,
      enters = (p.clientTx n && on && p.legEnters n k && p.weftRuns) ∧ ∃ u, u = p.elimCount n 11 ∧ ∃ c,
      c = u.recovSt n ∧ ∃ h, h = (if u.field (macReg n 0xC0) 20 16 = 0 then 32 else u.field (macReg n 0xC0) 20 16) ∧
      enters = true ∧ ∃ q : BitVec 16, c.takeAny = false ∧ mode = 1 ∧ ∃ d, d = ((q - c.seq).toInt) ∧ 0 < d ∧ d < h) ∧
    (∃ s : State, s.part.md.cur ≠ .freeze) :=
  ⟨⟨(st (live .freeze)), by decide⟩,
    ⟨(st (rg [(macReg 47 0, 0x800005EE#32), (macReg 47 8, 2#32)]
      ({ live .carry with clients := [(47, { frames := [tapEnded 0, tapEnded 1] })] }))), 46, [0, 11796480],
      by decide, _, rfl, _, rfl, _, rfl, by decide⟩,
    ⟨(st (rg [(macReg 46 0, 0xA00005EE#32), (laneReg 94 0x10, 4#32), (laneReg 95 0x10, 4#32)] (live .carry))), 46,
      [0, 11796481], by decide, _, rfl, _, rfl, _, rfl, _, rfl, _, rfl, by decide⟩,
    ⟨(st (rg [(macReg 46 0, 0xA00005EE#32), (laneReg 94 0x10, 4#32), (laneReg 95 0x10, 4#32)] (live .carry))), 46,
      [0, 11796480], by decide, _, rfl, _, rfl, _, rfl, _, rfl, _, rfl, by decide⟩,
    ⟨(st (rg [(macReg 47 0, 0x800005EE#32), (macReg 47 8, 2#32)]
      ({ live .carry with clients := [(47, { frames := [tapEnded 0, tapEnded 1] })] }))), 46, ptpFrame, by decide, _,
      rfl, _, rfl, by decide⟩,
    ⟨(st (rg [(macReg 47 0, 0x800005EE#32), (macReg 47 8, 2#32), (tsReg 47 0, 0x80000000#32)] (live .carry))), 47,
      ptpFrame, by decide, _, rfl, _, rfl, _, rfl, by decide⟩,
    ⟨(st (rg [(macReg 47 0, 0x800005EE#32), (macReg 47 8, 2#32), (macReg 47 0x14, 0x80000200#32), (macReg 47 0x10, 5#32)]
      (live .carry))), 47, ucast, by decide, _, rfl, _, rfl, _, rfl, _, rfl, by decide⟩,
    ⟨(st (rg [(macReg 47 0, 0x800005EE#32), (macReg 47 8, 2#32)]
      ({ live .carry with clients := [(47, { frames := [tapEnded 0, tapEnded 1] })] }))), 47, ptpFrame, by decide, _,
      rfl, _, rfl, _, rfl, _, rfl, by decide⟩,
    ⟨(st (rg [(macReg 47 0, 0x800005EE#32), (macReg 47 8, 2#32)]
      ({ live .carry with clients := [(47, { frames := [tapEnded 0, tapEnded 1] })] }))), 46, by decide, _, rfl, _,
      rfl, by decide⟩,
    ⟨(st (rg [(macReg 47 0, 0x800005EE#32), (macReg 47 8, 2#32)]
      ({ live .carry with clients := [(47, { frames := [tapEnded 0, tapEnded 1] })] }))), 47, { bytes := [] },
      by decide, _, rfl, _, rfl, by decide⟩,
    ⟨(st (rg [(macReg 47 0, 0x800005EE#32), (macReg 47 8, 2#32)]
      ({ live .carry with clients := [(47, { frames := [tapEnded 0, tapEnded 1] })] }))), 47, ptpFrame, by decide, _,
      rfl, _, rfl, by decide⟩,
    ⟨(st (rg [(macReg 47 0, 0x800005EE#32), (macReg 47 8, 2#32)]
      ({ live .carry with clients := [(47, { frames := [tapEnded 0, tapEnded 1] })] }))), 46, by decide, _, rfl, _,
      rfl, by decide⟩,
    ⟨(st (rg [(macReg 47 0, 0x800005EE#32), (macReg 47 8, 2#32)]
      ({ live .carry with clients := [(47, { frames := [tapEnded 0, tapEnded 1] })] }))), 47, by decide, _, rfl, _,
      rfl, by decide⟩,
    ⟨st { live .carry with clients := [(47, { frames := [tapEnded 1] })] }, 47, by decide,
      fun f r h => by obtain ⟨rfl, _⟩ := List.cons.inj (show [tapEnded 1] = f :: r from h); decide⟩,
    ⟨(st (rg [(macReg 47 0, 0x800005EE#32), (macReg 47 8, 2#32)]
      ({ live .carry with clients := [(47, { frames := [tapEnded 0, tapEnded 1] })] }))), 47, by decide, _, rfl, _,
      rfl, _, _, rfl, by decide⟩,
    ⟨(st (rg [(macReg 47 0, 0x800005EE#32), (macReg 47 8, 2#32)]
      ({ live .carry with clients := [(47, { frames := [tapEnded 0, tapEnded 1] })] }))), 46, by decide, _, rfl, _,
      rfl, by decide⟩,
    ⟨(st (rg [(macReg 47 0, 0x800005EE#32), (macReg 47 8, 2#32)]
      ({ live .carry with clients := [(47, { frames := [tapEnded 0, tapEnded 1] })] }))), 47, by decide, _, rfl, _,
      rfl, _, rfl, tapEnded 1, [tapEnded 0], [], by decide⟩,
    ⟨(st (rg [(macReg 47 0, 0x800005EE#32), (macReg 47 8, 2#32)]
      ({ live .carry with clients := [(47, { frames := [tapEnded 0, tapEnded 1] })] }))), 15, by decide, _, rfl, _,
      rfl, by decide⟩,
    ⟨(st (rg [(poolReg 15 8, 0x80000000#32), (poolReg 15 0xC, 1#32)] (live .carry))), 15, 1#64, by decide, _, rfl, _,
      rfl, by decide⟩,
    ⟨(st (rg [(poolReg 15 8, 0x80000000#32), (poolReg 15 0xC, 1#32)] (live .carry))), 15, 0x40#64, by decide, _, rfl,
      _, rfl, by decide⟩,
    ⟨(st (rg [(macReg 47 0, 0x800005EE#32), (macReg 47 8, 2#32)]
      ({ live .carry with clients := [(47, { frames := [tapEnded 0, tapEnded 1] })] }))), 46, by decide, _, rfl, _,
      rfl, _, rfl, by decide⟩,
    ⟨(st (rg [(macReg 47 0, 0x800005EE#32), (macReg 47 8, 2#32), (tapReg 47 0x28, 0x80000000#32), (tapReg 47 0x2C, 1#32)]
      (live .carry))), 47, desc true, by decide, _, rfl, _, rfl, _, rfl, by decide⟩,
    ⟨(st (rg [(macReg 47 0, 0x800005EE#32), (macReg 47 8, 2#32), (tapReg 47 0x28, 0x80000000#32), (tapReg 47 0x2C, 1#32)]
      (live .carry))), 47, desc false, by decide, _, rfl, _, rfl, _, rfl, by decide⟩,
    ⟨(st (rg [(macReg 47 0, 0x800005EE#32), (macReg 47 8, 2#32)]
      ({ live .carry with clients := [(47, { frames := [tapEnded 0, tapEnded 1] })] }))), 46, by decide, _, rfl, by decide⟩,
    ⟨(st (rg [(macReg 47 0, 0x800005EE#32), (macReg 47 8, 2#32)]
      ({ live .carry with clients := [(47, { tx := [{ placed with leaves := some 9 }, placed] })] }))), 47,
      { blocks := 11, age := 0 }, by decide, _, rfl, placed, [{ placed with leaves := some 9 }], [], by decide,
      by decide, by decide, by decide, _, rfl, _, rfl, by decide⟩,
    ⟨(st (rg [(macReg 47 0, 0x800005EE#32), (macReg 47 8, 2#32)]
      ({ live .carry with clients := [(47, { tx := [{ placed with leaves := some 9 }, placed] })] }))), 47,
      { blocks := 2048, age := 5 }, by decide, _, rfl, placed, [{ placed with leaves := some 9 }], [], by decide,
      by decide, by decide, by decide, _, rfl, _, rfl, by decide⟩,
    ⟨(st (rg [(macReg 47 0, 0x800005EE#32), (macReg 47 8, 2#32)]
      ({ live .carry with clients := [(47, { tx := [{ placed with leaves := some 9 }, placed] })] }))), 47, by decide,
      _, rfl, placed, [{ placed with leaves := some 9 }], [], by decide⟩,
    ⟨(st (rg [(macReg 47 0, 0x800005EE#32), (macReg 47 8, 2#32)]
      ({ live .carry with clients := [(47, { frames := [tapEnded 0, tapEnded 1] })] }))), by decide⟩,
    ⟨((st (rg [(macReg 47 0, 0x800005EE#32), (macReg 47 8, 2#32)]
      ({ live .carry with clients := [(47, { tx := [placed] })] })))).part, 47, _, _, rfl⟩,
    ⟨(st (rg [(macReg 47 0, 0x800005EE#32), (macReg 47 8, 2#32)]
      ({ live .carry with clients := [(47, { frames := [tapEnded 0, tapEnded 1] })] }))), 46, by decide, _, rfl, by decide⟩,
    ⟨(st (rg [(macReg 47 0, 0x800005EE#32), (macReg 47 8, 2#32)]
      ({ live .carry with clients := [(47, { frames := [tapEnded 0, tapEnded 1] })] }))), 47, by decide, _, rfl, true,
      by decide⟩,
    ⟨(st (rg [(macReg 47 0, 0x800005EE#32), (macReg 47 8, 2#32)]
      ({ live .carry with clients := [(47, { frames := [tapEnded 0, tapEnded 1] })] }))), 47, by decide, _, rfl,
      false, by decide⟩,
    ⟨(st (rg [(macReg 47 0, 0x800005EE#32), (macReg 47 8, 2#32)]
      ({ live .carry with clients := [(47, { frames := [tapEnded 0, tapEnded 1] })] }))), 46, 2, by decide, _, rfl, _,
      rfl, _, rfl, _, rfl, by decide⟩,
    ⟨(st (rg [(macReg 47 0, 0x800005EE#32), (macReg 47 0xC0, 0x04000000#32), (seamReg 511 0, 0xA2000000#32), (seamReg 511 4, 0x4000002F#32), (seamReg 511 0x14, 0x400#32)]
      ({ live .carry with recov := [(47, { takeAny := true })] }))), 47, 2, by decide, _, rfl, _, rfl, _, rfl, _, rfl,
      by decide⟩,
    ⟨(st (rg [(macReg 47 0, 0x800005EE#32), (macReg 47 0xC0, 0x04000000#32), (seamReg 511 0, 0xA2000000#32), (seamReg 511 4, 0x4000002F#32), (seamReg 511 0x14, 0x400#32)]
      ({ live .carry with recov := [(47, { takeAny := true })] }))), 47, 2, by decide, _, rfl, _, rfl, _, rfl, _, rfl,
      _, rfl, _, rfl, by decide⟩,
    ⟨(st (rg [(macReg 47 0, 0x800005EE#32), (macReg 47 0xC0, 0x08000000#32), (seamReg 511 0, 0xA2000000#32), (seamReg 511 4, 0x4000002F#32), (seamReg 511 0x14, 0x400#32)]
      ({ live .carry with recov := [(47, { takeAny := false })] }))), 47, 2, by decide, _, rfl, _, rfl, _, rfl, _,
      rfl, _, rfl, _, rfl, by decide⟩,
    ⟨(st (rg [(macReg 47 0, 0x800005EE#32), (macReg 47 0xC0, 0x04000000#32), (seamReg 511 0, 0xA2000000#32), (seamReg 511 4, 0x4000002F#32), (seamReg 511 0x14, 0x400#32)]
      ({ live .carry with recov := [(47, { takeAny := false, seq := 41#16 })] }))), 47, 2, by decide, _, rfl, _, rfl,
      _, rfl, _, rfl, _, rfl, _, rfl, _, rfl, by decide, 9#16, by decide, by decide, _, rfl, by decide⟩,
    ⟨(st (rg [(macReg 47 0, 0x800005EE#32), (macReg 47 0xC0, 0x04000000#32), (seamReg 511 0, 0xA2000000#32), (seamReg 511 4, 0x4000002F#32), (seamReg 511 0x14, 0x400#32)]
      ({ live .carry with recov := [(47, { takeAny := false, seq := 9#16 })] }))), 47, 2, by decide, _, rfl, _, rfl,
      _, rfl, _, rfl, _, rfl, _, rfl, _, rfl, by decide, 9#16, by decide, by decide, _, rfl, by decide⟩,
    ⟨(st (rg [(macReg 47 0, 0x800005EE#32), (macReg 47 0xC0, 0x04000000#32), (seamReg 511 0, 0xA2000000#32), (seamReg 511 4, 0x4000002F#32), (seamReg 511 0x14, 0x400#32)]
      ({ live .carry with recov := [(47, { takeAny := false, seq := 8#16 })] }))), 47, 2, by decide, _, rfl, _, rfl,
      _, rfl, _, rfl, _, rfl, _, rfl, _, rfl, by decide, 9#16, by decide, by decide, _, rfl, by decide⟩,
    ⟨(st (rg [(macReg 47 0, 0x800005EE#32), (macReg 47 8, 2#32)]
      ({ live .carry with clients := [(47, { frames := [tapEnded 0, tapEnded 1] })] }))), by decide⟩⟩

theorem wit_CirumlinkRing :
    (∃ s : State, s.part.ringPowered = false ∧ s.part.md.cur = .dormant) ∧
    (∃ s : State, s.part.ringPowered = false ∧ s.part.md.cur ≠ .dormant) ∧
    (∃ s : State, ∃ q, q = (((s.part.feedSlots.linkCycle 0).linkCycle 1).ringSilence) ∧ ∃ held,
      held = (if q.mirrors && !q.twin.outst.isEmpty then min (q.twin.stuck + 1) 8 else 0) ∧ ∃ n,
      n = (if q.tkState = 0 then (q.twin.cycle + 1) % 2 ^ 32 else q.now / 8192000000 % 2 ^ 32) ∧ ∃ q1 : Part,
      q1 = ({ q with twin := { q.twin with cycle := n, stuck := held } }) ∧ ∃ q2,
      q2 = (((q1.atSwitch 0).atSwitch 1).syncPair) ∧ ∃ q3 : Part,
      q3 = ([0, 1].foldl (fun (x : Part) k => if x.linkSends k then x.sendSlot0 k else x) q2) ∧ ∃ q4,
      q4 = (((q3.sendRelay 0).sendRelay 1).sendMirror.sendNotes) ∧ s.part.ringPowered = true ∧ q4.supply.loss = none) ∧
    (∃ s : State, ∃ q, q = (((s.part.feedSlots.linkCycle 0).linkCycle 1).ringSilence) ∧ ∃ held,
      held = (if q.mirrors && !q.twin.outst.isEmpty then min (q.twin.stuck + 1) 8 else 0) ∧ ∃ n,
      n = (if q.tkState = 0 then (q.twin.cycle + 1) % 2 ^ 32 else q.now / 8192000000 % 2 ^ 32) ∧ ∃ q1 : Part,
      q1 = ({ q with twin := { q.twin with cycle := n, stuck := held } }) ∧ ∃ q2,
      q2 = (((q1.atSwitch 0).atSwitch 1).syncPair) ∧ ∃ q3 : Part,
      q3 = ([0, 1].foldl (fun (x : Part) k => if x.linkSends k then x.sendSlot0 k else x) q2) ∧ ∃ q4,
      q4 = (((q3.sendRelay 0).sendRelay 1).sendMirror.sendNotes) ∧ ∃ l, s.part.ringPowered = true ∧
      q4.supply.loss = some l) ∧
    (∃ s : State, ∃ k : Fin 2, (s.part.linkUsed k = false ∨ s.part.linkState k = 0)) ∧
    (∃ s : State, ∃ k : Fin 2, s.part.linkUsed k = true ∧ s.part.linkState k ≠ 0 ∧ ∃ f : SlotFrame, f.crcOk = false) ∧
    (∃ s : State, ∃ k : Fin 2, s.part.linkUsed k = true ∧ s.part.linkState k ≠ 0 ∧ ∃ f : SlotFrame, f.crcOk = true ∧
      f.slot.val = 0) ∧
    (∃ s : State, ∃ k : Fin 2, s.part.linkUsed k = true ∧ s.part.linkState k ≠ 0 ∧ ∃ f : SlotFrame, ∃ head,
      head = slotHeader f.slot f.src f.dst f.bcast f.cls f.hops f.cycle f.payload.length ∧ ∃ p,
      p = (s.part.snoop 0x26 f.slot (netWords head ++ f.payload ++ netBytes (crc32c f.payload))) ∧ ∃ w,
      w = p.slotWord f.slot ∧ ∃ own, own = (w.getLsbD 31 && fieldOf w 2 0 == f.src.val) ∧ f.crcOk = true ∧
      f.slot.val ≠ 0 ∧ own = false) ∧
    (∃ s : State, ∃ k : Fin 2, s.part.linkUsed k = true ∧ s.part.linkState k ≠ 0 ∧ ∃ f : SlotFrame, ∃ head,
      head = slotHeader f.slot f.src f.dst f.bcast f.cls f.hops f.cycle f.payload.length ∧ ∃ p,
      p = (s.part.snoop 0x26 f.slot (netWords head ++ f.payload ++ netBytes (crc32c f.payload))) ∧ ∃ w,
      w = p.slotWord f.slot ∧ ∃ own, own = (w.getLsbD 31 && fieldOf w 2 0 == f.src.val) ∧ f.crcOk = true ∧
      f.slot.val ≠ 0 ∧ own = true ∧ f.cls.val ≠ 2) ∧
    (∃ s : State, ∃ k : Fin 2, s.part.linkUsed k = true ∧ s.part.linkState k ≠ 0 ∧ ∃ f : SlotFrame, ∃ head,
      head = slotHeader f.slot f.src f.dst f.bcast f.cls f.hops f.cycle f.payload.length ∧ ∃ p,
      p = (s.part.snoop 0x26 f.slot (netWords head ++ f.payload ++ netBytes (crc32c f.payload))) ∧ ∃ w,
      w = p.slotWord f.slot ∧ ∃ own, own = (w.getLsbD 31 && fieldOf w 2 0 == f.src.val) ∧ f.crcOk = true ∧
      f.slot.val ≠ 0 ∧ own = true ∧ f.cls.val = 2) ∧
    (∃ s : State, ∃ k : Fin 2, s.part.linkUsed k = true ∧ s.part.linkState k ≠ 0 ∧ ∃ f : Slot0, ∃ holds,
      holds = (laneHolds (s.part.link k).holds f.lanes) ∧ levelHeld holds f.txLevel = false) ∧
    (∃ s : State, ∃ k : Fin 2, s.part.linkUsed k = true ∧ s.part.linkState k ≠ 0 ∧ ∃ f : Slot0, ∃ holds,
      holds = (laneHolds (s.part.link k).holds f.lanes) ∧ levelHeld holds f.txLevel = true) ∧
    (∃ s : State, ∃ k : Fin 2, ∃ p, p = s.part ∧ ∃ light,
      light = (decide (8000 * p.field 0xD120 31 22 ≤ (p.link k).quiet)) ∧ p.linkState k = 2 ∧ 0 < p.txLevel k ∧
      p.linkFixed k = false ∧ light = true) ∧
    (∃ s : State, ∃ k : Fin 2, ∃ p, p = s.part ∧ ∃ light,
      light = (decide (8000 * p.field 0xD120 31 22 ≤ (p.link k).quiet)) ∧
      (p.linkState k ≠ 2 ∨ p.txLevel k = 0 ∨ p.linkFixed k = true ∨ light = false)) ∧
    (∃ s : State, ∃ p, p = s.part ∧ p.mirrors = false) ∧
    (∃ s : State, ∃ p, p = s.part ∧ p.mirrors = true ∧ p.twin.config = []) ∧
    (∃ s : State, ∃ p, p = s.part ∧ p.mirrors = true ∧ p.twin.config ≠ []) ∧
    (∃ s : State, ∃ p, p = s.part ∧ p.mirrors = true) ∧
    (∃ s : State, ∃ p, p = s.part ∧ p.mirrors = true) ∧
    (∃ s : State, ∃ p, p = s.part ∧ p.mirrors = true) ∧
    (∃ s : State, ∃ p, p = s.part ∧ ∃ still, still = (p.mirrors && decide (8 ≤ p.twin.stuck) && !p.twin.outst.isEmpty)
      ∧ still = false) ∧
    (∃ s : State, ∃ p, p = s.part ∧ ∃ old, old = (p.twin.outst.any fun e => decide (edges5s < p.clk - e.2)) ∧ ∃ still,
      still = (p.mirrors && decide (8 ≤ p.twin.stuck) && !p.twin.outst.isEmpty) ∧ still = true ∧ old = false) ∧
    (∃ s : State, ∃ p, p = s.part ∧ ∃ old, old = (p.twin.outst.any fun e => decide (edges5s < p.clk - e.2)) ∧ ∃ still,
      still = (p.mirrors && decide (8 ≤ p.twin.stuck) && !p.twin.outst.isEmpty) ∧ still = true ∧ old = true) ∧
    (∃ s : State, ∃ r : MirrorRec, ∃ p, p = s.part ∧ ∃ taken,
      taken = (p.paired && (r.seq == p.twin.inSeq + 1#32 || r.kind == .resyncBegin)) ∧ taken = false) ∧
    (∃ s : State, ∃ r : MirrorRec, ∃ p, p = s.part ∧ ∃ taken,
      taken = (p.paired && (r.seq == p.twin.inSeq + 1#32 || r.kind == .resyncBegin)) ∧ taken = true ∧ r.last = false) ∧
    (∃ s : State, ∃ r : MirrorRec, ∃ p, p = s.part ∧ ∃ taken,
      taken = (p.paired && (r.seq == p.twin.inSeq + 1#32 || r.kind == .resyncBegin)) ∧ ∃ restores,
      restores = (r.kind == .route && r.restore) ∧ ∃ late,
      late = (restores && !(p.noRoutes || p.twin.adoptingRoutes)) ∧ taken = true ∧ r.last = true ∧ late = true) ∧
    (∃ s : State, ∃ r : MirrorRec, ∃ p, p = s.part ∧ ∃ taken,
      taken = (p.paired && (r.seq == p.twin.inSeq + 1#32 || r.kind == .resyncBegin)) ∧ ∃ restores,
      restores = (r.kind == .route && r.restore) ∧ ∃ late,
      late = (restores && !(p.noRoutes || p.twin.adoptingRoutes)) ∧ taken = true ∧ r.last = true ∧ late = false) :=
  ⟨⟨State.reset, by decide⟩,
    ⟨(st (rg [(selvReg 28 0, 2#32)] (live .carry))), by decide⟩,
    ⟨(st (rg [(cirReg 1 0, 0xC0000000#32), (cirReg 1 4, 0x32#32), (0xD100, 1#32)]
      ({ live .carry with links := [(1, { quiet := 80000 })] }))), _, rfl, _, rfl, _, rfl, _, rfl, _, rfl, _, rfl, _,
      rfl, by decide⟩,
    ⟨(st ({ asleep with supply := { loss := some { cause := 1, mode := .carry, time := 0, stitch := 0#32, notices := 0, record := false, setPending := false } } })),
      _, rfl, _, rfl, _, rfl, _, rfl, _, rfl, _, rfl, _, rfl, _, by decide, rfl⟩,
    ⟨(st (rg [(selvReg 28 0, 2#32)] (live .carry))), 1, by decide⟩,
    ⟨(st (rg [(cirReg 1 0, 0xC0000000#32), (cirReg 1 4, 0x32#32), (0xD100, 1#32)]
      ({ live .carry with links := [(1, { quiet := 80000 })] }))), 1, by decide, by decide, slotF false 1, by decide⟩,
    ⟨(st (rg [(cirReg 1 0, 0xC0000000#32), (cirReg 1 4, 0x32#32), (0xD100, 1#32)]
      ({ live .carry with links := [(1, { quiet := 80000 })] }))), 1, by decide, by decide,
      { slotF true 1 with slot := 0 }, by decide⟩,
    ⟨(st (rg [(cirReg 1 0, 0xC0000000#32), (cirReg 1 4, 0x32#32), (0xD100, 1#32)]
      ({ live .carry with links := [(1, { quiet := 80000 })] }))), 1, by decide, by decide, slotF true 2, _, rfl, _,
      rfl, _, rfl, _, rfl, by decide⟩,
    ⟨(st (rg [(cirReg 1 0, 0x80000000#32), (cirReg 1 4, 2#32), (0xD100, 1#32), (0xD214, 0x80000000#32)] (live
      .carry))), 1, by decide, by decide, slotF true 1, _, rfl, _, rfl, _, rfl, _, rfl, by decide⟩,
    ⟨(st (rg [(cirReg 1 0, 0x80000000#32), (cirReg 1 4, 2#32), (0xD100, 1#32), (0xD214, 0x80000000#32)] (live
      .carry))), 1, by decide, by decide, slotF true 2, _, rfl, _, rfl, _, rfl, _, rfl, by decide⟩,
    ⟨(st (rg [(cirReg 1 0, 0xC0000000#32), (cirReg 1 4, 0x32#32), (0xD100, 1#32)]
      ({ live .carry with links := [(1, { quiet := 80000 })] }))), 1, by decide, by decide,
      { slotZero with lanes := List.replicate 4 none }, _, rfl, by decide⟩,
    ⟨(st (rg [(cirReg 1 0, 0xC0000000#32), (cirReg 1 4, 0x32#32), (0xD100, 1#32)]
      ({ live .carry with links := [(1, { quiet := 80000 })] }))), 1, by decide, by decide, slotZero, _, rfl, by decide⟩,
    ⟨(st (rg [(cirReg 1 0, 0xC0000000#32), (cirReg 1 4, 0x32#32), (0xD100, 1#32)]
      ({ live .carry with links := [(1, { quiet := 80000 })] }))), 1, _, rfl, _, rfl, by decide⟩,
    ⟨(st (rg [(selvReg 28 0, 2#32)] (live .carry))), 1, _, rfl, _, rfl, by decide⟩,
    ⟨(st (rg [(selvReg 28 0, 2#32)] (live .carry))), _, rfl, by decide⟩,
    ⟨(st (rg [(0xD110, 0x80000000#32)] ({ live .carry with domain := { routes := [(7, 0x80000003#32)] } }))), _, rfl,
      by decide⟩,
    ⟨(st (rg [(0xD110, 0x80000000#32)] ({ live .carry with twin := { config := [1#32] } }))), _, rfl, by decide⟩,
    ⟨(st (rg [(0xD110, 0x80000000#32)] ({ live .carry with twin := { config := [1#32] } }))), _, rfl, by decide⟩,
    ⟨(st (rg [(0xD110, 0x80000000#32)] ({ live .carry with twin := { config := [1#32] } }))), _, rfl, by decide⟩,
    ⟨(st (rg [(0xD110, 0x80000000#32)] ({ live .carry with twin := { config := [1#32] } }))), _, rfl, by decide⟩,
    ⟨(st (rg [(selvReg 28 0, 2#32)] (live .carry))), _, rfl, _, rfl, by decide⟩,
    ⟨(st (rg [(0xD110, 0x80000000#32)]
      ({ live .carry with twin := { stuck := 8, outst := [(rec .config 1#32, 0)] } }))), _, rfl, _, rfl, _, rfl, by decide⟩,
    ⟨(st (rg [(0xD110, 0x80000000#32)]
      ({ live .carry with clk := 1250000001, twin := { stuck := 8, outst := [(rec .config 1#32, 0)] } }))), _, rfl, _,
      rfl, _, rfl, by decide⟩,
    ⟨(st (rg [(selvReg 28 0, 2#32)] (live .carry))),
      { kind := .route, last := true, restore := true, seq := 1#32, body := [] }, _, rfl, _, rfl, by decide⟩,
    ⟨(st (rg [(0xD110, 0x80000000#32)] ({ live .carry with twin := { config := [1#32] } }))), rec .config 1#32, _,
      rfl, _, rfl, by decide⟩,
    ⟨(st (rg [(0xD110, 0x80000000#32)] ({ live .carry with domain := { routes := [(7, 0x80000003#32)] } }))),
      { kind := .route, last := true, restore := true, seq := 1#32, body := [] }, _, rfl, _, rfl, _, rfl, _, rfl,
      by decide⟩,
    ⟨(st (rg [(0xD110, 0x80000000#32)] ({ live .carry with twin := { config := [1#32] } }))),
      { kind := .route, last := true, restore := true, seq := 1#32, body := [] }, _, rfl, _, rfl, _, rfl, _, rfl,
      by decide⟩⟩

theorem wit_SmbusTarget :
    (∃ s : State, ∃ a : BitVec 7, ∃ regs, regs = (s.part.supply.vin && a == s.part.smbAddress && s.part.md.cur !=
      .dormant) ∧ regs = true) ∧
    (∃ s : State, ∃ a : BitVec 7, ∃ regs, regs = (s.part.supply.vin && a == s.part.smbAddress && s.part.md.cur !=
      .dormant) ∧ regs = true) ∧
    (∃ s : State, ∃ a : BitVec 7, ∃ regs, regs = (s.part.supply.vin && a == s.part.smbAddress && s.part.md.cur !=
      .dormant) ∧ regs = true) ∧
    (∃ s : State, ∃ a : BitVec 7, ∃ regs, regs = (s.part.supply.vin && a == s.part.smbAddress && s.part.md.cur !=
      .dormant) ∧ regs = false) ∧
    (∃ s : State, ∃ a : BitVec 7, ∃ sel : Byte, ∃ hears, hears = (s.part.supply.vin && a == s.part.smbAddress) ∧
      hears = true ∧ ∃ l : List Byte, s.part.smbRecord sel = some l) ∧
    (∃ s : State, ∃ a : BitVec 7, ∃ hears, hears = (s.part.supply.vin && a == s.part.smbAddress) ∧ hears = true) ∧
    (∃ s : State, ∃ a : BitVec 7, ∃ hears, hears = (s.part.supply.vin && a == s.part.smbAddress) ∧ hears = false) ∧
    (∃ s : State, ∃ sel : Byte, s.part.smbRecord sel = none) ∧
    (∃ s : State, s.part.supply.vin = true) ∧
    (∃ s : State, s.part.supply.vin = false) :=
  ⟨⟨(st (live .carry)), 0x58#7, _, rfl, by decide⟩,
    ⟨(st (live .carry)), 0x58#7, _, rfl, by decide⟩,
    ⟨(st (live .carry)), 0x58#7, _, rfl, by decide⟩,
    ⟨(st (live .carry)), 0x59#7, _, rfl, by decide⟩,
    ⟨(st (live .carry)), 0x58#7, 2#8, _, rfl, by decide, _, rfl⟩,
    ⟨(st (live .carry)), 0x58#7, _, rfl, by decide⟩,
    ⟨(st (live .carry)), 0x59#7, _, rfl, by decide⟩,
    ⟨(st (live .carry)), 3#8, by decide⟩,
    ⟨(st (live .carry)), by decide⟩,
    ⟨(st ({})), by decide⟩⟩

theorem wit_TestAccessPort :
    (∃ s : State, s.part.tapAlive = false) ∧
    (∃ s : State, s.part.tapAlive = false) ∧
    (∃ (s : State) (pins : List Bool) (i : TapInstr) (nm : String) (c : Instr), s.part.tapAlive = true ∧ (i, nm,
      c) ∈ [(.extest, "EXTEST", .extest pins), (.extestPulse, "EXTEST_PULSE", .extestPulse pins), (.extestTrain, "EXTEST_TRAIN", .extestTrain pins)]
      ∧ (s.part.loadTap i).tapActs = true) ∧
    (∃ (s : State) (pins : List Bool) (i : TapInstr) (nm : String) (c : Instr), s.part.tapAlive = true ∧ (i, nm,
      c) ∈ [(.extest, "EXTEST", .extest pins), (.extestPulse, "EXTEST_PULSE", .extestPulse pins), (.extestTrain, "EXTEST_TRAIN", .extestTrain pins)]
      ∧ (s.part.loadTap i).tapActs = false) ∧
    (∃ s : State, s.part.tapAlive = true) ∧
    (∃ s : State, s.part.tapAlive = true) ∧
    (∃ s : State, s.part.tapAlive = true) ∧
    (∃ s : State, s.part.tapAlive = true) ∧
    (∃ s : State, s.part.tapAlive = true) ∧
    (∃ s : State, s.part.tapAlive = true ∧ ∃ load, load = (fun i : TapInstr => s.part.loadTap i) ∧ ∃ q,
      q = load .regAccess ∧ q.md.cur = .dormant) ∧
    (∃ s : State, s.part.tapAlive = true ∧ ∃ load, load = (fun i : TapInstr => s.part.loadTap i) ∧ ∃ w : Bool, ∃ q,
      q = load .regAccess ∧ q.md.cur ≠ .dormant ∧ w = true) ∧
    (∃ s : State, s.part.tapAlive = true ∧ ∃ load, load = (fun i : TapInstr => s.part.loadTap i) ∧ ∃ w : Bool, ∃ q,
      q = load .regAccess ∧ q.md.cur ≠ .dormant ∧ w = false) :=
  ⟨⟨State.reset, by decide⟩,
    ⟨State.reset, by decide⟩,
    ⟨st asleep, List.replicate 250 true, .extestTrain, _, _, by decide, by simp; exact ⟨rfl, rfl⟩, by decide⟩,
    ⟨st (live .carry), List.replicate 250 true, .extest, _, _, by decide, by simp; exact ⟨rfl, rfl⟩, by decide⟩,
    ⟨(st (asleep)), by decide⟩,
    ⟨(st (asleep)), by decide⟩,
    ⟨(st (asleep)), by decide⟩,
    ⟨(st (asleep)), by decide⟩,
    ⟨(st (asleep)), by decide⟩,
    ⟨(st (asleep)), by decide, _, rfl, _, rfl, by decide⟩,
    ⟨(st (live .carry)), by decide, _, rfl, true, _, rfl, by decide⟩,
    ⟨(st (live .carry)), by decide, _, rfl, false, _, rfl, by decide⟩⟩

theorem wit_StepGoesOn :
    (∃ s : State, (∀ a o b, s.pending.head? ≠ some (.smbAddr a o b)) ∧ (∀ a, s.pending.head? ≠ some (.smbRead a)) ∧
      (∀ a v b, s.pending.head? ≠ some (.smbWrite a v b)) ∧ (∀ a k b, s.pending.head? ≠ some (.smbRecSel a k b)) ∧
      (∀ a, s.pending.head? ≠ some (.smbRecRead a)) ∧ s.pending.head? ≠ some .smbSclTimeout) ∧
    (∃ s : State, ∀ o ws, s.pending.head? ≠ some (.commandSlotWrite (.write o ws))) :=
  ⟨⟨{ State.reset with pending := [.vinRise] }, by simp⟩, ⟨{ State.reset with pending := [.rstNLow] }, by simp⟩⟩

theorem wit_StepKeepsWindow : ∃ s t : State, WindowInv s ∧ Machine.step s = .next t ∧ s.pending ≠ [] :=
  ⟨{ State.reset with pending := [.commandSlotWrite (.write 8 [1#32])] }, _,
    ⟨by decide, (fun e he => nomatch he), (fun c hc => by
      obtain rfl : c = .commandSlotWrite (.write 8 [1#32]) := by simpa using hc
      decide)⟩, rfl, by simp⟩

/-- The host holds thimble 63 and has acquired it once. -/
def heldThimble : Part := rg [(0x2210, 1#32)] { live .carry with access := { owners := [(63, some .host)] } }

theorem wit_ThimbleCountersBalance :
    ThimblesBalance heldThimble ∧
    (∃ t, Machine.exec (.thimbleRead .mc0 0x20F8#28) (st heldThimble) = .next t) ∧
    (∃ t, Machine.exec (.thimbleWrite (wr 0x20FC 0#32)) (st heldThimble) = .next t) ∧
    (∃ t, decodeAddr (wr 0x2204 0#32).addr.toNat = .native 0x2204 ∧
      Machine.exec (.guardComplementWrite (wr 0x2204 0xFFFFFFC0#32)) (st heldThimble) = .next t) :=
  ⟨by decide, ⟨_, rfl⟩, ⟨_, rfl⟩, ⟨_, by decide, rfl⟩⟩

/-! ### Ill-formed commands: each check of `Instr.wf` refuses one -/

theorem test_wf_offset : (Instr.commandSlotWrite (.write 2 [0#32])).wf = false := by decide
theorem test_wf_window : (Instr.commandSlotWrite (.write 8388604 [0#32, 0#32])).wf = false := by decide
theorem test_wf_line_read : (Instr.cxlmemWrite 32 0#512).wf = false := by decide
theorem test_wf_address : (Instr.registerWrite ⟨[.write (wr 0x10D 0#32) []], 0⟩).wf = false := by decide
theorem test_wf_burst : (Instr.registerWrite ⟨[.write (wr 0x100 0#32) (List.replicate 16 (0xF#4, 0#32))], 0⟩).wf = false := by decide
theorem test_wf_masters :
    (Instr.registerWrite ⟨[.write (wr 0x100 0#32) [], .read .host 0x104#28 0], 0⟩).wf = false := by decide
theorem test_wf_absent : (Instr.registerWrite ⟨[.other (.req .host) .journal false], 0⟩).wf = false := by decide
theorem test_wf_waited : (Instr.registerWrite ⟨[], 65⟩).wf = false := by decide
theorem test_wf_slot_read : (Instr.commandSlotWrite (.read 0 17)).wf = false := by decide
theorem test_wf_hunt : (Instr.otucnFramePeriod 0
    { sites := [{ off := 122368, cols := [], mfas := 0#8 }], cols := [], mfas := 0#8, sm := quiet, odu := quiet }).wf =
      false := by
  decide
theorem test_wf_symbols : (Instr.fecCodeword 0 (.corrected 16 16)).wf = false := by decide
theorem test_wf_bip : (Instr.otucnFramePeriod 0 { sites := [], cols := [], mfas := 0#8, sm := { quiet with bip := [9] }, odu := quiet }).wf = false := by
  decide
theorem test_wf_tcm : (Instr.loOduFrameRx 0 { fas := true, mfas := 0#8, count := 0#32, oh := quiet, tcm := [(7, quiet)], lag := 0, ahead := 0 }).wf = false := by
  decide
theorem test_wf_jc : (Instr.jcRx 0 (.carrier [] [])).wf = false := by decide
theorem test_wf_legs : (Instr.seamBuild 0 [0, 1, 2, 3]).wf = false := by decide
theorem test_wf_tod : (Instr.todInMessage 0 []).wf = false := by decide
theorem test_wf_drift : (Instr.driftWindowEnd [] 0 0 true).wf = false := by decide
theorem test_wf_members : (Instr.clientPortAlign 0 []).wf = false := by decide
theorem test_wf_descriptor : (Instr.txDescriptorRead 0 { desc true with words := [] }).wf = false := by decide
theorem test_wf_slot_frame : (Instr.slotFrameRx 0 { slotF true 1 with payload := List.replicate 23981 0#8 }).wf = false := by decide
theorem test_wf_slot_lanes : (Instr.slot0Rx 0 { slotZero with lanes := [] }).wf = false := by decide
theorem test_wf_slot_zero : (Instr.slot0Rx 0 { slotZero with words := [] }).wf = false := by decide
theorem test_wf_note_bytes : (Instr.domainNoteRx (.ring 0) (List.replicate 2121 0#8) true).wf = false := by decide
theorem test_wf_note : (Instr.fetchReqRx { note 1#16 [] with ttl := 256 }).wf = false := by decide
theorem test_wf_telemetry : (Instr.telemetrySample []).wf = false := by decide
theorem test_wf_boundary : (Instr.extest []).wf = false := by decide
theorem test_wf_preload : (Instr.samplePreload (some []) (List.replicate 250 false)).wf = false := by decide

/-! ### The spec's worked examples -/

/-- R116's worked example: bits 26 and 23 dropped, the low-half window, block 0x88 as 0x08, offset 0xC24 as 0x024. -/
theorem test_image_of_crc1 : decodeAddr 0x04988C24 = .mask false 0x8024 := by decide

/-- R119's worked example: STEER[3].HOST by its bit alias, and the image of GROUP_EN's alias with bit 25 set. -/
theorem test_alias_planes : decodeAddr 0x09F0004C = .bit 31 0x4C ∧ decodeAddr 0x0A105004 = decodeAddr 0x08105004 := by
  decide

/-- The ASCII digits 1 to 9. -/
def digits : List Byte := [0x31#8, 0x32#8, 0x33#8, 0x34#8, 0x35#8, 0x36#8, 0x37#8, 0x38#8, 0x39#8]

/-- R453's check values. -/
theorem test_check_values : crc32c digits = 0xE3069283#32 ∧ crc32 digits = 0xCBF43926#32 ∧ crc16 digits = 0x29B1#16 := by
  decide

/-- R20's worked example: a pleat sum of +1.5 ns and a step of -2.25 ns leave -49,152 units. -/
theorem test_pleat_sum :
    ((pleatStep 3 (runs 0x0601 [0xFFFDC000#32, 0xFFFFFFFF#32]
      ((rg [(tkReg 0x10, 0x23#32)] { live .carry with time := { now := 65536000000000 } }).setInt64 (tkReg 0x40) 98304))).reg64
        (tkReg 0x40)).toInt = -49152 := by
  decide

set_option exponentiation.threshold 600 in
/-- R94's worked example: with 40 GiB of trace capture a host write to DPA 0x0980000040 is discarded and counted. -/
theorem test_trace_write_discarded :
    let p := rg [(0xA100, 40#32)] { live .carry with host := { linkUp := true, cxl := true, hdm := { committed := true, base := 0x010000000000, size := 0x2000000000 } } }
    (cxlmemWrite 0x010980000040 1#512 p).dram = [] ∧ (cxlmemWrite 0x010980000040 1#512 p).reg 0xA104 = 1#32 ∧
      (cxlmemWrite 0x011400000000 1#512 p).dram = [(0x1400000000, 1#8)] := by
  decide

end Sys2Proof.Tests
end

section
/-! The host attachment in D3hot (R81): what its entry does, and the accesses it closes. -/

namespace Sys2Proof.Machine

/-- The entry as an instruction: a command on the part alone. -/
theorem exec_d3hotEntry (s : State) : exec .d3hotEntry s = onPart d3hotEntry s := rfl

/-- With the host powered and the link up, the entry sets the power state and nothing else. -/
theorem d3hotEntry_of_linkUp (p : Part) (hpower : p.hostPowered = true) (hlink : p.host.linkUp = true) :
    d3hotEntry p = { p with host := { p.host with d3hot := true } } := by
  simp [d3hotEntry, hpower, hlink]

section Closed

variable {p : Part} (hd3 : p.host.d3hot = true)
include hd3

theorem Part.hostIo_of_d3hot : p.hostIo = false := by simp [Part.hostIo, hd3]

theorem Part.bar0Up_of_d3hot : p.bar0Up = false := by simp [Part.bar0Up, Part.hostIo_of_d3hot hd3]

theorem Part.bar2Up_of_d3hot : p.bar2Up = false := by simp [Part.bar2Up, Part.hostIo_of_d3hot hd3]

theorem Part.bar4Up_of_d3hot : p.bar4Up = false := by simp [Part.bar4Up, Part.hostIo_of_d3hot hd3]

/-- The host comes to the register space through BAR0 (R85), so in D3hot it does not come there. -/
theorem Part.reaches_host_of_d3hot : p.reaches .host = false := Part.bar0Up_of_d3hot hd3

theorem Part.memServes_of_d3hot (hpa : Nat) : p.memServes hpa = false := by simp [Part.memServes, hd3]

end Closed

end Sys2Proof.Machine

namespace Sys2Proof

open Sys2Proof.Machine

/-- Settles O30: the entry is one update of the host's power state, and every path of the host to the registers and to
the LPDDR5X asks for D0. -/
theorem d3hotDisables : Obligations.D3hotDisables := by
  refine ⟨fun s hpower hlink => ?entry, fun p hd3 => ?closed⟩
  case entry =>
    refine ⟨{ s with part := { s.part with host := { s.part.host with d3hot := true } } }, ?_, rfl, rfl, rfl, rfl, ?_⟩
    · rw [exec_d3hotEntry, onPart_next, d3hotEntry_of_linkUp s.part hpower hlink]
    · simp [KeepsPath, KeepsLines, KeepsClients, KeepsTwin]
  case closed =>
    exact ⟨Part.reaches_host_of_d3hot hd3, Part.bar0Up_of_d3hot hd3, Part.bar2Up_of_d3hot hd3,
      Part.bar4Up_of_d3hot hd3, Part.memServes_of_d3hot hd3⟩

end Sys2Proof
end

section
/-! Reads of the register space outside DORMANT (R84, R105, R118, R120): what a read of an aliased bit or through a
mask window comes to, and what the selvedge on its way does. -/

namespace Sys2Proof.Machine

/-- Early accesses are those of DORMANT alone (R84). -/
theorem Part.early_of_awake {p : Part} (q : Req) (hmode : p.md.cur ≠ .dormant) : p.early q = false := by
  simp [Part.early, hmode]

/-! ### Selvedges -/

/-- A register of the HUB island lies behind no selvedge, so its accesses are carried as they are. -/
theorem Part.cross_of_hub {p : Part} {o : Nat} (h : p.regPlace o = none) : p.cross o = (p, true) := by
  simp [Part.cross, h]

/-- What crossing comes to: no selvedge, one that turns the access away, or one that carries it, to a register in no
power domain or in a domain that it wakes. -/
theorem Part.cross_cases (p : Part) (o : Nat) :
    p.cross o = (p, true) ∨ (∃ i, p.cross o = (p.selvClean i 1, false)) ∨
      (∃ i, p.cross o = (p.selvRequest i, true)) ∨ ∃ i n, p.cross o = ((p.wakeDomain n).selvRequest i, true) := by
  rcases hplace : p.regPlace o with _ | ⟨i, _ | n⟩
  case none => exact .inl (Part.cross_of_hub hplace)
  case some.none =>
    simp only [Part.cross, hplace]
    split
    · exact .inr (.inl ⟨i, rfl⟩)
    · exact .inr (.inr (.inl ⟨i, rfl⟩))
  case some.some =>
    simp only [Part.cross, hplace]
    split
    · exact .inr (.inl ⟨i, rfl⟩)
    · exact .inr (.inr (.inr ⟨i, n, rfl⟩))

theorem Part.readAcross_of_carried {p : Part} {o : Nat} (q : Req) (addr : BitVec 28) (f : Part → Part × Word)
    (h : (p.cross o).2 = true) :
    p.readAcross q addr o f = (f (p.cross o).1).1.answer q addr.toNat (f (p.cross o).1).2 := by
  simp [Part.readAcross, h]

theorem Part.readAcross_of_fenced {p : Part} {o : Nat} (q : Req) (addr : BitVec 28) (f : Part → Part × Word)
    (h : (p.cross o).2 = false) :
    p.readAcross q addr o f = ((p.cross o).1.accessFault 6 q addr).answer q addr.toNat 0#32 := by
  simp [Part.readAcross, h]

/-! ### Reads -/

section Reads

variable {p : Part} {q : Req} {addr : BitVec 28} {b o : Nat} {h : Bool} {i : RegInfo} (hreach : p.reaches q = true)
include hreach

/-- An aliased bit of an offset that holds no register answers 0 (R114). -/
theorem busRead_bit_unassigned (ht : decodeAddr addr.toNat = .bit b o) (hi : regInfo o = none) :
    busRead q addr p = (p.granted q).answer q addr.toNat 0#32 := by
  simp [busRead, hreach, ht, Target.off, hi]

variable (hmode : p.md.cur ≠ .dormant)
include hmode

/-- R118: an aliased bit of a register answers from the register. -/
theorem busRead_bit (ht : decodeAddr addr.toNat = .bit b o) (hi : regInfo o = some i) :
    busRead q addr p = (p.granted q).readAcross q addr o
      fun x => (x, BitVec.ofNat 32 ((x.readWord o).getLsbD b).toNat) := by
  simp [busRead, hreach, ht, Target.off, hi, Part.early_of_awake, hmode]

/-- R120: a mask window reads as the register does. -/
theorem busRead_mask (ht : decodeAddr addr.toNat = .mask h o) (hi : regInfo o = some i) :
    busRead q addr p = (p.granted q).readAcross q addr o fun x => (x, x.readWord o) := by
  simp [busRead, hreach, ht, Target.off, hi, Part.early_of_awake, hmode]

end Reads

end Sys2Proof.Machine
end

section
/-! The thimbles TH0 to TH63 as registers (R132 to R134): where they lie, and what a native access does to one. -/

namespace Sys2Proof.Machine

/-- The register word of a thimble. -/
def thimbleInfo : RegInfo :=
  { nm := "THIMBLE", reset := 0x10#32, rw := 0#32, w1c := 0#32, sh := 0#32, lk := 0#32, wo := 0#32, splits := 0#32,
    kind := .thimble, words := 1, idx := 0 }

theorem regInfo_thimble (n : Fin 64) : regInfo (0x2000 + 4 * n.val) = some thimbleInfo := by
  revert n
  decide

theorem infoOf_thimble (n : Fin 64) : infoOf (0x2000 + 4 * n.val) (fun i => i.kind == .thimble) = true := by
  simp [infoOf, regInfo_thimble, thimbleInfo]

theorem thimble_block (n : Fin 64) : (0x2000 + 4 * n.val) / 0x1000 = 2 := by omega

theorem thimble_index (n : Fin 64) : (0x2000 + 4 * n.val) % 0x1000 / 4 = n.val := by omega

/-- The thimbles lie in the HUB island. -/
theorem Part.regPlace_thimble (p : Part) (n : Fin 64) : p.regPlace (0x2000 + 4 * n.val) = none := by
  simp [Part.regPlace, thimble_block]

/-! ### What the thimble does -/

section Take

variable {p : Part} {q r : Req} {n : Nat} (hsmb : q ≠ .smb) (hjtag : q ≠ .jtag)
include hsmb hjtag

theorem Part.takeThimble_of_free (h : SMap.get (fun _ => none) p.access.owners n = none) :
    p.takeThimble q n = (((p.setOwner n (some q)).addWrap 0x2210 1).count 0x3000 0 1,
      BitVec.ofNat 32 (2 ^ 31 + 16 + q.code)) := by
  cases q <;> simp_all [Part.takeThimble]

theorem Part.takeThimble_of_held (h : SMap.get (fun _ => none) p.access.owners n = some r) :
    p.takeThimble q n = (p, BitVec.ofNat 32 ((if r = q then 2 ^ 31 else 0) + r.code)) := by
  cases q <;> simp_all [Part.takeThimble]

end Take

theorem Part.leaveThimble_of_owner {p : Part} {q : Req} {n : Nat} (addr : BitVec 28)
    (h : SMap.get (fun _ => none) p.access.owners n = some q) :
    p.leaveThimble q addr n = ((p.setOwner n none).addWrap 0x2214 1).count 0x3000 1 1 := by
  simp [Part.leaveThimble, h]

theorem Part.leaveThimble_of_other {p : Part} {q : Req} {n : Nat} (addr : BitVec 28)
    (h : SMap.get (fun _ => none) p.access.owners n ≠ some q) :
    p.leaveThimble q addr n = p.lockViolation 2 q addr := by
  simp [Part.leaveThimble, h]

/-! ### How an access comes to it -/

/-- A native read that reaches a thimble answers what taking it says. -/
theorem busRead_thimble {p : Part} {q : Req} {addr : BitVec 28} {n : Fin 64} (hreach : p.reaches q = true)
    (hmode : p.md.cur ≠ .dormant) (ht : decodeAddr addr.toNat = .native (0x2000 + 4 * n.val)) :
    busRead q addr p = ((p.granted q).takeThimble q n).1.answer q addr.toNat ((p.granted q).takeThimble q n).2 := by
  have hread : busRead q addr p = (p.granted q).readAcross q addr (0x2000 + 4 * n.val)
      fun x => x.nativeRead q thimbleInfo (0x2000 + 4 * n.val) := by
    simp [busRead, hreach, ht, Target.off, regInfo_thimble, Part.early_of_awake, hmode, thimbleInfo, thimble_block]
  have hcross := Part.cross_of_hub ((p.granted q).regPlace_thimble n)
  rw [hread, Part.readAcross_of_carried _ _ _ (by rw [hcross]), hcross]
  simp [Part.nativeRead, thimbleInfo, thimble_index]

/-- THIMBLE_READ of a thimble is a read of the bus. -/
theorem exec_thimbleRead_native {s : State} {q : Req} {addr : BitVec 28} {n : Fin 64}
    (ht : decodeAddr addr.toNat = .native (0x2000 + 4 * n.val)) :
    exec (.thimbleRead q addr) s = .next { s with part := busRead q addr s.part } := by
  change execThimbleRead q addr s = _
  simp [execThimbleRead, onPart_next, ht, Target.off, infoOf_thimble]

/-- A native write of a thimble that is carried releases it or is a violation. -/
theorem busWrite_thimble {c : Access} {n : Fin 64} {s : State} (h : NativeWrite c (0x2000 + 4 * n.val) s) :
    busWrite c s.part = (passed c s.part).leaveThimble c.req c.addr n := by
  rw [busWrite_native c _ s thimbleInfo h (regInfo_thimble n)]
  simp [Part.regWrite, thimbleInfo, nativeOf, thimble_index]

/-- THIMBLE_WRITE of a thimble is a write of the bus. -/
theorem yieldsBus_thimbleWrite {c : Access} {n : Fin 64} {s : State} (h : NativeWrite c (0x2000 + 4 * n.val) s) :
    YieldsBus (.thimbleWrite c) s ((passed c s.part).leaveThimble c.req c.addr n) := by
  change execThimbleWrite c s = _
  rw [execThimbleWrite, onBus_next, atReg_native c _ s _ h (infoOf_thimble n), busWrite_thimble h]

end Sys2Proof.Machine

namespace Sys2Proof

open Sys2Proof.Machine

/-- Settles O41: the read comes to the thimble (`busRead_thimble`), which is free, the reader's, or another's. -/
theorem thimbleNativeRead : Obligations.ThimbleNativeRead := by
  intro s q addr n hreach hmode hsmb hjtag ht p
  have howners : p.access.owners = s.part.access.owners := by simp [p, Part.granted]
  have hexec : exec (.thimbleRead q addr) s =
      .next { s with part := (p.takeThimble q n).1.answer q addr.toNat (p.takeThimble q n).2 } := by
    rw [exec_thimbleRead_native ht, busRead_thimble hreach hmode ht]
  rw [← howners]
  unfold Yields
  rw [hexec]
  refine ⟨fun hfree => ?free, fun hown => ?owner, fun r hheld hother => ?other⟩
  case free => rw [Part.takeThimble_of_free hsmb hjtag hfree]
  case owner => rw [Part.takeThimble_of_held hsmb hjtag hown, if_pos rfl]
  case other => rw [Part.takeThimble_of_held hsmb hjtag hheld, if_neg hother, Nat.zero_add]

/-- Settles O42: the write comes to the thimble (`yieldsBus_thimbleWrite`), and the writer owns it or does not; the
record of a violation leaves the owners. -/
theorem thimbleNativeWrite : Obligations.ThimbleNativeWrite := by
  intro s c n hwrite p
  have hyields := yieldsBus_thimbleWrite hwrite
  refine ⟨fun hown => ?owner, fun hother => ⟨?violation, ?kept⟩⟩
  case owner => rwa [Part.leaveThimble_of_owner c.addr hown] at hyields
  case violation => rwa [Part.leaveThimble_of_other c.addr hother] at hyields
  case kept => rw [(p.lockViolation_frame 2 c.req c.addr).2.2.2.2.2.1]

end Sys2Proof
end

section
/-! Reads of aliased bits (R118): what no such read changes, whether its selvedge carries it or not. -/

namespace Sys2Proof.Machine

/-- What the side effects of native reads change: the thimbles with the held and captured words, the decisions, and
the stamp FIFOs. -/
def Part.readSide (p : Part) : AccessSt × SteerSt × SMap StampSt := (p.access, p.steer, p.stamps)

@[simp] theorem Part.readSide_granted (p : Part) (q : Req) : (p.granted q).readSide = p.readSide := by
  simp [Part.readSide, Part.granted]

@[simp] theorem Part.readSide_crcTake (p : Part) (i : Nat) (bs : List Byte) :
    (p.crcTake i bs).readSide = p.readSide := by
  simp [Part.readSide]

@[simp] theorem Part.readSide_snoopBus (p : Part) (q : Req) (a : Nat) (w : Bool) (v : Word) (be : BitVec 4) :
    (p.snoopBus q a w v be).readSide = p.readSide := by
  refine foldl_keeps Part.readSide _ (fun x i => ?_) (List.range 8) p
  rw [apply_ite Part.readSide, Part.readSide_crcTake, ite_self]

@[simp] theorem Part.readSide_answer (p : Part) (q : Req) (a : Nat) (w : Word) :
    (p.answer q a w).readSide = p.readSide := by
  rw [Part.answer, ← p.readSide_snoopBus q a false w]
  rfl

@[simp] theorem Part.readSide_accessFault (p : Part) (cause : Nat) (q : Req) (addr : BitVec 28) :
    (p.accessFault cause q addr).readSide = p.readSide := by
  simp [Part.readSide]

@[simp] theorem Part.readSide_wakeDomain (p : Part) (n : Nat) : (p.wakeDomain n).readSide = p.readSide := by
  unfold Part.wakeDomain
  split <;> simp [Part.readSide]

@[simp] theorem Part.readSide_selvRequest (p : Part) (i : Nat) : (p.selvRequest i).readSide = p.readSide := by
  simp [Part.readSide]

@[simp] theorem Part.readSide_selvClean (p : Part) (i n : Nat) : (p.selvClean i n).readSide = p.readSide := by
  simp [Part.readSide, Part.selvClean]

@[simp] theorem Part.readSide_cross (p : Part) (o : Nat) : (p.cross o).1.readSide = p.readSide := by
  rcases p.cross_cases o with h | ⟨i, h⟩ | ⟨i, h⟩ | ⟨i, n, h⟩ <;> simp [h]

/-- A read across a selvedge has no side effect where its word is taken without one. -/
theorem Part.readSide_readAcross (p : Part) (q : Req) (addr : BitVec 28) (o : Nat) (f : Part → Word) :
    (p.readAcross q addr o fun x => (x, f x)).readSide = p.readSide := by
  cases hcarried : (p.cross o).2 with
  | true => simp [Part.readAcross_of_carried q addr _ hcarried]
  | false => simp [Part.readAcross_of_fenced q addr _ hcarried]

theorem readSide_busRead_bit {p : Part} {q : Req} {addr : BitVec 28} {b o : Nat} (hreach : p.reaches q = true)
    (hmode : p.md.cur ≠ .dormant) (ht : decodeAddr addr.toNat = .bit b o) :
    (busRead q addr p).readSide = p.readSide := by
  cases hi : regInfo o with
  | none => rw [busRead_bit_unassigned hreach ht hi, Part.readSide_answer, Part.readSide_granted]
  | some i => rw [busRead_bit hreach hmode ht hi, Part.readSide_readAcross, Part.readSide_granted]

/-- MULTIWORD_CAPTURE_READ is a read of the bus. -/
theorem exec_multiwordCaptureRead (q : Req) (addr : BitVec 28) (s : State) :
    exec (.multiwordCaptureRead q addr) s = .next { s with part := busRead q addr s.part } := rfl

end Sys2Proof.Machine

namespace Sys2Proof

open Sys2Proof.Machine

/-- Settles O43: the selvedge carries the read or turns it away, and neither way has a side effect. -/
theorem bitAliasReads : Obligations.BitAliasReads := by
  intro s q addr b o hreach hmode ht c
  refine ⟨fun i hi hcarried => ?carried, fun i hi hfenced => ?fenced, ?frame⟩
  case carried =>
    rw [Yields, exec_multiwordCaptureRead, busRead_bit hreach hmode ht hi, Part.readAcross_of_carried _ _ _ hcarried]
  case fenced =>
    rw [Yields, exec_multiwordCaptureRead, busRead_bit hreach hmode ht hi, Part.readAcross_of_fenced _ _ _ hfenced]
  case frame =>
    have hside := readSide_busRead_bit hreach hmode ht
    simp only [Part.readSide, Prod.mk.injEq] at hside
    obtain ⟨haccess, hsteer, hstamps⟩ := hside
    exact ⟨_, exec_multiwordCaptureRead q addr s, by rw [haccess], by rw [haccess], hsteer, hstamps⟩

end Sys2Proof
end

section
/-! Writes through a mask window (R120 to R122), and MASKWIN_OFF (R121). -/

namespace Sys2Proof.Machine

/-- A write through a window as the register sees it: neither native nor of an aliased bit. -/
def windowOf (c : Access) : BusWrite := { req := c.req, addr := c.addr, direct := false, alias_ := false }

/-- MASKWIN_OFF turns away a write through a window before the register is looked at. -/
theorem Part.regWrite_maskwinOff {p : Part} (a : BusWrite) (i : RegInfo) (x : WordWrite)
    (hoff : p.bit 0x038 1 = true) : p.regWrite a true i x = p.lockViolation 3 a.req a.addr := by
  simp [Part.regWrite, hoff]

/-- A write through a mask window comes to its register, past the conditions that turn writes away (R552); in FREEZE
where the register takes writes there (R112). -/
theorem busWrite_mask {c : Access} {p : Part} {h : Bool} {o : Nat} {i : RegInfo} (hreach : p.reaches c.req = true)
    (hbe : c.be = 0xF#4) (hmode : p.md.cur ≠ .dormant) (hfreeze : p.md.cur = .freeze → freezeAccepts i o = true)
    (ht : decodeAddr c.addr.toNat = .mask h o) (hi : regInfo o = some i) :
    busWrite c p = (passed c p).regWrite (windowOf c) true i
      { off := o, sel := (maskBits h c.val).1, val := (maskBits h c.val).2 } := by
  have hpassed : (p.granted c.req).snoopBus c.req c.addr.toNat true c.val c.be = passed c p := rfl
  have hearly : (passed c p).early c.req = false := Part.early_of_awake _ (by rwa [passed_md])
  have haccepts : ¬ (p.md.cur = .freeze ∧ freezeAccepts i o = false) := fun hf => by simp [hfreeze hf.1] at hf
  unfold busWrite
  rw [if_neg (by simp [hreach])]
  simp only [hpassed]
  simp only [ht, hearly, hbe, hi, passed_md, if_neg haccepts, windowOf, Bool.false_and, Bool.false_eq_true, if_false,
    ne_eq, not_true_eq_false]

/-- MASK_WINDOW_WRITE of a window's address is a write of the bus. -/
theorem exec_maskWindowWrite {c : Access} {h : Bool} {o : Nat} (s : State) (ht : decodeAddr c.addr.toNat = .mask h o) :
    exec (.maskWindowWrite c) s = .next { s with part := (busWrite c s.part).copyQueued s.window } := by
  change execMaskWindowWrite c s = _
  simp only [execMaskWindowWrite, onBus_next, ht]

end Sys2Proof.Machine

namespace Sys2Proof

open Sys2Proof.Machine

/-- Settles O44: the write comes to the register's first condition, which is MASKWIN_OFF; a read through the window
asks for no such thing. -/
theorem maskWindowsOff : Obligations.MaskWindowsOff := by
  refine ⟨fun s c h o i hreach hbe hmode hfreeze ht hi hoff => ?write,
    fun s q addr h o i hreach hmode ht hi hc => ?read⟩
  case write =>
    rw [YieldsBus, exec_maskWindowWrite s ht, busWrite_mask hreach hbe hmode hfreeze ht hi,
      Part.regWrite_maskwinOff _ _ _ hoff, windowOf]
  case read =>
    rw [Yields, exec_multiwordCaptureRead, busRead_mask hreach hmode ht hi, Part.readAcross_of_carried _ _ _ hc]

end Sys2Proof
end

section
/-! What a step can do outside the part (R148, R87, R544): one shape for every command, from which the frames of the
queue, the window and the SMBus target follow. -/

namespace Sys2Proof.Machine

/-- The commands that may change the SMBus target. -/
def ofSmbus : Instr → Bool
  | .smbAddr _ _ _ | .smbRead _ | .smbWrite _ _ _ | .smbRecSel _ _ _ | .smbRecRead _ | .smbSclTimeout => true
  | _ => false

/-- The four shapes of a command: a row of the part alone, one that may power the part down, an access of the command
window, and an SMBus command. -/
theorem exec_shape (c : Instr) (s : State) :
    (∃ p, exec c s = .next { s with part := p }) ∨ (∃ f, exec c s = onPower f s) ∨
      (∃ a, c = .commandSlotWrite a) ∨ ofSmbus c = true := by
  cases c
  case commandSlotWrite a => exact .inr (.inr (.inl ⟨a, rfl⟩))
  case smbAddr | smbRead | smbWrite | smbRecSel | smbRecRead | smbSclTimeout => exact .inr (.inr (.inr rfl))
  case supplyLoss | rstNLow | modeReached => exact .inr (.inl ⟨_, rfl⟩)
  all_goals exact .inl ⟨_, rfl⟩

/-- An SMBus command leaves the queue and the window. -/
theorem exec_ofSmbus (c : Instr) (s : State) (h : ofSmbus c = true) :
    ∃ t, exec c s = .next t ∧ t.pending = s.pending ∧ t.window = s.window := by
  have hspecs := fun a => smb_specs a s
  simp only [forall_and] at hspecs
  obtain ⟨haddr, hread, hwrite, hsel, hrec, -, hscl⟩ := hspecs
  cases c
  case smbAddr a o b => exact haddr a o b
  case smbRead a => exact hread a
  case smbWrite a v b => exact hwrite a v b
  case smbRecSel a k b => exact hsel a k b
  case smbRecRead a => exact hrec a
  case smbSclTimeout => exact hscl 0
  all_goals exact nomatch h

/-- What a command does outside the part: the queue stays, the SMBus target stays but for an SMBus command, and the
window stays, takes the words of a slot write, or is emptied by the entry into DORMANT. -/
theorem exec_outside (c : Instr) (s : State) :
    ∃ t, exec c s = .next t ∧ t.pending = s.pending ∧ (ofSmbus c = false → t.smb = s.smb) ∧
      (t.window = s.window ∨ (s.part.md.cur ≠ .dormant ∧ t.part.md.cur = .dormant ∧ t.window = []) ∨
        ∃ o ws, c = .commandSlotWrite (.write o ws) ∧ t.window = storeWords s.part s.window o ws) := by
  rcases exec_shape c s with ⟨p, h⟩ | ⟨f, h⟩ | ⟨a, rfl⟩ | h
  · exact ⟨_, h, rfl, fun _ => rfl, .inl rfl⟩
  · obtain ⟨t, ht, hpending, hsmb, -, hwindow⟩ := onPower_spec f s
    exact ⟨t, h.trans ht, hpending, fun _ => hsmb, hwindow.imp id .inl⟩
  · obtain ⟨t, ht, hpending, hsmb, hwindow⟩ := execCommandSlotWrite_spec a s
    refine ⟨t, ht, hpending, fun _ => hsmb, hwindow.imp id fun ⟨o, ws, ha, hw⟩ => .inr ⟨o, ws, ?_, hw⟩⟩
    rw [ha]
  · obtain ⟨t, ht, hpending, hwindow⟩ := exec_ofSmbus c s h
    exact ⟨t, ht, hpending, fun h' => absurd (h'.symm.trans h) (by decide), .inl hwindow⟩

theorem step_nil {s : State} (h : s.pending = []) : step s = .next s.tick := by
  simp only [step, h]

theorem step_cons {s : State} {c : Instr} {r : List Instr} (h : s.pending = c :: r) :
    step s = exec c { s with pending := r } := by
  simp only [step, h]

end Sys2Proof.Machine

namespace Sys2Proof

open Sys2Proof.Machine

/-- Settles O1, by the definition of a step. -/
theorem stepRunsFront : Obligations.StepRunsFront := fun _ _ _ => step_cons rfl

/-- Settles O3: an edge acts on the part alone, and a command as `exec_outside` says. -/
theorem stepGoesOn : Obligations.StepGoesOn := by
  intro s
  cases hpending : s.pending with
  | nil => exact ⟨s.tick, step_nil hpending, hpending, fun _ _ _ _ _ _ => rfl, fun _ => .inl rfl⟩
  | cons c r =>
    obtain ⟨t, ht, hrest, hsmb, hwindow⟩ := exec_outside c { s with pending := r }
    refine ⟨t, (step_cons hpending).trans ht, hrest, fun h1 h2 h3 h4 h5 h6 => hsmb ?_, fun hw => ?_⟩
    · cases c
      case smbAddr a o b => exact absurd rfl (h1 a o b)
      case smbRead a => exact absurd rfl (h2 a)
      case smbWrite a v b => exact absurd rfl (h3 a v b)
      case smbRecSel a k b => exact absurd rfl (h4 a k b)
      case smbRecRead a => exact absurd rfl (h5 a)
      case smbSclTimeout => exact absurd rfl h6
      all_goals rfl
    · rcases hwindow with h | h | ⟨o, ws, rfl, -⟩
      · exact .inl h
      · exact .inr h
      · exact absurd rfl (hw o ws)

/-- Settles O4: only a slot write puts bytes into the window (`exec_outside`), and a well-formed one stays within
BAR2. -/
theorem stepKeepsWindow : Obligations.StepKeepsWindow := by
  rintro s t ⟨hwf, hbelow, hcmds⟩ hstep
  cases hpending : s.pending with
  | nil =>
    obtain rfl : s.tick = t := by simpa [step_nil hpending] using hstep
    exact ⟨hwf, hbelow, hcmds⟩
  | cons c r =>
    rw [hpending] at hcmds
    obtain ⟨u, hu, hrest, -, hwindow⟩ := exec_outside c { s with pending := r }
    obtain rfl : u = t := by simpa [step_cons hpending, hu] using hstep
    have hqueue : ∀ d ∈ u.pending, d.wf = true := by
      rw [hrest]
      exact fun d hd => hcmds d (List.mem_cons_of_mem c hd)
    rcases hwindow with hw | ⟨-, -, hw⟩ | ⟨o, ws, rfl, hw⟩
    · exact ⟨by rwa [hw], by rwa [hw], hqueue⟩
    · exact ⟨by rw [hw]; rfl, by simp [hw], hqueue⟩
    · have hlen : o + 4 * ws.length ≤ 8 * 2 ^ 20 := by
        have := hcmds _ List.mem_cons_self
        simp only [Instr.wf, slotAccessOk, Bool.and_eq_true, decide_eq_true_eq] at this
        exact this.2
      exact ⟨by rw [hw]; exact storeWords_wf _ ws _ o hwf, by rw [hw]; exact storeWords_below _ ws _ o _ hlen hbelow,
        hqueue⟩

/-- Settles O5: nothing is written, held or counted at reset. -/
theorem resetMeetsInvariants : Obligations.ResetMeetsInvariants :=
  ⟨⟨rfl, List.forall_mem_nil _, List.forall_mem_nil _⟩, rfl, by decide⟩

/-- Settles O6: reset is the part with every store empty, and an empty store reads as its reset values. -/
theorem resetLeaves : Obligations.ResetLeaves :=
  ⟨rfl, rfl, rfl, rfl, rfl, rfl, fun _ => rfl, fun _ => rfl, fun _ => rfl, rfl, rfl, fun _ => rfl⟩

end Sys2Proof
end

section
/-! The thimble counters (R132 to R138): what an access does besides a thimble leaves them, and each release and
acquisition keeps them in balance. -/

namespace Sys2Proof.Machine

/-- The owners of the thimbles, and ACQ_COUNT, REL_COUNT, BREAK_COUNT and RESET_COUNT (R143). -/
def Part.thimbles (p : Part) : SMap (Option Req) × Word × Word × Word × Word :=
  (p.access.owners, p.reg 0x2210, p.reg 0x2214, p.reg 0x2218, p.reg 0x221C)

/-- The balance is about the thimbles alone. -/
theorem thimblesBalance_of_thimbles {p q : Part} (h : q.thimbles = p.thimbles) (hp : ThimblesBalance p) :
    ThimblesBalance q := by
  simp only [Part.thimbles, Prod.mk.injEq] at h
  obtain ⟨howners, hacq, hrel, hbreak, hreset⟩ := h
  rwa [ThimblesBalance, howners, hacq, hrel, hbreak, hreset]

/-! ### What leaves the thimbles -/

theorem Part.thimbles_setReg (p : Part) (o : Nat) (w : Word) (ho : o < 0x2210 ∨ 0x2220 ≤ o) :
    (p.setReg o w).thimbles = p.thimbles := by
  have hreg : ∀ x, 0x2210 ≤ x → x < 0x2220 → (p.setReg o w).reg x = p.reg x := fun x h1 h2 =>
    Part.reg_setReg_other p o x w (by omega)
  simp [Part.thimbles, hreg]

@[simp] theorem Part.thimbles_crcTake (p : Part) (i : Nat) (bs : List Byte) :
    (p.crcTake i bs).thimbles = p.thimbles := by
  have hcrc : ∀ k, 0x2220 ≤ crcReg i k := fun k => by unfold crcReg; omega
  simp only [Part.crcTake, Part.crcSync, Part.addWrap, Part.thimbles_setReg _ _ _ (.inr (hcrc _))]

@[simp] theorem Part.thimbles_snoopBus (p : Part) (q : Req) (a : Nat) (w : Bool) (v : Word) (be : BitVec 4) :
    (p.snoopBus q a w v be).thimbles = p.thimbles := by
  refine foldl_keeps Part.thimbles _ (fun x i => ?_) (List.range 8) p
  rw [apply_ite Part.thimbles, Part.thimbles_crcTake, ite_self]

@[simp] theorem Part.thimbles_snoopTarget (p : Part) (c a : Nat) (w : Bool) (bs : List Byte) :
    (p.snoopTarget c a w bs).thimbles = p.thimbles :=
  foldl_keeps Part.thimbles _ (fun x i => x.thimbles_crcTake i bs) _ p

@[simp] theorem Part.thimbles_granted (p : Part) (q : Req) : (p.granted q).thimbles = p.thimbles := by cases q <;> rfl

@[simp] theorem Part.thimbles_grantTo (p : Part) (m : Master) : (p.grantTo m).thimbles = p.thimbles := by
  unfold Part.grantTo
  split <;> rfl

@[simp] theorem Part.thimbles_noteSet (p : Part) (o b : Nat) : (p.noteSet o b).thimbles = p.thimbles := rfl

@[simp] theorem Part.thimbles_count (p : Part) (l c n : Nat) : (p.count l c n).thimbles = p.thimbles := rfl

@[simp] theorem Part.thimbles_emit (p : Part) (o : Out) : (p.emit o).thimbles = p.thimbles := rfl

@[simp] theorem Part.thimbles_setGuard (p : Part) (q : Req) (g : Option GuardOpen) :
    (p.setGuard q g).thimbles = p.thimbles := rfl

theorem Part.thimbles_addWrap (p : Part) (o n : Nat) (ho : o < 0x2210 ∨ 0x2220 ≤ o) :
    (p.addWrap o n).thimbles = p.thimbles := p.thimbles_setReg o _ ho

theorem selvReg_above (i o : Nat) : 0x2220 ≤ selvReg i o := by unfold selvReg; omega

@[simp] theorem Part.thimbles_selvRequests (p : Part) (i n : Nat) : (p.selvRequests i n).thimbles = p.thimbles := by
  unfold Part.selvRequests
  split <;> simp only [Part.thimbles_count, Part.thimbles_addWrap _ _ _ (.inr (selvReg_above i _))]

@[simp] theorem Part.thimbles_selvClean (p : Part) (i n : Nat) : (p.selvClean i n).thimbles = p.thimbles := by
  simp only [Part.selvClean, Part.thimbles_count, Part.thimbles_addWrap _ _ _ (.inr (selvReg_above i _))]

@[simp] theorem Part.thimbles_wakeDomain (p : Part) (n : Nat) : (p.wakeDomain n).thimbles = p.thimbles := by
  unfold Part.wakeDomain
  split
  · rfl
  · exact Part.thimbles_setReg _ _ _ (by unfold pdReg; omega)

@[simp] theorem Part.thimbles_cross (p : Part) (o : Nat) : (p.cross o).1.thimbles = p.thimbles := by
  rcases p.cross_cases o with h | ⟨i, h⟩ | ⟨i, h⟩ | ⟨i, n, h⟩ <;> simp [h, Part.selvRequest]

@[simp] theorem Part.thimbles_dramWrite (p : Part) (a : Nat) (bs : List Byte) :
    (p.dramWrite a bs).thimbles = p.thimbles := by
  have hread : ∀ (x : Part) (m : Memory), ({ x with dram := m } : Part).thimbles = x.thimbles := fun _ _ => rfl
  unfold Part.dramWrite
  dsimp only
  split <;> simp only [hread, Part.thimbles_snoopTarget, Part.thimbles_selvRequests, Part.thimbles_grantTo]

@[simp] theorem Part.thimbles_trace (p : Part) (m s c i t : Nat) (d : Dword) :
    (p.trace m s c i t d).thimbles = p.thimbles := by
  unfold Part.trace
  split
  · split
    · rw [Part.thimbles_addWrap _ _ _ (by omega), Part.thimbles_dramWrite]
    · exact Part.thimbles_setReg _ _ _ (by omega)
  · rfl

@[simp] theorem Part.thimbles_message (p : Part) (g : Nat) : (p.message g).thimbles = p.thimbles := by
  unfold Part.message Part.formVector
  (repeat' split) <;> rfl

theorem Part.thimbles_setEvent (p : Part) (o b g : Nat) (l : Bool) (ho : o < 0x2210 ∨ 0x2220 ≤ o) :
    (p.setEvent o b g l).thimbles = p.thimbles := by
  have hset : ((p.noteSet o b).setBit o b true).thimbles = p.thimbles := Part.thimbles_setReg _ _ _ ho
  unfold Part.setEvent
  dsimp only
  (repeat' split) <;> simp [hset]

@[simp] theorem Part.thimbles_announce (p : Part) (g : Nat) (nm : String) (i : Nat) (v : Dword) :
    (p.announce g nm i v).thimbles = p.thimbles := by
  simp [Part.announce]

/-- The records of GUARD lie below the thimbles. -/
theorem Part.thimbles_guardRecord (p : Part) (base b c : Nat) (q : Req) (addr : BitVec 28) (hbase : base < 0x100) :
    (p.guardRecord base b c q addr).thimbles = p.thimbles := by
  have hlow : ∀ (x : Part) k w, k ≤ 8 → (x.setReg (0x1000 + base + k) w).thimbles = x.thimbles := fun x k w hk =>
    x.thimbles_setReg _ w (by omega)
  have hcount := hlow p 8 (satAdd (p.reg (0x1000 + base + 8)) 1) (by omega)
  unfold Part.guardRecord
  dsimp only
  rw [Part.thimbles_setEvent _ _ _ _ _ (by omega)]
  split
  · exact hcount
  · rw [hlow _ 4 _ (by omega)]
    exact (hlow _ 0 _ (by omega)).trans hcount

@[simp] theorem Part.thimbles_lockViolation (p : Part) (c : Nat) (q : Req) (addr : BitVec 28) :
    (p.lockViolation c q addr).thimbles = p.thimbles := p.thimbles_guardRecord _ _ _ _ _ (by omega)

@[simp] theorem Part.thimbles_accessFault (p : Part) (c : Nat) (q : Req) (addr : BitVec 28) :
    (p.accessFault c q addr).thimbles = p.thimbles := p.thimbles_guardRecord _ _ _ _ _ (by omega)

@[simp] theorem Part.thimbles_guardFail (p : Part) (c : Nat) (q : Req) (addr : BitVec 28) :
    (p.guardFail c q addr).thimbles = p.thimbles := p.thimbles_guardRecord _ _ _ _ _ (by omega)

@[simp] theorem Part.thimbles_guardNow (p : Part) (q : Req) : (p.guardNow q).thimbles = p.thimbles := by
  unfold Part.guardNow Part.endGuard
  (repeat' split) <;> simp

@[simp] theorem Part.thimbles_answer (p : Part) (q : Req) (a : Nat) (w : Word) :
    (p.answer q a w).thimbles = p.thimbles := by
  simp [Part.answer]

@[simp] theorem Part.thimbles_copyQueued (p : Part) (m : Memory) : (p.copyQueued m).thimbles = p.thimbles := by
  refine foldl_keeps Part.thimbles _ (fun x e => ?_) p.cmd.tags p
  split <;> rfl

theorem Part.thimbles_mailboxRead (p : Part) (q : Req) (n : Fin 32) : (mailboxRead q n p).thimbles = p.thimbles := by
  have hstat : ∀ x : Part, (x.setBit (mbReg n 4) 0 false).thimbles = x.thimbles := fun x =>
    x.thimbles_setReg _ _ (by unfold mbReg; omega)
  unfold mailboxRead
  dsimp only
  split <;> simp [hstat]

theorem thimbles_passed (c : Access) (p : Part) : (passed c p).thimbles = p.thimbles := by
  simp [passed]

/-! ### Owners in their canonical form -/

theorem SMap.length_put_new {α : Type} (d : Nat → α) (m : SMap α) (k : Nat) (v : α) (lo : Nat) [DecidableEq α]
    (hwf : SMap.wfFrom d lo m = true) (hnew : SMap.get d m k = d k) : (SMap.put k v m).length = m.length + 1 := by
  induction m generalizing lo with
  | nil => rfl
  | cons e r ih =>
    simp only [SMap.wfFrom, Bool.and_eq_true, decide_eq_true_eq] at hwf
    obtain ⟨⟨-, hval⟩, hrest⟩ := hwf
    by_cases hkey : e.1 = k
    · rw [SMap.get, if_pos hkey] at hnew
      exact absurd (hkey ▸ hnew) hval
    · rw [SMap.get, if_neg hkey] at hnew
      unfold SMap.put
      split
      · rfl
      · rw [if_neg (Ne.symm hkey), List.length_cons, ih _ hrest hnew, List.length_cons]

theorem SMap.del_of_below {α : Type} [DecidableEq α] (d : Nat → α) (m : SMap α) (k lo : Nat) (hlo : k < lo)
    (hwf : SMap.wfFrom d lo m = true) : SMap.del k m = m := by
  induction m generalizing lo with
  | nil => rfl
  | cons e r ih =>
    simp only [SMap.wfFrom, Bool.and_eq_true, decide_eq_true_eq] at hwf
    obtain ⟨⟨hle, -⟩, hrest⟩ := hwf
    rw [SMap.del, if_neg (by omega), ih _ (by omega) hrest]

theorem SMap.length_del_held {α : Type} [DecidableEq α] (d : Nat → α) (m : SMap α) (k lo : Nat)
    (hwf : SMap.wfFrom d lo m = true) (hheld : SMap.get d m k ≠ d k) : (SMap.del k m).length + 1 = m.length := by
  induction m generalizing lo with
  | nil => exact absurd rfl hheld
  | cons e r ih =>
    simp only [SMap.wfFrom, Bool.and_eq_true, decide_eq_true_eq] at hwf
    obtain ⟨-, hrest⟩ := hwf
    rw [SMap.del]
    split
    · next hkey => rw [SMap.del_of_below d r k (e.1 + 1) (by omega) hrest, List.length_cons]
    · next hkey =>
      rw [SMap.get, if_neg hkey] at hheld
      rw [List.length_cons, ih _ hrest hheld, List.length_cons]

theorem SMap.wfFrom_filter {α : Type} [DecidableEq α] (d : Nat → α) (f : Nat × α → Bool) (m : SMap α) (lo : Nat)
    (hwf : SMap.wfFrom d lo m = true) : SMap.wfFrom d lo (m.filter f) = true := by
  induction m generalizing lo with
  | nil => rfl
  | cons e r ih =>
    simp only [SMap.wfFrom, Bool.and_eq_true, decide_eq_true_eq] at hwf
    obtain ⟨⟨hle, hval⟩, hrest⟩ := hwf
    rw [List.filter_cons]
    split
    · simp only [SMap.wfFrom, Bool.and_eq_true, decide_eq_true_eq]
      exact ⟨⟨hle, hval⟩, ih _ hrest⟩
    · exact SMap.wfFrom_mono d _ (e.1 + 1) lo (by omega) (ih _ hrest)

/-! ### What keeps the balance -/

/-- A free thimble acquired: one more held, one more acquisition. -/
theorem thimblesBalance_acquire {p : Part} {q : Req} {n : Nat} (h : ThimblesBalance p)
    (hfree : SMap.get (fun _ => none) p.access.owners n = none) :
    ThimblesBalance ((p.setOwner n (some q)).addWrap 0x2210 1) := by
  obtain ⟨hwf, hsum⟩ := h
  have howners : ((p.setOwner n (some q)).addWrap 0x2210 1).access.owners =
      SMap.set (fun _ => none) p.access.owners n (some q) := rfl
  rw [ThimblesBalance, howners]
  refine ⟨SMap.wf_set _ _ _ _ hwf, ?_⟩
  have hlen : (SMap.set (fun _ => none) p.access.owners n (some q)).length = p.access.owners.length + 1 := by
    rw [SMap.set, if_neg (by simp)]
    exact SMap.length_put_new _ _ _ _ 0 hwf hfree
  have hother : ∀ x, x ≠ 0x2210 → ((p.setOwner n (some q)).addWrap 0x2210 1).reg x = p.reg x := fun x hx =>
    Part.reg_addWrap_other _ _ 1 x hx
  have hacq : ((p.setOwner n (some q)).addWrap 0x2210 1).reg 0x2210 = p.reg 0x2210 + 1#32 :=
    Part.reg_setReg_same _ _ _
  rw [hacq, hother _ (by decide), hother _ (by decide), hother _ (by decide), hsum, hlen, BitVec.ofNat_add]
  ac_rfl

/-- A held thimble released: one fewer held, one more in the counter of its kind of release. -/
theorem thimblesBalance_release {p : Part} {n o : Nat} (h : ThimblesBalance p) (ho : o = 0x2214 ∨ o = 0x2218)
    (hheld : SMap.get (fun _ => none) p.access.owners n ≠ none) :
    ThimblesBalance ((p.setOwner n none).addWrap o 1) := by
  obtain ⟨hwf, hsum⟩ := h
  have howners : ((p.setOwner n none).addWrap o 1).access.owners =
      SMap.set (fun _ => none) p.access.owners n none := rfl
  rw [ThimblesBalance, howners]
  refine ⟨SMap.wf_set _ _ _ _ hwf, ?_⟩
  have hlen : p.access.owners.length = (SMap.set (fun _ => none) p.access.owners n none).length + 1 := by
    rw [SMap.set, if_pos rfl]
    exact (SMap.length_del_held _ _ _ 0 hwf hheld).symm
  have hother : ∀ x, x ≠ o → ((p.setOwner n none).addWrap o 1).reg x = p.reg x := fun x hx =>
    Part.reg_addWrap_other _ _ 1 x hx
  have hrel : ((p.setOwner n none).addWrap o 1).reg o = p.reg o + 1#32 := Part.reg_setReg_same _ _ _
  rw [hother 0x2210 (by omega), hother 0x221C (by omega), hsum, hlen, BitVec.ofNat_add]
  rcases ho with rfl | rfl
  · rw [hrel, hother _ (by decide)]
    ac_rfl
  · rw [hrel, hother _ (by decide)]
    ac_rfl

theorem thimblesBalance_takeThimble {p : Part} (q : Req) (n : Nat) (h : ThimblesBalance p) :
    ThimblesBalance (p.takeThimble q n).1 := by
  by_cases hside : q = .smb ∨ q = .jtag
  · rcases hside with rfl | rfl <;> exact h
  · simp only [not_or] at hside
    cases hget : SMap.get (fun _ => none) p.access.owners n with
    | none => rw [Part.takeThimble_of_free hside.1 hside.2 hget]; exact thimblesBalance_acquire h hget
    | some r => rwa [Part.takeThimble_of_held hside.1 hside.2 hget]

theorem thimblesBalance_leaveThimble {p : Part} (q : Req) (addr : BitVec 28) (n : Nat) (h : ThimblesBalance p) :
    ThimblesBalance (p.leaveThimble q addr n) := by
  by_cases hown : SMap.get (fun _ => none) p.access.owners n = some q
  · rw [Part.leaveThimble_of_owner addr hown]
    exact thimblesBalance_release h (.inl rfl) (by simp [hown])
  · rw [Part.leaveThimble_of_other addr hown]
    exact thimblesBalance_of_thimbles (by simp) h

theorem thimblesBalance_breakThimble {p : Part} (w : Word) (h : ThimblesBalance p) :
    ThimblesBalance (p.breakThimble w) := by
  cases hget : SMap.get (fun _ => none) p.access.owners (fieldOf w 5 0) with
  | none => simpa only [Part.breakThimble, hget] using h
  | some r =>
    simp only [Part.breakThimble, hget]
    have hrel := thimblesBalance_release h (.inr rfl) (n := fieldOf w 5 0) (by simp [hget])
    exact thimblesBalance_of_thimbles (by simp) hrel

/-- A restart releases the requester's thimbles and counts each. -/
theorem thimblesBalance_restart {p : Part} (q : Req) (h : ThimblesBalance p) : ThimblesBalance (p.restart q) := by
  obtain ⟨hwf, hsum⟩ := h
  have howners : (p.restart q).access.owners = p.access.owners.filter fun e => e.2 != some q := rfl
  rw [ThimblesBalance, howners]
  refine ⟨SMap.wfFrom_filter _ _ _ 0 hwf, ?_⟩
  have hlen : p.access.owners.length = (p.access.owners.filter fun e => e.2 == some q).length +
      (p.access.owners.filter fun e => e.2 != some q).length := by
    rw [List.length_eq_length_filter_add fun e : Nat × Option Req => e.2 == some q]
    rfl
  have hregs : ∀ x, (p.restart q).reg x =
      ((p.addWrap 0x221C (p.access.owners.filter fun e => e.2 == some q).length).addSat 0x7004
        (p.freshValue.toNat % 65)).reg x := fun _ => rfl
  have hother : ∀ x, x ≠ 0x221C → x ≠ 0x7004 → (p.restart q).reg x = p.reg x := fun x h1 h2 => by
    rw [hregs, Part.reg_addSat_other _ _ _ x h2, Part.reg_addWrap_other _ _ _ x h1]
  have hreset : (p.restart q).reg 0x221C =
      p.reg 0x221C + BitVec.ofNat 32 (p.access.owners.filter fun e => e.2 == some q).length := by
    rw [hregs, Part.reg_addSat_other _ _ _ _ (by decide), Part.addWrap, Part.reg_setReg_same]
  rw [hother _ (by decide) (by decide), hother _ (by decide) (by decide), hother _ (by decide) (by decide), hreset,
    hsum, hlen, BitVec.ofNat_add]
  ac_rfl

/-! ### Accesses that reach a thimble or BREAK -/

/-- A read of a thimble's word takes it natively, and otherwise has no effect on it. -/
theorem thimblesBalance_busRead {p : Part} {q : Req} {addr : BitVec 28} {o : Nat} {i : RegInfo}
    (ht : (decodeAddr addr.toNat).off = some o) (hi : regInfo o = some i) (hkind : i.kind = .thimble)
    (h : ThimblesBalance p) : ThimblesBalance (busRead q addr p) := by
  have hplain : ∀ (x : Part) (f : Part → Word), x.thimbles = p.thimbles →
      ThimblesBalance (x.readAcross q addr o fun y => (y, f y)) := fun x f hx => by
    refine thimblesBalance_of_thimbles ?_ h
    unfold Part.readAcross
    dsimp only
    split <;> simp [hx]
  have hnative : ∀ x : Part, x.thimbles = p.thimbles → ThimblesBalance (x.nativeRead q i o).1 := fun x hx => by
    rw [Part.nativeRead, if_pos hkind]
    exact thimblesBalance_takeThimble _ _ (thimblesBalance_of_thimbles hx h)
  have hg := p.thimbles_granted q
  unfold busRead
  dsimp only
  rw [ht]
  simp only [hi, hkind]
  split
  · exact h
  · split
    · exact thimblesBalance_of_thimbles (by simp) h
    · split
      · split
        · exact thimblesBalance_of_thimbles (by simp [Part.thimbles_mailboxRead]) h
        · split
          · exact thimblesBalance_of_thimbles (Part.thimbles_answer _ _ _ _) (hnative _ hg)
          · rw [if_neg (by simp)]
            unfold Part.readAcross
            dsimp only
            split
            · exact thimblesBalance_of_thimbles (Part.thimbles_answer _ _ _ _) (hnative _ (by simp))
            · exact thimblesBalance_of_thimbles (by simp) h
      · exact hplain _ _ hg
      · exact hplain _ _ hg
      · exact hplain _ _ hg

/-- A write that reaches a thimble by any path releases it, is a lock violation, or leaves it. -/
theorem thimblesBalance_regWrite_thimble {p : Part} (a : BusWrite) (win : Bool) {i : RegInfo} (x : WordWrite)
    (hkind : i.kind = .thimble) (h : ThimblesBalance p) : ThimblesBalance (p.regWrite a win i x) := by
  unfold Part.regWrite
  rw [hkind]
  split
  · exact thimblesBalance_of_thimbles (by simp) h
  · dsimp only
    split
    · exact thimblesBalance_leaveThimble _ _ _ h
    · split
      · exact h
      · exact thimblesBalance_of_thimbles (by simp) h

/-- A completed guarded write of BREAK releases the thimble that the value names; no other end of the window touches
one. -/
theorem thimblesBalance_guardComplement {p : Part} (q : Req) (addr : BitVec 28) (v : Word) (h : ThimblesBalance p) :
    ThimblesBalance (p.guardComplement q addr 0x2204 v) := by
  have hfail : ∀ c, ThimblesBalance ((p.guardNow q).guardFail c q addr) := fun c =>
    thimblesBalance_of_thimbles (by simp) h
  unfold Part.guardComplement
  dsimp only
  split
  · exact hfail 3
  · next g hg =>
    split
    · exact hfail 3
    · next hoff =>
      have hx : g.off = 0x2200 := by omega
      split
      · rw [Part.guardApply, if_pos hx, hx]
        refine thimblesBalance_breakThimble _ (thimblesBalance_of_thimbles ?_ h)
        rw [Part.thimbles_setReg _ _ _ (by omega), Part.thimbles_setGuard, Part.thimbles_guardNow]
      · exact thimblesBalance_of_thimbles (by simp) h

/-- A write of the bus keeps the balance where what it does at the register does. -/
theorem thimblesBalance_busWrite {c : Access} {p : Part} {o : Nat} {i : RegInfo}
    (ht : (decodeAddr c.addr.toNat).off = some o) (hi : regInfo o = some i) (h : ThimblesBalance p)
    (hreg : ∀ (x : Part) (a : BusWrite) (win : Bool) (m : Word × Word), x.thimbles = p.thimbles →
      (decodeAddr c.addr.toNat = .native o → a.direct = true ∧ win = false) →
      ThimblesBalance (x.regWrite a win i { off := o, sel := m.1, val := m.2 })) :
    ThimblesBalance (busWrite c p) := by
  have hp : (passed c p).thimbles = p.thimbles := thimbles_passed c p
  have hpassed : (p.granted c.req).snoopBus c.req c.addr.toNat true c.val c.be = passed c p := rfl
  have hfault : ∀ k, ThimblesBalance ((passed c p).accessFault k c.req c.addr) := fun k =>
    thimblesBalance_of_thimbles (by simp [hp]) h
  have hearly : ThimblesBalance ((passed c p).addSat 0x403C 1) :=
    thimblesBalance_of_thimbles ((Part.thimbles_setReg _ _ _ (by omega)).trans hp) h
  unfold busWrite
  simp only [hpassed, ht]
  split
  · exact h
  · split
    · exact hearly
    · cases hdec : decodeAddr c.addr.toNat
      all_goals simp only [hdec, Target.off, Option.some.injEq, reduceCtorEq] at ht
      case basted => exact hfault 2
      all_goals
        subst ht
        simp only [hi]
        split
        · exact hfault 1
        · split
          · exact hfault 4
          · exact hreg _ _ _ (_, _) hp (by simp [hdec])

end Sys2Proof.Machine

namespace Sys2Proof

open Sys2Proof.Machine

/-- A row that acts where the access reaches a register of some kind keeps the balance where the bus does. -/
theorem thimblesBalance_infoOf {p q : Part} {o : Nat} {test : RegInfo → Bool} (h : ThimblesBalance p)
    (hq : ∀ i, regInfo o = some i → test i = true → ThimblesBalance q) :
    ThimblesBalance (if infoOf o test then q else p) := by
  split
  · next htest =>
    unfold infoOf at htest
    split at htest
    · next i hi => exact hq i hi htest
    · exact absurd htest (by simp)
  · exact h

/-- Settles O7: each of the accesses comes to one thimble, or to none, and a restart to those of its requester. -/
theorem thimbleCountersBalance : Obligations.ThimbleCountersBalance := by
  intro s hs
  refine ⟨fun q addr t hexec => ?read, fun c t hexec => ?write, fun c t haddr hexec => ?break_,
    fun q => thimblesBalance_restart q hs⟩
  case read =>
    change execThimbleRead q addr s = _ at hexec
    obtain rfl := Host.Outcome.next.inj hexec
    dsimp only
    split
    · next o ho =>
      exact thimblesBalance_infoOf hs fun i hi hkind => thimblesBalance_busRead ho hi (by simpa using hkind) hs
    · exact hs
  case write =>
    change execThimbleWrite c s = _ at hexec
    obtain rfl := Host.Outcome.next.inj hexec
    refine thimblesBalance_of_thimbles (Part.thimbles_copyQueued _ _) ?_
    unfold atReg
    split
    · next o ho =>
      exact thimblesBalance_infoOf hs fun i hi hkind => thimblesBalance_busWrite ho hi hs fun x a win m hx _ =>
        thimblesBalance_regWrite_thimble a win _ (by simpa using hkind) (thimblesBalance_of_thimbles hx hs)
    · exact hs
  case break_ =>
    change execGuardComplementWrite c s = _ at hexec
    obtain rfl := Host.Outcome.next.inj hexec
    refine thimblesBalance_of_thimbles (Part.thimbles_copyQueued _ _) ?_
    have ho : (decodeAddr c.addr.toNat).off = some 0x2204 := by rw [haddr]; rfl
    simp only [atReg, ho]
    refine thimblesBalance_infoOf hs fun i hi hkind => thimblesBalance_busWrite ho hi hs fun x a win m hx hnative => ?_
    obtain ⟨hdirect, hwin⟩ := hnative haddr
    have hcpl : i.kind = .guardCpl := by simpa using hkind
    simp only [Part.regWrite, hwin, hcpl, hdirect, Bool.false_and, Bool.false_eq_true, if_false, if_true]
    exact thimblesBalance_guardComplement _ _ _ (thimblesBalance_of_thimbles hx hs)

end Sys2Proof
end

section
/-! Native writes of plain words (R105, R122): what a row comes to whose register is one word without shadowed, lock
or W1C fields, and what the masks of its fields leave of the word written. -/

namespace Sys2Proof.Machine

/-! ### Fields under a mask -/

theorem fieldOf_eq_extract (w : Word) (hi lo : Nat) : fieldOf w hi lo = (w.extractLsb' lo (hi - lo + 1)).toNat := by
  simp [fieldOf, Nat.shiftRight_eq_div_pow]

/-- A field that the mask covers reads through it. -/
theorem fieldOf_masked {m : Word} (w : Word) {hi lo : Nat}
    (h : m.extractLsb' lo (hi - lo + 1) = BitVec.allOnes (hi - lo + 1)) :
    fieldOf (m &&& w) hi lo = fieldOf w hi lo := by
  rw [fieldOf_eq_extract, fieldOf_eq_extract, BitVec.extractLsb'_and, h, BitVec.allOnes_and]

/-- A field that the mask covers is the new word's. -/
theorem fieldOf_mergeMask {old new m : Word} {hi lo : Nat}
    (h : m.extractLsb' lo (hi - lo + 1) = BitVec.allOnes (hi - lo + 1)) :
    fieldOf (mergeMask old new m) hi lo = fieldOf new hi lo := by
  rw [fieldOf_eq_extract, fieldOf_eq_extract]
  congr 1
  refine BitVec.eq_of_getLsbD_eq fun i hi => ?_
  have hm : m.getLsbD (lo + i) = true := by simpa [hi] using congrArg (·.getLsbD i) h
  simp [mergeMask, hm]

/-- A bit under the mask is the new word's. -/
theorem getLsbD_mergeMask {old new m : Word} {i : Nat} (h : m.getLsbD i = true) :
    (mergeMask old new m).getLsbD i = new.getLsbD i := by
  simp [mergeMask, h]

theorem full_and (w : Word) : full &&& w = w := BitVec.allOnes_and

theorem and_full (w : Word) : w &&& full = w := BitVec.and_allOnes

theorem mergeMask_full (old new : Word) : mergeMask old new full = new := by
  rw [mergeMask, and_full, show ~~~full = 0#32 from rfl, BitVec.and_zero, BitVec.zero_or]

theorem mergeMask_zero (old new : Word) : mergeMask old new 0#32 = old := by
  rw [mergeMask, BitVec.and_zero, BitVec.or_zero]
  exact and_full old

/-- A whole word written to a register without W1C fields takes its RW fields. -/
theorem Part.mergeOf_whole (p : Part) (a : BusWrite) {o : Nat} {i : RegInfo} (v : Word) (hi : regInfo o = some i)
    (hw1c : i.w1c = 0#32) : p.mergeOf a { off := o, sel := full, val := v } = mergeMask (p.reg o) v i.rw := by
  simp only [Part.mergeOf, hi, mergedWord, hw1c, full_and, BitVec.zero_and, BitVec.not_zero, BitVec.and_allOnes]

/-! ### Rows of the bus -/

/-- A plain word with the given RW and WO masks, written through no base check and no channel or answer register. -/
def plainWord (o : Nat) (rw wo : Word) : Bool :=
  (match regInfo o with
    | some i => i.kind == .plain && i.lk == 0#32 && i.words == 1 && i.sh == 0#32 && i.w1c == 0#32 && i.rw == rw &&
      i.wo == wo
    | none => false) &&
  baseCfg o == none && !(decide (0x70100 ≤ o) && decide (o < 0x70300)) && o != 0x5110 && o != 0x5114

/-- A native write of a plain word, carried, is its effect on what its masks take of the word, noted where the part
writes the register as well. -/
theorem busWrite_plainWord {c : Access} {o : Nat} {s : State} {rw wo : Word} (h : NativeWrite c o s)
    (hc : Carried c o s) (ho : plainWord o rw wo = true) :
    busWrite c s.part =
      let q := wordEffect (nativeOf c) o (mergeMask ((arrived c o s.part).reg o) c.val rw) (wo &&& c.val)
        (arrived c o s.part)
      if partWrites o then q.noteWrite o rw else q := by
  unfold plainWord at ho
  cases hi : regInfo o with
  | none => simp [hi] at ho
  | some i =>
    simp only [hi, Bool.and_eq_true, beq_iff_eq, bne_iff_ne, Bool.not_eq_true', decide_eq_false_iff_not,
      Bool.and_eq_false_iff] at ho
    obtain ⟨⟨⟨⟨⟨⟨⟨⟨⟨⟨hkind, hlk⟩, hwords⟩, hsh⟩, hw1c⟩, hrw⟩, hwo⟩, hbase⟩, hchan⟩, hans⟩, hans'⟩ := ho
    rw [busWrite_word c o s i h hi hkind hlk hwords hsh hc hbase (by omega) hans hans']
    simp only [Part.noteRw, hi, hw1c, hrw, hwo, full_and, and_full, BitVec.zero_and, BitVec.not_zero,
      BitVec.and_allOnes]

/-- The blocks below MEMCTL, SECURITY, DOMAIN and the common PM block lie in the HUB island, whatever the part. -/
theorem Part.regPlace_hub (p : Part) {o : Nat}
    (h : o / 0x1000 < 0xA ∨ o / 0x1000 = 0xC ∨ o / 0x1000 = 0xE ∨ o / 0x1000 = 0x70) : p.regPlace o = none := by
  unfold Part.regPlace
  dsimp only
  repeat rw [if_neg (by omega)]

theorem busWrite_hubWord {c : Access} {o : Nat} {s : State} {rw wo : Word} (h : NativeWrite c o s)
    (hplace : (passed c s.part).regPlace o = none) (ho : plainWord o rw wo = true) (hnote : partWrites o = false) :
    busWrite c s.part =
      wordEffect (nativeOf c) o (mergeMask ((passed c s.part).reg o) c.val rw) (wo &&& c.val) (passed c s.part) := by
  obtain ⟨hcarried, harrived⟩ := carried_hub c o s hplace
  rw [busWrite_plainWord h hcarried ho, harrived, hnote]
  rfl

/-- A row of the bus whose access reaches its register is the write of the bus. -/
theorem yieldsBus_atReg {i : Instr} {c : Access} {o : Nat} {s : State} {test : Nat → Bool} {p : Part}
    (hexec : exec i s = onBus (atReg c test) s) (h : NativeWrite c o s) (ht : test o = true)
    (hp : busWrite c s.part = p) : YieldsBus i s p := by
  rw [YieldsBus, hexec, onBus_next, atReg_native c o s test h ht, hp]

/-- A row of the bus whose access reaches no register changes nothing but for copying submitted slots. -/
theorem yieldsBus_unreached {i : Instr} {c : Access} {s : State} {test : Nat → Bool}
    (hexec : exec i s = onBus (atReg c test) s) (h : (decodeAddr c.addr.toNat).off = none) : YieldsBus i s s.part := by
  rw [YieldsBus, hexec, onBus_next]
  simp only [atReg, h]

end Sys2Proof.Machine
end

section
/-! The command rings' registers (R152, R163, R177, R178). -/

namespace Sys2Proof.Machine

section Place

variable {c : Access} {s : State}

theorem busWrite_doorbell (h : NativeWrite c 0x4000 s) :
    busWrite c s.part = doorbellEffect (0x03FF03FF#32 &&& c.val) (passed c s.part) := by
  rw [busWrite_hubWord h (Part.regPlace_hub _ (by decide)) (rw := 0#32) (wo := 0x03FF03FF#32) (by decide) (by decide)]
  rfl

theorem busWrite_replyCons (h : NativeWrite c 0x4018 s) :
    busWrite c s.part = replyConsEffect c.req c.addr c.val (passed c s.part) := by
  rw [busWrite_hubWord h (Part.regPlace_hub _ (by decide)) (rw := full) (wo := 0#32) (by decide) (by decide),
    mergeMask_full]
  rfl

theorem busWrite_ringCfg (h : NativeWrite c 0x4010 s) :
    busWrite c s.part = ringCfgEffect c.req c.addr
      (mergeMask ((passed c s.part).reg 0x4010) c.val 0x8000001F#32) (passed c s.part) := by
  rw [busWrite_hubWord h (Part.regPlace_hub _ (by decide)) (rw := 0x8000001F#32) (wo := 0#32) (by decide) (by decide)]
  rfl

theorem busWrite_abortReq (h : NativeWrite c 0x4040 s) :
    busWrite c s.part = abortReqEffect (0x3FF#32 &&& c.val) (passed c s.part) := by
  rw [busWrite_hubWord h (Part.regPlace_hub _ (by decide)) (rw := 0#32) (wo := 0x3FF#32) (by decide) (by decide)]
  rfl

end Place

/-! ### What the effects come to -/

theorem doorbellEffect_masked (w : Word) (p : Part) :
    doorbellEffect (0x03FF03FF#32 &&& w) p =
      if p.bit 0x4010 31 then p.submitRun (fieldOf w 9 0) (fieldOf w 25 16 + 1) else p.addSat 0x4034 1 := by
  rw [doorbellEffect, fieldOf_masked w (by decide), fieldOf_masked w (by decide)]
  cases p.bit 0x4010 31 <;> rfl

theorem abortReqEffect_masked (w : Word) (p : Part) :
    abortReqEffect (0x3FF#32 &&& w) p =
      let u := fieldOf w 9 0
      if p.abortable u then (p.stopTag u 0x13 1).setReg 0x4044 (BitVec.ofNat 32 (2 ^ 31 + u * 2 ^ 16))
      else p.setReg 0x4044 (BitVec.ofNat 32 (2 ^ 31 + u * 2 ^ 16 + if (p.tag u).st = .free then 0x11 else 0x14)) := by
  rw [abortReqEffect, fieldOf_masked w (by decide)]
  dsimp only
  split
  · rfl
  · split <;> rfl

/-- A ring setting is bad, raises ENABLE, or is stored. -/
theorem ringCfgEffect_merged (q : Req) (addr : BitVec 28) (v : Word) (p : Part) :
    ringCfgEffect q addr (mergeMask (p.reg 0x4010) v 0x8000001F#32) p =
      let size := fieldOf v 4 0
      let r := p.setReg 0x4010 (mergeMask (p.reg 0x4010) v 0x8000001F#32)
      let fresh := (r.setReg 0x4014 0#32).setReg 0x4018 0#32
      if size < 10 ∨ 16 < size ∨ (p.bit 0x4010 31 = true ∧ size ≠ p.field 0x4010 4 0) then p.accessFault 5 q addr
      else if v.getLsbD 31 && !p.bit 0x4010 31 then fresh.flushHeld fresh.cmd.held.length
      else r := by
  have hbit : bitAt (mergeMask (p.reg 0x4010) v 0x8000001F#32) 31 = v.getLsbD 31 := getLsbD_mergeMask (by decide)
  rw [ringCfgEffect, fieldOf_mergeMask (by decide), hbit]
  rfl

end Sys2Proof.Machine

namespace Sys2Proof

open Sys2Proof.Machine

/-- Settles O36: each row is its register's effect on the word written, case by case. -/
theorem commandRingWrites : Obligations.CommandRingWrites := by
  intro s c p
  refine ⟨fun h => ⟨fun hon => ?_, fun hoff => ?_⟩, fun h => ⟨fun hin => ?_, fun hout => ?_⟩, fun h => ?ringCfg,
    fun h => ⟨fun hab => ?_, fun hab => ?_⟩, fun h => ?unreached⟩
  · exact yieldsBus_atReg rfl h rfl (by rw [busWrite_doorbell h, doorbellEffect_masked, if_pos hon])
  · exact yieldsBus_atReg rfl h rfl
      (by rw [busWrite_doorbell h, doorbellEffect_masked, if_neg (ne_true_of_eq_false hoff)])
  · exact yieldsBus_atReg rfl h rfl (by rw [busWrite_replyCons h, replyConsEffect, if_pos hin])
  · exact yieldsBus_atReg rfl h rfl (by rw [busWrite_replyCons h, replyConsEffect, if_neg (Nat.not_le.mpr hout)])
  case ringCfg =>
    intro size q fresh
    have hbus := (busWrite_ringCfg h).trans (ringCfgEffect_merged _ _ _ _)
    refine ⟨fun hbad => ?_, fun h10 h16 hoff hon => ?_, fun h10 h16 hoff hoff' => ?_, fun h10 h16 hon hsame => ?_⟩
    · exact yieldsBus_atReg rfl h rfl (by rw [hbus]; exact if_pos hbad)
    all_goals
      have hgood : ¬ (size < 10 ∨ 16 < size ∨ (p.bit 0x4010 31 = true ∧ size ≠ p.field 0x4010 4 0)) := by
        simp_all
    · have hrise : (c.val.getLsbD 31 && !p.bit 0x4010 31) = true := by simp [hon, hoff]
      exact yieldsBus_atReg rfl h rfl (hbus.trans ((if_neg hgood).trans (if_pos hrise)))
    · have hstay : ¬ (c.val.getLsbD 31 && !p.bit 0x4010 31) = true := by
        simp only [hoff', Bool.false_and, Bool.false_eq_true, not_false_iff]
      exact yieldsBus_atReg rfl h rfl (hbus.trans ((if_neg hgood).trans (if_neg hstay)))
    · have hstay : ¬ (c.val.getLsbD 31 && !p.bit 0x4010 31) = true := by simp [hon]
      exact yieldsBus_atReg rfl h rfl (hbus.trans ((if_neg hgood).trans (if_neg hstay)))
  · exact yieldsBus_atReg rfl h rfl (by rw [busWrite_abortReq h, abortReqEffect_masked]; exact if_pos hab)
  · exact yieldsBus_atReg rfl h rfl
      (by rw [busWrite_abortReq h, abortReqEffect_masked]; exact if_neg (ne_true_of_eq_false hab))
  case unreached =>
    exact ⟨yieldsBus_unreached rfl h, yieldsBus_unreached rfl h, yieldsBus_unreached rfl h, yieldsBus_unreached rfl h⟩

end Sys2Proof
end

section
/-! Mailbox, check-unit and select registers (R182, R248, R440, R455, R467, R506). -/

namespace Sys2Proof.Machine

/-! ### Where their writes come to -/

theorem wordEffect_mailbox (a : BusWrite) (n : Fin 32) (w trig : Word) (p : Part) :
    wordEffect a (mbReg n 0) w trig p = mailboxEffect n a.req w p := by
  have hn : (0x3000 + 16 * n.val + 0) % 0x1000 / 16 = n.val := by omega
  unfold wordEffect mbReg groupEnReg
  dsimp only
  repeat rw [if_neg (by omega)]
  rw [if_pos (by omega), hn]

theorem wordEffect_crcCfg (a : BusWrite) (i : Fin 8) (w trig : Word) (p : Part) :
    wordEffect a (crcReg i 0) w trig p = crcCfgEffect i ((w &&& ~~~0x40000000#32) ||| trig) p := by
  have hi : (0x8000 + 32 * i.val + 0) % 0x1000 / 32 = i.val := by omega
  unfold wordEffect crcReg groupEnReg
  dsimp only
  repeat rw [if_neg (by omega)]
  rw [if_pos (by omega), hi]

theorem plainWord_mailbox (n : Fin 32) : plainWord (mbReg n 0) full 0#32 = true := by
  revert n
  decide

theorem plainWord_crcCfg (i : Fin 8) : plainWord (crcReg i 0) 0x80000033#32 0x40000000#32 = true := by
  revert i
  decide

theorem partWrites_mailbox (n : Fin 32) : partWrites (mbReg n 0) = false := by
  revert n
  decide

theorem partWrites_crcCfg (i : Fin 8) : partWrites (crcReg i 0) = true := by
  revert i
  decide

/-- The rows of MAILBOX_WRITE and of CFG name these registers. -/
theorem names_mailbox (n : Fin 32) : (mbReg n 0 / 0x1000 == 3 && mbReg n 0 % 16 == 0) = true := by
  revert n
  decide

theorem names_crcCfg (i : Fin 8) : isCrcCfg (crcReg i 0) = true := by
  revert i
  decide

section Writes

variable {c : Access} {s : State}

theorem busWrite_mailbox {n : Fin 32} (h : NativeWrite c (mbReg n 0) s) :
    busWrite c s.part = mailboxEffect n c.req c.val (passed c s.part) := by
  rw [busWrite_hubWord h (Part.regPlace_hub _ (by unfold mbReg; omega)) (plainWord_mailbox n) (partWrites_mailbox n),
    wordEffect_mailbox, mergeMask_full, nativeOf]

theorem busWrite_crcCfg {i : Fin 8} (h : NativeWrite c (crcReg i 0) s) :
    busWrite c s.part = (crcCfgEffect i ((mergeMask ((passed c s.part).reg (crcReg i 0)) c.val 0x80000033#32 &&&
      ~~~0x40000000#32) ||| (0x40000000#32 &&& c.val)) (passed c s.part)).noteWrite (crcReg i 0) 0x80000033#32 := by
  obtain ⟨hcarried, harrived⟩ := carried_hub c (crcReg i 0) s (Part.regPlace_hub _ (by unfold crcReg; omega))
  rw [busWrite_plainWord h hcarried (plainWord_crcCfg i), harrived, wordEffect_crcCfg, if_pos (partWrites_crcCfg i)]

theorem busWrite_snapSel (h : NativeWrite c 0x70030 s) :
    busWrite c s.part = snapSelEffect (mergeMask ((passed c s.part).reg 0x70030) c.val 0x077F07FF#32)
      (passed c s.part) := by
  rw [busWrite_hubWord h (Part.regPlace_hub _ (by decide)) (rw := 0x077F07FF#32) (wo := 0#32) (by decide) (by decide)]
  rfl

theorem busWrite_ledgerSel (h : NativeWrite c 0x9040 s) :
    busWrite c s.part = ledgerSelEffect (mergeMask ((passed c s.part).reg 0x9040) c.val 0xFFFF#32)
      (passed c s.part) := by
  rw [busWrite_hubWord h (Part.regPlace_hub _ (by decide)) (rw := 0xFFFF#32) (wo := 0#32) (by decide) (by decide)]
  rfl

theorem busWrite_routeSel (h : NativeWrite c 0xE008 s) :
    busWrite c s.part = (passed c s.part).setReg 0xE008 (mergeMask ((passed c s.part).reg 0xE008) c.val 0xFFFF#32) := by
  rw [busWrite_hubWord h (Part.regPlace_hub _ (by decide)) (rw := 0xFFFF#32) (wo := 0#32) (by decide) (by decide)]
  rfl

theorem busWrite_keySel (h : NativeWrite c 0xC0A0 s) :
    busWrite c s.part = (passed c s.part).setReg 0xC0A0 (mergeMask ((passed c s.part).reg 0xC0A0) c.val 0xFF#32) := by
  rw [busWrite_hubWord h (Part.regPlace_hub _ (by decide)) (rw := 0xFF#32) (wo := 0#32) (by decide) (by decide)]
  rfl

end Writes

/-! ### CFG of a check unit -/

/-- INIT is a bit that is not held: what it was written does not show in CFG. -/
theorem withBit_init (w v : Word) :
    withBit ((w &&& ~~~0x40000000#32) ||| (0x40000000#32 &&& v)) 30 false = withBit w 30 false := by
  have hmask : bitsMask 30 30 = 0x40000000#32 := by decide
  unfold withBit withField
  rw [hmask]
  congr 1
  ext i hi
  simp only [BitVec.getElem_and, BitVec.getElem_or, BitVec.getElem_not]
  grind

/-- A write of CFG with the values of INIT and RUN taken from the word written. -/
theorem crcCfgEffect_written (i : Nat) (v : Word) (p : Part) :
    crcCfgEffect i ((mergeMask (p.reg (crcReg i 0)) v 0x80000033#32 &&& ~~~0x40000000#32) ||| (0x40000000#32 &&& v)) p =
      let q := p.setReg (crcReg i 0) (withBit (withBit (mergeMask (p.reg (crcReg i 0)) v 0x80000033#32) 30 false) 31
        (p.crcRuns i))
      let r := if v.getLsbD 30 then q.crcClear i else q.crcSync i
      match p.crcRuns i, v.getLsbD 31 with
      | false, true => r.crcBegin i
      | true, false => r.crcEnd i
      | _, _ => r := by
  have hinit : ((mergeMask (p.reg (crcReg i 0)) v 0x80000033#32 &&& ~~~0x40000000#32) |||
      (0x40000000#32 &&& v)).getLsbD 30 = v.getLsbD 30 := by simp
  have hrun : ((mergeMask (p.reg (crcReg i 0)) v 0x80000033#32 &&& ~~~0x40000000#32) |||
      (0x40000000#32 &&& v)).getLsbD 31 = v.getLsbD 31 := by simp [mergeMask]
  simp only [crcCfgEffect, withBit_init, hinit, hrun] <;> rfl

end Sys2Proof.Machine

namespace Sys2Proof

open Sys2Proof.Machine

/-- Settles O45: each row is its register's effect on the word written. -/
theorem hubRegisterWrites : Obligations.HubRegisterWrites := by
  intro s c p
  refine ⟨fun n h hsender => ?_, fun n hn h hsender => ?_, fun n h hother => ?_,
    fun i h => ⟨fun hrun hinit hidle => ?_, fun hrun hinit hon => ?_, fun hrun hinit hidle => ?_⟩,
    fun h => ?_, fun h => ?_, fun h => ?_, fun h => ?_⟩
  · refine yieldsBus_atReg rfl h (names_mailbox ⟨n.val, by omega⟩) ?_
    rw [busWrite_mailbox (n := ⟨n.val, by omega⟩) h, mailboxEffect, if_neg (by simpa using hsender), if_neg (by simp)]
  · refine yieldsBus_atReg rfl h (names_mailbox n) ?_
    rw [busWrite_mailbox h, mailboxEffect, if_neg (by simpa using hsender), if_pos hn]
  · refine yieldsBus_atReg rfl h (names_mailbox n) ?_
    rw [busWrite_mailbox h, mailboxEffect, if_pos hother]
  · refine yieldsBus_atReg rfl h (names_crcCfg i) ?_
    rw [busWrite_crcCfg h, crcCfgEffect_written]
    simp only [hrun, hinit, show (passed c s.part).crcRuns i = false from hidle]
    rfl
  · refine yieldsBus_atReg rfl h (names_crcCfg i) ?_
    rw [busWrite_crcCfg h, crcCfgEffect_written]
    simp only [hrun, hinit, show (passed c s.part).crcRuns i = true from hon]
    rfl
  · refine yieldsBus_atReg rfl h (names_crcCfg i) ?_
    rw [busWrite_crcCfg h, crcCfgEffect_written]
    simp only [hrun, hinit, show (passed c s.part).crcRuns i = false from hidle]
    rfl
  · exact yieldsBus_atReg rfl h rfl (busWrite_snapSel h)
  · exact yieldsBus_atReg rfl h rfl (busWrite_ledgerSel h)
  · exact yieldsBus_atReg rfl h rfl (busWrite_routeSel h)
  · exact yieldsBus_atReg rfl h rfl (busWrite_keySel h)

end Sys2Proof
end

section
/-! Registers of two words (R111): a read of the lower word captures, a write of it is held, and a write of the higher
word applies both. -/

namespace Sys2Proof.Machine

/-- The words at `o` and `o + 4` are one plain register without shadowed or lock fields. -/
def plainPair (o : Nat) (i j : RegInfo) : Prop :=
  regInfo o = some i ∧ regInfo (o + 4) = some j ∧
    (i.kind = .plain ∧ i.lk = 0#32 ∧ i.words = 2 ∧ i.sh = 0#32 ∧ i.w1c = 0#32 ∧ i.idx = 0) ∧
    (j.kind = .plain ∧ j.lk = 0#32 ∧ j.words = 2 ∧ j.sh = 0#32 ∧ j.w1c = 0#32 ∧ j.idx = 1)

/-- The lower word that a write of the higher one applies: as held for the requester, else the value in force. -/
def lowerWord (c : Access) (o : Nat) (p : Part) : Word :=
  (SMap.get (fun _ => none) p.access.heldLow (c.req.key o)).getD (p.reg o)

/-- The part with a lower word held for the requester. -/
def Part.held (p : Part) (q : Req) (o : Nat) (w : Word) : Part :=
  { p with access := { p.access with heldLow := SMap.set (fun _ => none) p.access.heldLow (q.key o) (some w) } }

/-- The two words that a write of the higher one applies. -/
def bothWords (c : Access) (o : Nat) (p : Part) : List WordWrite :=
  [{ off := o, sel := full, val := lowerWord c o p }, { off := o + 4, sel := full, val := c.val }]

/-- A write of the highest of two words writes both words together, and holds the lower one as it then stands. -/
theorem Part.wideWrite_higher (p : Part) (a : BusWrite) {j : RegInfo} {o : Nat} {v : Word} (hwords : j.words = 2)
    (hidx : j.idx = 1) :
    p.wideWrite a j (o + 4) v =
      let low := (SMap.get (fun _ => none) p.access.heldLow (a.req.key o)).getD (p.reg o)
      let q := p.writeWords a [{ off := o, sel := full, val := low }, { off := o + 4, sel := full, val := v }]
      q.held a.req o (match regInfo o with | some i => mergeMask (q.reg o) low i.wo | none => low) := by
  have hlast : ¬ j.idx + 1 < j.words := by omega
  rw [Part.wideWrite, if_neg hlast]
  obtain ⟨nm, reset, rw_, w1c, sh, lk, wo, splits, kind, words, idx⟩ := j
  subst hwords hidx
  rfl

section Writes

variable {c : Access} {s : State} {o : Nat} {i j : RegInfo}

/-- A write of the lower word is held for the requester, and does nothing else. -/
theorem busWrite_lower (hpair : plainPair o i j) (h : NativeWrite c o s) :
    busWrite c s.part = (passed c s.part).held c.req o c.val := by
  obtain ⟨hi, -, ⟨hkind, hlk, hwords, -, -, hidx⟩, -⟩ := hpair
  rw [busWrite_native c o s i h hi]
  simp only [Part.regWrite, Part.wideWrite, hkind, hlk, hwords, hidx, nativeOf]
  simp [Part.held]

/-- The words of a pair of the HUB island are written with nothing shadowed and no selvedge to cross. -/
theorem Part.writeWords_pair (hpair : plainPair o i j) (p : Part) (hplace : p.regPlace o = none) (a : BusWrite)
    (v w : Word) :
    p.writeWords a [{ off := o, sel := full, val := v }, { off := o + 4, sel := full, val := w }] =
      p.writeFields a [{ off := o, sel := full, val := v }, { off := o + 4, sel := full, val := w }] := by
  obtain ⟨hi, hj, ⟨-, -, -, hsh, -, -⟩, ⟨-, -, -, hsh', -, -⟩⟩ := hpair
  have hmask : shMask o = 0#32 ∧ shMask (o + 4) = 0#32 := by simp [shMask, hi, hj, hsh, hsh']
  simp [Part.writeWords, Part.writeShadow, writesBeyond, hmask, hi, hsh, Part.cross, hplace]

/-- A write of the higher word applies both, and holds the lower word for the requester as it then stands. -/
theorem busWrite_higher (hpair : plainPair o i j) (hplace : (passed c s.part).regPlace o = none)
    (h : NativeWrite c (o + 4) s) :
    busWrite c s.part =
      let q := (passed c s.part).writeFields (nativeOf c) (bothWords c o (passed c s.part))
      q.held c.req o (mergeMask (q.reg o) (lowerWord c o (passed c s.part)) i.wo) := by
  have hwrite := Part.writeWords_pair hpair (passed c s.part) hplace (nativeOf c)
    (lowerWord c o (passed c s.part)) c.val
  obtain ⟨hi, hj, -, hkind, hlk, hwords, -, -, hidx⟩ := hpair
  rw [busWrite_native c (o + 4) s j h hj]
  simp only [Part.regWrite, hkind, hlk, hwords, Bool.false_and, Bool.false_eq_true, if_false, ne_eq, not_true_eq_false]
  rw [if_pos (by simp [nativeOf]), Part.wideWrite_higher _ _ hwords hidx]
  simp only [hi, bothWords, nativeOf, lowerWord] at hwrite ⊢
  rw [hwrite]

end Writes

/-! ### Reads -/

/-- A native read of a HUB register outside the mailboxes is what the register answers. -/
theorem busRead_hub {p : Part} {q : Req} {addr : BitVec 28} {o : Nat} {i : RegInfo} (hreach : p.reaches q = true)
    (hmode : p.md.cur ≠ .dormant) (ht : decodeAddr addr.toNat = .native o) (hi : regInfo o = some i)
    (hplace : (p.granted q).regPlace o = none) (hmail : o / 0x1000 ≠ 3) (hstamp : o / 0x1000 ≠ 0x11) :
    busRead q addr p = ((p.granted q).nativeRead q i o).1.answer q addr.toNat ((p.granted q).nativeRead q i o).2 := by
  have hacross := Part.readAcross_of_carried q addr (fun x => x.nativeRead q i o) (p := p.granted q) (o := o)
    (by rw [Part.cross_of_hub hplace])
  rw [Part.cross_of_hub hplace] at hacross
  simp [busRead, hreach, ht, Target.off, hi, Part.early_of_awake, hmode, hmail, hstamp, hacross]

/-- The lowest word of a pair is answered, and the higher one captured for the requester. -/
theorem Part.nativeRead_lowest {p : Part} {o : Nat} {i j : RegInfo} (q : Req) (hpair : plainPair o i j)
    (hpop : o ≠ 0x5100) :
    p.nativeRead q i o = ({ p with access := { p.access with
      captured := SMap.set (fun _ => []) p.access.captured (q.key o) [p.readWord (o + 4)] } }, p.readWord o) := by
  obtain ⟨-, -, ⟨hkind, -, hwords, -, -, hidx⟩, -⟩ := hpair
  simp [Part.nativeRead, hkind, hwords, hidx, hpop, List.range_succ]

/-- The higher word of a pair is answered as captured. -/
theorem Part.nativeRead_higher {p : Part} {o : Nat} {i j : RegInfo} (q : Req) (hpair : plainPair o i j) :
    p.nativeRead q j (o + 4) =
      (p, (SMap.get (fun _ => []) p.access.captured (q.key o)).getD 0 0#32) := by
  obtain ⟨-, -, -, ⟨hkind, -, hwords, -, -, hidx⟩⟩ := hpair
  simp [Part.nativeRead, hkind, hwords, hidx]

end Sys2Proof.Machine
end

section
/-! RING_BASE, DEC_ANSWER and DEC_REC (R146, R147, R178). -/

namespace Sys2Proof.Machine

/-- A word of RING_BASE. -/
def ringBaseInfo (k : Nat) : RegInfo :=
  { nm := "RING_BASE", reset := 0#32, rw := full, w1c := 0#32, sh := 0#32, lk := 0#32, wo := 0#32, splits := 0#32,
    kind := .plain, words := 2, idx := k }

theorem plainPair_ringBase : plainPair 0x4008 (ringBaseInfo 0) (ringBaseInfo 1) := by
  unfold plainPair
  decide

/-- A word of DEC_ANSWER, whose bits are written alone. -/
def answerInfo (k : Nat) (wo : Word) : RegInfo :=
  { nm := "DEC_ANSWER", reset := 0#32, rw := 0#32, w1c := 0#32, sh := 0#32, lk := 0#32, wo := wo, splits := 0#32,
    kind := .plain, words := 2, idx := k }

theorem plainPair_decAnswer : plainPair 0x5110 (answerInfo 0 full) (answerInfo 1 0x8000001F#32) := by
  unfold plainPair
  decide

/-- DEC_REC, word 0. -/
def decRecInfo : RegInfo :=
  { nm := "DEC_REC", reset := 0#32, rw := 0#32, w1c := 0#32, sh := 0#32, lk := 0#32, wo := 0#32, splits := 0#32,
    kind := .calc, words := 4, idx := 0 }

theorem regInfo_decRec : regInfo 0x5100 = some decRecInfo := by decide

theorem Part.readWord_ringBase (p : Part) :
    p.readWord 0x4008 = p.reg 0x4008 ∧ p.readWord 0x400C = p.reg 0x400C := by
  obtain ⟨hlow, hhigh, -, -⟩ := plainPair_ringBase
  constructor
  · simp only [Part.readWord, hlow, ringBaseInfo]
    exact and_full _
  · simp only [Part.readWord, hhigh, ringBaseInfo]
    exact and_full _

theorem Part.readWord_decRec (p : Part) (k : Fin 4) :
    p.readWord (0x5100 + 4 * k.val) = p.decWords.getD k.val 0#32 := by
  have hinfo : ∃ i, regInfo (0x5100 + 4 * k.val) = some i ∧ i.kind = .calc := by
    have h : infoOf (0x5100 + 4 * k.val) (fun i => i.kind == .calc) = true := by
      revert k
      decide
    unfold infoOf at h
    split at h
    · next i hi => exact ⟨i, hi, by simpa using h⟩
    · exact absurd h (by simp)
  obtain ⟨i, hi, hkind⟩ := hinfo
  have hidx : ((0x5100 + 4 * k.val) % 0x1000 - 0x100) / 4 = k.val := by omega
  unfold Part.readWord
  simp only [hi, hkind]
  repeat rw [if_neg (by omega)]
  rw [if_pos (by omega), hidx]

theorem Part.length_decWords (p : Part) : p.decWords.length = 4 := by
  unfold Part.decWords
  split <;> rfl

/-- A host read of DEC_REC's lowest word captures the record and pops it. -/
theorem Part.nativeRead_decRec (p : Part) :
    p.nativeRead .host decRecInfo 0x5100 =
      (Part.popDecision { p with access := { p.access with
        captured := SMap.set (fun _ => []) p.access.captured (Req.host.key 0x5100) (p.decWords.drop 1) } },
        p.decWords.getD 0 0#32) := by
  have hwords : ((List.range 4).map fun k => p.readWord (0x5100 + 4 * k)) = p.decWords := by
    refine List.ext_getElem (by simp [p.length_decWords]) fun k h1 h2 => ?_
    have hk := p.readWord_decRec ⟨k, by simpa using h1⟩
    simp only [List.getElem_map, List.getElem_range, hk]
    exact List.getD_eq_getElem _ _ h2
  simp only [Part.nativeRead, decRecInfo, hwords]
  rfl

section Writes

variable {c : Access} {s : State}

/-- With the ring disabled both words of RING_BASE are taken. -/
theorem busWrite_ringBase_high (h : NativeWrite c 0x400C s) (hoff : (passed c s.part).bit 0x4010 31 = false) :
    busWrite c s.part =
      (((passed c s.part).setReg 0x4008 (lowerWord c 0x4008 (passed c s.part))).setReg 0x400C c.val).held c.req 0x4008
        (lowerWord c 0x4008 (passed c s.part)) := by
  rw [busWrite_higher plainPair_ringBase (Part.regPlace_hub _ (by decide)) h]
  have hbase : baseCfg 0x4008 = some 0x4010 := by decide
  have hlow : ∀ x y : Word, mergeMask x y (ringBaseInfo 0).wo = x := mergeMask_zero
  have hother : ∀ x w, Part.reg (Part.setReg x 0x400C w) 0x4008 = x.reg 0x4008 := fun x w =>
    Part.reg_setReg_other x _ _ w (by decide)
  have hmerge : ∀ x y : Word, mergeMask x y (ringBaseInfo 0).rw = y := mergeMask_full
  have hmerge' : ∀ x y : Word, mergeMask x y (ringBaseInfo 1).rw = y := mergeMask_full
  simp only [bothWords, Part.writeFields, hbase, List.foldl_cons, List.foldl_nil, hoff, Bool.false_and,
    Bool.false_eq_true, if_false, Part.mergeOf_whole _ _ _ plainPair_ringBase.1 rfl,
    Part.mergeOf_whole _ _ _ plainPair_ringBase.2.1 rfl, hmerge, hmerge', hlow]
  rw [hother, Part.reg_setReg_same]

/-- The second word of DEC_ANSWER decides with the serial held. -/
theorem busWrite_decAnswer_high (h : NativeWrite c 0x5114 s) :
    busWrite c s.part =
      (answerDecision (lowerWord c 0x5110 (passed c s.part)) (c.val &&& 0x8000001F#32) (passed c s.part)).held c.req
        0x5110 (lowerWord c 0x5110 (passed c s.part)) := by
  have hserial : ∀ x y : Word, mergeMask x y (answerInfo 0 full).wo = y := mergeMask_full
  have hbase : baseCfg 0x5110 = none := by decide
  have htrig : trigOf { off := 0x5114, sel := full, val := c.val } = c.val &&& 0x8000001F#32 := by
    simp only [trigOf, plainPair_decAnswer.2.1, answerInfo, and_full]
    exact BitVec.and_comm _ _
  rw [busWrite_higher plainPair_decAnswer (Part.regPlace_hub _ (by decide)) h]
  simp only [bothWords, Part.writeFields, hbase, hserial]
  norm_num [htrig]

end Writes

end Sys2Proof.Machine

namespace Sys2Proof

open Sys2Proof.Machine

/-- Settles O39: each access is one word of a wide register, captured, held or applied. -/
theorem wideRegisters : Obligations.WideRegisters := by
  refine ⟨?reads, ?writes, ?pop⟩
  case reads =>
    intro s q addr hreach hmode p
    obtain ⟨hlow, hhigh⟩ := p.readWord_ringBase
    have hreg : ∀ o, p.reg o = s.part.reg o := fun o => by cases q <;> rfl
    refine ⟨fun ht => ?_, fun ht => ?_⟩
    · rw [Yields, exec_multiwordCaptureRead, busRead_hub hreach hmode ht plainPair_ringBase.1
        (Part.regPlace_hub _ (by decide)) (by decide) (by decide),
        Part.nativeRead_lowest q plainPair_ringBase (by decide),
        hlow, hhigh, hreg, hreg]
    · rw [Yields, exec_multiwordCaptureRead, busRead_hub hreach hmode ht plainPair_ringBase.2.1
        (Part.regPlace_hub _ (by decide)) (by decide) (by decide), Part.nativeRead_higher q plainPair_ringBase]
      cases q <;> rfl
  case writes =>
    intro s c p
    refine ⟨fun h => ?_, fun h hoff => ?_, fun h => ?_, fun h => ?_⟩
    · exact yieldsBus_atReg rfl h (by decide) (busWrite_lower plainPair_ringBase h)
    · exact yieldsBus_atReg rfl h (by decide) (busWrite_ringBase_high h hoff)
    · exact yieldsBus_atReg rfl h rfl (busWrite_lower plainPair_decAnswer h)
    · exact yieldsBus_atReg rfl h rfl (busWrite_decAnswer_high h)
  case pop =>
    intro s hreach hmode p
    have hexec : exec .decRecPop s = .next { s with part := busRead .host 0x5100#28 s.part } := rfl
    rw [Yields, hexec, busRead_hub hreach hmode (by decide) regInfo_decRec (Part.regPlace_hub _ (by decide))
      (by decide) (by decide), Part.nativeRead_decRec]
    rfl

end Sys2Proof
end

section
/-! Registers behind a selvedge (R190, R226, R320, R330, R371, R421, R436). -/

namespace Sys2Proof.Machine

/-! ### Where their writes come to -/

theorem wordEffect_lane (a : BusWrite) (l : Fin 96) (w trig : Word) (p : Part) :
    wordEffect a (laneReg l 8) w trig p = adaptRestartEffect l a.req a.addr trig p := by
  have hl : 8 * (((0x40 + l.val / 8) * 0x1000 + l.val % 8 * 512 + 8) / 0x1000 - 0x40) +
      ((0x40 + l.val / 8) * 0x1000 + l.val % 8 * 512 + 8) % 0x1000 / 512 = l.val := by omega
  unfold wordEffect laneReg groupEnReg
  dsimp only
  repeat rw [if_neg (by omega)]
  rw [if_pos (by omega), hl]

theorem wordEffect_lockout (a : BusWrite) (r : Fin 16) (w trig : Word) (p : Part) :
    wordEffect a (refReg r 0x28) w trig p = (p.setReg (refReg r 0x28) w).syncLockout r := by
  have hr : (0x10000 + 128 * r.val + 0x28) % 0x1000 / 128 = r.val := by omega
  unfold wordEffect refReg groupEnReg
  dsimp only
  repeat rw [if_neg (by omega)]
  rw [if_pos (by omega), hr]

theorem wordEffect_wake (a : BusWrite) (k : Fin 2) (w trig : Word) (p : Part) :
    wordEffect a (0xD008 + 0x80 * k.val) w trig p = wakeEffect k trig p := by
  have hk : (0xD008 + 0x80 * k.val) % 0x1000 / 0x80 = k.val := by omega
  unfold wordEffect groupEnReg
  dsimp only
  repeat rw [if_neg (by omega)]
  rw [if_pos (by omega), hk]

theorem wordEffect_spillCons (a : BusWrite) (n : Fin 48) (w trig : Word) (p : Part) :
    wordEffect a (tsReg n 0x1C) w trig p = spillConsEffect n a.req a.addr w p := by
  have hn : (0x11000 + 64 * n.val + 0x1C) % 0x1000 / 64 = n.val := by omega
  unfold wordEffect tsReg groupEnReg
  dsimp only
  repeat rw [if_neg (by omega)]
  rw [if_pos (by omega), hn]

theorem plainWord_lane (l : Fin 96) : plainWord (laneReg l 8) 0#32 1#32 = true ∧ partWrites (laneReg l 8) = false := by
  revert l
  decide

theorem plainWord_lockout (r : Fin 16) :
    plainWord (refReg r 0x28) 1#32 0#32 = true ∧ partWrites (refReg r 0x28) = false := by
  revert r
  decide

theorem plainWord_wake (k : Fin 2) :
    plainWord (0xD008 + 0x80 * k.val) 0#32 1#32 = true ∧ partWrites (0xD008 + 0x80 * k.val) = false := by
  revert k
  decide

theorem plainWord_spillCons (n : Fin 48) :
    plainWord (tsReg n 0x1C) full 0#32 = true ∧ partWrites (tsReg n 0x1C) = false := by
  revert n
  decide

/-- The rows of ADAPT_RESTART, LOCKOUT_WRITE and SPILL_CONS_WRITE name these registers. -/
theorem names_lane (l : Fin 96) :
    (decide (0x40000 ≤ laneReg l 8) && decide (laneReg l 8 < 0x4C000) && laneReg l 8 % 512 == 8) = true := by
  revert l
  decide

theorem names_lockout (r : Fin 16) : (refReg r 0x28 / 0x1000 == 0x10 && refReg r 0x28 % 128 == 0x28) = true := by
  revert r
  decide

theorem names_wake (k : Fin 2) : (0xD008 + 0x80 * k.val == 0xD008 || 0xD008 + 0x80 * k.val == 0xD088) = true := by
  revert k
  decide

theorem names_spillCons (n : Fin 48) :
    (tsReg n 0x1C / 0x1000 == 0x11 && decide (tsReg n 0x1C % 0x1000 < 0xC00) && tsReg n 0x1C % 64 == 0x1C) = true := by
  revert n
  decide

theorem names_aps (k : Fin 64) :
    (decide (0x70100 ≤ 0x70104 + 8 * k.val) && decide (0x70104 + 8 * k.val < 0x70300)) = true := by
  revert k
  decide

/-- A carried native write of a plain word that only requesters write. -/
theorem busWrite_carried {c : Access} {o : Nat} {s : State} {rw wo : Word} (h : NativeWrite c o s)
    (hc : Carried c o s) (ho : plainWord o rw wo = true ∧ partWrites o = false) :
    busWrite c s.part = wordEffect (nativeOf c) o (mergeMask ((arrived c o s.part).reg o) c.val rw) (wo &&& c.val)
      (arrived c o s.part) := by
  rw [busWrite_plainWord h hc ho.1, ho.2]
  rfl

/-- The host's note ring lies in the HUB island. -/
theorem Part.regPlace_noteRing (p : Part) : p.regPlace 0x79410 = none := by simp [Part.regPlace]

/-! ### Wakes -/

theorem wakeEffect_of_powered {p : Part} (k : Nat) (hring : p.ringPowered = true) (hports : 1 < p.ringPorts) :
    wakeEffect k 1#32 p = p.emit (.event "CIRUMLINK_WAKE" k 0#64) := by
  simp [wakeEffect, hring, hports]

theorem wakeEffect_of_idle {p : Part} (k : Nat) (w : Word) (h : p.ringPowered = false ∨ p.ringPorts ≤ 1) :
    wakeEffect k w p = p := by
  rcases h with h | h <;> simp [wakeEffect, h]

/-! ### ADAPT_RESTART -/

theorem adaptRestartEffect_of_runs {p : Part} (l : Nat) (q : Req) (addr : BitVec 28) {w : Word}
    (hw : w.getLsbD 0 = true)
    (hmode : p.md.cur = .listen ∨ p.md.cur = .carry ∨ p.md.cur = .trim ∨ p.md.cur = .doze) :
    adaptRestartEffect l q addr w p = (p.fallLane l 2).evalLane l := by
  rcases hmode with h | h | h | h <;> simp [adaptRestartEffect, bitAt, hw, h]

theorem adaptRestartEffect_of_refused {p : Part} (l : Nat) (q : Req) (addr : BitVec 28) {w : Word}
    (hw : w.getLsbD 0 = true) (h1 : p.md.cur ≠ .listen) (h2 : p.md.cur ≠ .carry) (h3 : p.md.cur ≠ .trim)
    (h4 : p.md.cur ≠ .doze) : adaptRestartEffect l q addr w p = p.accessFault 5 q addr := by
  cases hm : p.md.cur <;> simp_all [adaptRestartEffect, bitAt]

/-! ### APS_TX -/

theorem apsTxEffect_of_odu {w0 : Word} (k : Nat) (q : Req) (addr : BitVec 28) (w1 : Word) (p : Part)
    (h : pointKind (fieldOf w0 10 0) = .odu ∨ pointKind (fieldOf w0 10 0) = .lo) :
    apsTxEffect k q addr w0 w1 p = ((p.setReg (0x70100 + 8 * k) w0).setReg (0x70104 + 8 * k) w1).apsRenamed k := by
  rcases h with h | h <;> simp [apsTxEffect, h]

theorem apsTxEffect_of_other {w0 : Word} (k : Nat) (q : Req) (addr : BitVec 28) (w1 : Word) (p : Part)
    (h1 : pointKind (fieldOf w0 10 0) ≠ .odu) (h2 : pointKind (fieldOf w0 10 0) ≠ .lo) :
    apsTxEffect k q addr w0 w1 p = p.accessFault 5 q addr := by
  cases h : pointKind (fieldOf w0 10 0) <;> simp_all [apsTxEffect]

@[simp] theorem Part.reg_apsRenamed (p : Part) (k o : Nat) : (p.apsRenamed k).reg o = p.reg o := by
  unfold Part.apsRenamed
  (repeat' split) <;> rfl

/-- A word of an APS/PCC channel. -/
def apsInfo (k : Nat) (rw : Word) : RegInfo :=
  { nm := "APS_TX", reset := 0#32, rw := rw, w1c := 0#32, sh := 0#32, lk := 0#32, wo := 0#32, splits := 0#32,
    kind := .plain, words := 2, idx := k }

theorem plainPair_aps (k : Fin 64) :
    plainPair (0x70100 + 8 * k.val) (apsInfo 0 0x800707FF#32) (apsInfo 1 full) := by
  unfold plainPair
  revert k
  decide

theorem baseCfg_aps (k : Fin 64) : baseCfg (0x70100 + 8 * k.val) = none := by
  revert k
  decide

/-- A write of a channel's second word sets both, the first as held or in force. -/
theorem busWrite_aps {c : Access} {s : State} (k : Fin 64) (h : NativeWrite c (0x70104 + 8 * k.val) s) :
    busWrite c s.part =
      let o := 0x70100 + 8 * k.val
      let p := passed c s.part
      let q := apsTxEffect k c.req c.addr (mergeMask (p.reg o) (lowerWord c o p) 0x800707FF#32) c.val p
      q.held c.req o (q.reg o) := by
  have hoff : 0x70104 + 8 * k.val = 0x70100 + 8 * k.val + 4 := by omega
  rw [hoff] at h
  have hzero : ∀ x y : Word, mergeMask x y (apsInfo 0 0x800707FF#32).wo = x := mergeMask_zero
  have hfull : ∀ x y : Word, mergeMask x y (apsInfo 1 full).rw = y := mergeMask_full
  have hk : (0x70100 + 8 * k.val) / 8 * 8 = 0x70100 + 8 * k.val := by omega
  have hchan : (0x70100 + 8 * k.val - 0x70100) / 8 = k.val := by omega
  have hsecond : 0x70100 + 8 * k.val ≠ 0x70100 + 8 * k.val + 4 := by omega
  have hpair := plainPair_aps k
  rw [busWrite_higher hpair (Part.regPlace_hub _ (by omega)) h]
  simp only [bothWords, Part.writeFields, baseCfg_aps, hzero]
  rw [if_neg (by omega), if_pos (by omega)]
  simp only [hk, hchan, List.find?_cons, beq_self_eq_true, beq_eq_false_iff_ne.mpr hsecond,
    Part.mergeOf_whole _ _ _ hpair.1 rfl, Part.mergeOf_whole _ _ _ hpair.2.1 rfl, hfull]
  rfl

end Sys2Proof.Machine

namespace Sys2Proof

open Sys2Proof.Machine

/-- Settles O46: each row is its register's effect on the word written, where the selvedge carries it. -/
theorem islandRegisterWrites : Obligations.IslandRegisterWrites := by
  intro s c
  refine ⟨fun l h hc hbit => ?lane, fun h hc hval => ?reacquire, fun r h hc => ?lockout, fun k h hc hval => ?wake,
    fun n h hc => ?spill, fun h => ?notes, fun k h => ?aps⟩
  case lane =>
    have hreg : ∀ p, busWrite c s.part = p → YieldsBus (.adaptRestart c) s p.signals := fun p hp => by
      have hrow : exec (.adaptRestart c) s = onBus (fun p => (atReg c (fun o =>
        decide (0x40000 ≤ o) && decide (o < 0x4C000) && o % 512 == 8) p).signals) s := rfl
      rw [YieldsBus, hrow, onBus_next, atReg_native c _ s _ h (names_lane l), hp]
    have hbus := busWrite_carried h hc (plainWord_lane l)
    rw [wordEffect_lane] at hbus
    have htrig : (1#32 &&& c.val).getLsbD 0 = true := by simpa using hbit
    exact ⟨fun hmode => hreg _ (hbus.trans (adaptRestartEffect_of_runs l c.req c.addr htrig hmode)),
      fun h1 h2 h3 h4 => hreg _ (hbus.trans (adaptRestartEffect_of_refused l c.req c.addr htrig h1 h2 h3 h4))⟩
  case reacquire =>
    refine yieldsBus_atReg rfl h rfl ?_
    rw [busWrite_carried h hc (rw := 0#32) (wo := 1#32) (by decide), hval]
    rfl
  case lockout =>
    exact yieldsBus_atReg rfl h (names_lockout r)
      ((busWrite_carried h hc (plainWord_lockout r)).trans (wordEffect_lockout _ _ _ _ _))
  case wake =>
    intro p
    have hbus : busWrite c s.part = wakeEffect k 1#32 p := by
      rw [busWrite_carried h hc (plainWord_wake k), wordEffect_wake, hval]
      rfl
    exact ⟨fun hring hports => yieldsBus_atReg rfl h (names_wake k) (hbus.trans (wakeEffect_of_powered k hring hports)),
      fun hidle => yieldsBus_atReg rfl h (names_wake k) (hbus.trans (wakeEffect_of_idle k _ hidle))⟩
  case spill =>
    intro p
    have hbus : busWrite c s.part = spillConsEffect n c.req c.addr c.val p := by
      rw [busWrite_carried h hc (plainWord_spillCons n), wordEffect_spillCons, mergeMask_full]
      rfl
    exact ⟨fun hin => yieldsBus_atReg rfl h (names_spillCons n) (hbus.trans (if_neg (Nat.not_lt.mpr hin))),
      fun hout => yieldsBus_atReg rfl h (names_spillCons n) (hbus.trans (if_pos hout))⟩
  case notes =>
    intro p
    have hbus : busWrite c s.part = nrxConsEffect c.req c.addr c.val p := by
      rw [busWrite_hubWord h (Part.regPlace_noteRing _) (rw := full) (wo := 0#32) (by decide) (by decide),
        mergeMask_full]
      rfl
    exact ⟨fun hin => yieldsBus_atReg rfl h rfl (hbus.trans (if_neg (Nat.not_lt.mpr hin))),
      fun hout => yieldsBus_atReg rfl h rfl (hbus.trans (if_pos hout))⟩
  case aps =>
    intro p key w0
    have hbus : busWrite c s.part = (apsTxEffect k c.req c.addr w0 c.val p).held c.req (0x70100 + 8 * k.val)
        ((apsTxEffect k c.req c.addr w0 c.val p).reg (0x70100 + 8 * k.val)) := busWrite_aps k h
    refine ⟨fun hodu => yieldsBus_atReg rfl h (names_aps k) ?_, fun h1 h2 => yieldsBus_atReg rfl h (names_aps k) ?_⟩
    · rw [hbus, apsTxEffect_of_odu k _ _ _ _ hodu, Part.reg_apsRenamed, Part.reg_setReg_other _ _ _ _ (by omega),
        Part.reg_setReg_same]
      rfl
    · rw [hbus, apsTxEffect_of_other k _ _ _ _ h1 h2]
      rfl

end Sys2Proof
end

section
/-! The rings of a tap and the bobbin pools as registers (R392, R393, R399, R400, R407). -/

namespace Sys2Proof.Machine

/-! ### Where they lie -/

theorem tapReg_block (n : Nat) {o : Nat} (ho : o < 256) :
    tapReg n o / 0x1000 = 0x6C + n / 12 ∧ tapReg n o % 0x1000 = 256 * (n % 12) + o := by
  unfold tapReg
  omega

theorem poolReg_block (b : Nat) {o : Nat} (ho : o < 256) :
    poolReg b o / 0x1000 = 0x6C + b / 4 ∧ poolReg b o % 0x1000 = 0xC00 + 256 * (b % 4) + o := by
  unfold poolReg
  omega

/-- The pools lie in the HUB island. -/
theorem Part.regPlace_pool (p : Part) {b o : Nat} (hb : b < 16) (ho : o < 256) : p.regPlace (poolReg b o) = none := by
  obtain ⟨hblock, hrest⟩ := poolReg_block b ho
  unfold Part.regPlace
  dsimp only
  rw [hblock, hrest]
  repeat rw [if_neg (by omega)]
  rw [if_pos (by omega), if_neg (by omega)]

theorem plainWord_rxCfg (n : Fin 48) :
    plainWord (tapReg n 8) 0x80000F1F#32 0#32 = true ∧ partWrites (tapReg n 8) = true := by
  revert n
  decide

theorem plainWord_rxCons (n : Fin 48) :
    plainWord (tapReg n 0x10) full 0#32 = true ∧ partWrites (tapReg n 0x10) = false := by
  revert n
  decide

theorem plainWord_txProd (n : Fin 48) :
    plainWord (tapReg n 0x2C) full 0#32 = true ∧ partWrites (tapReg n 0x2C) = false := by
  revert n
  decide

theorem plainWord_poolCfg (b : Fin 16) :
    plainWord (poolReg b 8) 0x800F001F#32 0#32 = true ∧ partWrites (poolReg b 8) = true := by
  revert b
  decide

theorem plainWord_poolProd (b : Fin 16) :
    plainWord (poolReg b 0xC) full 0#32 = true ∧ partWrites (poolReg b 0xC) = false := by
  revert b
  decide

/-- The rows of the taps and of the pools name these registers. -/
theorem names_tap (n : Fin 48) :
    inTap false 8 (tapReg n 8) = true ∧ inTap false 0x10 (tapReg n 0x10) = true ∧
      inTap false 0x2C (tapReg n 0x2C) = true := by
  revert n
  decide

theorem names_pool (b : Fin 16) : inTap true 8 (poolReg b 8) = true ∧ inTap true 0xC (poolReg b 0xC) = true := by
  revert b
  decide

/-! ### Where their writes come to -/

/-- A write of a tap's register comes to the effect of its place in the tap. -/
theorem wordEffect_tap (a : BusWrite) {n o : Nat} (hn : n < 48) (ho : o < 256) (w trig : Word) (p : Part) :
    wordEffect a (tapReg n o) w trig p =
      if o = 8 then rxCfgEffect n a.req a.addr w p
      else if o = 0x10 then rxConsEffect n a.req a.addr w p
      else if o = 0x28 then txCfgEffect n a.req a.addr w p
      else if o = 0x2C then txProdEffect n a.req a.addr w p
      else if (o = 0x18 ∧ 10000 < fieldOf w 13 0) ∨ (o = 0x34 ∧ (fieldOf w 19 0 = 0 ∨ 1000000 < fieldOf w 19 0)) then
        p.accessFault 5 a.req a.addr
      else p.setReg (tapReg n o) w := by
  obtain ⟨hblock, hrest⟩ := tapReg_block n ho
  have hlow : 0x6C000 ≤ tapReg n o := by unfold tapReg; omega
  have hplace : (256 * (n % 12) + o) % 256 = o := by omega
  have hport : 12 * (0x6C + n / 12 - 0x6C) + (256 * (n % 12) + o) / 256 = n := by omega
  unfold wordEffect groupEnReg
  dsimp only
  rw [hblock, hrest]
  repeat rw [if_neg (by omega)]
  rw [if_pos (by omega), if_pos (by omega), hplace, hport]

/-- A write of a pool's register comes to the effect of its place in the pool. -/
theorem wordEffect_pool (a : BusWrite) {b o : Nat} (hb : b < 16) (ho : o < 256) (w trig : Word) (p : Part) :
    wordEffect a (poolReg b o) w trig p =
      if o = 8 then poolCfgEffect b a.req a.addr w p
      else if o = 0xC then poolProdEffect b a.req a.addr w p
      else p.setReg (poolReg b o) w := by
  obtain ⟨hblock, hrest⟩ := poolReg_block b ho
  have hlow : 0x6C000 ≤ poolReg b o := by unfold poolReg; omega
  have hplace : (0xC00 + 256 * (b % 4) + o) % 256 = o := by omega
  have hpool : 4 * (0x6C + b / 4 - 0x6C) + (0xC00 + 256 * (b % 4) + o - 0xC00) / 256 = b := by omega
  unfold wordEffect groupEnReg
  dsimp only
  rw [hblock, hrest]
  repeat rw [if_neg (by omega)]
  rw [if_pos (by omega), if_neg (by omega), hplace, hpool]

section Writes

variable {c : Access} {s : State}

theorem busWrite_rxCfg {n : Fin 48} (h : NativeWrite c (tapReg n 8) s) (hc : Carried c (tapReg n 8) s) :
    busWrite c s.part = (rxCfgEffect n c.req c.addr
      (mergeMask ((arrived c (tapReg n 8) s.part).reg (tapReg n 8)) c.val 0x80000F1F#32)
      (arrived c (tapReg n 8) s.part)).noteWrite (tapReg n 8) 0x80000F1F#32 := by
  obtain ⟨hplain, hnote⟩ := plainWord_rxCfg n
  rw [busWrite_plainWord h hc hplain, hnote, wordEffect_tap _ n.isLt (by omega)]
  rfl

theorem busWrite_rxCons {n : Fin 48} (h : NativeWrite c (tapReg n 0x10) s) (hc : Carried c (tapReg n 0x10) s) :
    busWrite c s.part = rxConsEffect n c.req c.addr c.val (arrived c (tapReg n 0x10) s.part) := by
  rw [busWrite_carried h hc (plainWord_rxCons n), wordEffect_tap _ n.isLt (by omega), mergeMask_full]
  rfl

theorem busWrite_txProd {n : Fin 48} (h : NativeWrite c (tapReg n 0x2C) s) (hc : Carried c (tapReg n 0x2C) s) :
    busWrite c s.part = txProdEffect n c.req c.addr c.val (arrived c (tapReg n 0x2C) s.part) := by
  rw [busWrite_carried h hc (plainWord_txProd n), wordEffect_tap _ n.isLt (by omega), mergeMask_full]
  rfl

theorem busWrite_poolProd {b : Fin 16} (h : NativeWrite c (poolReg b 0xC) s) :
    busWrite c s.part = poolProdEffect b c.req c.addr c.val (passed c s.part) := by
  obtain ⟨hplain, hnote⟩ := plainWord_poolProd b
  rw [busWrite_hubWord h (Part.regPlace_pool _ b.isLt (by omega)) hplain hnote, wordEffect_pool _ b.isLt (by omega),
    mergeMask_full]
  rfl

theorem busWrite_poolCfg {b : Fin 16} (h : NativeWrite c (poolReg b 8) s) :
    busWrite c s.part = (poolCfgEffect b c.req c.addr
      (mergeMask ((passed c s.part).reg (poolReg b 8)) c.val 0x800F001F#32) (passed c s.part)).noteWrite (poolReg b 8)
        0x800F001F#32 := by
  obtain ⟨hplain, hnote⟩ := plainWord_poolCfg b
  obtain ⟨hcarried, harrived⟩ := carried_hub c _ s (Part.regPlace_pool _ b.isLt (o := 8) (by omega))
  rw [busWrite_plainWord h hcarried hplain, hnote, harrived, wordEffect_pool _ b.isLt (by omega)]
  rfl

end Writes

/-! ### Settings of a ring and of a pool -/

section Cfg

variable {p : Part} {n : Nat} {w : Word} (q : Req) (addr : BitVec 28)

theorem rxCfgEffect_of_set (hgood : ringCfgBad (p.reg (tapReg n 8)) w = false) (hoff : p.bit (tapReg n 8) 31 = false)
    (hon : w.getLsbD 31 = true) :
    rxCfgEffect n q addr w p =
      ((p.setReg (tapReg n 8) w).setReg (tapReg n 0xC) 0#32).setReg (tapReg n 0x10) 0#32 := by
  have hold : (p.reg (tapReg n 8)).getLsbD 31 = false := hoff
  simp only [rxCfgEffect, hgood, hold, hon]
  rfl

theorem rxCfgEffect_of_clear (hgood : ringCfgBad (p.reg (tapReg n 8)) w = false) (hon : p.bit (tapReg n 8) 31 = true)
    (hoff : w.getLsbD 31 = false) : rxCfgEffect n q addr w p = p.rxOff n := by
  have hold : (p.reg (tapReg n 8)).getLsbD 31 = true := hon
  simp only [rxCfgEffect, hgood, hold, hoff]
  rfl

/-- An enabled pool's CFG takes a good setting that clears ENABLE alone. -/
theorem poolCfgEffect_of_clear (hon : p.bit (poolReg n 8) 31 = true) (hsame : withBit w 31 true = p.reg (poolReg n 8))
    (hoff : w.getLsbD 31 = false) (h8 : 8 ≤ fieldOf w 19 16) (h14 : fieldOf w 19 16 ≤ 14) (h6 : 6 ≤ fieldOf w 4 0)
    (h16 : fieldOf w 4 0 ≤ 16) : poolCfgEffect n q addr w p = p.poolOff n := by
  simp only [poolCfgEffect, hon, hsame, hoff, decide_eq_false (Nat.not_lt.mpr h8), decide_eq_false (Nat.not_lt.mpr h14),
    decide_eq_false (Nat.not_lt.mpr h6), decide_eq_false (Nat.not_lt.mpr h16)]
  simp

theorem poolCfgEffect_of_refused (hon : p.bit (poolReg n 8) 31 = true)
    (hother : withBit w 31 true ≠ p.reg (poolReg n 8) ∨ w.getLsbD 31 = true) :
    poolCfgEffect n q addr w p = p.accessFault 5 q addr := by
  have hkept : (withBit w 31 true == p.reg (poolReg n 8) && !w.getLsbD 31) = false := by
    rcases hother with h | h
    · rw [beq_eq_false_iff_ne.mpr h, Bool.false_and]
    · rw [h, Bool.not_true, Bool.and_false]
  simp only [poolCfgEffect, hon, hkept]
  simp

end Cfg

end Sys2Proof.Machine

namespace Sys2Proof

open Sys2Proof.Machine

/-- Settles O47: each row is its register's effect on the word written, case by case. -/
theorem tapRingWrites : Obligations.TapRingWrites := by
  intro s c
  refine ⟨fun n h hc => ?rxCfg, fun n h hc => ?rxCons, fun n h hc => ?txProd, fun b h => ?poolProd,
    fun b h => ?poolCfg⟩
  case rxCfg =>
    obtain ⟨hname, -, -⟩ := names_tap n
    intro p w hgood
    exact ⟨fun hoff hon => yieldsBus_atReg rfl h hname (by
        rw [busWrite_rxCfg h hc, rxCfgEffect_of_set c.req c.addr hgood hoff hon]),
      fun hon hoff => yieldsBus_atReg rfl h hname (by
        rw [busWrite_rxCfg h hc, rxCfgEffect_of_clear c.req c.addr hgood hon hoff])⟩
  case rxCons =>
    obtain ⟨-, hname, -⟩ := names_tap n
    exact ⟨fun hin => yieldsBus_atReg rfl h hname ((busWrite_rxCons h hc).trans (if_pos hin)),
      fun hout => yieldsBus_atReg rfl h hname ((busWrite_rxCons h hc).trans (if_neg (Nat.not_le.mpr hout)))⟩
  case txProd =>
    obtain ⟨-, -, hname⟩ := names_tap n
    exact ⟨fun hin => yieldsBus_atReg rfl h hname ((busWrite_txProd h hc).trans (if_neg (Nat.not_lt.mpr hin))),
      fun hout => yieldsBus_atReg rfl h hname ((busWrite_txProd h hc).trans (if_pos hout))⟩
  case poolProd =>
    obtain ⟨-, hname⟩ := names_pool b
    exact ⟨fun hin => yieldsBus_atReg rfl h hname ((busWrite_poolProd h).trans (if_neg (Nat.not_lt.mpr hin))),
      fun hout => yieldsBus_atReg rfl h hname ((busWrite_poolProd h).trans (if_pos hout))⟩
  case poolCfg =>
    obtain ⟨hname, -⟩ := names_pool b
    intro p w hon
    exact ⟨fun hsame hoff h8 h14 h6 h16 => yieldsBus_atReg rfl h hname (by
        rw [busWrite_poolCfg h, poolCfgEffect_of_clear c.req c.addr hon hsame hoff h8 h14 h6 h16]),
      fun hother => yieldsBus_atReg rfl h hname (by
        rw [busWrite_poolCfg h, poolCfgEffect_of_refused c.req c.addr hon hother])⟩

end Sys2Proof
end

section
/-! GLOBAL.SCRATCH by every write path (R115 to R122), and the requests of one cycle (R108, R139, R441, R446). -/

namespace Sys2Proof.Machine

/-! ### The register -/

/-- A scratch register: every bit is written as it is. -/
def scratchInfo : RegInfo :=
  { nm := "SCRATCH", reset := 0#32, rw := full, w1c := 0#32, sh := 0#32, lk := 0#32, wo := 0#32, splits := 0#32,
    kind := .plain, words := 1, idx := 0 }

theorem regInfo_scratch (k : Fin 4) : regInfo (0x100 + 4 * k.val) = some scratchInfo := by
  revert k
  decide

/-- A scratch register takes the bits of any write that selects them. -/
theorem wordEffect_scratch (a : BusWrite) (k : Fin 4) (w trig : Word) (p : Part) :
    wordEffect a (0x100 + 4 * k.val) w trig p = p.setReg (0x100 + 4 * k.val) w := by
  unfold wordEffect groupEnReg
  dsimp only
  repeat rw [if_neg (by omega)]

theorem partWrites_scratch (k : Fin 4) :
    partWrites (0x100 + 4 * k.val) = false ∧ baseCfg (0x100 + 4 * k.val) = none := by
  revert k
  decide

theorem Part.writeFields_scratch (p : Part) (a : BusWrite) (k : Fin 4) (sel val : Word) :
    p.writeFields a [{ off := 0x100 + 4 * k.val, sel := sel, val := val }] =
      p.setReg (0x100 + 4 * k.val) (mergeMask (p.reg (0x100 + 4 * k.val)) val sel) := by
  obtain ⟨hnote, hbase⟩ := partWrites_scratch k
  have hmerge : p.mergeOf a { off := 0x100 + 4 * k.val, sel := sel, val := val } =
      mergeMask (p.reg (0x100 + 4 * k.val)) val sel := by
    simp only [Part.mergeOf, regInfo_scratch, mergedWord, scratchInfo, and_full, BitVec.zero_and, BitVec.not_zero,
      BitVec.and_allOnes]
  simp only [Part.writeFields, hbase]
  rw [if_neg (by omega), if_neg (by omega), if_neg (by omega)]
  simp only [List.foldl_cons, List.foldl_nil, wordEffect_scratch, hmerge, Part.noteRw, regInfo_scratch, hnote]
  rfl

theorem Part.regWrite_scratch (p : Part) (a : BusWrite) (win : Bool) (k : Fin 4) (sel val : Word)
    (hwin : (win && p.bit 0x038 1) = false) :
    p.regWrite a win scratchInfo { off := 0x100 + 4 * k.val, sel := sel, val := val } =
      p.setReg (0x100 + 4 * k.val) (mergeMask (p.reg (0x100 + 4 * k.val)) val sel) := by
  have hmask : shMask (0x100 + 4 * k.val) = 0#32 := by simp [shMask, regInfo_scratch, scratchInfo]
  have hcross := Part.cross_of_hub (p.regPlace_hub (o := 0x100 + 4 * k.val) (by omega))
  have hwords : p.writeWords a [{ off := 0x100 + 4 * k.val, sel := sel, val := val }] =
      p.writeFields a [{ off := 0x100 + 4 * k.val, sel := sel, val := val }] := by
    simp [Part.writeWords, Part.writeShadow, writesBeyond, hmask, regInfo_scratch, scratchInfo, hcross]
  rw [← Part.writeFields_scratch p a, ← hwords, Part.regWrite, hwin]
  simp [scratchInfo]

/-! ### The paths to it -/

section Paths

variable {c : Access} {p : Part} {k : Fin 4} (hreach : p.reaches c.req = true) (hbe : c.be = 0xF#4)
  (hmode : p.md.cur ≠ .dormant) (hfreeze : p.md.cur ≠ .freeze)

include hreach hbe hmode hfreeze

theorem busWrite_scratch (ht : decodeAddr c.addr.toNat = .native (0x100 + 4 * k.val)) :
    busWrite c p = (passed c p).setReg (0x100 + 4 * k.val) c.val := by
  have h : NativeWrite c (0x100 + 4 * k.val) { pending := [], window := [], smb := {}, part := p } :=
    ⟨hreach, ht, hbe, hmode, hfreeze⟩
  rw [busWrite_native c _ _ _ h (regInfo_scratch k), Part.regWrite_scratch _ _ _ _ _ _ rfl, mergeMask_full]

/-- A write of an aliased bit comes to its register. -/
theorem busWrite_bit {b o : Nat} {i : RegInfo} (ht : decodeAddr c.addr.toNat = .bit b o) (hi : regInfo o = some i) :
    busWrite c p = (passed c p).regWrite { req := c.req, addr := c.addr, direct := false, alias_ := true } false i
      { off := o, sel := (aliasBits b c.val).1, val := (aliasBits b c.val).2 } := by
  have hpassed : (p.granted c.req).snoopBus c.req c.addr.toNat true c.val c.be = passed c p := rfl
  have hearly : (passed c p).early c.req = false := Part.early_of_awake _ (by rwa [passed_md])
  unfold busWrite
  rw [if_neg (by simp [hreach])]
  simp only [hpassed]
  simp only [ht, hearly, hbe, hi, passed_md, hfreeze, false_and, Bool.false_and, Bool.false_eq_true, if_false,
    ne_eq, not_true_eq_false]

omit hbe hfreeze in
/-- The basted view takes no write (R125). -/
theorem busWrite_basted {o : Nat} (ht : decodeAddr c.addr.toNat = .basted o) :
    busWrite c p = (passed c p).accessFault 2 c.req c.addr := by
  have hpassed : (p.granted c.req).snoopBus c.req c.addr.toNat true c.val c.be = passed c p := rfl
  have hearly : (passed c p).early c.req = false := Part.early_of_awake _ (by rwa [passed_md])
  unfold busWrite
  rw [if_neg (by simp [hreach])]
  simp only [hpassed]
  simp only [ht, hearly, Bool.false_and, Bool.false_eq_true, if_false]

theorem busWrite_scratch_mask {h : Bool} (ht : decodeAddr c.addr.toNat = .mask h (0x100 + 4 * k.val))
    (hopen : (passed c p).bit 0x038 1 = false) :
    busWrite c p = (passed c p).setReg (0x100 + 4 * k.val)
      (mergeMask ((passed c p).reg (0x100 + 4 * k.val)) (maskBits h c.val).2 (maskBits h c.val).1) := by
  rw [busWrite_mask hreach hbe hmode (fun hf => absurd hf hfreeze) ht (regInfo_scratch k),
    Part.regWrite_scratch _ _ _ _ _ _ (by rw [hopen, Bool.and_false])]

theorem busWrite_scratch_off {h : Bool} (ht : decodeAddr c.addr.toNat = .mask h (0x100 + 4 * k.val))
    (hoff : (passed c p).bit 0x038 1 = true) : busWrite c p = (passed c p).lockViolation 3 c.req c.addr := by
  rw [busWrite_mask hreach hbe hmode (fun hf => absurd hf hfreeze) ht (regInfo_scratch k),
    Part.regWrite_maskwinOff _ _ _ hoff]
  rfl

end Paths

/-! ### One request in a cycle -/

/-- A lone master is granted at its place in the rotation. -/
theorem rotation_single (last : Nat) (o : BusOp) :
    rotation last [o] = if o.master.sideband then [] else [o] := by
  have hplace : (o.master.code + 13 - last) % 7 < 7 := Nat.mod_lt _ (by decide)
  unfold rotation
  cases hside : o.master.sideband with
  | true => simp [hside]
  | false =>
    simp only [List.filter_cons, List.filter_nil, hside, Bool.not_false, Bool.true_and, Bool.false_eq_true, if_false]
    generalize (o.master.code + 13 - last) % 7 = k at hplace ⊢
    have : k = 0 ∨ k = 1 ∨ k = 2 ∨ k = 3 ∨ k = 4 ∨ k = 5 ∨ k = 6 := by omega
    rcases this with rfl | rfl | rfl | rfl | rfl | rfl | rfl <;> rfl

theorem grantOrder_single (last waited : Nat) (o : BusOp) : grantOrder last waited [o] = [o] := by
  unfold grantOrder
  rw [rotation_single]
  cases h : o.master.sideband <;> simp [h]

theorem grantOrder_nil (last waited : Nat) : grantOrder last waited [] = [] := by
  simp [grantOrder, rotation]

/-- A cycle of one register write: the write, after the wait of the sideband is kept. -/
theorem busRun_write {c : Access} {p : Part} (w : Nat) (hreach : p.reaches c.req = true) :
    busRun ⟨[.write c []], w⟩ p = busWrite c (if (Master.req c.req).sideband
      then p.setReg 0x7008 (BitVec.ofNat 32 (max (p.reg 0x7008).toNat w)) else p) := by
  have hl : [BusOp.write c []].filter (fun o => p.carriesFrom o.master) = [.write c []] := by
    simp [BusOp.master, Part.carriesFrom, hreach]
  unfold busRun
  simp only [hl]
  cases hside : (Master.req c.req).sideband with
  | true =>
    have hwait : sideWait w [.write c []] (.write c []) = w := by simp [sideWait, BusOp.master, hside]
    simp [List.filter_cons, BusOp.master, hside, BusOp.target, grantOrder_single, grantOrder_nil, BusOp.run,
      Part.writeMore, hwait]
  | false =>
    simp [List.filter_cons, BusOp.master, hside, BusOp.target, grantOrder_single, grantOrder_nil, BusOp.run,
      Part.writeMore]

/-- A row of the bus with an operation of its own. -/
theorem yieldsBus_of {i : Instr} {s : State} {f : Part → Part} {p : Part} (hexec : exec i s = onBus f s)
    (hp : f s.part = p) : YieldsBus i s p := by
  rw [YieldsBus, hexec, onBus_next, hp]

theorem yieldsBus_bitAlias {c : Access} {s : State} {b o : Nat} {p : Part} (ht : decodeAddr c.addr.toNat = .bit b o)
    (hp : busWrite c s.part = p) : YieldsBus (.bitAliasWrite c) s p := by
  refine yieldsBus_of (i := .bitAliasWrite c) (s := s) (by unfold exec execBitAliasWrite; rfl) ?_
  simp only [ht, hp]

theorem yieldsBus_maskWindow {c : Access} {s : State} {h : Bool} {o : Nat} {p : Part}
    (ht : decodeAddr c.addr.toNat = .mask h o) (hp : busWrite c s.part = p) : YieldsBus (.maskWindowWrite c) s p := by
  refine yieldsBus_of (i := .maskWindowWrite c) (s := s) (by unfold exec execMaskWindowWrite; rfl) ?_
  simp only [ht, hp]

theorem yieldsBus_bastedView {c : Access} {s : State} {o : Nat} {p : Part}
    (ht : decodeAddr c.addr.toNat = .basted o) (hp : busWrite c s.part = p) : YieldsBus (.bastedViewWrite c) s p := by
  refine yieldsBus_of (i := .bastedViewWrite c) (s := s) (by unfold exec execBastedViewWrite; rfl) ?_
  simp only [ht, hp]

end Sys2Proof.Machine

namespace Sys2Proof

open Sys2Proof.Machine

/-- Settles O37: each path comes to the register with the bits it selects; a cycle of one request grants it; the words
of a burst and the other targets are the definition of a request's run. -/
theorem scratchByEveryPath : Obligations.ScratchByEveryPath := by
  refine ⟨fun s c k hreach hbe hmode hfreeze => ?paths, fun q a be w more => ⟨rfl, rfl⟩, fun q r a n => ⟨rfl, rfl⟩,
    fun q m t w hcarries hhost => ?other⟩
  case paths =>
    intro p o
    refine ⟨fun ht w => ⟨fun hside => ?_, fun hside => ?_⟩, fun b hb ht => ?_, fun ht hopen => ?_, fun ht hopen => ?_,
      fun h ht hoff => ?_, fun ht => ?_⟩
    · refine yieldsBus_of rfl ?_
      rw [busRun_write w hreach, hside]
      exact busWrite_scratch hreach hbe hmode hfreeze ht
    · refine yieldsBus_of rfl ?_
      rw [busRun_write w hreach, hside]
      refine busWrite_scratch ?_ hbe hmode hfreeze ht
      split <;> exact hreach
    · refine yieldsBus_bitAlias ht ?_
      rw [busWrite_bit hreach hbe hmode hfreeze ht (regInfo_scratch k), Part.regWrite_scratch _ _ _ _ _ _ rfl]
      rfl
    · refine yieldsBus_maskWindow ht ?_
      rw [busWrite_scratch_mask hreach hbe hmode hfreeze ht hopen]
      rfl
    · refine yieldsBus_maskWindow ht ?_
      rw [busWrite_scratch_mask hreach hbe hmode hfreeze ht hopen]
      rfl
    · exact yieldsBus_maskWindow ht (busWrite_scratch_off hreach hbe hmode hfreeze ht hoff)
    · exact yieldsBus_bastedView ht (busWrite_basted hreach hmode ht)
  case other =>
    have hrun : BusOp.run q (.other m t w) = q.runOther m t w := by simp [BusOp.run, hcarries, hhost]
    rw [hrun]
    refine ⟨fun hpath hside => ?_, fun r hm hpath hside => ?_, fun hpath ht => ?_, fun hpath ht => ?_⟩
    · simp only [Part.runOther, hpath, hside]
      cases m <;> rfl
    · subst hm
      simp only [Part.runOther, hpath, hside]
      rfl
    · simp only [Part.runOther, hpath]
      rcases ht with rfl | rfl | rfl <;> rfl
    · subst ht
      simp only [Part.runOther, hpath]
      rfl

end Sys2Proof
end

section
/-! Shadowed fields, lock registers and group enables (R123, R124, R129, R144), and the guard protocol (R126, R551). -/

namespace Sys2Proof.Machine

/-! ### A shadowed field and a lock register -/

/-- The selection by triples of STEER: its fields are shadowed and nothing else of it is written. -/
def steerInfo (f : Fin 16) : Bool :=
  match regInfo (steerReg f) with
  | some i => i.kind == .plain && i.lk == 0#32 && i.words == 1 && i.rw == 0#32 && i.w1c == 0#32 && i.wo == 0#32 &&
      i.sh == 0x87FFFFFF#32 && i.sh != 0#32
  | none => false

theorem steerInfo_all (f : Fin 16) : steerInfo f = true := by
  revert f
  decide

theorem passed_column (c : Access) (p : Part) : (passed c p).column = p.column := by
  simp [Part.column]

/-- A native write of STEER is the write of its shadowed fields. -/
theorem busWrite_steer {c : Access} {s : State} {f : Fin 16} (h : NativeWrite c (steerReg f) s) :
    busWrite c s.part =
      if !s.part.column.bastes then (passed c s.part).accessFault 3 c.req c.addr
      else if 65536 < (basteOne (passed c s.part).stitch.basted (steerReg f) 0x87FFFFFF#32 c.val).length then
        (passed c s.part).accessFault 7 c.req c.addr
      else (passed c s.part).setBasted (basteOne (passed c s.part).stitch.basted (steerReg f) 0x87FFFFFF#32 c.val) := by
  have hinfo := steerInfo_all f
  unfold steerInfo at hinfo
  cases hi : regInfo (steerReg f) with
  | none => simp [hi] at hinfo
  | some i =>
    simp only [hi, Bool.and_eq_true, beq_iff_eq, bne_iff_ne] at hinfo
    obtain ⟨⟨⟨⟨⟨⟨⟨hkind, hlk⟩, hwords⟩, hrw⟩, hw1c⟩, hwo⟩, hsh⟩, -⟩ := hinfo
    have hmask : shMask (steerReg f) = 0x87FFFFFF#32 := by simp [shMask, hi, hsh]
    have hbeyond : writesBeyond [{ off := steerReg f, sel := full, val := c.val }] = false := by
      simp [writesBeyond, hi, hrw, hw1c, hwo, hsh]
    have hsel : full &&& shMask (steerReg f) = 0x87FFFFFF#32 := by rw [full_and, hmask]
    rw [busWrite_native c _ s i h hi]
    simp [Part.regWrite, hkind, hlk, hwords, Part.writeWords, hbeyond, Part.writeShadow, hsel, passed_column,
      nativeOf, basteLimit]

/-- A key slot's lock: its one bit and its low half-word, under the lock of the register. -/
def slotLockInfo (k : Fin 16) : Bool :=
  match regInfo (0xC040 + 4 * k.val) with
  | some i => i.kind == .plain && i.lk == 0xFFFF#32
  | none => false

theorem slotLockInfo_all (k : Fin 16) : slotLockInfo k = true := by
  revert k
  decide

theorem busWrite_slotLock {c : Access} {s : State} {k : Fin 16} (h : NativeWrite c (0xC040 + 4 * k.val) s) :
    busWrite c s.part =
      if (passed c s.part).bit (0xC040 + 4 * k.val) 31 then (passed c s.part).lockViolation 1 c.req c.addr
      else (passed c s.part).setReg (0xC040 + 4 * k.val)
        (mergeMask ((passed c s.part).reg (0xC040 + 4 * k.val)) c.val 0xFFFF#32 ||| 0x80000000#32) := by
  have hinfo := slotLockInfo_all k
  unfold slotLockInfo at hinfo
  cases hi : regInfo (0xC040 + 4 * k.val) with
  | none => simp [hi] at hinfo
  | some i =>
    simp only [hi, Bool.and_eq_true, beq_iff_eq] at hinfo
    obtain ⟨hkind, hlk⟩ := hinfo
    rw [busWrite_native c _ s i h hi]
    simp [Part.regWrite, hkind, hlk, Part.writeLocked, nativeOf, full_and]

theorem infoOf_steer (f : Fin 16) : (infoOf (steerReg f) fun i => i.sh != 0#32) = true := by
  revert f
  decide

theorem infoOf_slotLock (k : Fin 16) : (infoOf (0xC040 + 4 * k.val) fun i => i.lk != 0#32) = true := by
  revert k
  decide

end Sys2Proof.Machine

namespace Sys2Proof

open Sys2Proof.Machine

/-- Settles O38: STEER has shadowed fields alone, a slot's lock is a lock register, and GROUP_EN a word of its own. -/
theorem shadowLockAndEnable : Obligations.ShadowLockAndEnable := by
  intro s c p
  refine ⟨fun f h => ?steer, fun k h => ?lock, fun h => ?enable⟩
  case steer =>
    have hsteer := busWrite_steer h
    have hyields {x : Machine.Part} (hx : busWrite c s.part = x) : YieldsBus (.shFieldWrite c) s x :=
      yieldsBus_atReg rfl h (infoOf_steer f) hx
    refine ⟨fun hb hl => hyields ?_, fun hb hl => hyields ?_, fun hb => hyields ?_⟩
    · rw [hsteer, hb]
      exact if_neg (Nat.not_lt.mpr hl)
    · rw [hsteer, hb]
      exact if_pos hl
    · rw [hsteer, hb]
      rfl
  case lock =>
    have hlock := busWrite_slotLock h
    exact ⟨fun hb => yieldsBus_atReg rfl h (infoOf_slotLock k) (hlock.trans (if_neg (ne_true_of_eq_false hb))),
      fun hb => yieldsBus_atReg rfl h (infoOf_slotLock k) (hlock.trans (if_pos hb))⟩
  case enable =>
    refine yieldsBus_atReg rfl h rfl ?_
    rw [busWrite_hubWord h (Part.regPlace_hub _ (by decide)) (rw := 0xFFF#32) (wo := 0#32) (by decide) (by decide)]
    rfl

end Sys2Proof

namespace Sys2Proof.Machine

/-- A row that acts on the part alone, with an operation of its own. -/
theorem yields_of {i : Instr} {s : State} {f : Part → Part} {p : Part} (hexec : exec i s = onPart f s)
    (hp : f s.part = p) : Yields i s p := by
  rw [Yields, hexec, onPart_next, hp]

/-! ### Guards -/

/-- The value word of a guarded register, and its complement word. -/
def guardedInfo (x : Nat) : Bool :=
  (match regInfo x with | some i => i.kind == .guardVal | none => false) &&
    (match regInfo (x + 4) with | some i => i.kind == .guardCpl | none => false)

theorem guardedInfo_of {x : Nat} (h : x = 0x2200 ∨ x = 0x6040) : guardedInfo x = true := by
  rcases h with rfl | rfl <;> decide

theorem busWrite_guardValue {c : Access} {s : State} {x : Nat} (hx : guardedInfo x = true) (h : NativeWrite c x s) :
    busWrite c s.part = (passed c s.part).guardValue c.req c.addr x c.val := by
  unfold guardedInfo at hx
  cases hi : regInfo x with
  | none => simp [hi] at hx
  | some i =>
    simp only [hi, Bool.and_eq_true, beq_iff_eq] at hx
    rw [busWrite_native c _ s i h hi, Part.regWrite, hx.1]
    rfl

theorem busWrite_guardComplement {c : Access} {s : State} {x : Nat} (hx : guardedInfo x = true)
    (h : NativeWrite c (x + 4) s) :
    busWrite c s.part = (passed c s.part).guardComplement c.req c.addr (x + 4) c.val := by
  unfold guardedInfo at hx
  cases hi : regInfo (x + 4) with
  | none => simp [hi] at hx
  | some i =>
    simp only [hi, Bool.and_eq_true, beq_iff_eq] at hx
    rw [busWrite_native c _ s i h hi, Part.regWrite, hx.2]
    rfl

theorem yieldsBus_guardValue {c : Access} {s : State} {x : Nat} {p : Part} (hx : guardedInfo x = true)
    (h : NativeWrite c x s) (hp : (passed c s.part).guardValue c.req c.addr x c.val = p) :
    YieldsBus (.guardValueWrite c) s p := by
  have htest : (infoOf x fun i => i.kind == .guardVal) = true := by
    unfold guardedInfo at hx
    exact (Bool.and_eq_true _ _ ▸ hx).1
  exact yieldsBus_atReg rfl h htest ((busWrite_guardValue hx h).trans hp)

theorem yieldsBus_guardComplement {c : Access} {s : State} {x : Nat} {p : Part} (hx : guardedInfo x = true)
    (h : NativeWrite c (x + 4) s) (hp : (passed c s.part).guardComplement c.req c.addr (x + 4) c.val = p) :
    YieldsBus (.guardComplementWrite c) s p := by
  have htest : (infoOf (x + 4) fun i => i.kind == .guardCpl) = true := by
    unfold guardedInfo at hx
    exact (Bool.and_eq_true _ _ ▸ hx).2
  exact yieldsBus_atReg rfl h htest ((busWrite_guardComplement hx h).trans hp)

theorem Part.guardOf_setGuard (p : Part) (q : Req) (g : Option GuardOpen) : (p.setGuard q g).guardOf q = g :=
  SMap.get_set_same _ _ _ _

@[simp] theorem Part.guardOf_guardFail (p : Part) (cause : Nat) (q r : Req) (addr : BitVec 28) :
    (p.guardFail cause r addr).guardOf q = p.guardOf q := by
  simp [Part.guardOf]

section Window

variable {p : Part} {q : Req} {g : GuardOpen}

theorem Part.guardNow_idle (h : p.guardOf q = none) : p.guardNow q = p := by
  simp [Part.guardNow, Part.endGuard, h]

theorem Part.guardNow_open (h : p.guardOf q = some g) (hclk : p.clk < g.at_ + 251) : p.guardNow q = p := by
  simp only [Part.guardNow, Part.endGuard, h]
  exact if_neg (Nat.not_le.mpr hclk)

theorem Part.guardNow_expired (h : p.guardOf q = some g) (hclk : g.at_ + 251 ≤ p.clk) :
    p.guardNow q = (p.setGuard q none).guardFail 2 q g.addr := by
  simp only [Part.guardNow, Part.endGuard, h]
  exact if_pos hclk

/-- A window that has expired is closed. -/
theorem Part.guardOf_expired : ((p.setGuard q none).guardFail 2 q g.addr).guardOf q = none := by
  rw [Part.guardOf_guardFail, Part.guardOf_setGuard]

theorem Part.clk_expired : ((p.setGuard q none).guardFail 2 q g.addr).clk = p.clk := by
  simp [Part.setGuard]

/-- What a value or a complement word meets once a window past its time has ended. -/
theorem Part.guardComplement_open (h : p.guardOf q = some g) (hclk : p.clk < g.at_ + 251) (addr : BitVec 28) (x : Nat)
    (v : Word) : p.guardComplement q addr (x + 4) v =
      if x ≠ g.off then p.guardFail 3 q addr
      else if v = ~~~g.value then (p.setGuard q none).guardApply q addr g.off g.value
      else (p.setGuard q none).guardFail 1 q addr := by
  simp only [Part.guardComplement, Part.guardNow_open h hclk, h, ne_eq, Nat.add_right_cancel_iff]

end Window

end Sys2Proof.Machine

namespace Sys2Proof

open Sys2Proof.Machine

/-- Settles O40: a window that is past its 250th edge ends first; then the word meets the window as it stands. -/
theorem guardProtocol : Obligations.GuardProtocol := by
  refine ⟨fun s c x hx => ?words, fun s q => ⟨fun hnone => ?idle, fun g hg => ⟨fun hclk => ?late, fun hclk => ?early⟩⟩⟩
  case idle => exact yields_of (f := fun p => p.guardNow q) rfl (Part.guardNow_idle hnone)
  case late => exact yields_of (f := fun p => p.guardNow q) rfl (Part.guardNow_expired hg hclk)
  case early => exact yields_of (f := fun p => p.guardNow q) rfl (Part.guardNow_open hg hclk)
  case words =>
    intro p open_
    have hinfo := guardedInfo_of hx
    have hclk : p.clk = s.part.clk := passed_clk c s.part
    refine ⟨fun h => ?value, fun h => ?complement⟩
    case value =>
      refine ⟨fun hnone => yieldsBus_guardValue hinfo h ?_,
        fun g hg => ⟨fun hin => yieldsBus_guardValue hinfo h ?_, fun hout => yieldsBus_guardValue hinfo h ?_⟩⟩
      · change p.guardValue c.req c.addr x c.val = _
        simp only [Part.guardValue, Part.guardNow_idle hnone, hnone, hclk]
        rfl
      · change p.guardValue c.req c.addr x c.val = _
        have hnow : p.guardNow c.req = p := Part.guardNow_open hg (by rw [hclk]; exact Nat.lt_succ_of_le hin)
        simp only [Part.guardValue, hnow, hg, hclk]
        rfl
      · change p.guardValue c.req c.addr x c.val = _
        have hnow : p.guardNow c.req = _ := Part.guardNow_expired hg (by rw [hclk]; exact hout)
        simp only [Part.guardValue, hnow, Part.guardOf_expired, Part.clk_expired, hclk]
        rfl
    case complement =>
      refine ⟨fun hnone => yieldsBus_guardComplement hinfo h ?_, fun g hg => ⟨fun hin hoff hval => ?apply,
        fun hin hoff hval => yieldsBus_guardComplement hinfo h ?_, fun hin hoff => yieldsBus_guardComplement hinfo h ?_,
        fun hout => yieldsBus_guardComplement hinfo h ?_⟩⟩
      · change p.guardComplement c.req c.addr (x + 4) c.val = _
        simp only [Part.guardComplement, Part.guardNow_idle hnone, hnone]
      case apply =>
        have happly : p.guardComplement c.req c.addr (x + 4) c.val = _ :=
          Part.guardComplement_open hg (by rw [hclk]; exact Nat.lt_succ_of_le hin) c.addr x c.val
        rw [if_neg (by rw [hoff]; exact not_not_intro rfl), if_pos hval, hoff] at happly
        refine ⟨fun h2200 => yieldsBus_guardComplement hinfo h (happly.trans ?_),
          fun h6040 => yieldsBus_guardComplement hinfo h (happly.trans ?_)⟩
        · subst h2200
          rfl
        · subst h6040
          rfl
      · refine (Part.guardComplement_open hg (by rw [hclk]; exact Nat.lt_succ_of_le hin) c.addr x c.val).trans ?_
        rw [if_neg (by rw [hoff]; exact not_not_intro rfl), if_neg hval]
      · refine (Part.guardComplement_open hg (by rw [hclk]; exact Nat.lt_succ_of_le hin) c.addr x c.val).trans ?_
        rw [if_pos (Ne.symm hoff)]
      · change p.guardComplement c.req c.addr (x + 4) c.val = _
        have hnow : p.guardNow c.req = _ := Part.guardNow_expired hg (by rw [hclk]; exact hout)
        simp only [Part.guardComplement, hnow, Part.guardOf_expired]

end Sys2Proof
end

section
/-! One edge of the register clock (R15, R126, R400, R551): what it moves, and what it leaves. -/

namespace Sys2Proof.Machine

/-! ### The edge count -/

@[simp] theorem Part.clk_setReg (p : Part) (o : Nat) (w : Word) : (p.setReg o w).clk = p.clk := rfl
@[simp] theorem Part.clk_setBit (p : Part) (o b : Nat) (v : Bool) : (p.setBit o b v).clk = p.clk := rfl
@[simp] theorem Part.clk_setInt64 (p : Part) (o : Nat) (i : Int) : (p.setInt64 o i).clk = p.clk := rfl
@[simp] theorem Part.clk_setGuard (p : Part) (q : Req) (g : Option GuardOpen) : (p.setGuard q g).clk = p.clk := rfl

/-- A fold whose steps keep the edge count keeps it. -/
theorem foldl_clk {α : Type} (f : Part → α → Part) (hf : ∀ p a, (f p a).clk = p.clk) (l : List α) (p : Part) :
    (l.foldl f p).clk = p.clk := by
  induction l generalizing p with
  | nil => rfl
  | cons a l ih => rw [List.foldl_cons, ih, hf]

@[simp] theorem Part.clk_endGuard (p : Part) (n : Nat) (q : Req) : (p.endGuard n q).clk = p.clk := by
  unfold Part.endGuard
  repeat' split
  all_goals simp

@[simp] theorem Part.clk_drainTx (p : Part) (n k : Nat) : (p.drainTx n k).clk = p.clk := by
  induction k generalizing p with
  | zero => rfl
  | succ k ih =>
    unfold Part.drainTx
    dsimp only
    repeat' split
    · rw [ih]
      rfl
    · rfl
    · rfl

@[simp] theorem Part.clk_drainAll (p : Part) : p.drainAll.clk = p.clk := foldl_clk _ (fun p _ => p.clk_drainTx _ _) _ _

@[simp] theorem Part.clk_syncOutputs (p : Part) : p.syncOutputs.clk = p.clk :=
  foldl_clk _ (fun _ _ => Part.clk_setReg _ _ _) _ _

@[simp] theorem Part.clk_syncFlags (p : Part) : p.syncFlags.clk = p.clk := Part.clk_syncOutputs _

@[simp] theorem Part.clk_endPull (p : Part) : p.endPull.clk = p.clk := by simp [Part.endPull, Part.tkHist]

@[simp] theorem Part.clk_endSlew (p : Part) : p.endSlew.clk = p.clk := by simp [Part.endSlew, Part.tkHist]

@[simp] theorem Part.clk_tickPull (p : Part) : p.tickPull.clk = p.clk := by
  unfold Part.tickPull
  dsimp only
  repeat' split
  all_goals simp

@[simp] theorem Part.clk_tickSlew (p : Part) : p.tickSlew.clk = p.clk := by
  unfold Part.tickSlew
  dsimp only
  repeat' split
  all_goals simp

@[simp] theorem Part.clk_tickOck (p : Part) (t : Int) : (p.tickOck t).clk = p.clk := by
  refine foldl_clk _ (fun x k => ?_) _ _
  dsimp only
  repeat' split
  · rfl
  · rw [foldl_clk _ (fun y i => by simp)]
    rfl
  · rfl

@[simp] theorem Part.clk_tickHigh (p : Part) : p.tickHigh.clk = p.clk := by
  unfold Part.tickHigh
  split <;> simp

@[simp] theorem Part.clk_tickTime (p : Part) : p.tickTime.clk = p.clk := by
  unfold Part.tickTime
  split
  · rfl
  · simp [Part.tickLoop]

/-- An edge passes, whatever ends at it. -/
theorem Part.clk_tick (p : Part) : p.tick.clk = p.clk + 1 := by
  rw [Part.tick, Part.clk_tickTime, Part.clk_drainAll, foldl_clk _ (fun p q => p.clk_endGuard _ q)]

/-! ### An edge at which nothing ends -/

/-- A part on which an edge ends no guard window and no injected frame. -/
theorem Part.drainAll_idle {p : Part} (htx : ∀ e ∈ p.clients, e.2.tx = []) : p.drainAll = p := by
  unfold Part.drainAll
  have hfold : ∀ l : SMap ClientSt, (∀ e ∈ l, e.2.tx = []) →
      l.foldl (fun (x : Part) e => x.drainTx e.1 e.2.tx.length) p = p := by
    intro l hl
    induction l with
    | nil => rfl
    | cons e l ih =>
      rw [List.foldl_cons, hl e List.mem_cons_self]
      exact ih fun d hd => hl d (List.mem_cons_of_mem e hd)
  exact hfold _ htx

theorem Part.endGuards_idle {p : Part} (hg : p.access.guards = []) (l : List Req) (n : Nat) :
    l.foldl (fun (x : Part) q => x.endGuard n q) p = p := by
  induction l with
  | nil => rfl
  | cons q l ih =>
    have hnone : p.guardOf q = none := by rw [Part.guardOf, hg]; rfl
    rw [List.foldl_cons, show p.endGuard n q = p by simp [Part.endGuard, hnone], ih]

theorem Part.tickOck_idle {p : Part} (hruns : ∀ k, k < 4 → p.outRuns k = false) (t : Int) : p.tickOck t = p := by
  have hfold : ∀ l : List Nat, (∀ k ∈ l, p.outRuns k = false) → ∀ f : Part → Nat → Part,
      l.foldl (fun (x : Part) k => if x.outRuns k then f x k else x) p = p := by
    intro l hl f
    induction l with
    | nil => rfl
    | cons k l ih =>
      rw [List.foldl_cons, hl k List.mem_cons_self]
      exact ih fun d hd => hl d (List.mem_cons_of_mem k hd)
  exact hfold _ (fun k hk => hruns k (List.mem_range.mp hk)) _

/-- An output begins pulses whatever local time is. -/
theorem Part.outRuns_setTime (p : Part) (t : TimeSt) (k : Nat) (h : t.realign = p.time.realign) :
    Part.outRuns { p with time := t } k = p.outRuns k := by
  simp only [Part.outRuns, h]
  rfl

section FreeRun

variable {p : Part} (hpull : p.pulling = false) (hslew : p.slewing = false)
  (hout : ∀ k, k < 4 → p.outRuns k = false) (hhigh : ∀ e ∈ p.time.high, e.2 ≠ p.clk)

include hpull hslew hout hhigh

/-- With no slew, no pull, no clock output running and no pulse ending, an edge moves the loop alone. -/
theorem Part.tickRest_idle (t : TimeSt) (u : Int) (hrealign : t.realign = p.time.realign)
    (hend : t.high = p.time.high) :
    (((Part.tickPull { p with time := t }).tickSlew).tickOck u).tickHigh = { p with time := t } := by
  have hpulled : Part.tickPull { p with time := t } = { p with time := t } := by
    have h : Part.pulling { p with time := t } = false := hpull
    simp [Part.tickPull, h]
  have hslewed : Part.tickSlew { p with time := t } = { p with time := t } := by
    have h : Part.slewing { p with time := t } = false := hslew
    simp [Part.tickSlew, h]
  have hocked : Part.tickOck { p with time := t } u = { p with time := t } :=
    Part.tickOck_idle (fun k hk => (Part.outRuns_setTime p t k hrealign).trans (hout k hk)) u
  have hended : (t.high.any fun e => e.2 == p.clk) = false := by
    rw [hend]
    exact List.any_eq_false.mpr fun e he => by simpa using hhigh e he
  rw [hpulled, hslewed, hocked, Part.tickHigh]
  exact if_neg (ne_true_of_eq_false hended)

/-- The time scale running free: local time moves by 4 ns at the loop's frequency. -/
theorem Part.tickTime_free (hrun : p.tkState ≠ 0) :
    p.tickTime = { p with time := { p.time with
      now := p.time.now + 262144 + (p.time.loopAcc + p.loopFreq) / 2 ^ 30,
      loopAcc := (p.time.loopAcc + p.loopFreq) % 2 ^ 30 } } := by
  rw [Part.tickTime, if_neg hrun]
  exact Part.tickRest_idle hpull hslew hout hhigh _ _ rfl rfl

end FreeRun

end Sys2Proof.Machine

namespace Sys2Proof

open Sys2Proof.Machine

/-- Settles O2: where no window is open and no frame under way, an edge is the edge of the time scale alone. -/
theorem idleStepTicks : Obligations.IdleStepTicks := by
  intro s hidle
  have hquiet (hg : s.part.access.guards = []) (htx : ∀ e ∈ s.part.clients, e.2.tx = []) :
      s.part.tick = Part.tickTime { s.part with clk := s.part.clk + 1 } := by
    rw [Part.tick, Part.endGuards_idle (by exact hg), Part.drainAll_idle (by exact htx)]
  refine ⟨s.part.tick, step_nil hidle, s.part.clk_tick, fun hg htx hstop => ?_,
    fun hg htx hrun hpull hslew hout hhigh => ?_⟩
  · rw [hquiet hg htx, Part.tickTime]
    exact if_pos hstop
  · rw [hquiet hg htx]
    exact Part.tickTime_free hpull hslew hout hhigh hrun

end Sys2Proof
end

section
/-! Power-on, the last gasp, reset pins, wakes and the boot (R52 to R61, R498, R507 to R521, R548). -/

namespace Sys2Proof.Machine

theorem completes_of {i : Instr} {s : State} {f : Part → Part} {P : State → Prop} (hexec : exec i s = onPart f s)
    (h : P { s with part := f s.part }) : Completes i s P :=
  ⟨_, hexec.trans (onPart_next f s), h⟩

/-! ### Wakes -/

/-- Where no wake may start, a wake event changes nothing. -/
theorem Part.startWake_refused {p : Part} (strap : BitVec 3) (h : ¬ MayWake p) : p.startWake strap = p := by
  refine if_pos (not_not.mp fun hcond => h ?_)
  simp only [not_or, ne_eq, not_not, Bool.not_eq_true, Bool.not_eq_false, Option.isSome_eq_false_iff,
    Option.isNone_iff_eq_none] at hcond
  exact hcond

theorem Part.startWake_may {p : Part} (strap : BitVec 3) (h : MayWake p) :
    p.startWake strap = if !p.supply.pwrgood || p.tapHolds then { p with supply := { p.supply with wakeHeld := true } }
      else wakeStarted strap p := by
  obtain ⟨hmode, htrans, hloss, hvin, hrst⟩ := h
  exact if_neg (by simp [hmode, htrans, hloss, hvin, hrst])

/-- A row that leaves the part as `p` and gives it the wake event does what a wake event does. -/
theorem wakes_of {i : Instr} {s : State} {strap : BitVec 3} {f : Part → Part} {p : Part} (hexec : exec i s = onPart f s)
    (hp : f s.part = p.startWake strap) : Wakes i s strap p := by
  refine ⟨fun hmay hgood hheld => yields_of hexec (hp.trans ?_), fun hmay hlow => yields_of hexec (hp.trans ?_),
    fun hmay => yields_of hexec (hp.trans (Part.startWake_refused strap hmay))⟩
  · rw [Part.startWake_may strap hmay]
    exact if_neg (by simp [hgood, hheld])
  · rw [Part.startWake_may strap hmay]
    exact if_pos (by simpa using hlow)

/-! ### Banks -/

/-- A bank lies in the journal. -/
theorem Part.setBank_eq (p : Part) (one : Bool) (b : Bank) : p.setBank one b = { p with
    journal := if one then { p.journal with bank1 := b } else { p.journal with bank0 := b } } := by
  cases one <;> rfl

theorem Part.otherBank_setBank (p : Part) (b : Bank) : (p.setBank (!p.journal.activeOne) b).otherBank = b := by
  cases h : p.journal.activeOne <;> simp [Part.setBank, Part.otherBank, Part.bank, h]

theorem Part.activeBank_setBank (p : Part) (b : Bank) :
    (p.setBank (!p.journal.activeOne) b).activeBank = p.activeBank := by
  cases h : p.journal.activeOne <;> simp [Part.setBank, Part.activeBank, Part.bank, h]

/-- The banks of two parts that hold the same banks. -/
theorem Part.banks_congr {p q : Part} (hzero : p.journal.bank0 = q.journal.bank0)
    (hone : p.journal.bank1 = q.journal.bank1) (hactive : p.journal.activeOne = q.journal.activeOne) :
    p.otherBank = q.otherBank ∧ p.activeBank = q.activeBank := by
  simp [Part.otherBank, Part.activeBank, Part.bank, hzero, hone, hactive]

end Sys2Proof.Machine

namespace Sys2Proof

open Sys2Proof.Machine

/-- Settles O8: each event sets what its branch says. -/
theorem powerOnAndBoot : Obligations.PowerOnAndBoot := by
  refine ⟨⟨fun s hvin hloss => ?vin, fun s hvin hloss => ?limiter, fun s strap hlim hgood hloss => ?pwrgood,
    fun s hgood hheld hloss => ?holdup⟩, ⟨fun s c0 g0 c1 g1 hmode htrans hstaged hactive hpass => ?active,
    fun s hmode htrans => ?none, fun s hmode htrans hstaged => ?fallback⟩⟩
  case vin =>
    refine completes_of (f := vinRise) rfl ?_
    rw [vinRise, hvin, hloss]
    rfl
  case limiter => exact completes_of (f := limiterOn) rfl (by simp [limiterOn, hvin, hloss])
  case pwrgood =>
    have hcond : (!s.part.supply.limiter || s.part.supply.pwrgood || s.part.supply.loss.isSome) = false := by
      simp [hlim, hgood, hloss]
    refine ⟨fun hheld hpins => completes_of (f := pwrgoodRelease strap) rfl ?_,
      fun hwake => wakes_of (f := pwrgoodRelease strap) rfl ?_⟩
    · have hno : (s.part.supply.wakeHeld || (s.part.supply.rstN && s.part.supply.perstN)) = false := by
        simpa [hheld] using hpins
      rw [pwrgoodRelease, hcond]
      exact congrArg (fun p => { s with part := p }) (if_neg (ne_true_of_eq_false hno))
    · have hyes : (s.part.supply.wakeHeld || (s.part.supply.rstN && s.part.supply.perstN)) = true := by
        simpa using hwake
      rw [pwrgoodRelease, hcond]
      exact if_pos hyes
  case holdup =>
    have hcond : (!s.part.supply.pwrgood || s.part.supply.holdup || s.part.supply.loss.isSome) = false := by
      simp [hgood, hheld, hloss]
    refine completes_of (f := holdupReady) rfl ?_
    rw [holdupReady, hcond]
    simp only [Bool.false_eq_true, if_false]
    split
    · exact ⟨rfl, rfl, rfl, rfl, rfl, ⟨rfl, rfl, rfl, rfl, rfl⟩, ⟨rfl, rfl, rfl, rfl, rfl, rfl⟩,
        ⟨⟨rfl, rfl, rfl, rfl, rfl, rfl, rfl⟩, ⟨rfl, rfl, rfl, rfl, rfl, rfl, rfl, rfl⟩, ⟨rfl, rfl, rfl⟩⟩,
        fun _ _ => rfl⟩
    · next hcharge =>
      exact ⟨rfl, rfl, rfl, rfl, rfl, ⟨rfl, rfl, rfl, rfl, rfl⟩, ⟨rfl, rfl, rfl, rfl, rfl, rfl⟩,
        ⟨⟨rfl, rfl, rfl, rfl, rfl, rfl, rfl⟩, ⟨rfl, rfl, rfl, rfl, rfl, rfl, rfl, rfl⟩, ⟨rfl, rfl, rfl⟩⟩,
        fun hcur hnone => absurd ⟨hcur, by rw [hnone]; rfl⟩ hcharge⟩
  case active =>
    refine completes_of (f := wakeComplete c0 g0 c1 g1) rfl (congrArg (fun p => { s with part := p }) ?_)
    have hcond : ¬ (s.part.md.cur ≠ .dormant ∨ s.part.md.trans.isNone = true) := by
      simpa [hmode] using Option.isSome_iff_ne_none.mp htrans
    rw [wakeComplete, if_neg hcond]
    refine (if_neg fun h => hstaged h.1).trans (if_pos ?_)
    exact (Bool.and_eq_true _ _).mpr ⟨hpass, beq_iff_eq.mpr hactive⟩
  case none =>
    refine completes_of (f := wakeComplete false false false false) rfl ?_
    have hcond : ¬ (s.part.md.cur ≠ .dormant ∨ s.part.md.trans.isNone = true) := by
      simpa [hmode] using Option.isSome_iff_ne_none.mp htrans
    have hnothing : wakeComplete false false false false s.part =
        let q : Machine.Part := { s.part with supply := { s.part.supply with bootCrc := 0#2, bootSig := 0#2 } }
        { q.toDormant with supply := { q.toDormant.supply with noImage := true } } := by
      rw [wakeComplete, if_neg hcond]
      simp
    rw [hnothing]
    exact ⟨rfl, rfl, rfl, rfl, rfl, rfl, rfl, rfl, rfl⟩
  case fallback =>
    refine completes_of (f := bootFallback) rfl ?_
    rw [bootFallback, if_pos ⟨hmode, htrans, hstaged⟩, Part.failStaged, if_pos hstaged]
    have hbanks {q : Machine.Part} (hq : q.journal = { (s.part.setBank (!s.part.journal.activeOne)
        { s.part.otherBank with use := .failed }).journal with fallback := true }) :=
      Part.banks_congr (congrArg (·.bank0) hq) (congrArg (·.bank1) hq) (congrArg (·.activeOne) hq)
    refine ⟨(hbanks ?_).1.trans (Part.otherBank_setBank _ _), (hbanks ?_).2.trans (Part.activeBank_setBank _ _),
      ?_, ?_, ?_, ?_, ?_, ?_⟩
    · simp [Part.fwHist]
    · simp [Part.fwHist]
    · simp [Part.fwHist]
    · simp [Part.fwHist, Part.setBank_eq]
    · simp [Part.fwHist, Part.setBank_eq]
    · simp [KeepsHost, Part.fwHist, Part.setBank_eq]
    · simp [KeepsHub, Part.fwHist, Part.setBank_eq]
    · simp [KeepsPath, KeepsLines, KeepsClients, KeepsTwin, Part.fwHist, Part.setBank_eq]

/-- Settles O9: the sequence's three rows, each by its branch. -/
theorem lastGaspSequence : Obligations.LastGaspSequence := by
  refine ⟨fun s high hvin hloss => ?loss, fun s l hl hrec w hw => ?record, fun s l hl hrec => ?none, fun s l hl => ?off⟩
  case loss =>
    have hcond : (!s.part.supply.vin || s.part.supply.loss.isSome) = false := by simp [hvin, hloss]
    have hlost : (supplyLoss high s.part).md.cur = .dormant := by
      rw [supplyLoss, hcond]
      rfl
    refine ⟨_, rfl, ?_, ?_, rfl, rfl⟩
    · change supplyLoss high s.part = _
      rw [supplyLoss, hcond]
      rfl
    · change (if (supplyLoss high s.part).md.cur = .dormant ∧ s.part.md.cur ≠ .dormant then [] else s.window) = _
      by_cases hmode : s.part.md.cur = .dormant <;> simp [hmode, hlost]
  case record =>
    refine yields_of (f := lastGaspRecordWrite) rfl ?_
    subst hw
    simp only [lastGaspRecordWrite, hl, hrec, if_true]
    rfl
  case none =>
    change Yields .lastGaspRecordWrite s s.part
    refine yields_of (f := lastGaspRecordWrite) rfl ?_
    simp [lastGaspRecordWrite, hl, hrec]
  case off =>
    refine yields_of (f := lastGaspPowerOff) rfl ?_
    rw [lastGaspPowerOff, hl]
    rfl

/-- Settles O10: a wake event is `startWake` at the part that the pins leave. -/
theorem resetPinsAndWakes : Obligations.ResetPinsAndWakes := by
  refine ⟨fun s hloss => ?low, fun s l hl hmode => ?gasp, fun s strap hrst =>
    ⟨fun hperst => ?rise, fun hperst => ?held⟩,
    fun s strap hperst => ⟨fun hmode => ?release, fun hmode => ?running⟩,
    fun s k strap => wakes_of (f := cirumlinkWakeRx k strap) rfl rfl⟩
  case low =>
    have hlow : rstNLow s.part = { s.part.toDormant with
        supply := { s.part.toDormant.supply with rstN := false, wakeHeld := false } } := by
      simp [rstNLow, hloss]
    refine ⟨_, rfl, hlow, ?_, rfl, rfl⟩
    change (if (rstNLow s.part).md.cur = .dormant ∧ s.part.md.cur ≠ .dormant then [] else s.window) = _
    by_cases hmode : s.part.md.cur = .dormant <;> simp [hmode, hlow, Part.toDormant]
  case gasp =>
    change onPower rstNLow s = _
    simp [onPower, rstNLow, hl, hmode]
  case rise => exact wakes_of (f := rstNRise strap) rfl (by simp [rstNRise, hrst, hperst])
  case held => exact yields_of (f := rstNRise strap) rfl (by simp [rstNRise, hrst, hperst])
  case release => exact wakes_of (f := perstNRelease strap) rfl (by simp [perstNRelease, hperst, hmode])
  case running =>
    refine yields_of (f := perstNRelease strap) rfl ?_
    simp [perstNRelease, hperst, hmode, Part.setReg]

end Sys2Proof
end

section
/-! Mode commands, and how DRAIN and RENEW end and power domains return (R54 to R77, R167, R498, R521). -/

namespace Sys2Proof.Machine

/-! ### MODE.ENTER, by what its P0 names and what the part may do -/

section Enter

variable {t : Fin 1024} {p : Part} {m : Mode} (hruns : p.runs t 0x0101 = true)

include hruns

theorem modeEnter_none (hm : Mode.ofCode (fieldOf (p.par t 0) 3 0) = none) : modeEnter t p = p.reject t 0x11 0 := by
  simp only [modeEnter, hruns, hm]
  rfl

variable (hm : Mode.ofCode (fieldOf (p.par t 0) 3 0) = some m)

include hm

theorem modeEnter_freeze (hfreeze : m = .freeze) :
    modeEnter t p = ((p.setTagState t .committed).toFreeze p.softFreeze).done t 11#64 0#32 := by
  subst hfreeze
  simp only [modeEnter, hruns, hm]
  rfl

/-- Any other mode: a transition under way, the mode the part is in, DRAIN or cores away, and R54's table in turn. -/
theorem modeEnter_mode (hfreeze : m ≠ .freeze) : modeEnter t p =
    if p.md.trans.isSome then p.reject t 0x12 0
    else if m = p.md.cur then p.done t (BitVec.ofNat 64 m.code) 0#32
    else if p.md.cur = .drain ∨ p.coresAway = true then p.reject t 0x12 0
    else if !p.mayEnter m then p.reject t 0x10 p.md.cur.code
    else { p.setTagState t .committed with
      md := { p.md with
        trans := some {
          target := if p.md.cur = .fit ∧ m = .carry then .listen else m, dest := m, tag := some t.val },
        final := if m = .drain then (Mode.ofCode (fieldOf (p.par t 0) 7 4)).getD .inert else p.md.final } } := by
  simp only [modeEnter, hruns, hm, hfreeze, Bool.not_true, Bool.false_eq_true, if_false]
  rfl

end Enter

end Sys2Proof.Machine

namespace Sys2Proof

open Sys2Proof.Machine

/-- Settles O11: the answers of `modeEnter_mode` in turn. -/
theorem modeEnterAnswers : Obligations.ModeEnterAnswers := by
  refine ⟨fun s t m hruns hm hfreeze => ?modes,
    fun s t hruns hm => yields_of (f := modeEnter t) rfl (modeEnter_none hruns hm),
    fun s t hruns hm => yields_of (f := modeEnter t) rfl (modeEnter_freeze hruns hm rfl)⟩
  have hmode := modeEnter_mode hruns hm hfreeze
  have hyields {p : Machine.Part} (hp : modeEnter t s.part = p) : Yields (.modeEnter t) s p :=
    yields_of (f := modeEnter t) rfl hp
  refine ⟨fun htrans hne hdrain hcores hmay => hyields ?_, fun htrans hsame => hyields ?_, fun htrans => hyields ?_,
    fun htrans hne hbusy => hyields ?_, fun htrans hne hdrain hcores hmay => hyields ?_⟩
  · rw [hmode, htrans, if_neg (by simp), if_neg hne, if_neg (by simp [hdrain, hcores]), if_neg (by simp [hmay])]
  · rw [hmode, htrans, if_neg (by simp), if_pos hsame]
  · rw [hmode, if_pos htrans]
  · rw [hmode, htrans, if_neg (by simp), if_neg hne, if_pos hbusy]
  · rw [hmode, htrans, if_neg (by simp), if_neg hne, if_neg (by simp [hdrain, hcores]), if_pos (by simp [hmay])]

/-- Settles O13: each row by its branch. -/
theorem modeStateAndResume : Obligations.ModeStateAndResume := by
  refine ⟨fun s t hruns => yields_of (f := modeState t) rfl ?_, fun s t hruns => yields_of (f := modeResume t) rfl ?_,
    fun s hmode htrans hresume hwoken => yields_of (f := resumeStart) rfl ?_⟩
  · simp only [modeState, hruns]
    rfl
  · simp only [modeResume, hruns]
    rfl
  · rw [resumeStart, if_pos ⟨hmode, by rw [htrans]; rfl, hresume, hwoken⟩]
    cases s.part.journal.hasSet <;> rfl

/-- Settles O14: each row by its branch. -/
theorem drainRenewAndReturns : Obligations.DrainRenewAndReturns := by
  refine ⟨⟨fun s hmode htrans hleft => yields_of (f := drainComplete) rfl
      (if_pos ⟨hmode, by rw [htrans]; rfl, by rw [hleft]; rfl⟩),
    fun s hmode htrans => yields_of (f := drainTimeout) rfl (if_pos ⟨hmode, by rw [htrans]; rfl⟩)⟩,
    ⟨fun s hmode hrest => yields_of (f := renewImageRunning) rfl ?_,
      fun s hmode hrest => yields_of (f := renewImageRunning) rfl ?_,
      fun s hmode hout => yields_of (f := renewImageRunning) rfl ((if_neg hmode).trans (if_pos hout)),
      fun s hmode hrest => yields_of (f := renewTimeout) rfl (if_pos ⟨hmode, hrest⟩),
      fun s hmode hrest => yields_of (f := firmwareFault) rfl (if_pos ⟨hmode, hrest⟩)⟩,
    ⟨fun s d hgroup hmode => yields_of (f := domainIdleReturn d) rfl ?_,
      fun s d hstay => yields_of (f := domainIdleReturn d) rfl ?_,
      fun s hset hrefused hdone => yields_of (f := pdResetReload) rfl ?_⟩⟩
  · rw [renewImageRunning, if_pos hmode, hrest]
    rfl
  · rw [renewImageRunning, if_pos hmode, hrest]
    rfl
  · exact if_neg (not_or.mpr ⟨hgroup, hmode⟩)
  · exact if_pos hstay
  · have hset' : (s.part.reg 0x6048).getLsbD 31 = true := hset
    have hrefused' : (s.part.reg 0x6048).getLsbD 30 = false := hrefused
    have hdone' : (s.part.reg 0x6048).getLsbD 29 = false := hdone
    simp only [pdResetReload, hset', hrefused', hdone']
    rfl

end Sys2Proof
end

section
/-! Row retirement and journal blocks (R471, R472, R477), and the faults that containment takes (R483, R484). -/

namespace Sys2Proof.Machine

/-- A row that acts on the part alone and may change a signal. -/
theorem yields_of_signals {i : Instr} {s : State} {f : Part → Part} {p : Part} (hexec : exec i s = onSignals f s)
    (hp : f s.part = p) : Yields i s p.signals := by
  rw [Yields, hexec, onSignals_next, hp]

/-! ### Contained faults -/

section Contained

variable {p : Part} {code island cand : Nat} {detail : Word} {contain : Part → Part}

theorem Part.containedFault_runs (hdormant : p.md.cur ≠ .dormant) (hfreeze : p.md.cur ≠ .freeze) :
    p.containedFault code island cand detail contain =
      (contain (p.partFault code island detail)).offerFault (p.faultInfo code island 0 detail) cand :=
  (if_neg hdormant).trans (if_neg hfreeze)

theorem Part.containedFault_freeze (hfreeze : p.md.cur = .freeze) :
    p.containedFault code island cand detail contain = p.partFault code island detail :=
  (if_neg (by simp [hfreeze])).trans (if_pos hfreeze)

end Contained

/-- A fault fence of MEM, which is not fenced yet: its requests are answered, and what stands behind it stops. -/
theorem Part.faultFence_mem {p : Part} (h : p.selvState 25 ≠ 2) :
    p.faultFence 25 {} =
      let q := p.selvDrain 25 {}
      let q := if p.selvState 25 = 1 then q else (q.addWrap (selvReg 25 0x14) 1).fabricHist 0
      ((q.setSelv 25 2).setBit (selvReg 25 0) 8 true).fenceIsland 25 :=
  if_neg h

end Sys2Proof.Machine

namespace Sys2Proof

open Sys2Proof.Machine

/-- Settles O15: each row by its branch. -/
theorem retireAndJournalBlocks : Obligations.RetireAndJournalBlocks := by
  refine ⟨fun s c row => ⟨fun hback hmarch h => ?stopped, fun hmem h => ?fenced, fun hmarch hmem h => ?marching⟩,
    fun s c row hback hmarch hmem => ⟨?hard, ?soft⟩, fun p c row hspare hnew => if_neg ?begin,
    fun p c row hno => if_pos hno,
    fun s c row hretiring hfreeze => ?complete, fun s c row hfreeze => ?frozen, fun s b hready => ?journal⟩
  case stopped =>
    exact yields_of (f := rowRetireStart c row h) rfl (if_pos (by simp [hback, hmarch]))
  case fenced =>
    exact yields_of (f := rowRetireStart c row h) rfl (if_pos (by simp [hmem]))
  case marching =>
    exact yields_of (f := rowRetireStart c row h) rfl
      ((if_neg (by simp [hmarch, hmem])).trans (if_pos (by simp [hmarch])))
  case hard =>
    exact yields_of (f := rowRetireStart c row true) rfl ((if_neg (by simp [hback, hmem])).trans (if_pos (by simp)))
  case soft =>
    exact yields_of (f := rowRetireStart c row false) rfl
      ((if_neg (by simp [hback, hmem])).trans (if_neg (by simp [hmarch])))
  case begin => exact not_or.mpr ⟨Nat.not_le.mpr hspare, ne_true_of_eq_false hnew⟩
  case complete =>
    exact yields_of (f := rowRetireComplete c row) rfl (if_neg (by rw [hretiring]; simpa using hfreeze))
  case frozen =>
    exact yields_of (f := rowRetireComplete c row) rfl (if_pos (by simp [hfreeze]))
  case journal =>
    intro q
    have hpow : ¬ (!s.part.supply.holdup) = true := by simp [hready]
    have hyields {v : Bool} {p : Machine.Part} (hp : journalBlockWrite b v s.part = p) :
        Yields (.journalBlockWrite b v) s p := yields_of (f := journalBlockWrite b v) rfl hp
    have hverified : journalBlockWrite b true s.part =
        if q.wearMin + 65536 ≤ q.wearOf b then q.relocate
        else if q.wearMin + 32768 < q.wearOf b then q.offer 10 b 1 3#32 (applyRelocate b)
        else q := (if_neg hpow).trans (if_neg Bool.false_ne_true)
    have hfailed : journalBlockWrite b false s.part =
        if s.part.journal.spares = 0 then s.part.hist 0xB030 2 2
        else Part.hist { s.part.setWear b 1 with
          journal := { (s.part.setWear b 1).journal with
            spares := s.part.journal.spares - 1, relocs := s.part.journal.relocs + 1 } } 0xB030 2 2 :=
      (if_neg hpow).trans (if_pos rfl)
    refine ⟨fun hfar => hyields (hverified.trans (if_pos hfar)), fun hnear hahead => hyields (hverified.trans ?_),
      fun hclose => hyields (hverified.trans ?_), fun hspare => hyields (hfailed.trans (if_neg hspare)),
      fun hspare => hyields (hfailed.trans (if_pos hspare))⟩
    · exact (if_neg (Nat.not_le.mpr hnear)).trans (if_pos hahead)
    · refine (if_neg (Nat.not_le.mpr (Nat.lt_of_le_of_lt hclose ?_))).trans (if_neg (Nat.not_lt.mpr hclose))
      exact Nat.add_lt_add_left (by decide) _

/-- Settles O16: containment outside FREEZE, the fault's record in it, and MEM's fence by its definition. -/
theorem islandFaultsContained : Obligations.IslandFaultsContained := by
  refine ⟨fun s hdormant hfreeze => ?contained, fun p hstate => ?fence, fun s k d hfreeze => ?frozen⟩
  case contained =>
    have hruns {code island cand : Nat} {detail : Word} {contain : Machine.Part → Machine.Part} :=
      Part.containedFault_runs (p := s.part) (code := code) (island := island) (cand := cand) (detail := detail)
        (contain := contain) hdormant hfreeze
    intro offered
    exact ⟨fun k d => yields_of_signals (f := fun p => p.sliceFault k d) rfl hruns,
      fun d => yields_of_signals (f := fun p => p.weftFault d) rfl hruns,
      fun d => yields_of_signals (f := fun p => p.ringFault d) rfl hruns,
      fun d => yields_of_signals (f := fun p => p.memFault d) rfl hruns⟩
  case fence =>
    exact Part.faultFence_mem (by rcases hstate with h | h <;> rw [h] <;> decide)
  case frozen =>
    have hrec {code island cand : Nat} {detail : Word} {contain : Machine.Part → Machine.Part} :=
      Part.containedFault_freeze (p := s.part) (code := code) (island := island) (cand := cand) (detail := detail)
        (contain := contain) hfreeze
    exact ⟨yields_of_signals (f := fun p => p.sliceFault k d) rfl hrec,
      yields_of_signals (f := fun p => p.weftFault d) rfl hrec,
      yields_of_signals (f := fun p => p.memFault d) rfl hrec,
      yields_of_signals (f := fun p => p.ringFault d) rfl hrec⟩

/-- Settles O17: containment by each fault's own definition. -/
theorem partFaultsContained : Obligations.PartFaultsContained := by
  refine ⟨fun s hdormant hfreeze => ?contained, fun s b hspare => ?spare⟩
  case contained =>
    have hruns {code island cand : Nat} {detail : Word} {contain : Machine.Part → Machine.Part} :=
      Part.containedFault_runs (p := s.part) (code := code) (island := island) (cand := cand) (detail := detail)
        (contain := contain) hdormant hfreeze
    intro offered
    refine ⟨fun d => ?core, fun c lost => ?channel,
      fun d => yields_of (f := fun p => p.containedFault 8 0xFF 1 d id) rfl hruns,
      fun b hspare => yields_of (f := fun p => if p.journal.spares = 0 then
        p.containedFault 9 0xFF 0 (BitVec.ofNat 32 b) id else p) rfl ((if_pos hspare).trans hruns)⟩
    case core =>
      intro q
      refine ⟨fun hthere => yields_of_signals (f := fun p => p.coreFault d) rfl (hruns.trans ?_),
        fun haway => yields_of_signals (f := fun p => p.coreFault d) rfl (hruns.trans ?_)⟩
      · exact congrArg (fun x => offered 7 0xFF 0 d x) (if_neg (ne_true_of_eq_false hthere))
      · exact congrArg (fun x => offered 7 0xFF 0 d x) (if_pos haway)
    case channel =>
      intro q
      refine ⟨fun hnew => yields_of_signals (f := fun p => p.channelFault c lost) rfl (hruns.trans ?_),
        fun hold => yields_of_signals (f := fun p => p.channelFault c lost) rfl (hruns.trans ?_)⟩
      · exact congrArg (fun x => offered 3 25 0 (BitVec.ofNat 32 c) x) (if_neg (ne_true_of_eq_false hnew))
      · exact congrArg (fun x => offered 3 25 0 (BitVec.ofNat 32 c) x) (if_pos hold)
  case spare =>
    exact yields_of (f := fun p => if p.journal.spares = 0 then p.containedFault 9 0xFF 0 (BitVec.ofNat 32 b) id
      else p) rfl (if_neg hspare)

end Sys2Proof
end

section
/-! The command window, the life cycle of a tag, and the commands of BASTE, UNPICK and QUERY (R84, R149 to R177). -/

namespace Sys2Proof.Machine

/-- A row past its first check. -/
theorem if_holds {α : Type} {b : Bool} (h : b = true) {x y : α} : (if (!b) = true then x else y) = y :=
  if_neg (by simp [h])

theorem if_fails {α : Type} {b : Bool} (h : b = false) {x y : α} : (if (!b) = true then x else y) = x :=
  if_pos (by simp [h])

theorem if_off {α : Type} {b : Bool} (h : b = false) {x y : α} : (if b = true then x else y) = y :=
  if_neg (ne_true_of_eq_false h)

theorem toNat_decide (P : Prop) [Decidable P] : (decide P).toNat = if P then 1 else 0 := by
  by_cases h : P <;> simp [h]

/-! ### The window -/

/-- What a write of words stores lies within its words. -/
theorem byteAt_storeWords (p : Part) (ws : List Word) (m : Memory) (o a : Nat) (h : a < o ∨ o + 4 * ws.length ≤ a) :
    (storeWords p m o ws).byteAt a = m.byteAt a := by
  induction ws generalizing m o with
  | nil => rfl
  | cons w ws ih =>
    simp only [List.length_cons] at h
    rw [storeWords, ih _ _ (by omega)]
    split
    · rfl
    · exact Memory.byteAt_writeWord_outside _ _ _ _ (by omega)

theorem slotWrite_up {s : State} {o : Nat} {ws : List Word} (hup : s.part.bar2Up = true) : s.slotWrite o ws =
    if !s.part.memActive then { s with part := s.part.addSat 0x403C 1 }
    else { s with window := storeWords s.part s.window o ws,
                  part := if touchesFlight s.part o ws then s.part.addSat 0x4038 1 else s.part } := if_holds hup

end Sys2Proof.Machine

namespace Sys2Proof

open Sys2Proof.Machine

/-- Settles O21: a write word by word, outside which every byte stays (`byteAt_storeWords`). -/
theorem slotWriteStores : Obligations.SlotWriteStores := by
  intro s o ws
  refine ⟨fun hup hactive => ⟨_, rfl, ?stored, ?frame⟩, fun w m => ⟨rfl, rfl, rfl, rfl⟩, fun hup hearly => ?early,
    fun n hup => ?read, fun hdown => ⟨?write, fun n => ?readDown⟩⟩
  case stored => exact (slotWrite_up hup).trans (if_holds hactive)
  case frame =>
    intro a ha
    rw [slotWrite_up hup, if_holds hactive]
    exact byteAt_storeWords s.part ws s.window o a ha
  case early => exact congrArg Host.Outcome.next ((slotWrite_up hup).trans (if_fails hearly))
  case read => exact congrArg Host.Outcome.next (if_pos hup)
  case write => exact congrArg Host.Outcome.next (if_fails hdown)
  case readDown => exact congrArg Host.Outcome.next (if_off hdown)

/-- Settles O22: the checks once, then the ordering; a timeout and an abort by the tag's state. -/
theorem tagLifeCycle : Obligations.TagLifeCycle := by
  refine ⟨fun s t hqueued => ?copy, fun s t habort hlimit => ?timeout, fun s t hcommitted hop => ?abort⟩
  case copy =>
    have hcopy : slotCopy t s.part = if (s.part.tag t).checked then s.part.startTag t
        else match s.part.acceptance t with
          | some (st, d) => s.part.reject t st d
          | none => (s.part.setTag t { s.part.tag t with checked := true }).startTag t :=
      if_neg (not_not_intro hqueued)
    intro started
    refine ⟨fun hnew hok => yields_of (f := slotCopy t) rfl ?_,
      fun st d hnew hbad => yields_of (f := slotCopy t) rfl ?_,
      fun hchecked => yields_of (f := slotCopy t) rfl (hcopy.trans (if_pos hchecked))⟩
    · rw [hcopy, if_off hnew, hok]
      rfl
    · rw [hcopy, if_off hnew, hbad]
  case timeout =>
    exact yields_of (f := commandTimeout t) rfl (if_pos (by simp [habort, hlimit]))
  case abort =>
    intro u
    have habort : abortCmd t s.part = if u = t.val ∨ (s.part.tag u).st = .free then s.part.reject t 0x11 0
        else if s.part.abortable u then (s.part.stopTag u 0x13 1).done t 0#64 0#32 else s.part.reject t 0x14 0 :=
      if_neg (by simp [hcommitted, hop])
    have hyields {p : Machine.Part} (hp : abortCmd t s.part = p) : Yields (.abort t) s p :=
      yields_of (f := abortCmd t) rfl hp
    exact ⟨fun hbad => hyields (habort.trans (if_pos hbad)),
      fun hself hfree hable => hyields (habort.trans ((if_neg (not_or.mpr ⟨hself, hfree⟩)).trans (if_pos hable))),
      fun hself hfree hnot => hyields (habort.trans ((if_neg (not_or.mpr ⟨hself, hfree⟩)).trans (if_off hnot)))⟩

/-- Settles O23: a list of triples is basted or refused as a whole. -/
theorem basteAndUnpick : Obligations.BasteAndUnpick := by
  refine ⟨fun q t first ws => ⟨fun b sel hok => ?good, fun k j hbad => ?bad⟩,
    fun s t hruns => yields_of (f := basteFields t) rfl (if_holds hruns), fun s t hruns => ?image,
    fun s t hruns => yields_of (f := unpick t) rfl (if_holds hruns)⟩
  case good =>
    have hbaste : q.baste t first ws = if 65536 < b.length then q.reject t 0x18 0
        else ((q.setTagState t .committed).setBasted b).done t (BitVec.ofNat 64 (fieldCount sel)) 0#32 := by
      rw [Part.baste, hok]
      rfl
    exact ⟨fun hfit => hbaste.trans (if_neg (Nat.not_lt.mpr hfit)), fun hover => hbaste.trans (if_pos hover)⟩
  case bad =>
    rw [Part.baste, hbad]
    rfl
  case image =>
    intro a n r
    have himage : basteImage t s.part = if !s.part.inScratch a n then s.part.reject t 0x11 0
        else if crc32c r.2 ≠ s.part.par t 3 then r.1.reject t 0x19 2
        else r.1.baste t none (wordsOfBytes r.2) := if_holds hruns
    have hyields {p : Machine.Part} (hp : basteImage t s.part = p) : Yields (.basteImage t) s p :=
      yields_of (f := basteImage t) rfl hp
    exact ⟨fun hout => hyields (himage.trans (if_fails hout)),
      fun hin hcrc => hyields (himage.trans ((if_holds hin).trans (if_pos hcrc))),
      fun hin hcrc => hyields (himage.trans ((if_holds hin).trans (if_neg (not_not_intro hcrc))))⟩

/-- Settles O24: each row by its branch. -/
theorem queriesAndDecisions : Obligations.QueriesAndDecisions := by
  refine ⟨⟨fun s r n => ⟨fun hrcv hfull => yields_of (f := mailboxRead r n) rfl (if_pos ⟨hrcv, hfull⟩),
    fun hnot => yields_of (f := mailboxRead r n) rfl (if_neg ?other)⟩, fun s serial d hfreeze hopen => ?deadline⟩,
    ⟨fun s t hruns => ?latency, fun s t hruns => ?undelivered, fun s t hruns => ?records⟩⟩
  case other =>
    rintro ⟨hrcv, hfull⟩
    rcases hnot with h | h
    · exact h hrcv
    · exact ne_true_of_eq_false h hfull
  case deadline =>
    have hrow : decisionDeadline serial s.part = if d.deadline < s.part.clk then
        (((s.part.dropDecision serial).countMissed d.func).applyDecision d false d.cand).signals else s.part := by
      rw [decisionDeadline, if_neg hfreeze, hopen]
    exact ⟨fun hpast => yields_of (f := decisionDeadline serial) rfl (hrow.trans (if_pos hpast)),
      fun htime => yields_of (f := decisionDeadline serial) rfl (hrow.trans (if_neg (Nat.not_lt.mpr htime)))⟩
  case latency =>
    refine ⟨fun n hpath => yields_of (f := queryLatency t) rfl ?_, fun hnone => yields_of (f := queryLatency t) rfl ?_⟩
    · rw [queryLatency, if_holds hruns, hpath]
    · rw [queryLatency, if_holds hruns, hnone]
      cases s.part.pathEnds (s.part.par t 0) true <;> rfl
  case undelivered =>
    intro n q
    refine yields_of (f := queryUndelivered t) rfl ((if_holds hruns).trans ?_)
    dsimp only
    rw [toNat_decide]
    rfl
  case records =>
    intro w o n r
    have hrow : queryRecords t s.part = if w.2 ≤ o then s.part.reject t 0x11 1
        else if w.2 < o + n then s.part.reject t 0x11 3
        else r.1.doneBulkOf t (s.part.recordBytes (if s.part.par t 0 = 1#32 then 64 else 32) (w.1 + o) r.2) n
          0#64 0#32 :=
      if_holds hruns
    have hyields {p : Machine.Part} (hp : queryRecords t s.part = p) : Yields (.queryRecords t) s p :=
      yields_of (f := queryRecords t) rfl hp
    exact ⟨fun hin hend => hyields (hrow.trans ((if_neg (Nat.not_le.mpr hin)).trans (if_neg (Nat.not_lt.mpr hend)))),
      fun hout => hyields (hrow.trans (if_pos hout)),
      fun hin hlong => hyields (hrow.trans ((if_neg (Nat.not_le.mpr hin)).trans (if_pos hlong)))⟩

end Sys2Proof
end

section
/-! Self-tests, fault records and background tasks (R473 to R482, R485). -/

namespace Sys2Proof

open Sys2Proof.Machine

/-- Settles O19: each row by its branch. -/
theorem testsAndRecords : Obligations.TestsAndRecords := by
  refine ⟨fun s t hruns => ?run, fun s t hruns => ?result, fun s b inst r e f hon => ?ends,
    fun s t hruns => yields_of (f := modeHold t) rfl (if_holds hruns), fun s hrec => ?record⟩
  case run =>
    intro new q
    have hrow : testRun t s.part =
        if fieldOf (s.part.par t 0) 19 16 ≠ 0 ∧ s.part.md.cur ≠ .prove then s.part.reject t 0x10 s.part.md.cur.code
        else if new.isEmpty then s.part.reject t 0x12 0
        else (if s.part.md.cur = .prove then { q with back := { q.back with intrusive := true } } else q).done t
          (BitVec.ofNat 64 (new.foldl (fun n b => n + 2 ^ b) 0)) 0#32 := if_holds hruns
    have hyields {p : Machine.Part} (hp : testRun t s.part = p) : Yields (.testRun t) s p :=
      yields_of (f := testRun t) rfl hp
    have hempty (h : new = []) : new.isEmpty = true := List.isEmpty_iff.mpr h
    have hsome (h : new ≠ []) : ¬ new.isEmpty = true := fun he => h (List.isEmpty_iff.mp he)
    refine ⟨fun hintr hmode => hyields (hrow.trans (if_pos ⟨hintr, hmode⟩)),
      fun hmay hnone => hyields (hrow.trans ((if_neg ?_).trans (if_pos (hempty hnone)))),
      fun hmode hnew => hyields (hrow.trans ((if_neg fun h => h.2 hmode).trans ((if_neg (hsome hnew)).trans ?_))),
      fun hmode hquiet hnew => hyields
        (hrow.trans ((if_neg fun h => h.1 hquiet).trans ((if_neg (hsome hnew)).trans ?_)))⟩
    · rintro ⟨hintr, hmode⟩
      exact hmay.elim hintr hmode
    · rw [if_pos hmode]
    · rw [if_neg hmode]
  case result =>
    intro recs n
    refine yields_of (f := testResult t) rfl ((if_holds hruns).trans ?_)
    dsimp only
    rw [toNat_decide]
    rfl
  case ends =>
    intro q q'
    have hrow : scopeEnd b inst r e f s.part =
        if q'.md.cur = .prove ∧ q'.back.intrusive = true ∧ q'.reg 0xB050 = 0#32 ∧ q'.md.trans.isNone = true then
          { q' with md := { q'.md with trans := some { target := .fit, dest := .fit } },
                    back := { q'.back with intrusive := false } }
        else q' := if_holds hon
    refine ⟨fun hmode hintr hreg htrans => yields_of (f := scopeEnd b inst r e f) rfl (hrow.trans (if_pos ?_)),
      fun hstay => yields_of (f := scopeEnd b inst r e f) rfl (hrow.trans (if_neg ?_))⟩
    · exact ⟨hmode, hintr, hreg, Option.isNone_iff_eq_none.mpr htrans⟩
    · rintro ⟨hmode, hintr, hreg, htrans⟩
      rcases hstay with h | h | h | h
      · exact h hmode
      · exact ne_true_of_eq_false h hintr
      · exact h hreg
      · exact h (Option.isNone_iff_eq_none.mp htrans)
  case record =>
    have hempty : s.part.back.record.isEmpty = false := by simpa using hrec
    refine ⟨fun hready hroom => yields_of (f := faultRecordWrite) rfl (if_neg (by simp [hempty, hready, hroom])),
      fun hwait => yields_of (f := faultRecordWrite) rfl (if_pos ?_)⟩
    rcases hwait with h | h <;> simp [h]

/-- Settles O20: each row by its branch. -/
theorem backgroundTasks : Obligations.BackgroundTasks := by
  refine ⟨fun s l k hback hon hdone hlow hhigh => ⟨fun htime => ?step, fun hstepped hsoon => ?soon⟩,
    fun s l hback => yields_of (f := telemetrySample l) rfl (if_holds hback), fun s c h hback => ?scrub⟩
  case step =>
    refine yields_of (f := adaptTrim l k) rfl (if_pos ?_)
    simpa [hback, hon, hdone, hlow, hhigh] using htime
  case soon =>
    refine yields_of (f := adaptTrim l k) rfl (if_neg ?_)
    simp only [hback, hon, hdone, hlow, hhigh, hstepped, beq_iff_eq, decide_true, Bool.and_true, Bool.true_and,
      Bool.or_eq_true, decide_eq_true_eq, false_or]
    exact Nat.not_le.mpr hsoon
  case scrub =>
    refine ⟨fun hclear => ?_, fun hset => ?_, fun hopen => ?_⟩
    · exact yields_of_signals (f := scrubPassComplete true c h) rfl
        ((if_holds hback).trans ((if_pos rfl).trans (if_off hclear)))
    · exact yields_of_signals (f := scrubPassComplete true c h) rfl
        ((if_holds hback).trans ((if_pos rfl).trans (if_pos hset)))
    · exact yields_of_signals (f := scrubPassComplete false c h) rfl
        ((if_holds hback).trans ((if_neg Bool.false_ne_true).trans (if_neg (by simp [hopen]))))

end Sys2Proof
end

section
/-! The host's link, its configuration space, MSI-X, the decoder, IDE and DOE (R78 to R104, R555, R557). -/

namespace Sys2Proof.Machine

/-- A group's vector has the group's hold-off. -/
theorem Part.holdoff_group (p : Part) (g : Fin 12) : p.holdoff g = p.field (holdoffReg g) 9 0 :=
  if_pos g.isLt

/-- The vectors from 16 on are the taps'. -/
theorem Part.holdoff_tap (p : Part) (n : Fin 48) : p.holdoff (16 + n) = p.field (tapReg n 0x14) 9 0 := by
  unfold Part.holdoff
  rw [if_neg (by omega), if_neg (by omega), Nat.add_sub_cancel_left]
  rfl

theorem cxlLinkUp_trains {p : Part} {w g : Nat} {c : Bool} (hpow : p.hostPowered = true)
    (hperst : p.supply.perstN = true)
    (hdown : p.host.linkUp = false) (hopen : p.selvState 27 = 0) (hw : [1, 2, 4, 8].contains w = true)
    (hg : [8, 16, 32].contains g = true) :
    cxlLinkUp w g c p =
      let q : Part := { p with host := { p.host with linkUp := true, width := w, gts := g, cxl := c },
                               supply := { p.supply with hostFenced := false } }
      if w = 8 ∧ g = 32 ∧ c = true then q
      else q.announce 10 "LINK_DEGRADED" 0 (BitVec.ofNat 64 (w + g * 256 + c.toNat * 65536)) :=
  if_neg (by rw [hpow, hperst, hdown, hopen, hw, hg]; decide)

theorem Part.sendPba_open {p : Part} {v : Fin 64} (hset : p.host.pba.getLsbD v = true) (hen : p.host.msixEn = true)
    (hopen : p.vectorShut v = false) :
    p.sendPba v =
      Part.formVector { p with host := { p.host with pba := setBit64 p.host.pba v false } } v (p.holdoff v) :=
  if_pos (by simp only [hset, hen, hopen, Bool.not_false, Bool.and_self])

theorem Part.sendPba_shut {p : Part} {v : Fin 64}
    (h : p.host.pba.getLsbD v = false ∨ p.host.msixEn = false ∨ p.vectorShut v = true) : p.sendPba v = p :=
  if_neg (by rcases h with h | h | h <;> rw [h] <;> simp)

end Sys2Proof.Machine

namespace Sys2Proof

open Sys2Proof.Machine

/-- Settles O25: each row by its branch. -/
theorem hostLinkEvents : Obligations.HostLinkEvents := by
  refine ⟨fun s w g c hpow hperst hdown hopen hw hg => ?up, fun s => ⟨fun hup => ?down, fun hdown => ?stays⟩,
    fun s => ⟨fun hpow => ?assert, fun hoff => ?off⟩, fun s op hpow hup => ?config,
    fun h b => ⟨rfl, rfl, rfl, rfl, rfl, rfl⟩⟩
  case up =>
    have htrain := cxlLinkUp_trains (c := c) hpow hperst hdown hopen hw hg
    intro q
    refine ⟨fun hfull => yields_of (f := cxlLinkUp w g c) rfl (htrain.trans (if_pos hfull)),
      fun hless => yields_of (f := cxlLinkUp w g c) rfl (htrain.trans (if_neg ?_))⟩
    rintro ⟨hw8, hg32, hc⟩
    rcases hless with h | h | h
    · exact h hw8
    · exact h hg32
    · exact ne_true_of_eq_false h hc
  case down => exact yields_of_signals (f := cxlLinkDown) rfl (if_pos hup)
  case stays => exact yields_of_signals (f := cxlLinkDown) rfl (if_off hdown)
  case assert => exact yields_of_signals (f := perstNAssert) rfl (if_pos hpow)
  case off => exact yields_of_signals (f := perstNAssert) rfl (if_off hoff)
  case config =>
    have hrow : configRequest op s.part = if s.part.host.cfgLoaded then s.part.configDo op
        else if s.part.freshValue.getLsbD 0 then
          Part.configDo { s.part.useFree with host := { s.part.host with cfgLoaded := true } } op
        else s.part.useFree.emit (.words "CRS" 0 []) :=
      if_neg (by rw [hpow, hup]; decide)
    have hyields {p : Machine.Part} (hp : configRequest op s.part = p) : Yields (.configRequest op) s p :=
      yields_of (f := configRequest op) rfl hp
    intro answered
    exact ⟨fun hload => hyields (hrow.trans (if_pos hload)),
      fun hnot hfree => hyields (hrow.trans ((if_off hnot).trans (if_pos hfree))),
      fun hnot hfree => hyields (hrow.trans ((if_off hnot).trans (if_off hfree)))⟩

/-- Settles O26: each row by its branch; a vector is sent by `sendPba_open`. -/
theorem msixMessages : Obligations.MsixMessages := by
  refine ⟨fun s fm hpow hup => ?enable, fun s hup => ⟨fun v m => ?mask, fun v a d => ?entry, fun o => ?read⟩,
    fun s a hdown => ?down, fun p v => ⟨Part.sendPba_open, Part.sendPba_shut⟩,
    fun p g n => ⟨p.holdoff_group g, p.holdoff_tap n⟩, fun s v => ?holdoff⟩
  case enable =>
    intro q q'
    have hrow : msixEnableSet fm s.part = Part.closeForced (if s.part.host.msixEn then q'
        else (List.range 12).foldl (fun (x : Part) g => if x.groupPend g then x.message g else x) q') :=
      if_neg (by rw [hpow, hup]; decide)
    refine ⟨fun hwas => yields_of (f := msixEnableSet fm) rfl (hrow.trans ?_),
      fun hwas => yields_of (f := msixEnableSet fm) rfl (hrow.trans ?_)⟩
    · rw [if_off hwas]
    · rw [if_pos hwas]
  case mask => exact yields_of_signals (f := msixAccess (.mask v m)) rfl (if_holds hup)
  case entry => exact yields_of_signals (f := msixAccess (.entry v a d)) rfl (if_holds hup)
  case read => exact yields_of_signals (f := msixAccess (.read o)) rfl (if_holds hup)
  case down => exact yields_of_signals (f := msixAccess a) rfl (if_fails hdown)
  case holdoff =>
    exact ⟨fun hopen => yields_of (f := msixHoldoffEnd v) rfl (if_holds hopen),
      fun hclosed => yields_of (f := msixHoldoffEnd v) rfl (if_fails hclosed)⟩

end Sys2Proof
end

section
/-! The decoder, IDE and DOE, the memory-device mailbox, and the HOST island's fault (R90, R95 to R104, R475, R484). -/

namespace Sys2Proof.Machine

/-- A row of the memory-device mailbox where BAR0 serves and the cores are there. -/
theorem Part.mailboxDo_there {p : Part} {f : Part → Part} (hup : p.bar0Up = true) (hcores : p.coresAway = false) :
    p.mailboxDo f = f p :=
  (if_holds hup).trans (if_off hcores)

theorem Part.mailboxDo_away {p : Part} {f : Part → Part} (hup : p.bar0Up = true) (hcores : p.coresAway = true) :
    p.mailboxDo f = p.emit (.words "MB_BUSY" 0 []) :=
  (if_holds hup).trans (if_pos hcores)

/-- A DOE request with the link up: served where the cores are there. -/
theorem Part.doe_there {p : Part} {c : DoeCall} (hready : p.spdmReady = true) (hcores : p.coresAway = false) :
    p.doe c = p.doeServe c :=
  (if_holds hready).trans (if_fails hcores)

/-- With the cores away the first request is held, and each is answered busy. -/
theorem Part.doe_away {p : Part} {c : DoeCall} (hready : p.spdmReady = true) (hcores : p.coresAway = true) :
    p.doe c =
      let busy := p.emit (.words "DOE Busy" 0 [])
      if p.host.doeHeld.isSome then busy
      else { busy with host := { busy.host with doeBusy := true, doeHeld := some c } } :=
  (if_holds hready).trans (if_holds hcores)

end Sys2Proof.Machine

namespace Sys2Proof

open Sys2Proof.Machine

/-- Settles O27: each row by its branch. -/
theorem decoderIdeAndDoe : Obligations.DecoderIdeAndDoe := by
  refine ⟨fun s base size ways lock hup hfree => ⟨fun hone hsize hmul => ?commit, fun hbad => ?fails⟩,
    fun s skid key hsess hcores hready => ⟨?mem, ?io⟩, fun s => ⟨fun hkeyed => ?failIo, fun hkeyed => ?failMem⟩,
    fun s hready hcores => ?there, fun s hready hcores => ?away⟩
  case commit =>
    have hset : hdmSet base size ways lock s.part = { s.part with host := { s.part.host with
        hdm := { committed := true, locked := lock, base := base, size := size } } } :=
      (if_neg (by rw [hup, hfree]; decide)).trans (if_neg (by omega))
    exact yields_of (f := fun p => (hdmSet base size ways lock p).limitDram) rfl (congrArg Part.limitDram hset)
  case fails =>
    have hset : hdmSet base size ways lock s.part =
        { s.part with host := { s.part.host with hdm := { err := true } } } :=
      (if_neg (by rw [hup, hfree]; decide)).trans (if_pos hbad)
    exact yields_of (f := fun p => (hdmSet base size ways lock p).limitDram) rfl (congrArg Part.limitDram hset)
  case mem => exact yields_of (f := ideKmKeyInstall .mem skid key) rfl (if_neg (by simp [hsess, hcores, hready]))
  case io => exact yields_of (f := ideKmKeyInstall .io skid key) rfl (if_neg (by simp [hsess, hcores, hready]))
  case failIo => exact yields_of (f := ideIntegrityFail .io) rfl (if_holds hkeyed)
  case failMem => exact yields_of (f := ideIntegrityFail .mem) rfl (if_holds hkeyed)
  case there =>
    have hserve {c : DoeCall} : s.part.doe c = s.part.doeServe c := Part.doe_there hready hcores
    refine ⟨fun k w hw => ?known, fun k hk => ?past, fun w => ⟨fun hin => ?object, fun hout => ?unknown⟩,
      fun e he => ?entry, fun e he => ?beyond⟩
    case known =>
      have hobject : doeObjects[k]? = some w := hw
      refine yields_of (f := fun p => p.doe (.plain (.discovery k))) rfl (hserve.trans ?_)
      simp only [Part.doeServe, Part.discover, hobject]
    case past =>
      have hobject : doeObjects[k]? = none := List.getElem?_eq_none hk
      refine yields_of (f := fun p => p.doe (.plain (.discovery k))) rfl (hserve.trans ?_)
      simp only [Part.doeServe, Part.discover, hobject]
    case object =>
      exact yields_of (f := fun p => p.doe (.plain (.object w))) rfl
        (hserve.trans (if_pos (List.contains_iff_mem.mpr hin)))
    case unknown =>
      exact yields_of (f := fun p => p.doe (.plain (.object w))) rfl
        (hserve.trans (if_neg fun h => hout (List.contains_iff_mem.mp h)))
    case entry =>
      exact yields_of (f := fun p => p.doe (.cdat e)) rfl (hserve.trans (if_neg (Nat.not_le.mpr he)))
    case beyond => exact yields_of (f := fun p => p.doe (.cdat e)) rfl (hserve.trans (if_pos he))
  case away =>
    intro busy held
    exact ⟨fun r => yields_of (f := fun p => p.doe (.plain r)) rfl (Part.doe_away hready hcores),
      fun e => yields_of (f := fun p => p.doe (.cdat e)) rfl (Part.doe_away hready hcores)⟩

/-- Settles O28: each command by `mailboxDo_there`, and with the cores away by `mailboxDo_away`. -/
theorem mediaMailbox : Obligations.MediaMailbox := by
  refine ⟨fun s hup hcores => ?records, fun s hup hcores => ?information, fun s c hup hcores hc => ?away⟩
  case records =>
    have hdo {f : Machine.Part → Machine.Part} : s.part.mailboxDo f = f s.part := Part.mailboxDo_there hup hcores
    refine ⟨yields_of (f := getEventRecords) rfl hdo, fun hs => ⟨?_, ?_⟩,
      yields_of (f := getEventInterruptPolicy) rfl hdo, yields_of (f := setEventInterruptPolicy true 10) rfl hdo,
      fun v hv => yields_of (f := setEventInterruptPolicy true v) rfl (hdo.trans (if_pos ?_)),
      fun v => yields_of (f := setEventInterruptPolicy false v) rfl hdo, yields_of (f := getTimestamp) rfl hdo,
      fun v => yields_of (f := setTimestamp v) rfl hdo⟩
    · exact yields_of (f := clearEventRecords false hs) rfl hdo
    · exact yields_of (f := clearEventRecords true hs) rfl hdo
    · simpa using hv
  case information =>
    have hdo {f : Machine.Part → Machine.Part} : s.part.mailboxDo f = f s.part := Part.mailboxDo_there hup hcores
    exact ⟨yields_of (f := getSupportedLogs) rfl hdo, yields_of (f := getLog true) rfl hdo,
      yields_of (f := getLog false) rfl hdo, yields_of (f := identifyMemoryDevice) rfl hdo,
      yields_of (f := getPartitionInfo) rfl hdo, yields_of (f := getHealthInfo) rfl hdo,
      yields_of (f := getPoisonList) rfl hdo⟩
  case away =>
    have hbusy {f : Machine.Part → Machine.Part} : s.part.mailboxDo f = s.part.emit (.words "MB_BUSY" 0 []) :=
      Part.mailboxDo_away hup hcores
    rcases hc with hc | ⟨b, l, rfl⟩ | ⟨b, v, rfl⟩ | ⟨v, rfl⟩ | ⟨b, rfl⟩
    · simp only [List.mem_cons, List.not_mem_nil, or_false] at hc
      rcases hc with rfl | rfl | rfl | rfl | rfl | rfl | rfl | rfl
      · exact yields_of (f := getEventRecords) rfl hbusy
      · exact yields_of (f := getEventInterruptPolicy) rfl hbusy
      · exact yields_of (f := getTimestamp) rfl hbusy
      · exact yields_of (f := getSupportedLogs) rfl hbusy
      · exact yields_of (f := identifyMemoryDevice) rfl hbusy
      · exact yields_of (f := getPartitionInfo) rfl hbusy
      · exact yields_of (f := getHealthInfo) rfl hbusy
      · exact yields_of (f := getPoisonList) rfl hbusy
    · exact yields_of (f := clearEventRecords b l) rfl hbusy
    · exact yields_of (f := setEventInterruptPolicy b v) rfl hbusy
    · exact yields_of (f := setTimestamp v) rfl hbusy
    · exact yields_of (f := getLog b) rfl hbusy

/-- Settles O29: a contained fault of the host, and a pass of the scrub. -/
theorem hostFaultAndSramScrub : Obligations.HostFaultAndSramScrub := by
  refine ⟨fun s d hdormant hfreeze => ?contained, fun s d hfreeze => ?frozen, fun s n ws hback => ?scrub⟩
  case contained =>
    exact yields_of_signals (f := hostIslandFault d) rfl (Part.containedFault_runs hdormant hfreeze)
  case frozen => exact yields_of_signals (f := hostIslandFault d) rfl (Part.containedFault_freeze hfreeze)
  case scrub => exact yields_of_signals (f := sramScrubPass n ws) rfl (if_holds hback)

end Sys2Proof
end

section
/-! STITCH and its boundary, firmware and keys, and SPDM (R167 to R177, R490 to R506). -/

namespace Sys2Proof.Machine

/-! ### The boundary of a waiting STITCH -/

theorem Part.boundaryDue_kind {p : Part} {w : Waiting} :
    (w.kind = 0 → p.boundaryDue w = true) ∧ (w.kind = 3 → p.boundaryDue w = decide (w.time ≤ p.now)) ∧
    (w.kind = 1 ∨ w.kind = 4 → p.boundaryDue w = decide (w.since + 25000 ≤ p.clk)) ∧
    (w.kind = 2 → p.boundaryDue w = (decide (w.since + 25000 ≤ p.clk) && (p.port w.port).txMfas == 0#8)) := by
  refine ⟨fun h => ?_, fun h => ?_, fun h => ?_, fun h => ?_⟩
  · simp [Part.boundaryDue, h]
  · simp [Part.boundaryDue, h]
  · rcases h with h | h <;> simp [Part.boundaryDue, h]
  · simp [Part.boundaryDue, h]

section Boundary

variable {p : Part} {w : Waiting}

theorem Part.boundaryDue_comes (h : w.kind = 0 ∨ (w.kind = 3 ∧ w.time ≤ p.now) ∨
    ((w.kind = 1 ∨ w.kind = 4) ∧ ¬ p.clk < w.since + 25000) ∨
    (w.kind = 2 ∧ ¬ p.clk < w.since + 25000 ∧ (p.port w.port).txMfas = 0#8)) : p.boundaryDue w = true := by
  obtain ⟨hany, htime, hframe, hmulti⟩ := p.boundaryDue_kind (w := w)
  rcases h with h | ⟨h, hat⟩ | ⟨h, hlate⟩ | ⟨h, hlate, hmfas⟩
  · exact hany h
  · rw [htime h, decide_eq_true hat]
  · rw [hframe h, decide_eq_true (Nat.not_lt.mp hlate)]
  · rw [hmulti h, decide_eq_true (Nat.not_lt.mp hlate), hmfas]
    rfl

theorem Part.boundaryDue_waits (h : (w.kind = 3 ∧ p.now < w.time) ∨
    ((w.kind = 1 ∨ w.kind = 2 ∨ w.kind = 4) ∧ p.clk < w.since + 25000) ∨
    (w.kind = 2 ∧ (p.port w.port).txMfas ≠ 0#8)) : p.boundaryDue w = false := by
  obtain ⟨-, htime, hframe, hmulti⟩ := p.boundaryDue_kind (w := w)
  rcases h with ⟨h, hat⟩ | ⟨h | h | h, hlate⟩ | ⟨h, hmfas⟩
  · rw [htime h]
    exact decide_eq_false (Nat.not_le.mpr hat)
  · rw [hframe (.inl h), decide_eq_false (Nat.not_le.mpr hlate)]
  · rw [hmulti h, decide_eq_false (Nat.not_le.mpr hlate), Bool.false_and]
  · rw [hframe (.inr h), decide_eq_false (Nat.not_le.mpr hlate)]
  · rw [hmulti h, beq_false_of_ne hmfas, Bool.and_false]

end Boundary

/-! ### SPDM -/

theorem foldr_append {α β : Type} (f : α → List β) (l : List α) (b : List β) :
    l.foldr (fun k r => f k ++ r) b = l.flatMap f ++ b := by
  induction l with
  | nil => rfl
  | cons a l ih => rw [List.foldr_cons, ih, List.flatMap_cons, List.append_assoc]

/-- The blocks asked for, then the nonce, signed. -/
theorem Part.measurementBytes_eq (p : Part) (k : Fin 9) (nonce : BitVec 256) :
    p.measurementBytes k nonce =
      let blocks := if k = 0 then [1, 2, 3, 4, 5, 6, 7, 8] else [k.val]
      let body := blocks.flatMap p.measurementBlock ++ bytesBE nonce.toNat 32
      body ++ bytesBE (Config.identitySign body).toNat 96 := by
  have hzero : (k.val = 0) = (k = 0) := propext (Fin.val_eq_zero_iff)
  simp only [Part.measurementBytes, foldr_append, hzero]

end Sys2Proof.Machine

namespace Sys2Proof

open Sys2Proof.Machine

/-- Settles O31: the answers of a STITCH in turn, and its boundary by `boundaryDue`. -/
theorem stitchStages : Obligations.StitchStages := by
  refine ⟨fun s t hruns hwaits => ?stitch, fun s w hw => ?boundary,
    fun s hready howed => yields_of (f := stitchJournalWrite) rfl (if_pos (by rw [hready, howed]; rfl))⟩
  case stitch =>
    intro set kind port faults
    have hfirst : ¬ (!s.part.runs t 0x0301 || s.part.waits t) = true := by rw [hruns, hwaits]; decide
    have hyields {p : Machine.Part} (hp : stitch t s.part = p) : Yields (.stitch t) s p :=
      yields_of (f := stitch t) rfl hp
    have hnone (h : s.part.stitch.waiting = none) : ¬ s.part.stitch.waiting.isSome = true := by simp [h]
    have hsome (h : set ≠ []) : ¬ set.isEmpty = true := fun he => h (List.isEmpty_iff.mp he)
    refine ⟨fun hbusy => hyields ((if_neg hfirst).trans (if_pos hbusy)),
      fun hfree hempty => hyields ((if_neg hfirst).trans ((if_neg (hnone hfree)).trans
        (if_pos (List.isEmpty_iff.mpr hempty)))),
      fun hfree hset hfull => hyields ((if_neg hfirst).trans ((if_neg (hnone hfree)).trans
        ((if_neg (hsome hset)).trans (if_pos hfull)))),
      fun hfree hset hroom => ?_⟩
    refine ⟨fun f hf => hyields ((if_neg hfirst).trans ((if_neg (hnone hfree)).trans
      ((if_neg (hsome hset)).trans ((if_off hroom).trans ?_)))), fun hok => hyields ((if_neg hfirst).trans
      ((if_neg (hnone hfree)).trans ((if_neg (hsome hset)).trans ((if_off hroom).trans ?_))))⟩
    · have hf' : firstFault (s.part.stitchFaults s.part.stitch.basted ++
          failIf (!s.part.boundaryOk (fieldOf (s.part.par t 0) 2 0) (fieldOf (s.part.par t 0) 12 8)) (paramFail 0)) =
          some f := hf
      rw [hf']
    · have hok' : firstFault (s.part.stitchFaults s.part.stitch.basted ++
          failIf (!s.part.boundaryOk (fieldOf (s.part.par t 0) 2 0) (fieldOf (s.part.par t 0) 12 8)) (paramFail 0)) =
          none := hok
      rw [hok']
  case boundary =>
    intro q late
    have hrow : stitchBoundary s.part = if !s.part.boundaryDue w then s.part
        else q.done w.tag q.boundaryWord (q.reg 0x034) := by
      rw [stitchBoundary, hw]
      rfl
    exact ⟨fun hcome => yields_of (f := stitchBoundary) rfl (hrow.trans (if_holds (Part.boundaryDue_comes hcome))),
      fun hwait => yields_of (f := stitchBoundary) rfl (hrow.trans (if_fails (Part.boundaryDue_waits hwait)))⟩

/-- Settles O32: the checks of an image in turn, and each key command by its branch. -/
theorem firmwareAndKeys : Obligations.FirmwareAndKeys := by
  refine ⟨fun s t hruns => ?stage, fun s t hruns => yields_of (f := fwStatus t) rfl (if_holds hruns),
    fun s t hruns => ⟨fun hopen => ?retire, fun hlocked => ?locked⟩,
    fun s t hruns => ⟨fun hopen => ?subsys, fun hlocked => ?kept⟩,
    fun s t hruns => ?zeroise⟩
  case stage =>
    intro a len m q
    refine ⟨fun hout => yields_of (f := fwStage t) rfl ((if_holds hruns).trans ?_),
      fun hin => yields_of (f := fwStage t) rfl ((if_holds hruns).trans ?_)⟩
    · have hout' : s.part.inScratch (s.part.par64 t 0).toNat (s.part.par t 2).toNat = false := hout
      simp only [hout', Bool.not_false, Bool.true_or, if_true, Bool.false_eq_true, if_false]
      rfl
    · have hin' : s.part.inScratch (s.part.par64 t 0).toNat (s.part.par t 2).toNat = true := hin
      simp only [hin', Bool.not_true, Bool.false_or, bne_iff_ne, Bool.not_eq_true', if_true]
      rfl
  case retire => exact yields_of (f := keyRetire t) rfl ((if_holds hruns).trans (if_off hopen))
  case locked => exact yields_of (f := keyRetire t) rfl ((if_holds hruns).trans (if_pos hlocked))
  case subsys => exact yields_of (f := keySubsys t) rfl ((if_holds hruns).trans (if_off hopen))
  case kept => exact yields_of (f := keySubsys t) rfl ((if_holds hruns).trans (if_pos hlocked))
  case zeroise =>
    intro w q
    refine ⟨fun hpass => yields_of (f := keyZeroise t) rfl
      ((if_holds hruns).trans ((if_neg (not_not_intro hpass)).trans ?_)),
      fun hpass => yields_of (f := keyZeroise t) rfl ((if_holds hruns).trans (if_pos hpass))⟩
    cases hkeys : s.part.journal.keys with
    | nil =>
      rw [if_pos rfl]
      rfl
    | cons k ks =>
      rw [if_neg (List.cons_ne_nil k ks)]
      rfl

/-- Settles O33: the checks of a key object in turn; a DOE request by `doe_there` and `doe_away`. -/
theorem keyInstallAndSpdm : Obligations.KeyInstallAndSpdm := by
  refine ⟨fun s t hruns => ?install, fun s hup hmode hcores => ?served, fun s hup hmode hcores => ?held⟩
  case install =>
    intro n kind ob
    have hrow : keyInstall t s.part =
        if (kind ≠ 1 ∧ kind ≠ 2) ∨ fieldOf (s.part.par t 1) 15 8 ≠ 8 ∨ fieldOf (s.part.par t 1) 31 16 ≠ 0 then
          s.part.reject t 0x11 1
        else if crc32c (bytesOfWords (ob.take 10)) ≠ s.part.par t 11 then s.part.reject t 0x19 2
        else if s.part.slotLocked n then s.part.reject t 0x17 0
        else if s.part.bit 0xC010 3 && (s.part.host.ideIo.insecure || !s.part.host.ideIo.keyed)
          then s.part.reject t 0x17 0
        else (((s.part.setTagState t .committed).setKeySlot n
          { kind := kind, tag := s.part.par t 2, key := wordsToKey ((ob.drop 2).take 8) }).addWrapField
            0xC0B4 15 0 1).done t 0#64 0#32 := if_holds hruns
    have hyields {p : Machine.Part} (hp : keyInstall t s.part = p) : Yields (.keyInstall t) s p :=
      yields_of (f := keyInstall t) rfl hp
    refine ⟨fun hbad => hyields (hrow.trans (if_pos hbad)), fun hkind hlen hres => ?_⟩
    have hgood : ¬ ((kind ≠ 1 ∧ kind ≠ 2) ∨ fieldOf (s.part.par t 1) 15 8 ≠ 8 ∨
        fieldOf (s.part.par t 1) 31 16 ≠ 0) := by
      rintro (⟨h1, h2⟩ | h | h)
      · exact hkind.elim h1 h2
      · exact h hlen
      · exact h hres
    refine ⟨fun hcrc => hyields (hrow.trans ((if_neg hgood).trans (if_pos hcrc))),
      fun hcrc => ⟨fun hlocked => hyields (hrow.trans ((if_neg hgood).trans ((if_neg (not_not_intro hcrc)).trans ?_))),
        fun hopen hide => hyields (hrow.trans ((if_neg hgood).trans ((if_neg (not_not_intro hcrc)).trans ?_)))⟩⟩
    · by_cases hslot : s.part.slotLocked n = true
      · exact if_pos hslot
      · refine (if_neg hslot).trans (if_pos ?_)
        simpa [hslot] using hlocked
    · refine (if_off hopen).trans (if_neg ?_)
      rcases hide with h | ⟨h, h'⟩ <;> simp [h]
      simp [h']
  case served =>
    have hready : s.part.spdmReady = true := by simp [Part.spdmReady, hup, hmode]
    have hserve {c : DoeCall} : s.part.doe c = s.part.doeServe c := Part.doe_there hready hcores
    refine ⟨fun o n => yields_of (f := fun p => p.doe (.certificate 0 o n)) rfl hserve,
      fun k o n hk => yields_of (f := fun p => p.doe (.certificate k o n)) rfl (hserve.trans ?_),
      fun nonce => yields_of (f := fun p => p.doe (.challenge 0 nonce)) rfl hserve,
      fun k nonce hk => yields_of (f := fun p => p.doe (.challenge k nonce)) rfl (hserve.trans ?_),
      fun k nonce => yields_of (f := fun p => p.doe (.measurements k nonce)) rfl (hserve.trans ?_),
      fun hfew => yields_of (f := fun p => p.doe .keyExchange) rfl (hserve.trans (if_pos hfew)),
      fun hmany => yields_of (f := fun p => p.doe .keyExchange) rfl (hserve.trans (if_neg (Nat.not_lt.mpr hmany)))⟩
    · rw [Part.doeServe, certificateBytes, if_neg (Fin.val_ne_zero_iff.mpr hk)]
    · rw [Part.doeServe, challengeBytes, if_neg (Fin.val_ne_zero_iff.mpr hk)]
    · rw [Part.doeServe, Part.measurementBytes_eq]
  case held =>
    have hready : s.part.spdmReady = true := by simp [Part.spdmReady, hup, hmode]
    intro busy held
    exact ⟨fun k o n => yields_of (f := fun p => p.doe (.certificate k o n)) rfl (Part.doe_away hready hcores),
      fun k x => yields_of (f := fun p => p.doe (.challenge k x)) rfl (Part.doe_away hready hcores),
      fun k x => yields_of (f := fun p => p.doe (.measurements k x)) rfl (Part.doe_away hready hcores),
      yields_of (f := fun p => p.doe .keyExchange) rfl (Part.doe_away hready hcores)⟩

end Sys2Proof
end

section
/-! Control selvedges, ledgers, domain notes and the domain commands (R430 to R437, R449 to R463). -/

namespace Sys2Proof.Machine

/-! ### Selvedges -/

/-- A fault fence of a selvedge that is already fencing, and of one that is active. -/
theorem Part.faultFence_fencing {p : Part} {i : Nat} {r : Held} (h : p.selvState i = 1) :
    p.faultFence i r = (((p.selvDrain i r).setSelv i 2).setBit (selvReg i 0) 8 true).fenceIsland i := by
  simp only [Part.faultFence, h]
  rfl

theorem Part.faultFence_active {p : Part} {i : Nat} {r : Held} (h : p.selvState i = 0) :
    p.faultFence i r = ((((((p.selvDrain i r).addWrap (selvReg i 0x14) 1).fabricHist 0).setSelv i 2).setBit
      (selvReg i 0) 8 true).fenceIsland i) := by
  simp only [Part.faultFence, h]
  rfl

/-! ### Ledgers -/

theorem namedLedgers_none {n : Nat} (h : namedLedgers n = none) : ledgerIs n = false ∧ n ≠ 0xFFFF := by
  unfold namedLedgers at h
  by_cases hall : n = 0xFFFF
  · rw [if_pos hall] at h
    cases h
  · rw [if_neg hall] at h
    cases hone : ledgerIs n with
    | false => exact ⟨rfl, hall⟩
    | true =>
      rw [hone] at h
      cases h

theorem ledgerCheckpoint_runs {p : Part} {t : Fin 1024} (hruns : p.runs t 0x0E03 = true) :
    ledgerCheckpoint t p = if p.clk < p.ledger.ckptEnd then p.reject t stBusy 0
      else ((p.setTagState t .committed).checkpoint).done t
        (((p.setTagState t .committed).checkpoint).journal.ckptSerial.setWidth 64) 0#32 := by
  unfold ledgerCheckpoint
  rw [if_holds hruns]

/-- A ledger outside R457 fails acceptance. -/
theorem Part.paramFault_ledger {p : Part} {t : Nat} (hop : p.opcode t = 0x0E01 ∨ p.opcode t = 0x0E02)
    (hnone : namedLedgers (fieldOf (p.par t 0) 15 0) = none) : p.paramFault t = some 0 := by
  obtain ⟨hone, hall⟩ := namedLedgers_none hnone
  have hno : (ledgerIs (fieldOf (p.par t 0) 15 0) || fieldOf (p.par t 0) 15 0 == 0xFFFF) = false := by
    rw [hone, beq_false_of_ne hall]
    rfl
  rcases hop with h | h <;>
  · simp only [Part.paramFault, h, hno]
    split
    · contradiction
    · split <;> rfl

/-! ### Domain commands -/

/-- A row whose clock stands still in FREEZE, in another mode. -/
theorem yields_of_clock {i : Instr} {s : State} {f : Part → Part} {p : Part} (hexec : exec i s = onClock f s)
    (hfreeze : s.part.md.cur ≠ .freeze) (hp : f s.part = p) : Yields i s p := by
  rw [Yields, hexec, onClock_next f s hfreeze, hp]

/-- A note's body of more than 256 words fails acceptance. -/
theorem Part.paramFault_send {p : Part} {t : Nat} (hop : p.opcode t = 0x0D01)
    (hres : p.par t 0 &&& ~~~0x1FFFF#32 = 0#32) (hlen : 257 < (p.tag t).params.length) :
    p.paramFault t = some 0xFF := by
  have hlong : 256 < (p.tag t).params.length - 1 := by omega
  have hmask : ¬ p.par t 0 &&& ~~~(paramMask 0x0D01) ≠ 0#32 := not_not_intro hres
  simp only [Part.paramFault, hop]
  rw [if_neg (by decide), if_neg hmask]
  exact if_pos hlong

end Sys2Proof.Machine

namespace Sys2Proof

open Sys2Proof.Machine

/-- Settles O34: the four states in turn, and the ledgers named. -/
theorem selvedgesAndLedgers : Obligations.SelvedgesAndLedgers := by
  refine ⟨fun s i => ⟨fun hmode hactive => ?request, fun r hfencing => ?fenced,
      fun r hmode => ⟨fun hfencing => ?faultFencing, fun hactive => ?faultActive⟩, fun hfenced hfree => ?resume,
      fun hheld => ?held, fun hresuming => ?active⟩, fun p i r => rfl,
    ⟨fun s t ids hruns hids => ?audit, fun s t hnone => ⟨fun hruns => ?auditNone, fun hruns => ?readNone,
      fun hop => Part.paramFault_ledger hop hnone⟩, fun s t ids hruns hids => ?read, fun s t hruns => ?checkpoint,
      fun s hmode => ⟨yields_of (f := ledgerAuditPeriodic) rfl (if_neg hmode),
        yields_of (f := ledgerCheckpointPeriodic) rfl (if_neg hmode)⟩,
      fun s hmode => ⟨yields_of (f := ledgerAuditPeriodic) rfl (if_pos hmode),
        yields_of (f := ledgerCheckpointPeriodic) rfl (if_pos hmode)⟩⟩⟩
  case request => exact yields_of (f := selvedgeFenceRequest i) rfl (if_pos (by simp [hmode, hactive]))
  case fenced => exact yields_of_signals (f := selvedgeFenced i r) rfl (if_pos hfencing)
  case faultFencing =>
    exact yields_of_signals (f := selvedgeFaultFence i r) rfl
      ((if_pos (by simp [hmode, hfencing])).trans (Part.faultFence_fencing hfencing))
  case faultActive =>
    exact yields_of_signals (f := selvedgeFaultFence i r) rfl
      ((if_pos (by simp [hmode, hactive])).trans (Part.faultFence_active hactive))
  case resume =>
    exact yields_of (f := selvedgeResume i) rfl (if_pos (by rw [hfenced, hfree]; rfl))
  case held =>
    exact yields_of (f := selvedgeResume i) rfl (if_neg (by rw [hheld, Bool.not_true, Bool.and_false]; decide))
  case active => exact yields_of_signals (f := selvedgeActive i) rfl (if_pos hresuming)
  case audit =>
    refine yields_of (f := ledgerAudit t) rfl ((if_holds hruns).trans ?_)
    rw [hids]
  case auditNone =>
    refine yields_of (f := ledgerAudit t) rfl ((if_holds hruns).trans ?_)
    rw [hnone]
    rfl
  case readNone =>
    refine yields_of (f := ledgerRead t) rfl ((if_holds hruns).trans ?_)
    rw [hnone]
    rfl
  case read =>
    refine yields_of (f := ledgerRead t) rfl ((if_holds hruns).trans ?_)
    rw [hids]
  case checkpoint =>
    refine ⟨fun hdone => yields_of (f := ledgerCheckpoint t) rfl ?_,
      fun hbusy => yields_of (f := ledgerCheckpoint t) rfl ?_⟩
    · rw [ledgerCheckpoint_runs hruns, if_neg (Nat.not_lt.mpr hdone)]
    · rw [ledgerCheckpoint_runs hruns, if_pos hbusy]
      rfl

/-- Settles O35: each row by its branch. -/
theorem domainNotesAndCommands : Obligations.DomainNotesAndCommands := by
  refine ⟨⟨fun s bs cut hmode => ⟨fun r e hfind => ?ring,
      fun q hup hframe => ⟨fun n hwhole hn => ?note, fun hbad => ?bad⟩,
      fun n hfind => ?loc⟩, fun s n hmode hcores => ⟨fun hreq => ?answer, fun hreq => ?noRequest⟩,
      fun p n => ⟨fun ws hws => ?object, fun hnone => ?noObject⟩,
      fun s q body hfreeze hport hcap hruns hbody => ?mapCap,
      fun s l hl => ⟨fun hdown hentry => ?down, fun hup => ?up⟩⟩,
    ⟨fun s t hruns => ?send, fun p t hop hres hlen => ?long, fun s t hruns => ?route, fun s t hruns hfetch => ?fetch,
      fun s t w hfetch hst hop => ?timeout⟩⟩
  case ring =>
    refine yields_of_signals (f := domainNoteRx (.ring r) bs cut) rfl ((if_neg hmode).trans ?_)
    simp only [hfind]
  case note =>
    refine yields_of_signals (f := domainNoteRx (.port q) bs cut) rfl ((if_neg hmode).trans ?_)
    simp only [hup, hframe, hwhole, hn, bne_self_eq_false, Bool.or_self, Bool.false_eq_true, if_false]
  case bad =>
    refine yields_of_signals (f := domainNoteRx (.port q) bs cut) rfl ((if_neg hmode).trans ?_)
    have hnone : (if cut then none else gccNote bs) = none := by
      rcases hbad with h | h <;> simp [h]
    simp only [hup, hframe, hnone, bne_self_eq_false, Bool.or_self, Bool.false_eq_true, if_false]
  case loc =>
    refine yields_of_signals (f := domainNoteRx .loc bs cut) rfl ((if_neg hmode).trans ?_)
    simp only [hfind]
  case answer =>
    exact yields_of (f := fetchReqRx n) rfl (if_neg (by simp only [hmode, hcores, hreq]; decide))
  case noRequest => exact yields_of (f := fetchReqRx n) rfl (if_pos (.inr (.inr hreq)))
  case object =>
    simp only [Part.fetchBody, hws]
  case noObject =>
    simp only [Part.fetchBody, hnone]
  case mapCap =>
    refine yields_of_clock (f := mapCapSend q) rfl hfreeze ?_
    have hport' : s.part.portOn q.val = true := hport
    simp only [mapCapSend, hport', hcap, hruns, hbody]
    rfl
  case down =>
    refine yields_of (f := routeLinkDown l) rfl (if_neg ?_)
    rw [not_or, not_or, hdown, hentry]
    exact ⟨hl, Bool.noConfusion, Bool.noConfusion⟩
  case up =>
    refine yields_of (f := routeLinkUp l) rfl (if_neg ?_)
    rw [not_or, hup]
    exact ⟨hl, Bool.noConfusion⟩
  case send =>
    intro r
    have hrow : domainSend t s.part = if r.2 || decide (s.part.field 0xE004 7 0 ≤ 1) then
        (r.1.setTagState t .committed).done t 0#64 0#32 else r.1.reject t 0x18 0 := if_holds hruns
    refine ⟨fun hok => yields_of (f := domainSend t) rfl (hrow.trans (if_pos ?_)),
      fun hfull hlife => yields_of (f := domainSend t) rfl (hrow.trans (if_neg ?_))⟩
    · exact (Bool.or_eq_true _ _).mpr (hok.imp id decide_eq_true)
    · rw [hfull, decide_eq_false (Nat.not_le.mpr hlife)]
      decide
  case long => exact Part.paramFault_send hop hres hlen
  case route =>
    intro first n ws
    refine ⟨fun hpast => yields_of (f := domainRoute t) rfl ((if_holds hruns).trans (if_pos hpast)),
      fun e hin hbad => yields_of (f := domainRoute t) rfl
        ((if_holds hruns).trans ((if_neg (Nat.not_lt.mpr hin)).trans ?_)),
      fun hin hgood => yields_of (f := domainRoute t) rfl
        ((if_holds hruns).trans ((if_neg (Nat.not_lt.mpr hin)).trans ?_))⟩
    · have hbad' : ((((s.part.tag t).params.drop 2).take (s.part.par t 1).toNat).zipIdx).find?
        (fun e => routeBad e.1) = some e := hbad
      rw [hbad']
      rfl
    · have hgood' : ((((s.part.tag t).params.drop 2).take (s.part.par t 1).toNat).zipIdx).find?
        (fun e => routeBad e.1) = none := hgood
      rw [hgood']
      rfl
  case fetch =>
    exact yields_of (f := domainFetchPm t .send) rfl (if_neg (by rw [hruns, hfetch]; decide))
  case timeout =>
    refine yields_of (f := domainFetchPm t .timeout) rfl ?_
    simp only [domainFetchPm, hfetch]
    exact if_pos ⟨hst, hop⟩

end Sys2Proof
end

section
/-! CXL.mem lines (R84, R91, R94, R470, R484, R525). -/

namespace Sys2Proof.Machine

/-! ### What a request wakes -/

theorem Part.wakeDomain_regs (p : Part) (n : Nat) : ∃ m, p.wakeDomain n = { p with regs := m } := by
  unfold Part.wakeDomain
  split
  · exact ⟨p.regs, rfl⟩
  · exact ⟨_, rfl⟩

/-- The demand of a request changes the depths of its domains alone. -/
theorem Part.memDemand_regs (p : Part) (hpa : Nat) : ∃ m, p.memDemand hpa = { p with regs := m } := by
  unfold Part.memDemand Part.wakeDram
  split
  · obtain ⟨m, hm⟩ := p.wakeDomain_regs (121 + p.dramDomainOf (p.dpaOf hpa))
    obtain ⟨n, hn⟩ := Part.wakeDomain_regs { p with regs := m } (129 + p.dramDomainOf (p.dpaOf hpa))
    exact ⟨n, by dsimp only; rw [hm, hn]⟩
  · exact ⟨p.regs, rfl⟩

theorem Part.memDemand_serves (p : Part) (hpa : Nat) : (p.memDemand hpa).memServes hpa = p.memServes hpa ∧
    (p.memDemand hpa).memActive = p.memActive ∧ (p.memDemand hpa).dpaOf hpa = p.dpaOf hpa := by
  obtain ⟨m, hm⟩ := p.memDemand_regs hpa
  rw [hm]
  exact ⟨rfl, rfl, rfl⟩

/-! ### Reads -/

section Reads

variable {q : Part} {hpa : Nat} (hserves : q.memServes hpa = true)

include hserves

/-- Before INERT and during MEMMARCH a read answers zeroes. -/
theorem Part.readLine_asleep (e : EccResult) (h : q.memActive = false ∨ q.marching = true) :
    q.readLine hpa e = q.memAnswer false (q.dpaOf hpa) (List.replicate 64 0#8) := by
  have hwake : (q.memActive && !q.marching) = false := by rcases h with h | h <;> simp [h]
  have hread : cxlmemRead hpa e q = q.memAnswer false (q.dpaOf hpa) (List.replicate 64 0#8) :=
    (if_holds hserves).trans (if_pos (by rcases h with h | h <;> simp [h]))
  have hdead : q.deadLine hpa = false := by simp [Part.deadLine, hserves, hwake]
  rw [Part.readLine, if_off hdead, hread]
  cases e with
  | clean => rfl
  | uncorrectable => rfl
  | corrected => exact if_neg (by simp [hserves, hwake])

variable (hactive : q.memActive = true) (hmarch : q.marching = false)

include hactive hmarch

/-- Through a closed selvedge a read answers zeroes, and is counted. -/
theorem Part.readLine_closed (e : EccResult) (hclosed : q.selvOpen 25 = false) :
    q.readLine hpa e = (q.selvRequest 25).memAnswer false (q.dpaOf hpa) (List.replicate 64 0#8) := by
  have hread : cxlmemRead hpa e q = (q.selvRequest 25).memAnswer false (q.dpaOf hpa) (List.replicate 64 0#8) :=
    (if_holds hserves).trans ((if_neg (by simp [hactive, hmarch])).trans (if_fails hclosed))
  have hdead : q.deadLine hpa = false := by simp [Part.deadLine, hclosed]
  rw [Part.readLine, if_off hdead, hread]
  cases e with
  | clean => rfl
  | uncorrectable => rfl
  | corrected => exact if_neg (by simp [hclosed])

variable (hopen : q.selvOpen 25 = true)

include hopen

theorem Part.readLine_dead (e : EccResult) (hdead : q.back.badChannels.contains (q.lineChannel (q.dpaOf hpa)) = true) :
    q.readLine hpa e = (q.selvRequest 25).memAnswer true (q.dpaOf hpa) (q.lineBytes (q.dpaOf hpa)) :=
  if_pos (by simp only [Part.deadLine, hserves, hactive, hmarch, hopen, hdead]; decide)

/-- A line of a channel in service is read as its check finds it. -/
theorem Part.readLine_live (e : EccResult)
    (hlive : q.back.badChannels.contains (q.lineChannel (q.dpaOf hpa)) = false) :
    q.readLine hpa e =
      let r := q.selvRequest 25
      let dpa := q.dpaOf hpa
      match e with
      | .clean => r.memAnswer (q.media.poison.contains (dpa / 64)) dpa (q.lineBytes dpa)
      | .corrected =>
        ((r.addSat 0xA004 1).memAnswer (q.media.poison.contains (dpa / 64)) dpa (q.lineBytes dpa)).countChannel dpa
      | .uncorrectable =>
        let x := (r.uncorrectable.poisonLine (dpa / 64)).logMedia false dpa
        let y := if dpa < 48 * 0x200000 then x.faultLoss (0x6000 + dpa / 0x200000) 4 1 else x
        y.memAnswer true dpa (q.lineBytes dpa) := by
  have hdead : q.deadLine hpa = false := by simp only [Part.deadLine, hlive, Bool.and_false]
  have hawake : ¬ (!q.memActive || q.marching) = true := by simp [hactive, hmarch]
  rw [Part.readLine, if_off hdead]
  cases e with
  | clean => exact (if_holds hserves).trans ((if_neg hawake).trans (if_holds hopen))
  | uncorrectable => exact (if_holds hserves).trans ((if_neg hawake).trans (if_holds hopen))
  | corrected =>
    refine (if_pos (by rw [hserves, hactive, hmarch, hopen]; decide)).trans (congrArg (Part.countChannel · _) ?_)
    exact (if_holds hserves).trans ((if_neg hawake).trans (if_holds hopen))

end Reads

/-! ### Writes -/

theorem length_lineToBytes (l : BitVec 512) (n : Nat) : (lineToBytes l n).length = n := by
  induction n with
  | zero => rfl
  | succ n ih => rw [lineToBytes, List.length_cons, ih]

theorem cxlmemWrite_active {q : Part} {hpa : Nat} {line : BitVec 512} (hserves : q.memServes hpa = true)
    (hactive : q.memActive = true) :
    cxlmemWrite hpa line q =
      let base := q.dpaOf hpa / 64 * 64
      if decide (q.md.cur = .freeze) || q.marching || !q.inScratch base 64 then q.addSat 0xA104 1
      else if !q.selvOpen 25 then q.selvRequest 25
      else
        let r := q.selvRequest 25
        { r with dram := r.dram.writeBytes base (lineToBytes line 64),
                 media := { r.media with poison := r.media.poison.filter (· != q.dpaOf hpa / 64) } } := by
  unfold cxlmemWrite
  rw [if_holds hserves]
  dsimp only
  rw [if_holds hactive, Nat.mul_div_cancel _ (by decide)]

end Sys2Proof.Machine

namespace Sys2Proof

open Sys2Proof.Machine

/-- Settles O48: what the demand leaves reads and writes the line. -/
theorem cxlMemLines : Obligations.CxlMemLines := by
  intro s hpa hserved q r dpa base zeroes
  obtain ⟨hserves, hactive, hdpa⟩ := s.part.memDemand_serves hpa
  have hserves : q.memServes hpa = true := hserves.trans hserved
  have hdpa : q.dpaOf hpa = dpa := hdpa
  have hread {e : EccResult} {p : Machine.Part} (hp : q.readLine hpa e = p) : Yields (.cxlmemRead hpa e) s p :=
    yields_of (f := fun p => (p.memDemand hpa).readLine hpa e) rfl hp
  have hwrite {line : BitVec 512} {p : Machine.Part} (hp : cxlmemWrite hpa line q = p) :
      Yields (.cxlmemWrite hpa line) s p :=
    yields_of (f := fun p => cxlmemWrite hpa line (p.memDemand hpa)) rfl hp
  refine ⟨fun e h => hread ?asleep, fun hact hmarch => ?reads, fun line => ⟨fun hearly => hwrite ?early,
    fun hact hbad => hwrite ?refused, fun hact hfreeze hmarch hscratch => ?stored⟩⟩
  case asleep =>
    rw [← hdpa]
    exact Part.readLine_asleep hserves e (h.imp_left hactive.trans)
  case reads =>
    have hact : q.memActive = true := hactive.trans hact
    rw [← hdpa]
    exact ⟨fun hclosed e => hread (Part.readLine_closed hserves hact hmarch e hclosed),
      fun hopen hdead e => hread (Part.readLine_dead hserves hact hmarch hopen e hdead),
      fun hopen hlive => ⟨hread (Part.readLine_live hserves hact hmarch hopen .clean hlive),
        hread (Part.readLine_live hserves hact hmarch hopen .corrected hlive),
        hread (Part.readLine_live hserves hact hmarch hopen .uncorrectable hlive)⟩⟩
  case early => exact (if_holds hserves).trans (if_fails (hactive.trans hearly))
  case refused =>
    have hrow := cxlmemWrite_active (line := line) hserves (hactive.trans hact)
    rw [hdpa] at hrow
    refine hrow.trans (if_pos ?_)
    rcases hbad with h | h | h
    · rw [decide_eq_true h]
      rfl
    · rw [h, Bool.or_true]
      rfl
    · exact (Bool.or_eq_true _ _).mpr (.inr (by rw [Bool.not_eq_true']; exact h))
  case stored =>
    have hrow := cxlmemWrite_active (line := line) hserves (hactive.trans hact)
    rw [hdpa] at hrow
    have hstored : cxlmemWrite hpa line q = if !q.selvOpen 25 then r else
        { r with dram := r.dram.writeBytes base (lineToBytes line 64),
                 media := { r.media with poison := r.media.poison.filter (· != dpa / 64) } } := by
      refine hrow.trans (if_neg ?_)
      have hscratch' : q.inScratch (dpa / 64 * 64) 64 = true := hscratch
      rw [decide_eq_false hfreeze, hmarch, hscratch']
      decide
    refine ⟨fun hclosed => hwrite (hstored.trans (if_fails hclosed)),
      fun hopen => ⟨_, hwrite (hstored.trans (if_holds hopen)), rfl, fun a ha => ?_⟩⟩
    exact Memory.byteAt_writeBytes_outside _ _ _ _ (by rw [length_lineToBytes]; exact ha)

end Sys2Proof
end

section
/-! Lane receivers, FEC, FlexO and OTUCn framing (R187 to R215). -/

namespace Sys2Proof.Machine

/-! ### Rows whose clocks stand in FREEZE -/

theorem yields_frozen_clock {i : Instr} {s : State} {f : Part → Part} (hexec : exec i s = onClock f s)
    (hfreeze : s.part.md.cur = .freeze) : Yields i s s.part := by
  rw [Yields, hexec, onClock_freeze f s hfreeze]

theorem yields_frozen_receivers {i : Instr} {s : State} {f : Part → Part} (hexec : exec i s = onReceivers f s)
    (hfreeze : s.part.md.cur = .freeze) : Yields i s s.part := by
  rw [Yields, hexec, onReceivers_freeze f s hfreeze]

theorem yields_of_receivers {i : Instr} {s : State} {f : Part → Part} {p : Part} (hexec : exec i s = onReceivers f s)
    (hfreeze : s.part.md.cur ≠ .freeze) (hp : f s.part = p) : Yields i s p.signals := by
  rw [Yields, hexec, onReceivers_next f s hfreeze, hp]

/-- A condition of two tests. -/
theorem if_both {α : Type} {a b : Bool} (ha : a = true) (hb : b = true) {x y : α} :
    (if (a && b) = true then x else y) = x :=
  if_pos (by rw [ha, hb]; rfl)

theorem ite_bnot {α : Type} {b : Bool} {x y : α} : (if (!b) = true then x else y) = if b = true then y else x := by
  cases b <;> rfl

/-! ### FEC and multiframes -/

theorem Part.fecLane_eq (p : Part) (l : Nat) :
    p.fecLane l = if l < 48 then l else ((p.clientOf (l - 48)).map (48 + ·)).getD l := by
  unfold Part.fecLane
  cases p.clientOf (l - 48) <;> rfl

/-- A run of multiframes with a mismatch, and one of multiframes without. -/
theorem runStep_bad (n : Nat) (wrong all : Bool) :
    runStep n wrong (all && !wrong) = if wrong then n + 1 else if all then 0 else n := by
  cases wrong <;> simp [runStep]

theorem runStep_fine (n : Nat) (wrong all : Bool) :
    runStep n (all && !wrong) wrong = if wrong then 0 else if all then n + 1 else n := by
  cases wrong <;> simp [runStep]

/-! ### Framing -/

section Frame

variable {p : Part} {q : Nat} {f : OtucFrame}

theorem Part.frameAlign_idle (h : p.portOn q = false ∨ p.huntMode = false ∨ (p.portState q ≠ 1 ∧ p.portState q ≠ 2)) :
    p.frameAlign q f = p := by
  unfold Part.frameAlign
  rcases h with h | h | ⟨hoof, hif⟩
  · exact if_pos (by rw [h]; rfl)
  · exact if_pos (by rw [h, Bool.not_false, Bool.or_true])
  · exact ite_eq_left_iff.mpr fun _ => (if_neg hoof).trans (if_neg hif)

theorem Part.ifFrame_missed {m : Byte} : p.ifFrame q false m =
    if 5 ≤ (p.port q).ifMiss + 1 then (p.addSat (lineReg q 0x30) 1).toOof q
    else (p.setPort q { p.port q with ifMiss := (p.port q).ifMiss + 1 }).mfasStep q m :=
  rfl

theorem Part.frameAlign_runs (hon : p.portOn q = true) (hhunt : p.huntMode = true) : p.frameAlign q f =
    if p.portState q = 1 then p.oofFrame q (findsOf (p.portN q) f.sites)
    else if p.portState q = 2 then p.ifFrame q (fasFound (p.portN q) false f.cols) f.mfas
    else p :=
  if_neg (by rw [hon, hhunt]; decide)

end Frame

end Sys2Proof.Machine

namespace Sys2Proof

open Sys2Proof.Machine

/-- Settles O49: each row by its branch; in FREEZE the receivers' clocks stand. -/
theorem lineReceivers : Obligations.LineReceivers := by
  refine ⟨fun s l lf q o f x hfreeze => ?frozen, fun s l hfreeze => ?lane, fun s l => ?fec, fun s l hfreeze => ?degrade,
    fun s l f hfreeze => ?frame, fun s q hfreeze => ?multiframe, fun s q hfreeze => ?otucn, fun s q hfreeze => ?timers⟩
  case frozen =>
    simp only [List.forall_mem_cons, List.not_mem_nil, false_imp_iff, implies_true, and_true]
    exact ⟨yields_frozen_receivers rfl hfreeze, yields_frozen_receivers rfl hfreeze,
      yields_frozen_receivers rfl hfreeze,
      yields_frozen_receivers rfl hfreeze, yields_frozen_clock rfl hfreeze, yields_frozen_receivers rfl hfreeze,
      yields_frozen_receivers (f := fun p => (flexoMultiframeRx q p).sendFlexo q) rfl hfreeze,
      yields_frozen_receivers rfl hfreeze, yields_frozen_receivers rfl hfreeze,
      yields_frozen_receivers rfl hfreeze, yields_frozen_receivers rfl hfreeze, yields_frozen_receivers rfl hfreeze⟩
  case lane =>
    intro p st
    refine ⟨fun hoff o => ?_, fun hon => ⟨?_, fun hsig => ?_, fun hsig o => ?_, fun o hsig hin => ?_,
      fun o hsig hout => ?_, ?_⟩⟩
    · simp only [List.forall_mem_cons, List.not_mem_nil, false_imp_iff, implies_true, and_true]
      exact ⟨yields_of_receivers (f := laneSignalDetect l) rfl hfreeze (if_off hoff),
        yields_of_receivers (f := laneSignalLoss l) rfl hfreeze (if_neg (by rw [hoff]; exact Bool.false_ne_true)),
        yields_of_receivers (f := laneCdrLock l o) rfl hfreeze (if_pos (by rw [hoff]; rfl)),
        yields_of_receivers (f := laneAdaptDone l) rfl hfreeze (if_neg (by rw [hoff]; exact Bool.false_ne_true))⟩
    · exact yields_of_receivers (f := laneSignalDetect l) rfl hfreeze (if_pos hon)
    · exact yields_of_receivers (f := laneSignalLoss l) rfl hfreeze (if_both hon hsig)
    · simp only [List.forall_mem_cons, List.not_mem_nil, false_imp_iff, implies_true, and_true]
      exact ⟨yields_of_receivers (f := laneSignalLoss l) rfl hfreeze
          (if_neg (by rw [hsig, Bool.and_false]; exact Bool.false_ne_true)),
        yields_of_receivers (f := laneCdrLock l o) rfl hfreeze (if_pos (by rw [hsig, Bool.not_false, Bool.or_true]))⟩
    · exact yields_of_receivers (f := laneCdrLock l o) rfl hfreeze
        ((if_neg (by rw [hon, hsig]; decide)).trans (if_pos hin))
    · have hrow : laneCdrLock l o p = if p.bit st 1 then (p.fallLane l 1).evalLane l else p :=
        (if_neg (by rw [hon, hsig]; decide)).trans (if_neg (not_le.mpr hout))
      split
      · next h => exact yields_of_receivers (f := laneCdrLock l o) rfl hfreeze (hrow.trans (if_pos h))
      · next h => exact yields_of_receivers (f := laneCdrLock l o) rfl hfreeze (hrow.trans (if_neg h))
    · split
      · next h => exact yields_of_receivers (f := laneAdaptDone l) rfl hfreeze (if_both hon h)
      · next h =>
        refine yields_of_receivers (f := laneAdaptDone l) rfl hfreeze (if_neg ?_)
        rw [Bool.and_eq_true]
        exact fun hboth => h hboth.2
  case fec =>
    intro p k r
    have hrow {c : CodewordResult} {x : Machine.Part} (hx : fecCodeword l c s.part = x) :
        Yields (.fecCodeword l c) s x :=
      yields_of (f := fecCodeword l c) rfl hx
    refine ⟨fun hoff c => hrow (if_fails hoff), fun hon =>
      ⟨hrow ?_, fun sy bi => hrow ?_, hrow ?_⟩⟩
    all_goals rw [fecCodeword, if_holds hon, Part.fecLane_eq]
  case degrade =>
    intro p st now thr rise low q
    have hrow {x : Machine.Part} (hx : fecDegSecond l s.part = x) : Yields (.fecDegSecond l) s x :=
      yields_of_clock (f := fecDegSecond l) rfl hfreeze hx
    refine ⟨fun hstop => hrow (if_fails hstop), fun hrun hzero => hrow ((if_holds hrun).trans (if_pos hzero)),
      fun hrun hthr hrise hclear => hrow ((if_holds hrun).trans ((if_neg (Nat.pos_iff_ne_zero.mp hthr)).trans
        ((if_pos hrise).trans (if_off hclear)))),
      fun hrun hthr hrise hset => hrow ((if_holds hrun).trans ((if_neg (Nat.pos_iff_ne_zero.mp hthr)).trans
        ((if_pos hrise).trans (if_pos hset)))),
      fun hrun hthr hrise => hrow ((if_holds hrun).trans ((if_neg (Nat.pos_iff_ne_zero.mp hthr)).trans
        (if_neg (Nat.not_lt.mpr hrise))))⟩
  case frame =>
    intro p ready
    split
    · next h => exact yields_of_receivers (f := flexoFrameRx l f) rfl hfreeze (if_pos h)
    · next h => exact yields_of_receivers (f := flexoFrameRx l f) rfl hfreeze (if_neg h)
  case multiframe =>
    intro p c good all gid pid bad fine heard set dgid
    have hrow {x : Machine.Part} (hx : flexoMultiframeRx q s.part = x) :
        Yields (.flexoMultiframeRx q) s (x.sendFlexo q).signals :=
      yields_of_receivers (f := fun p => (flexoMultiframeRx q p).sendFlexo q) rfl hfreeze (by rw [hx])
    refine ⟨fun hidle => hrow (if_pos ?_), fun hon hclock hmode => hrow ((if_neg ?_).trans ?_)⟩
    · rcases hidle with h | h | h
      · rw [h]; rfl
      · rw [h, Bool.not_false, Bool.or_true, Bool.true_or]
      · rw [h, Bool.not_false, Bool.or_true]
    · rw [hon, hclock, hmode]; decide
    · simp only [runStep_bad, runStep_fine, ite_bnot]
      rfl
  case otucn =>
    intro p c rest
    have hrow {f : OtucFrame} {x : Machine.Part} (hx : p.frameAlign q f = x) :
        Yields (.otucnFramePeriod q f) s (rest f x) :=
      yields_of_receivers (f := otucnFramePeriod q f) rfl hfreeze (by rw [otucnFramePeriod]; rw [hx])
    refine ⟨fun f hidle => hrow (Part.frameAlign_idle hidle), fun hon hhunt => ?_⟩
    have hruns {f : OtucFrame} := Part.frameAlign_runs (p := p) (f := f) hon hhunt
    refine ⟨fun f hoof => hrow (hruns.trans (if_pos hoof)), fun f hif hfas => ?_, fun f hif hfas hmiss => ?_,
      fun f hif hfas hmiss => ?_⟩
    all_goals
      have hframe := (hruns (f := f)).trans ((if_neg (by rw [hif]; decide)).trans (if_pos hif))
      rw [hfas] at hframe
      refine hrow (hframe.trans ?_)
    · rfl
    · exact Part.ifFrame_missed.trans (if_neg (Nat.not_le.mpr (Nat.succ_lt_succ hmiss)))
    · exact Part.ifFrame_missed.trans (if_pos (Nat.succ_le_succ hmiss))
  case timers =>
    intro p inFrame oom
    refine ⟨?_, ?_, ?_, ?_⟩ <;> rw [← apply_ite Part.signals]
    · exact yields_of_receivers (f := dlofSet q) rfl hfreeze rfl
    · exact yields_of_receivers (f := dlofClear q) rfl hfreeze rfl
    · exact yields_of_receivers (f := dlomSet q) rfl hfreeze rfl
    · exact yields_of_receivers (f := dlomClear q) rfl hfreeze rfl

end Sys2Proof
end

section
/-! Points, consequent actions, performance monitoring and mapping (R223 to R274). -/

namespace Sys2Proof.Machine

/-! ### Modes -/

theorem Part.runMode_freeze {p : Part} (h : p.md.cur = .freeze) : p.runMode = .freeze := by
  rw [Part.runMode, h]; rfl

theorem Part.receives_freeze {p : Part} (h : p.md.cur = .freeze) : p.runMode.receives = false := by
  rw [Part.runMode_freeze h]; rfl

theorem Part.carries_freeze {p : Part} (h : p.md.cur = .freeze) : p.runMode.carries = false := by
  rw [Part.runMode_freeze h]; rfl

/-- A guard of three tests, as the model writes it. -/
theorem if_three {α : Type} {a b c : Bool} {x y : α} :
    (if (!a || !b || !c) = true then x else y) = if (a && b && c) = true then y else x := by
  cases a <;> cases b <;> cases c <;> rfl

/-! ### The mapper -/

section Mapper

variable {t : Fin 1024} {q : MapIn} {p : Part}

theorem Part.headMapper_freeze (h : p.md.cur = .freeze) (t n : Nat) : p.headMapper t n = p := by
  have hsends : p.sends = false := by rw [Part.sends, Part.carries_freeze h]; rfl
  unfold Part.headMapper
  refine ite_eq_left_iff.mpr fun _ => if_pos ?_
  rw [hsends, Bool.not_false, Bool.or_true]

theorem mapperPeriodEnd_idle (h : (p.tribOn t && (p.trib t).built && p.runMode.carries) = false) :
    mapperPeriodEnd t q p = p :=
  if_three.trans (if_off h)

theorem mapperPeriodEnd_runs (h : (p.tribOn t && (p.trib t).built && p.runMode.carries) = true) :
    mapperPeriodEnd t q p = match q with
      | .carrier bits => (match p.stage t with | some g => p.mapPeriod t g bits | none => p.ampPeriod t bits)
      | .client bits => (match p.mapsClient t with
        | some n => if p.tribType t = 4 then p.clientPeriod t n bits else p | none => p)
      | .blocks bs slots => (match p.mapsClient t with
        | some n => if p.tribType t = 6 then p.impMap t n bs slots else p | none => p) := by
  refine if_three.trans ((if_pos h).trans ?_)
  cases q <;> rfl

theorem mapperRow_freeze (h : p.md.cur = .freeze) : mapperRow t q p = p := by
  unfold mapperRow
  rw [mapperPeriodEnd_idle (by rw [Part.carries_freeze h, Bool.and_false]), Part.headMapper_freeze h]

/-- What reaches the mapper, by WEFT. -/
theorem mapIn_carrier (w : Bool) (bits : List Bool) :
    (if w = true then MapIn.carrier bits else (MapIn.carrier bits).cut) = .carrier (if w = true then bits else []) := by
  cases w <;> rfl

theorem mapIn_client (w : Bool) (bits : List Bool) :
    (if w = true then MapIn.client bits else (MapIn.client bits).cut) = .client (if w = true then bits else []) := by
  cases w <;> rfl

theorem mapIn_blocks (w : Bool) (bs : List PcsBlock) (slots : Nat) :
    (if w = true then MapIn.blocks bs slots else (MapIn.blocks bs slots).cut) =
      .blocks (if w = true then bs else []) slots := by
  cases w <;> rfl

end Mapper

/-! ### The receiver of a tributary -/

section Receiver

variable {t : Fin 1024} {j : JcIn} {p : Part}

theorem jcRx_idle (h : (p.tribOn t && (p.trib t).built && p.runMode.receives) = false) : jcRx t j p = p :=
  if_three.trans (if_off h)

theorem jcRx_runs (h : (p.tribOn t && (p.trib t).built && p.runMode.receives) = true) : jcRx t j p = match j with
      | .carrier jc payload => (match p.stage t with
        | some g => (p.emit (.taken t false (p.demapped t g payload))).jcDecide t g jc payload
        | none => p.emit (.taken t false (ampTake (Config.ampPositions (ampHeard jc)) payload)))
      | .client jc payload => if (p.tribClient t).isSome ∧ p.tribType t = 4 then p.clientJc t jc payload else p
      | .blocks bs slots => if (p.tribClient t).isSome ∧ p.tribType t = 6 then p.impDemap t bs slots else p := by
  refine if_three.trans ((if_pos h).trans ?_)
  cases j <;> rfl

variable {g : Stage} {jc : List Byte} {data : List Bool}

/-- A second stage, and a first one outside FJM without a start, go by the GMP count. -/
theorem Part.jcDecide_gmp (h : p.tribSecond t = true ∨ (p.rxFjm t = false ∧ fjcStart (fjcOf jc data) = none)) :
    (∀ v : Nat × Nat, p.gmpHeard t g jc = some v → p.jcDecide t g jc data = p.gmpGood t v) ∧
    (p.gmpHeard t g jc = none → p.jcDecide t g jc data = p.jcBad t) := by
  unfold Part.jcDecide
  by_cases hsecond : p.tribSecond t = true
  · rw [hsecond]
    exact ⟨fun v hv => by rw [hv]; rfl, fun hv => by rw [hv]; rfl⟩
  · obtain ⟨hfjm, hstart⟩ := h.resolve_left hsecond
    rw [Bool.eq_false_iff.mpr hsecond, hfjm]
    dsimp only
    rw [hstart]
    exact ⟨fun v hv => by rw [hv]; rfl, fun hv => by rw [hv]; rfl⟩

theorem Part.jcDecide_start {c : Nat} (hsecond : p.tribSecond t = false) (hfjm : p.rxFjm t = false)
    (hstart : fjcStart (fjcOf jc data) = some c) : p.jcDecide t g jc data = (p.jcGood t true c).rxMethod t true := by
  unfold Part.jcDecide
  rw [hsecond, hfjm]
  dsimp only
  rw [hstart]; rfl

/-- A first stage in FJM goes by the frame justification control, or leaves the method by a GMP count. -/
theorem Part.jcDecide_fjm (hsecond : p.tribSecond t = false) (hfjm : p.rxFjm t = true) :
    (∀ c : Nat, fjcAccept (p.pbit t) (fjcOf jc data) = some c → p.jcDecide t g jc data =
      if (fjcOf jc data).triple = true then p.jcGood t true c else (p.jcGood t true c).addSat (tribReg t 0x28) 1) ∧
    (∀ v : Nat × Nat, fjcAccept (p.pbit t) (fjcOf jc data) = none → p.gmpHeard t g jc = some v →
      p.jcDecide t g jc data = (p.gmpGood t v).rxMethod t false) ∧
    (fjcAccept (p.pbit t) (fjcOf jc data) = none → p.gmpHeard t g jc = none → p.jcDecide t g jc data = p.jcBad t) := by
  unfold Part.jcDecide
  rw [hsecond, hfjm]
  dsimp only
  exact ⟨fun c hc => by rw [hc]; rfl, fun v hc hv => by rw [hc, hv]; rfl, fun hc hv => by rw [hc, hv]; rfl⟩

end Receiver

end Sys2Proof.Machine

namespace Sys2Proof

open Sys2Proof.Machine

/-- Settles O50: each row by its branch; in FREEZE no mode carries or receives. -/
theorem pointsAndMapping : Obligations.PointsAndMapping := by
  refine ⟨fun s t q a n k f m j hfreeze => ?frozen, fun s t f => ?frame, fun s t hfreeze => ?flom,
    fun s q a hfreeze => ?action,
    fun s sec hfreeze => ?second, fun s q hfreeze => ?classify, fun s hfreeze => ?bin, fun s k hfreeze => ?aps,
    fun s t q => ?mapper, fun s t j => ?jc, fun s t hfreeze => ?method, fun s t hfreeze => ?rebuild⟩
  case frozen =>
    have hrec : (s.part.tribOn t && (s.part.trib t).built && s.part.runMode.receives) = false := by
      rw [Part.receives_freeze hfreeze, Bool.and_false]
    simp only [List.forall_mem_cons, List.not_mem_nil, false_imp_iff, implies_true, and_true]
    exact ⟨yields_of (f := loOduFrameRx t f) rfl (if_three.trans (by rw [hrec]; rfl)),
      yields_frozen_receivers rfl hfreeze, yields_frozen_clock rfl hfreeze, yields_frozen_receivers rfl hfreeze,
      yields_frozen_clock rfl hfreeze, yields_frozen_clock rfl hfreeze, yields_frozen_clock rfl hfreeze,
      yields_of (f := mapperRow t m) rfl (mapperRow_freeze hfreeze), yields_of (f := jcRx t j) rfl (jcRx_idle hrec),
      yields_frozen_clock rfl hfreeze, yields_frozen_clock rfl hfreeze,
      yields_of (f := tribRebuild t) rfl (if_pos (by rw [hfreeze]; exact Bool.or_true _))⟩
  case frame =>
    intro p runs
    exact ⟨fun h => yields_of (f := loOduFrameRx t f) rfl (if_three.trans (if_pos h)),
      fun h => yields_of (f := loOduFrameRx t f) rfl (if_three.trans (if_off h))⟩
  case flom =>
    intro p
    split
    · next h => exact yields_of_receivers (f := dloflomTimer t) rfl hfreeze (if_pos h)
    · next h => exact yields_of_receivers (f := dloflomTimer t) rfl hfreeze (if_neg h)
  case action =>
    intro inst
    exact ⟨fun h => yields_of_clock (f := consequentActionApply q a) rfl hfreeze (if_pos h),
      fun h => yields_of_clock (f := consequentActionApply q a) rfl hfreeze (if_off h)⟩
  case second =>
    intro p live full all go
    have hrow {x : Machine.Part} (hx : pmSecondEnd sec p = x) : Yields (.pmSecondEnd sec) s x.signals :=
      yields_of_receivers (f := pmSecondEnd sec) rfl hfreeze hx
    refine ⟨fun hstop => hrow (if_pos (by rw [hstop]; rfl)), fun hruns => ?_⟩
    have hgo : ¬(!p.time.running || p.md.cur == .freeze) = true := by
      rw [hruns, Bool.not_true, Bool.false_or]
      simpa using hfreeze
    refine ⟨fun hlast => hrow ((if_neg hgo).trans ?_), fun l hlast hle => hrow ((if_neg hgo).trans ?_),
      fun l hlast hnext => hrow ((if_neg hgo).trans ?_), fun l hlast hjump => hrow ((if_neg hgo).trans ?_)⟩ <;>
      dsimp only <;> rw [hlast]
    · exact if_pos hle
    · have hgap : sec - l - 1 = 0 := by omega
      refine (if_neg (show ¬sec ≤ l by omega)).trans ?_
      rw [if_pos hgap]
    · have hgap : ¬sec - l - 1 = 0 := by omega
      refine (if_neg (show ¬sec ≤ l by omega)).trans ?_
      rw [if_neg hgap]
  case classify =>
    split
    · next h => exact yields_of_clock (f := pmClassify q) rfl hfreeze (if_pos (by rw [h]; rfl))
    · next h =>
      refine yields_of_clock (f := pmClassify q) rfl hfreeze (if_neg ?_)
      rw [Bool.or_eq_true, not_or]
      exact ⟨h, by simpa using hfreeze⟩
  case bin =>
    intro p
    have hrow {x : Machine.Part} (hx : pmBinClose p = x) : Yields .pmBinClose s x :=
      yields_of_clock (f := pmBinClose) rfl hfreeze hx
    refine ⟨fun hidle => hrow ?_, fun n hn hruns => ?_⟩
    · unfold pmBinClose
      cases hclose : p.pm.toClose with
      | none => rfl
      | some n => exact if_pos (.inr (hidle.resolve_left (by rw [hclose]; exact Option.some_ne_none n)))
    · intro m quarter r
      refine hrow ?_
      unfold pmBinClose
      rw [hn]
      exact if_neg (not_or.mpr ⟨hfreeze, by rw [hruns]; decide⟩)
  case aps =>
    intro p w b q higher
    have hhigher : (List.range 64).any (fun j => decide (k.val < j) && (bitAt (p.reg (0x70100 + 8 * j)) 31 &&
        fieldOf (p.reg (0x70100 + 8 * j)) 10 0 == fieldOf w 10 0 &&
        fieldOf (p.reg (0x70100 + 8 * j)) 18 16 == fieldOf w 18 16) && (q.apsBytes j).isSome) = true ↔ higher := by
      simp only [List.any_eq_true, List.mem_range, Bool.and_eq_true, decide_eq_true_eq, beq_iff_eq]
      constructor
      · rintro ⟨j, hj, ⟨hk, ⟨hbit, hpoint⟩, hlevel⟩, hbytes⟩
        exact ⟨j, hk, hj, hbit, hpoint, hlevel, hbytes⟩
      · rintro ⟨j, hk, hj, hbit, hpoint, hlevel, hbytes⟩
        exact ⟨j, hj, ⟨hk, ⟨hbit, hpoint⟩, hlevel⟩, hbytes⟩
    have hrow {x : Machine.Part} (hx : apsTxInsert k p = x) : Yields (.apsTxInsert k) s x :=
      yields_of_clock (f := apsTxInsert k) rfl hfreeze hx
    have hon (hw : w.getLsbD 31 = true) (hc : p.runMode.carries = true) :
        ¬(!bitAt w 31 || !p.runMode.carries) = true := by
      rw [hc, bitAt, hw]; decide
    refine ⟨fun hw hc hno => hrow ((if_neg (hon hw hc)).trans (if_neg (mt hhigher.mp hno))),
      fun hw hc hyes => hrow ((if_neg (hon hw hc)).trans (if_pos (hhigher.mpr hyes))), fun hoff => hrow (if_pos ?_)⟩
    rcases hoff with h | h
    · refine Bool.or_eq_true_iff.mpr (.inl ?_)
      rw [bitAt, show (p.reg (0x70100 + 8 * k)).getLsbD 31 = false from h]; rfl
    · exact Bool.or_eq_true_iff.mpr (.inr (by rw [h]; rfl))
  case mapper =>
    intro p c yields crossing runs
    have hrow {n : Nat} {x : Machine.Part} (hn : p.releasedBits t q = n)
        (hx : mapperPeriodEnd t (if p.weftRuns = true then q else q.cut) p = x) : yields x n :=
      yields_of (f := mapperRow t q) rfl (by rw [mapperRow]; rw [hx, hn])
    refine ⟨fun hoff => hrow rfl (mapperPeriodEnd_idle hoff), fun hruns => ?_⟩
    have hgo {x : MapIn} := mapperPeriodEnd_runs (q := x) hruns
    refine ⟨fun bits g hq hg => ?_, fun bits hq hg => ?_, fun bits n hq hn htype => ?_,
      fun bs slots n hq hn htype => ?_, fun bits hq hno => ?_, fun bs slots hq hno => ?_⟩ <;> subst hq
    · intro st r fjc count last
      have hstage : mapperPeriodEnd t (if p.weftRuns = true then .carrier bits else (MapIn.carrier bits).cut) p =
          p.mapPeriod t g (crossing bits) := by rw [mapIn_carrier, hgo]; dsimp only; rw [hg]
      have hbits : p.releasedBits t (.carrier bits) = p.released t g := by rw [Part.releasedBits, hg]; rfl
      exact ⟨fun hm => hrow hbits (hstage.trans (if_pos hm)), fun hm => hrow hbits (hstage.trans (if_off hm))⟩
    · exact hrow (by rw [Part.releasedBits, hg]; rfl) (by rw [mapIn_carrier, hgo]; dsimp only; rw [hg])
    · exact hrow rfl (by rw [mapIn_client, hgo]; dsimp only; rw [hn]; exact if_pos htype)
    · exact hrow rfl (by rw [mapIn_blocks, hgo]; dsimp only; rw [hn]; exact if_pos htype)
    · refine hrow rfl ?_
      rw [mapIn_client, hgo]
      dsimp only
      cases hm : p.mapsClient t with
      | none => rfl
      | some n => exact if_neg (hno.resolve_left (by rw [hm]; exact Option.some_ne_none n))
    · refine hrow rfl ?_
      rw [mapIn_blocks, hgo]
      dsimp only
      cases hm : p.mapsClient t with
      | none => rfl
      | some n => exact if_neg (hno.resolve_left (by rw [hm]; exact Option.some_ne_none n))
  case jc =>
    intro p runs
    have hrow {x : Machine.Part} (hx : jcRx t j p = x) : Yields (.jcRx t j) s x := yields_of (f := jcRx t j) rfl hx
    refine ⟨fun hoff => hrow (jcRx_idle hoff), fun hruns => ?_⟩
    have hgo := jcRx_runs (j := j) hruns
    refine ⟨fun jc data g hj hg => ?_, fun jc data hj hg => ?_, fun jc data hj => ?_,
      fun bs slots hj => ?_⟩ <;> subst hj
    · intro r gmp f
      have hdecide {x : Machine.Part} (hx : r.jcDecide t g jc data = x) : Yields (.jcRx t (.carrier jc data)) s x :=
        hrow (hgo.trans (by dsimp only; rw [hg]; exact hx))
      refine ⟨fun hby => ?_, fun c hsecond hfjm hstart => hdecide (Part.jcDecide_start (p := r) hsecond hfjm hstart),
        fun hsecond hfjm => ?_⟩
      · obtain ⟨hgood, hbad⟩ := Part.jcDecide_gmp (p := r) (g := g) hby
        exact ⟨fun v hv => hdecide (hgood v hv), fun hv => hdecide (hbad hv)⟩
      · obtain ⟨htaken, hleft, hbad⟩ := Part.jcDecide_fjm (p := r) (g := g) (jc := jc) (data := data) hsecond hfjm
        exact ⟨fun c hc => hdecide (htaken c hc), fun v hc hv => hdecide (hleft v hc hv),
          fun hc hv => hdecide (hbad hc hv)⟩
    · exact hrow (hgo.trans (by dsimp only; rw [hg]))
    · exact hrow hgo
    · exact hrow hgo
  case method =>
    intro p own
    have hrow {x : Machine.Part} (hx : methodChange t p = x) : Yields (.methodChange t) s x :=
      yields_of_clock (f := methodChange t) rfl hfreeze hx
    have hguard : (!p.tribOn t || p.tribSecond t || !(p.trib t).built) = !own := by
      simp only [own, Bool.not_and, Bool.not_not]
    refine ⟨fun hidle => hrow ?_, fun fjm hown hdue => hrow ?_, yields_of_clock (f := capSeenExpire t) rfl hfreeze rfl⟩
    · unfold methodChange
      rw [hguard]
      cases hdue : p.methodDue t with
      | none => exact ite_self _
      | some fjm =>
        have hoff := hidle.resolve_right (by rw [hdue]; exact Option.some_ne_none fjm)
        rw [hoff]; rfl
    · unfold methodChange
      rw [hguard, hown, hdue]; rfl
  case rebuild =>
    intro p due q
    have hguard : (!p.tribOn t || (p.trib t).built || !p.mode.slicesOn || p.md.cur == .freeze) = !due := by
      rw [beq_false_of_ne hfreeze, Bool.or_false]
      simp only [due, Bool.not_and, Bool.not_not]
    refine yields_of (f := tribRebuild t) rfl ?_
    unfold tribRebuild
    rw [hguard]
    cases hdue : due with
    | false => rfl
    | true =>
      refine (if_neg (by decide)).trans (Eq.symm ((if_neg (by decide)).trans ?_))
      simp only [beq_iff_eq]
      rfl

end Sys2Proof
end

section
/-! Seam merging (R283 to R295). -/

namespace Sys2Proof.Machine

/-- A guard of four tests, as the model writes it. -/
theorem if_four {α : Type} {a b c d : Bool} {x y : α} :
    (if (!a || !b || !c || !d) = true then x else y) = if (a && b && c && d) = true then y else x := by
  cases a <;> cases b <;> cases c <;> cases d <;> rfl

theorem Part.legState_setLeg (p : Part) (g k : Nat) (v : LegSt) (g' k' : Nat) :
    (p.setLeg g k v).legState g' k' = p.legState g' k' := rfl

/-! ### A copy of a first-arrival group -/

section CopyRx

variable {g : Fin 512} {k : Fin 3} {c : Word} {p : Part}

/-- SEAM_COPY_RX acts for a merging first-arrival group whose leg is READY or ACTIVE. -/
theorem seamCopyRx_idle (h : (p.seamOn g && p.seamFirst g && !p.seamElim g && p.weftRuns) = false ∨
    (p.legState g k ≠ 3 ∧ p.legState g k ≠ 4)) : seamCopyRx g k c p = p := by
  unfold seamCopyRx
  rcases h with h | ⟨h3, h4⟩
  · refine if_pos ?_
    rw [← Bool.not_eq_false', Bool.not_or, Bool.not_or, Bool.not_or, Bool.not_not, Bool.not_not, Bool.not_not]
    exact h
  · refine ite_eq_left_iff.mpr fun _ => ?_
    split
    · next heq => exact absurd heq h4
    · next heq => exact absurd heq h3
    · rfl

theorem seamCopyRx_guard (h : (p.seamOn g && p.seamFirst g && !p.seamElim g && p.weftRuns) = true) :
    ¬(!p.seamOn g || !p.seamFirst g || p.seamElim g || !p.weftRuns) = true := by
  revert h
  cases p.seamOn g <;> cases p.seamFirst g <;> cases p.seamElim g <;> cases p.weftRuns <;> decide

/-- A copy on a READY leg shows whether the leg leads, and a leading one takes over where none is ACTIVE. -/
theorem seamCopyRx_ready (h : (p.seamOn g && p.seamFirst g && !p.seamElim g && p.weftRuns) = true)
    (hstate : p.legState g k = 3) : seamCopyRx g k c p =
      let leads := ((p.expect g).map fun e => laterThan c e).getD false
      let q := p.setBit (seamReg g 0x14) (23 + k.val) leads
      let r := q.setLeg g k { q.leg g k with next := some (c + 1#32) }
      if leads && (r.legsIn g 4).isEmpty && r.peerAdmits g k then
        (((r.skipTo g c).toLeg g k 4).count (0x5000 + g.val) 4 1).follow g k c |>.settle g
      else r := by
  refine (if_neg (seamCopyRx_guard h)).trans ?_
  rw [hstate]
  cases p.expect g <;> rfl

end CopyRx

end Sys2Proof.Machine

namespace Sys2Proof

open Sys2Proof.Machine

/-- Settles O51: each row by its branch, and in FREEZE the clocks of all stand. -/
theorem seamMerging : Obligations.SeamMerging := by
  refine ⟨fun s g k c bad l h hfreeze => ?frozen, fun s g c bad hfreeze => ?release, fun s g k c hfreeze => ?copy,
    fun s g leads hfreeze => ?build, fun s g k hfreeze => ?slew, fun s g hfreeze => ?exit, fun s g k hfreeze => ?timers,
    fun s g k h hfreeze => ?admission⟩
  case frozen =>
    simp only [List.forall_mem_cons, List.not_mem_nil, false_imp_iff, implies_true, and_true]
    exact ⟨yields_frozen_clock rfl hfreeze, yields_frozen_clock rfl hfreeze, yields_frozen_clock rfl hfreeze,
      yields_frozen_clock rfl hfreeze, yields_frozen_clock rfl hfreeze, yields_frozen_clock rfl hfreeze,
      yields_frozen_clock rfl hfreeze, yields_frozen_clock rfl hfreeze, yields_frozen_clock rfl hfreeze⟩
  case release =>
    intro p led runs q r d
    have hrow {x : Machine.Part} (hx : seamRelease g c bad p = x) : Yields (.seamRelease g c bad) s x :=
      yields_of_clock (f := seamRelease g c bad) rfl hfreeze hx
    refine ⟨fun hoff => hrow (if_four.trans (if_off hoff)), fun hruns => ?_⟩
    have hgo {x : Machine.Part} (hx : _ = x) : Yields (.seamRelease g c bad) s x :=
      hrow (if_four.trans ((if_pos hruns).trans hx))
    refine ⟨fun hnone => hgo (if_pos (List.isEmpty_iff.mpr hnone)), fun k hsome hchoose => hgo ?_,
      fun hsome hchoose => hgo ?_⟩
    all_goals
      refine (if_off (List.isEmpty_eq_false_iff.mpr hsome)).trans ?_
      dsimp only
      rw [show Part.chooseLeg _ _ _ = _ from hchoose]
  case copy =>
    intro p led runs r degraded
    have hrow {x : Machine.Part} (hx : seamCopyRx g k c p = x) : Yields (.seamCopyRx g k c) s x :=
      yields_of_clock (f := seamCopyRx g k c) rfl hfreeze hx
    refine ⟨fun hidle => hrow (seamCopyRx_idle hidle), fun hruns hstate => ?_, fun hruns hstate => ?_⟩
    · have hgo {x : Machine.Part} (hx : _ = x) : Yields (.seamCopyRx g k c) s x :=
        hrow ((if_neg (seamCopyRx_guard hruns)).trans hx)
      refine ⟨fun hdegraded => hgo ?_, fun hdegraded hexpect => hgo ?_, fun e hdegraded hexpect hother => hgo ?_⟩ <;>
        rw [hstate]
      · exact if_pos hdegraded
      · refine (if_off hdegraded).trans ?_
        rcases hexpect with h | h <;> rw [h]
        exact if_pos rfl
      · refine (if_off hdegraded).trans ?_
        rw [hexpect]
        refine (if_neg hother).trans ?_
        split <;> rfl
    · intro leads q r
      have hready := seamCopyRx_ready (c := c) hruns hstate
      refine ⟨fun hleads hnone hadmits => hrow (hready.trans (if_pos ?_)), fun hno => hrow (hready.trans (if_neg ?_))⟩
      · rw [Bool.and_eq_true, Bool.and_eq_true]
        exact ⟨⟨hleads, List.isEmpty_iff.mpr hnone⟩, hadmits⟩
      · rw [Bool.and_eq_true, Bool.and_eq_true]
        rintro ⟨⟨hleads, hnone⟩, hadmits⟩
        rcases hno with h | h | h
        · exact Bool.false_ne_true (h.symm.trans hleads)
        · exact h (List.isEmpty_iff.mp hnone)
        · exact Bool.false_ne_true (h.symm.trans hadmits)
  case build =>
    intro p ready lead ref hold due alone placed r
    have hrow {x : Machine.Part} (hx : seamBuild g leads p = x) : Yields (.seamBuild g leads) s x :=
      yields_of_clock (f := seamBuild g leads) rfl hfreeze hx
    have hguard :
        (!p.seamOn g || !p.seamMatched g || !(p.legsIn g 4).isEmpty || ready.isEmpty || p.notesStale g) = !due := by
      simp only [due, Bool.not_and, Bool.not_not]
    refine ⟨fun hoff => hrow (if_pos (by rw [hguard, hoff]; rfl)), fun hdue => hrow ((if_neg ?_).trans ?_)⟩
    · rw [hguard, hdue]; decide
    · simp only [Bool.and_eq_true, bne_iff_ne]
      rfl
  case slew =>
    intro p slewOf
    have hrow {x : Machine.Part} (hx : seamSlewEnd g k p = x) : Yields (.seamSlewEnd g k) s x :=
      yields_of_clock (f := seamSlewEnd g k) rfl hfreeze hx
    have hgo {y : Option (Fin 3 × Nat)} (hy : slewOf = y) : ((p.seam g).slew.find? fun e => e.1 == k) = y := hy
    refine ⟨fun hnone => hrow (by rw [seamSlewEnd, hgo hnone]), fun e he => ?_⟩
    intro moved fit
    refine ⟨fun hstate => hrow ?_, fun hstate => hrow ?_⟩ <;> rw [seamSlewEnd, hgo he]
    · exact if_pos hstate
    · exact if_neg (not_not.mpr hstate)
  case exit =>
    intro r
    refine ⟨fun hidle => yields_of_clock (f := seamFallbackExit g) rfl hfreeze (if_pos ?_),
      fun hfall hmem => yields_of_clock (f := seamFallbackExit g) rfl hfreeze (if_neg ?_)⟩
    · rcases hidle with h | h
      · rw [h]; rfl
      · rw [h, Bool.not_false, Bool.or_true]
    · rw [hfall, hmem]; decide
  case timers =>
    intro p tsd degrades
    have hrow {x : Machine.Part} (hx : seamDegradeTimer g k p = x) : Yields (.seamDegradeTimer g k) s x :=
      yields_of_clock (f := seamDegradeTimer g k) rfl hfreeze hx
    have hdegrades : degrades = true ↔ p.legState g k = 4 ∧ tsd = true ∧ p.otherClean g k = true := by
      rw [Bool.and_eq_true, Bool.and_eq_true, decide_eq_true_eq, and_assoc]
    refine ⟨yields_of_clock (f := seamWtrExpire g k) rfl hfreeze rfl,
      yields_of_clock (f := seamRefitTimer g k) rfl hfreeze rfl,
      fun h hst => hrow ((if_pos (hdegrades.mp h)).trans (if_off hst)),
      fun h hst => hrow ((if_pos (hdegrades.mp h)).trans (if_pos hst)),
      fun h => hrow (if_neg (mt hdegrades.mpr (by rw [h]; decide)))⟩
  case admission =>
    intro p st inUse measured r tooFar alone
    have hrow {x : Machine.Part} (hx : seamAdmission g k h p = x) : Yields (.seamAdmission g k h) s x :=
      yields_of_clock (f := seamAdmission g k h) rfl hfreeze hx
    have hin : inUse = true ↔ ¬(!p.seamOn g || decide (p.seamLegs g ≤ k.val) || p.legState g k == 0) = true := by
      simp [inUse, st]
    have hact : ¬(p.legState g k == 4 && k.val == p.seamRef g) = true ↔
        (!(decide (st = 4) && decide (k.val = p.seamRef g))) = true := by
      simp [st, imp_iff_not_or]
    have hst3 : st = 3 → p.legState g k = 3 := id
    have hst4 : st = 4 → p.legState g k = 4 := id
    refine ⟨fun hoff => hrow ?_, fun hon hfar => ?_, fun hon hfar h3 h4 => ?_, fun hon hfar h4 => ?_,
      fun hon hfar h3 => ?_⟩
    · by_cases hused : inUse = true
      · refine (if_neg (hin.mp hused)).trans (if_pos (not_not.mp fun h => ?_))
        have hon : measured = true := Bool.and_eq_true_iff.mpr ⟨hused, hact.mp h⟩
        exact Bool.false_ne_true (hoff.symm.trans hon)
      · exact if_pos (not_not.mp (mt hin.mpr hused))
    all_goals
      obtain ⟨hused, hmeasured⟩ := Bool.and_eq_true_iff.mp hon
      have hgo {x : Machine.Part} (hx : _ = x) : Yields (.seamAdmission g k h) s x :=
        hrow ((if_neg (hin.mp hused)).trans ((if_neg (hact.mpr hmeasured)).trans hx))
    · exact hgo (if_pos hfar)
    all_goals
      have hrest {x : Machine.Part} (hx : _ = x) : Yields (.seamAdmission g k h) s x := hgo ((if_off hfar).trans hx)
    · refine hrest ?_
      split
      · next heq => exact absurd heq h3
      · next heq => exact absurd heq h4
      · rfl
    · exact hrest (by rw [Part.legState_setLeg, hst4 h4]; rfl)
    · refine ⟨fun halone => hrest ?_, fun halone hno => hrest ?_, fun halone hyes hst => hrest ?_,
        fun halone hyes hst => hrest ?_⟩ <;> rw [Part.legState_setLeg, hst3 h3]
      · exact if_pos halone
      · exact (if_off halone).trans (if_off hno)
      · exact (if_off halone).trans ((if_pos hyes).trans (if_off hst))
      · exact (if_off halone).trans ((if_pos hyes).trans (if_pos hst))

end Sys2Proof
end

section
/-! Seam notes and seam commands (R296 to R299). -/

namespace Sys2Proof.Machine

/-! ### Notices -/

section Notice

variable {p : Part} {g : Nat}

theorem Part.sendRetire_some {legs : BitVec 3} {sn : Word} (h : (p.seam g).retire = some (legs, sn)) :
    p.sendRetire g = p.seamNote g (p.seamBody g 2 legs.toNat 0 sn 0#32) := by
  rw [Part.sendRetire, h]

theorem Part.sendRetire_none (h : (p.seam g).retire = none) : p.sendRetire g = p := by
  rw [Part.sendRetire, h]

end Notice

/-! ### A note at the seam unit -/

section Note

variable {p : Part} {n : SeamNote}

theorem Part.seamOp_bad (h : p.seamNoteGood n = false) {i : Nat} (hi : i = 1 ∨ i = 2 ∨ i = 3) :
    p.seamOp i n = p.dropCause 0x42 := by
  rcases hi with rfl | rfl | rfl <;> exact if_fails h

theorem Part.takeRetire_good (h : p.seamNoteGood n = true) : p.takeRetire n =
    let g := n.group.val
    let r := (List.range (p.seamLegs g)).foldl (fun (a : Part × Nat) k =>
      let st := a.1.legState g k
      if n.legs.getLsbD k = false ∨ st = 0 ∨ 6 < st then a
      else if st = 4 ∧ (a.1.legsIn g 4).length = 1 then
        (a.1.setLeg g k { a.1.leg g k with retireDue := true }, a.2 + 2 ^ k)
      else ((a.1.toLeg g k 7).settle g, a.2)) (p.count 0xA000 2 1, 0)
    r.1.seamNote g (r.1.seamBody g 3 n.legs.toNat r.2 n.serial 0#32) := by
  refine (if_holds h).trans ?_
  simp only [Bool.or_eq_true, Bool.not_eq_true', beq_iff_eq, decide_eq_true_eq, or_assoc]

theorem Part.takeAck_ends (h : p.seamNoteGood n = true) {legs : BitVec 3}
    (hout : (p.seam n.group.val).retire = some (legs, n.serial)) : p.takeAck n =
    let r := (p.count 0xA000 2 1).endRetire n.group.val
    { r with md := { r.md with
      unacked := r.md.unacked.filter fun u => u / 4 != n.group.val || decide (0x3000 < u) } } := by
  refine (if_holds h).trans ?_
  dsimp only
  rw [hout]
  exact if_pos rfl

theorem Part.takeAck_other (h : p.seamNoteGood n = true)
    (hout : ∀ legs : BitVec 3, (p.seam n.group.val).retire ≠ some (legs, n.serial)) :
    p.takeAck n = p.count 0xA000 2 1 := by
  refine (if_holds h).trans ?_
  dsimp only
  split
  · next legs sn heq => exact if_neg fun hsn => hout legs (by rw [heq, hsn])
  · rfl

end Note

/-! ### What SEAM.ADMIT does to a leg -/

section Admit

variable {p : Part} {g k : Nat}

theorem Part.admitLeg_stands (h : p.legState g k = 0 ∨ p.legState g k = 4) : p.admitLeg g k = some p := if_pos h

variable (h0 : p.legState g k ≠ 0) (h4 : p.legState g k ≠ 4)

include h0 h4

theorem Part.admitLeg_leads (hleads : (p.legGood g k && p.bit (seamReg g 0x14) (23 + k) && p.peerAdmits g k) = true) :
    p.admitLeg g k = some ((p.takeLead g k).settle g) :=
  (if_neg (not_or.mpr ⟨h0, h4⟩)).trans (if_pos hleads)

theorem Part.admitLeg_fits (hleads : (p.legGood g k && p.bit (seamReg g 0x14) (23 + k) && p.peerAdmits g k) = false)
    (hfits : (p.legGood g k && p.admits g k) = true) : p.admitLeg g k = some ((p.toLeg g k 4).settle g) :=
  (if_neg (not_or.mpr ⟨h0, h4⟩)).trans ((if_off hleads).trans (if_pos hfits))

variable (hleads : (p.legGood g k && p.bit (seamReg g 0x14) (23 + k) && p.peerAdmits g k) = false)
  (hfits : (p.legGood g k && p.admits g k) = false)

include hleads hfits

theorem Part.admitLeg_held (h8 : p.legState g k = 8) :
    p.admitLeg g k = some (((p.toLeg g k 1).sendSeamStatus g).seamEval g) :=
  (if_neg (not_or.mpr ⟨h0, h4⟩)).trans ((if_off hleads).trans ((if_off hfits).trans (if_pos h8)))

theorem Part.admitLeg_late (h8 : p.legState g k ≠ 8)
    (hlate : p.legState g k = 5 ∧ (p.leg g k).byLate = true ∧ p.legsIn g 4 ≠ []) : p.admitLeg g k =
      if p.skewHold g < ((p.leg g k).lag : Int) + p.guardHold g then none else some (p.rematch g k) :=
  (if_neg (not_or.mpr ⟨h0, h4⟩)).trans ((if_off hleads).trans ((if_off hfits).trans ((if_neg h8).trans (if_pos hlate))))

theorem Part.admitLeg_refused (h8 : p.legState g k ≠ 8)
    (hlate : ¬(p.legState g k = 5 ∧ (p.leg g k).byLate = true ∧ p.legsIn g 4 ≠ [])) : p.admitLeg g k = some p :=
  (if_neg (not_or.mpr ⟨h0, h4⟩)).trans ((if_off hleads).trans ((if_off hfits).trans ((if_neg h8).trans (if_neg hlate))))

end Admit

/-- SEAM.ADMIT of a named leg by what it does to the leg. -/
theorem seamAdmit_named {t : Fin 1024} {p : Part} (hruns : p.runs t 0x0701 = true) (hnamed : p.seamNames t = true) :
    (∀ q : Part, p.admitLeg (fieldOf (p.par t 0) 8 0) (fieldOf (p.par t 0) 17 16) = some q → seamAdmit t p =
      let g := fieldOf (p.par t 0) 8 0
      let k := fieldOf (p.par t 0) 17 16
      let r := (if p.legState g k = 8 ∧ q.legState g k = 4 then q.sendSeamStatus g else q).voidLeg g k
      (r.setTagState t .committed).done t (r.seamResult g) 0#32) ∧
    (p.admitLeg (fieldOf (p.par t 0) 8 0) (fieldOf (p.par t 0) 17 16) = none → seamAdmit t p =
      p.reply t stNoRes 0x31 (p.seamResult (fieldOf (p.par t 0) 8 0)) 0#32) := by
  refine ⟨fun q hq => (if_holds hruns).trans ((if_holds hnamed).trans ?_),
    fun hnone => (if_holds hruns).trans ((if_holds hnamed).trans ?_)⟩
  · rw [hq]
  · rw [hnone]

end Sys2Proof.Machine

namespace Sys2Proof

open Sys2Proof.Machine

/-- Settles O52: the notes by their checks, and the commands by what they do to the leg they name. -/
theorem seamNotesAndCommands : Obligations.SeamNotesAndCommands := by
  refine ⟨fun s g n hfreeze => ?frozen, fun s g hfreeze => ?sends, fun s n hfreeze => ?notes, fun s t => ?commands⟩
  case frozen =>
    simp only [List.forall_mem_cons, List.not_mem_nil, false_imp_iff, implies_true, and_true]
    exact ⟨yields_frozen_clock rfl hfreeze, yields_frozen_clock rfl hfreeze, yields_frozen_clock rfl hfreeze,
      yields_frozen_clock rfl hfreeze, yields_frozen_clock rfl hfreeze, yields_frozen_clock rfl hfreeze,
      yields_frozen_clock rfl hfreeze⟩
  case sends =>
    intro p status
    refine ⟨yields_of_clock (f := seamStatusNoteSend g) rfl hfreeze rfl, fun legs sn hout =>
      ⟨yields_of_clock (f := seamRetireResend g) rfl hfreeze (Part.sendRetire_some hout),
        yields_of_clock (f := seamRetireGiveup g) rfl hfreeze (if_pos (by rw [hout]; rfl))⟩, fun hnone =>
      ⟨yields_of_clock (f := seamRetireResend g) rfl hfreeze (Part.sendRetire_none hnone),
        yields_of_clock (f := seamRetireGiveup g) rfl hfreeze (if_neg (by rw [hnone]; exact Bool.false_ne_true))⟩,
      yields_of_clock (f := notesStaleSet g) rfl hfreeze ?_⟩
    unfold notesStaleSet
    cases s.part.seamOn g <;> cases s.part.coresAway <;> cases s.part.notesStale g <;> rfl
  case notes =>
    intro p g q good
    have hrow {i : Nat} {m : Instr} {x : Machine.Part} (hi : (i, m) ∈ [(1, Instr.seamStatusNoteRx n),
        (2, .seamRetireNoteRx n), (3, .seamRetireAckRx n)]) (hx : s.part.seamNoteRx i n = x) : Yields m s x := by
      simp only [List.mem_cons, Prod.mk.injEq, List.not_mem_nil, or_false] at hi
      rcases hi with ⟨rfl, rfl⟩ | ⟨rfl, rfl⟩ | ⟨rfl, rfl⟩
      · exact yields_of_clock (f := seamStatusNoteRx n) rfl hfreeze hx
      · exact yields_of_clock (f := seamRetireNoteRx n) rfl hfreeze hx
      · exact yields_of_clock (f := seamRetireAckRx n) rfl hfreeze hx
    have hop {i : Nat} {m : Instr} (hi : (i, m) ∈ [(1, Instr.seamStatusNoteRx n), (2, .seamRetireNoteRx n),
        (3, .seamRetireAckRx n)]) : i = 1 ∨ i = 2 ∨ i = 3 := by
      simp only [List.mem_cons, Prod.mk.injEq, List.not_mem_nil, or_false] at hi
      rcases hi with ⟨h, _⟩ | ⟨h, _⟩ | ⟨h, _⟩ <;> simp [h]
    refine ⟨fun i m hi => ⟨fun haway => hrow hi (if_pos haway), fun hthere hbad =>
      hrow hi ((if_off hthere).trans (Part.seamOp_bad hbad (hop hi)))⟩, fun hthere hgood => ?_⟩
    have hgo {i : Nat} {m : Instr} {x : Machine.Part} (hi : (i, m) ∈ [(1, Instr.seamStatusNoteRx n),
        (2, .seamRetireNoteRx n), (3, .seamRetireAckRx n)]) (hx : p.seamOp i n = x) : Yields m s x :=
      hrow hi ((if_off hthere).trans hx)
    exact ⟨hgo (.head _) (if_holds hgood), hgo (.tail _ (.head _)) (Part.takeRetire_good hgood),
      fun legs hout => hgo (.tail _ (.tail _ (.head _))) (Part.takeAck_ends hgood hout),
      fun hout => hgo (.tail _ (.tail _ (.head _))) (Part.takeAck_other hgood hout)⟩
  case commands =>
    intro p g k named st word ends leads passes need late admitted told
    refine ⟨?_, fun hruns => ⟨fun hbad => ?_, fun hnamed => ?_⟩, fun hruns => ⟨fun hbad => ?_, fun hnamed => ?_⟩,
      fun hruns => ⟨fun hbad => ?_, fun hon => ?_⟩⟩
    · simp only [List.mem_cons, Prod.mk.injEq, List.not_mem_nil, or_false]
      rintro op i (⟨rfl, rfl⟩ | ⟨rfl, rfl⟩ | ⟨rfl, rfl⟩) hidle
      · exact yields_of (f := seamAdmit t) rfl (if_fails hidle)
      · exact yields_of (f := seamRetire t) rfl (if_fails hidle)
      · exact yields_of (f := seamStatus t) rfl (if_fails hidle)
    · exact yields_of (f := seamAdmit t) rfl ((if_holds hruns).trans (if_fails hbad))
    · obtain ⟨hsome, hnone⟩ := seamAdmit_named hruns hnamed
      have hadmit {x y : Machine.Part} (hx : p.admitLeg g k = some x)
          (hy : (if p.legState g k = 8 ∧ x.legState g k = 4 then x.sendSeamStatus g else x) = y) :
          Yields (.seamAdmit t) s (admitted y) := by
        subst hy
        exact yields_of (f := seamAdmit t) rfl (hsome x hx)
      have hpasses (h : passes = false) : leads = false ∧ (p.legGood g k && p.admits g k) = false :=
        Bool.or_eq_false_iff.mp h
      have hlate : late = true ↔ p.legState g k = 5 ∧ (p.leg g k).byLate = true ∧ p.legsIn g 4 ≠ [] := by
        rw [Bool.and_eq_true, Bool.and_eq_true, decide_eq_true_eq, Bool.not_eq_true', List.isEmpty_eq_false_iff,
          and_assoc]
      have hstay (h : st ≠ 8) {x : Machine.Part} :
          (if p.legState g k = 8 ∧ x.legState g k = 4 then x.sendSeamStatus g else x) = x :=
        if_neg fun hboth => h hboth.1
      refine ⟨fun hst => ?_, fun h0 h4 hleads => ?_, fun h0 h4 hleads hfits => ?_, fun hno h8 => ?_,
        fun hno hlater hfar => ?_, fun hno hlater hfar => ?_, fun hno hlater h8 => ?_⟩
      · exact hadmit (Part.admitLeg_stands hst) (hstay (by omega))
      · exact hadmit (Part.admitLeg_leads h0 h4 hleads) rfl
      · exact hadmit (Part.admitLeg_fits h0 h4 hleads
          ((Bool.or_eq_true_iff.mp hfits).resolve_left (by rw [hleads]; decide))) rfl
      · obtain ⟨hleads, hfits⟩ := hpasses hno
        exact hadmit (Part.admitLeg_held (by omega) (by omega) hleads hfits h8) rfl
      · obtain ⟨hleads, hfits⟩ := hpasses hno
        have h5 := (hlate.mp hlater).1
        exact yields_of (f := seamAdmit t) rfl (hnone ((Part.admitLeg_late (by omega) (by omega) hleads hfits (by omega)
          (hlate.mp hlater)).trans (if_pos hfar)))
      · obtain ⟨hleads, hfits⟩ := hpasses hno
        have h5 := (hlate.mp hlater).1
        exact hadmit ((Part.admitLeg_late (by omega) (by omega) hleads hfits (by omega) (hlate.mp hlater)).trans
          (if_neg (not_lt.mpr hfar))) (hstay (by omega))
      · by_cases hst : st = 0 ∨ st = 4
        · exact hadmit (Part.admitLeg_stands hst) (hstay h8)
        · obtain ⟨h0, h4⟩ := not_or.mp hst
          obtain ⟨hleads, hfits⟩ := hpasses hno
          exact hadmit (Part.admitLeg_refused h0 h4 hleads hfits h8 (mt hlate.mpr (by rw [hlater]; decide))) (hstay h8)
    · exact yields_of (f := seamRetire t) rfl ((if_holds hruns).trans (if_fails hbad))
    · exact yields_of (f := seamRetire t) rfl ((if_holds hruns).trans (if_holds hnamed))
    · exact yields_of (f := seamStatus t) rfl ((if_holds hruns).trans (if_fails hbad))
    · exact yields_of (f := seamStatus t) rfl ((if_holds hruns).trans (if_holds hon))

end Sys2Proof
end

section
/-! Reference monitors and the loop's measurements (R312 to R330). -/

namespace Sys2Proof.Machine

/-! ### A slot that is OFF or held -/

section Slot

variable {p : Part} {r : Nat}

theorem Part.refOff_true (h : (decide (p.refState r = 0) || p.refHeld r) = true) :
    p.refState r = 0 ∨ p.refHeld r = true := by
  rwa [Bool.or_eq_true, decide_eq_true_eq] at h

theorem Part.refOff_false (h : (decide (p.refState r = 0) || p.refHeld r) = false) :
    ¬(p.refState r = 0 ∨ p.refHeld r = true) := by
  rwa [← decide_eq_true_eq (p := p.refState r = 0), ← Bool.or_eq_true, Bool.not_eq_true]

theorem Part.countGood_eq (edges : Nat) : p.countGood r edges =
    decide ((((edges * 65536000 : Nat) : Int) -
        ((p.reg64 (refReg r 0x10)).toNat * p.field (refReg r 0xC) 5 0 : Nat)).natAbs * 100 ≤
      (p.reg64 (refReg r 0x10)).toNat * p.field (refReg r 0xC) 5 0) := by
  unfold Part.countGood
  simp only [Int.natAbs_natCast]

theorem phaseType_ne_clock {n : Nat} (h : phaseType n = true) : n ≠ 2 := by
  rintro rfl
  revert h; decide

end Slot

/-! ### A gate's end -/

/-- The slot when the Δf of its gate has been judged, where the gate gives one. -/
def Part.gateJudged (p : Part) (r : Nat) (df : Int) : Part :=
  match p.gateDf r df with
  | some x => p.judgeDf r x
  | none => p

section Gate

variable {p : Part} {r : Nat} {df : Int}

theorem Part.gateJudged_some {x : Int} (h : p.gateDf r df = some x) : p.gateJudged r df = p.judgeDf r x := by
  unfold Part.gateJudged
  rw [h]

theorem Part.gateJudged_none (h : p.gateDf r df = none) : p.gateJudged r df = p := by
  unfold Part.gateJudged
  rw [h]

theorem Part.gateDf_phase (h : phaseType (p.refType r) = true) : p.gateDf r df = phaseSlope (p.refSt r).phases :=
  if_pos h

theorem Part.gateJudged_phase (h : phaseType (p.refType r) = true) :
    p.gateJudged r df = ((phaseSlope (p.refSt r).phases).map (p.judgeDf r)).getD p := by
  cases hslope : phaseSlope (p.refSt r).phases with
  | none =>
    rw [Option.map_none, Option.getD_none]
    exact Part.gateJudged_none ((Part.gateDf_phase h).trans hslope)
  | some x =>
    rw [Option.map_some, Option.getD_some]
    exact Part.gateJudged_some ((Part.gateDf_phase h).trans hslope)

theorem Part.gateJudged_eq : p.gateJudged r df =
    if phaseType (p.refType r) = true then ((phaseSlope (p.refSt r).phases).map (p.judgeDf r)).getD p
    else p.judgeDf r df := by
  split
  · next h => exact Part.gateJudged_phase h
  · next h => exact Part.gateJudged_some (if_neg h)

end Gate

/-- A gate of a slot in use: the Δf that it gives, if any, is judged. -/
theorem freqGateEnd_on {p : Part} {r : Fin 16} {df : Int} (h : ¬(p.refState r = 0 ∨ p.refHeld r = true)) :
    freqGateEnd r df p =
      let q := if phaseType (p.refType r) = true then ((phaseSlope (p.refSt r).phases).map (p.judgeDf r)).getD p
        else p.judgeDf r df
      let q := q.setRefSt r { q.refSt r with phases := [] }
      let whole := q.refState r == 2 && (q.refSt r).gate
      let q := q.setRefSt r { q.refSt r with gate := q.refPass r, passed := (q.refSt r).passed || whole }
      if whole then q.promote.reselect else q := by
  rw [← Part.gateJudged_eq]
  exact if_neg h

/-! ### A measurement that reaches the loop -/

section Measurement

variable {p : Part} {r : Fin 16}

theorem Part.refUsed_iff :
    (decide (p.tkState ≠ 0) && decide (p.selected ≠ none) && p.refPass r && !p.refHeld r) = true ↔
    ¬(p.tkState = 0 ∨ p.selected = none ∨ (!p.refPass r) = true ∨ p.refHeld r = true) := by
  simp only [Bool.and_eq_true, decide_eq_true_eq, Bool.not_eq_true', not_or, Bool.not_eq_false, Bool.not_eq_true,
    and_assoc,
    ne_eq]

end Measurement

end Sys2Proof.Machine

namespace Sys2Proof

open Sys2Proof.Machine

/-- Settles O53: each row by its branch, and in FREEZE the clocks of all stand. -/
theorem referenceMonitors : Obligations.ReferenceMonitors := by
  refine ⟨fun s j at_ bs r ok st d o t ms hfreeze => ?frozen, fun s j at_ hfreeze => ?edge,
    fun s j bs hfreeze => ?message,
    fun s r hfreeze => ?windows, fun s r ferr hfreeze => ?measurement, fun s tails osc temp steady hfreeze => ?drift,
    fun s hfreeze => ?lock⟩
  case frozen =>
    simp only [List.forall_mem_cons, List.not_mem_nil, false_imp_iff, implies_true, and_true]
    exact ⟨yields_frozen_clock rfl hfreeze, yields_frozen_clock rfl hfreeze, yields_frozen_clock rfl hfreeze,
      yields_frozen_clock rfl hfreeze, yields_frozen_clock rfl hfreeze, yields_frozen_clock rfl hfreeze,
      yields_frozen_clock rfl hfreeze, yields_frozen_clock rfl hfreeze, yields_frozen_clock rfl hfreeze⟩
  case edge =>
    intro p
    have hrow {x : Machine.Part} (hx : ppsInEdge j at_ s.part = x) : Yields (.ppsInEdge j at_) s x :=
      yields_of_clock (f := ppsInEdge j at_) rfl hfreeze hx
    refine ⟨fun hnone => hrow (by unfold ppsInEdge; rw [hnone]), fun r hr => ?_⟩
    intro c off byTod q inTime measured
    have hslot {x : Machine.Part} (hx : _ = x) : Yields (.ppsInEdge j at_) s x :=
      hrow (Eq.trans (by unfold ppsInEdge; rw [hr]) hx)
    refine ⟨fun hoff => hslot (if_pos (Part.refOff_true hoff)), fun hon hround => ?_, fun n hon htod hn => ?_,
      fun hon htod hn => ?_⟩
    all_goals
      refine hslot ((if_neg (Part.refOff_false hon)).trans ?_)
    · rw [show p.bit (refReg r 0) 14 = false from hround]
      rfl
    · dsimp only
      rw [show p.bit (refReg r 0) 14 = true from htod, show (p.refSt r).tod = some n from hn]
      rfl
    · dsimp only
      rw [show p.bit (refReg r 0) 14 = true from htod, show (p.refSt r).tod = none from hn]
      rfl
  case message =>
    intro p fl
    have hrow {x : Machine.Part} (hx : todInMessage j bs s.part = x) : Yields (.todInMessage j bs) s x :=
      yields_of_clock (f := todInMessage j bs) rfl hfreeze hx
    refine ⟨fun hnone => hrow (by unfold todInMessage; rw [hnone]), fun r hr => ?_⟩
    intro q
    have hslot {x : Machine.Part} (hx : _ = x) : Yields (.todInMessage j bs) s x :=
      hrow (Eq.trans (by unfold todInMessage; rw [hr]) hx)
    refine ⟨fun hidle => hslot (if_pos ?_), fun hon hgood hutc => hslot ((if_neg ?_).trans (if_off hutc)),
      fun hon hgood hutc => hslot ((if_neg ?_).trans (if_pos hutc))⟩
    · rwa [Bool.not_eq_true']
    · rw [hgood]; simpa using hon
    · rw [hgood]; simpa using hon
  case windows =>
    intro p c off hit late missed nominal
    have hact {ok : ActSeen} {x : Machine.Part} (hx : actWindowEnd r ok s.part = x) : Yields (.actWindowEnd r ok) s x :=
      yields_of_clock (f := actWindowEnd r ok) rfl hfreeze hx
    have hgate {df : Int} {x : Machine.Part} (hx : freqGateEnd r df s.part = x) : Yields (.freqGateEnd r df) s x :=
      yields_of_clock (f := freqGateEnd r df) rfl hfreeze hx
    refine ⟨fun hoff ok df => ?_, fun hon => ⟨fun ok htype => hact ?_, fun ok htype hclock => hact ?_,
      fun ok hphase hhit => hact ?_, fun ok hphase hmiss => hact ?_, fun df => ?_⟩,
      yields_of_clock (f := refWtrExpire r) rfl hfreeze ?_⟩
    · simp only [List.forall_mem_cons, List.not_mem_nil, false_imp_iff, implies_true, and_true]
      exact ⟨hact (if_pos (Part.refOff_true hoff)), hgate (if_pos (Part.refOff_true hoff))⟩
    · exact (if_neg (Part.refOff_false hon)).trans ((if_pos htype).trans (by rw [Part.countGood_eq]))
    · exact (if_neg (Part.refOff_false hon)).trans ((if_neg htype).trans (if_fails hclock))
    · exact (if_neg (Part.refOff_false hon)).trans ((if_neg (phaseType_ne_clock hphase)).trans
        ((if_holds hphase).trans (if_pos hhit)))
    · have hlate : late = (match c.edge with | some e => decide (p.time.now - e < secUnits) | none => false) := by
        dsimp only [late]
        cases c.edge <;> rfl
      refine (if_neg (Part.refOff_false hon)).trans ((if_neg (phaseType_ne_clock hphase)).trans
        ((if_holds hphase).trans ((if_off hmiss).trans ?_)))
      dsimp only [missed]
      rw [hlate] <;> rfl
    · intro judged q1 q2 whole q3
      exact hgate (freqGateEnd_on (Part.refOff_false hon))
    · unfold refWtrExpire
      simp only [Bool.not_eq_true']
      rfl
  case measurement =>
    intro p used isF isP q l q'
    have hrow {x : Machine.Part} (hx : refMeasurement r ferr s.part = x) : Yields (.refMeasurement r ferr) s x :=
      yields_of_clock (f := refMeasurement r ferr) rfl hfreeze hx
    refine ⟨fun hoff => hrow (if_pos (not_not.mp (mt Part.refUsed_iff.mpr fun hon =>
      Bool.false_ne_true (hoff.symm.trans hon)))), fun hused => ?_⟩
    have hgo {x : Machine.Part} (hx : _ = x) : Yields (.refMeasurement r ferr) s x :=
      hrow ((if_neg (Part.refUsed_iff.mp hused)).trans hx)
    have hcase {te : Option Int} {b : Bool} {x : Machine.Part}
        (hte : (if (s.part.phaseSrc == some r.val) = true then (s.part.refSt r).meas else none) = te)
        (hb : (s.part.freqSrc == some r.val || s.part.phaseSrc == some r.val) = b)
        (hx : (if b = true then Part.leaveHeld (te.elim q' fun x =>
            if q'.time.fresh = true then q'.firstPhase r x else q'.laterPhase r x)
          else te.elim q' fun x => if q'.time.fresh = true then q'.firstPhase r x else q'.laterPhase r x) = x) :
        Yields (.refMeasurement r ferr) s x := by
      refine hgo (Eq.trans ?_ hx)
      simp only [hte, hb]
      cases te <;> rfl
    have hnot (hp : isP = false) : (if (p.phaseSrc == some r.val) = true then (p.refSt r).meas else none) = none :=
      if_off hp
    refine ⟨fun hf hp => hcase (hnot hp) (Bool.or_eq_false_iff.mpr ⟨hf, hp⟩) rfl,
      fun hf hnone => hcase (te := none) ?_ (Bool.or_eq_true_iff.mpr (.inl hf)) rfl,
      fun x hp hmeas => hcase ((if_pos hp).trans hmeas) (Bool.or_eq_true_iff.mpr (.inr hp)) rfl,
      fun hf hp hmeas => hcase ((if_pos hp).trans hmeas) (Bool.or_eq_true_iff.mpr (.inr hp)) rfl⟩
    rcases hnone with hp | hmeas
    · exact hnot hp
    · by_cases hp : isP = true
      · exact (if_pos hp).trans hmeas
      · exact if_neg hp
  case drift =>
    intro ds q1 q2 q3
    exact ⟨fun h => yields_of_clock (f := driftWindowEnd tails osc temp steady) rfl hfreeze (if_pos h),
      fun h => yields_of_clock (f := driftWindowEnd tails osc temp steady) rfl hfreeze (if_neg h)⟩
  case lock =>
    intro p near
    refine ⟨yields_of_clock (f := tkLock) rfl hfreeze rfl, yields_of_clock (f := tkLockLoss) rfl hfreeze ?_⟩
    unfold tkLockLoss
    simp only [Part.lossMet, Bool.not_eq_true']
    rfl

end Sys2Proof
end

section
/-! The time scale, its outputs, reference selection, pleats and CAL.RUN (R322 to R344). -/

namespace Sys2Proof

open Sys2Proof.Machine

/-- Settles O54: each row by its branch, and each command by its guards in turn. -/
theorem timeScaleMoves : Obligations.TimeScaleMoves := by
  refine ⟨fun s j k hfreeze => ?frozen, fun s hfreeze => ?ends, fun s => ?warming, fun s j k hfreeze => ?outputs,
    fun s t => ?commands⟩
  case frozen =>
    simp only [List.forall_mem_cons, List.not_mem_nil, false_imp_iff, implies_true, and_true]
    exact ⟨yields_frozen_clock rfl hfreeze, yields_frozen_clock rfl hfreeze, yields_frozen_clock rfl hfreeze,
      yields_frozen_clock rfl hfreeze, yields_frozen_clock rfl hfreeze⟩
  case ends =>
    intro p
    refine ⟨yields_of_clock (f := pullEnd) rfl hfreeze ?_, yields_of_clock (f := slewEnd) rfl hfreeze rfl⟩
    unfold pullEnd
    simp only [Bool.and_eq_true, Bool.not_eq_true']
    rfl
  case warming =>
    intro p q
    refine yields_of (f := warmingClear) rfl ?_
    unfold warmingClear
    simp only [Bool.and_eq_true]
    rfl
  case outputs =>
    intro p sec q us
    refine ⟨fun hruns => yields_of_clock (f := ppsOutEdge j) rfl hfreeze (if_pos hruns),
      fun hstop => yields_of_clock (f := ppsOutEdge j) rfl hfreeze (if_off hstop),
      yields_of_clock (f := todOutSend j) rfl hfreeze ?_, yields_of_clock (f := outputRealign k) rfl hfreeze rfl⟩
    unfold todOutSend
    simp only [Bool.and_eq_true]
    rfl
  case commands =>
    intro p r x v
    have hselect {y : Machine.Part} (hy : refSelect t p = y) : Yields (.refSelect t) s y :=
      yields_of (f := refSelect t) rfl hy
    have hauto {y : Machine.Part} (hy : refAuto t p = y) : Yields (.refAuto t) s y := yields_of (f := refAuto t) rfl hy
    have hstatus {y : Machine.Part} (hy : refStatus t p = y) : Yields (.refStatus t) s y :=
      yields_of (f := refStatus t) rfl hy
    have hstep {y : Machine.Part} (hy : pleatStep t p = y) : Yields (.pleatStep t) s y :=
      yields_of (f := pleatStep t) rfl hy
    have hslew {y : Machine.Part} (hy : pleatSlew t p = y) : Yields (.pleatSlew t) s y :=
      yields_of (f := pleatSlew t) rfl hy
    have hsum {y : Machine.Part} (hy : pleatSum t p = y) : Yields (.pleatSum t) s y :=
      yields_of (f := pleatSum t) rfl hy
    have hcal {y : Machine.Part} (hy : calRun t p = y) : Yields (.calRun t) s y := yields_of (f := calRun t) rfl hy
    refine ⟨?_, fun hruns => ⟨fun hon => hselect ((if_holds hruns).trans (if_holds hon)),
        fun hoff => hselect ((if_holds hruns).trans (if_fails hoff))⟩,
      fun hruns => hauto (if_holds hruns), fun hruns => hstatus (if_holds hruns),
      fun hruns => ⟨fun hfits hnow => hstep ((if_holds hruns).trans (if_neg ?_)),
        fun hbad => hstep ((if_holds hruns).trans (if_pos ?_))⟩, fun hruns => ?_, fun hruns => hsum (if_holds hruns),
      fun hruns => ⟨fun hkind => hcal ((if_holds hruns).trans (if_pos hkind)),
        fun hkind hthere => hcal ((if_holds hruns).trans ((if_neg (Nat.not_le.mpr hkind)).trans (if_off hthere))),
        fun hkind haway => hcal ((if_holds hruns).trans ((if_neg (Nat.not_le.mpr hkind)).trans (if_pos haway)))⟩⟩
    · simp only [List.mem_cons, Prod.mk.injEq, List.not_mem_nil, or_false]
      rintro op i (⟨rfl, rfl⟩ | ⟨rfl, rfl⟩ | ⟨rfl, rfl⟩ | ⟨rfl, rfl⟩ | ⟨rfl, rfl⟩ | ⟨rfl, rfl⟩ | ⟨rfl, rfl⟩) hidle
      · exact hselect (if_fails hidle)
      · exact hauto (if_fails hidle)
      · exact hstatus (if_fails hidle)
      · exact hstep (if_fails hidle)
      · exact hslew (if_fails hidle)
      · exact hsum (if_fails hidle)
      · exact hcal (if_fails hidle)
    · rw [hfits]
      exact not_or.mpr ⟨by decide, not_lt.mpr hnow⟩
    · rwa [Bool.not_eq_true']
    · intro q u good
      have hgood : good = true ↔ ¬((p.par t 2).toNat = 0 ∨ 10000 < (p.par t 2).toNat) := by
        rw [Bool.and_eq_true, decide_eq_true_eq, decide_eq_true_eq]
        omega
      have hfree (h : p.slewLeft = 0) {y : Machine.Part} (hy : _ = y) : Yields (.pleatSlew t) s y :=
        hslew ((if_holds hruns).trans ((if_neg (not_not.mpr h)).trans hy))
      exact ⟨fun hslewing => hslew ((if_holds hruns).trans (if_pos hslewing)),
        fun hleft hbad => hfree hleft (if_pos (not_not.mp (mt hgood.mpr (by rw [hbad]; decide)))),
        fun hleft hok hzero => hfree hleft ((if_neg (hgood.mp hok)).trans (if_pos hzero)),
        fun hleft hok hmoves hbad => hfree hleft ((if_neg (hgood.mp hok)).trans
          ((if_neg hmoves).trans (if_fails hbad))),
        fun hleft hok hmoves hfits => hfree hleft ((if_neg (hgood.mp hok)).trans
          ((if_neg hmoves).trans (if_holds hfits)))⟩

end Sys2Proof
end

section
/-! Segments, calibration tables and PTP (R337 to R362). -/

namespace Sys2Proof.Machine

/-- A guard of two tests, as the model writes it. -/
theorem if_two {α : Type} {a b : Bool} {x y : α} :
    (if (!a || !b) = true then x else y) = if (a && b) = true then y else x := by
  cases a <;> cases b <;> rfl

theorem Part.calBytes_eq (p : Part) (kind : Nat) : p.calBytes kind =
    bytesOfWords (if kind = 0 then ((List.range 2241).map p.segWords).flatten
      else if kind = 1 then ((List.range 6).map fun k =>
        [loWord (p.segDelay (2241 + k)), hiWord (p.segDelay (2241 + k))]).flatten
      else ((List.range 128).map p.calRecord).flatten) := by
  match kind with
  | 0 => rw [if_pos rfl]; rfl
  | 1 => rw [if_neg (by decide), if_pos rfl]; rfl
  | n + 2 => rw [if_neg (by omega), if_neg (by omega)]; rfl

/-! ### A PTP message -/

section Message

variable {p : Part} {t : Nat} {h : PtpHead} {ty : BitVec 4} {f : Part → Part}

theorem Part.ptpTake_deaf (hrx : p.ptpRx t = false) : p.ptpTake t h ty f = p := if_fails hrx

theorem Part.ptpTake_drops (hrx : p.ptpRx t = true) (hfits : p.ptpFits t h ty = false) :
    p.ptpTake t h ty f = p.ptpDrop t :=
  (if_holds hrx).trans (if_fails hfits)

theorem Part.ptpTake_fits (hrx : p.ptpRx t = true) (hfits : p.ptpFits t h ty = true) : p.ptpTake t h ty f = f p :=
  (if_holds hrx).trans (if_holds hfits)

end Message

end Sys2Proof.Machine

namespace Sys2Proof

open Sys2Proof.Machine

/-- Settles O55: each row by its branch, a PTP message by the checks that it takes (`ptpTake`). -/
theorem calibrationAndPtp : Obligations.CalibrationAndPtp := by
  refine ⟨fun s i v t h one a b c cls l sq u hfreeze => ?frozen, fun s i v hfreeze => ?segments, fun s t => ?read,
    fun s t h one a b c cls l sq u hfreeze => ?messages, fun s t hfreeze => ?sends⟩
  case frozen =>
    simp only [List.forall_mem_cons, List.not_mem_nil, false_imp_iff, implies_true, and_true]
    exact ⟨yields_frozen_clock rfl hfreeze, yields_frozen_clock rfl hfreeze, yields_frozen_clock rfl hfreeze,
      yields_frozen_clock rfl hfreeze, yields_frozen_clock rfl hfreeze, yields_frozen_clock rfl hfreeze,
      yields_frozen_clock rfl hfreeze, yields_frozen_clock rfl hfreeze, yields_frozen_clock rfl hfreeze,
      yields_frozen_clock rfl hfreeze, yields_frozen_clock rfl hfreeze⟩
  case segments =>
    intro p ready diff fresh
    have hrow {x : Machine.Part} (hx : segmentRemeasure i v p = x) : Yields (.segmentRemeasure i v) s x :=
      yields_of_clock (f := segmentRemeasure i v) rfl hfreeze hx
    refine ⟨fun hoff => hrow (if_two.trans (if_off hoff)), fun hready hdiff => hrow (if_two.trans ((if_pos hready).trans
      (if_pos hdiff))), fun hready hdiff => hrow (if_two.trans
        ((if_pos hready).trans (if_neg (Nat.not_le.mpr hdiff)))), ?_⟩
    intro old
    refine yields_of_clock (f := segmentStale i) rfl hfreeze ?_
    have hfresh : (!p.segUsed i || (p.segRec i).stale) = !fresh := by rw [Bool.not_and, Bool.not_not]
    unfold segmentStale
    rw [hfresh]
    cases hused : fresh with
    | false => rfl
    | true => rfl
  case read =>
    intro p kind table w
    have hrow {x : Machine.Part} (hx : calRead t p = x) : Yields (.calRead t) s x := yields_of (f := calRead t) rfl hx
    refine ⟨fun hidle => hrow (if_fails hidle), fun hruns => ⟨fun hkind => hrow ((if_holds hruns).trans (if_pos hkind)),
      fun hkind hthere => hrow ((if_holds hruns).trans
        ((if_neg (Nat.not_le.mpr hkind)).trans ((if_off hthere).trans ?_))),
      fun hkind haway => hrow ((if_holds hruns).trans ((if_neg (Nat.not_le.mpr hkind)).trans (if_pos haway)))⟩⟩
    rw [Part.calBytes_eq]
  case messages =>
    intro p st fits moved
    have hsync {x : Machine.Part} (hx : ptpSyncRx t h one a b c p = x) : Yields (.ptpSyncRx t h one a b c) s x :=
      yields_of_clock (f := ptpSyncRx t h one a b c) rfl hfreeze hx
    have hfollow {x : Machine.Part} (hx : ptpFollowUpRx t h a c p = x) : Yields (.ptpFollowUpRx t h a c) s x :=
      yields_of_clock (f := ptpFollowUpRx t h a c) rfl hfreeze hx
    have hreq {x : Machine.Part} (hx : ptpDelayReqRx t h a p = x) : Yields (.ptpDelayReqRx t h a) s x :=
      yields_of_clock (f := ptpDelayReqRx t h a) rfl hfreeze hx
    have hresp {x : Machine.Part} (hx : ptpDelayRespRx t h sq b p = x) : Yields (.ptpDelayRespRx t h sq b) s x :=
      yields_of_clock (f := ptpDelayRespRx t h sq b) rfl hfreeze hx
    have hann {x : Machine.Part} (hx : ptpAnnounceRx t h cls l u p = x) : Yields (.ptpAnnounceRx t h cls l u) s x :=
      yields_of_clock (f := ptpAnnounceRx t h cls l u) rfl hfreeze hx
    refine ⟨?_, fun hrx hfits => ⟨fun hst => ?_, fun hst => ?_⟩,
      fun hrx hfits => ⟨fun hnone => ?_, fun x old hsome => ?_⟩,
      fun hrx hfits => hreq (Part.ptpTake_fits hrx hfits), fun hrx hfits => ⟨fun hnone => ?_, fun n t3 old hsome => ?_⟩,
      fun hrx hfits => ⟨fun haway => ?_, fun hthere hno => ?_, fun w r hthere hu hr => ?_⟩⟩
    · simp only [List.mem_cons, Prod.mk.injEq, List.not_mem_nil, or_false]
      rintro ty i (⟨rfl, rfl⟩ | ⟨rfl, rfl⟩ | ⟨rfl, rfl⟩ | ⟨rfl, rfl⟩ | ⟨rfl, rfl⟩)
      · exact ⟨fun hrx => hsync (Part.ptpTake_deaf hrx), fun hrx hfits => hsync (Part.ptpTake_drops hrx hfits)⟩
      · exact ⟨fun hrx => hfollow (Part.ptpTake_deaf hrx), fun hrx hfits => hfollow (Part.ptpTake_drops hrx hfits)⟩
      · exact ⟨fun hrx => hreq (Part.ptpTake_deaf hrx), fun hrx hfits => hreq (Part.ptpTake_drops hrx hfits)⟩
      · exact ⟨fun hrx => hresp (Part.ptpTake_deaf hrx), fun hrx hfits => hresp (Part.ptpTake_drops hrx hfits)⟩
      · exact ⟨fun hrx => hann (Part.ptpTake_deaf hrx), fun hrx hfits => hann (Part.ptpTake_drops hrx hfits)⟩
    · exact hsync ((Part.ptpTake_fits hrx hfits).trans (if_pos hst))
    · exact hsync ((Part.ptpTake_fits hrx hfits).trans (if_neg (not_not.mpr hst)))
    · refine hfollow ((Part.ptpTake_fits hrx hfits).trans ?_)
      rw [show (p.ptpSt t).sync = none from hnone]
    · refine hfollow ((Part.ptpTake_fits hrx hfits).trans ?_)
      rw [show (p.ptpSt t).sync = some (x, old) from hsome]
    · refine hresp ((Part.ptpTake_fits hrx hfits).trans ?_)
      rw [show (p.ptpSt t).asked = none from hnone]
    · refine hresp ((Part.ptpTake_fits hrx hfits).trans ?_)
      dsimp only
      rw [show (p.ptpSt t).asked = some (n, t3, old) from hsome]
      simp only [Bool.and_eq_true, beq_iff_eq, Bool.not_eq_true', and_assoc]
      rfl
    · exact hann ((Part.ptpTake_fits hrx hfits).trans (if_pos haway))
    · refine hann ((Part.ptpTake_fits hrx hfits).trans ((if_off hthere).trans ?_))
      dsimp only
      split
      · next w r hr =>
        rcases hno with h | h
        · exact absurd h (Option.some_ne_none w)
        · exact absurd (hr.symm.trans h) (Option.some_ne_none r)
      · rfl
    · refine hann ((Part.ptpTake_fits hrx hfits).trans ((if_off hthere).trans ?_))
      dsimp only
      rw [hu, show (Part.bmca _).refFor 4 t = some r from hr]
  case sends =>
    intro p c st ws sync
    refine ⟨yields_of_clock (f := ptpAnnounceTimeout t) rfl hfreeze ?_, fun htx hst => ?_, fun htx hst => ?_,
      fun hidle => ?_,
      yields_of_clock (f := ptpDelayReqTx t) rfl hfreeze ?_⟩
    · unfold ptpAnnounceTimeout
      simp only [Bool.and_eq_true, Bool.or_eq_true, beq_iff_eq, Bool.not_eq_true', and_assoc, or_assoc]
      rfl
    · have hrow : ptpSyncTx t p =
          if decide (t.val < 48) && p.bit (tsReg t 0) 29 then sync.ptpSend t 64 "PTP_FOLLOW_UP" ws else sync :=
        if_neg (by rw [htx, show (p.ptpSt t).st = 4 from hst]; decide)
      refine yields_of_clock (f := ptpSyncTx t) rfl hfreeze (hrow.trans ?_)
      simp only [Bool.and_eq_true, decide_eq_true_eq]
    · exact yields_of_clock (f := ptpAnnounceTx t) rfl hfreeze (if_both htx (beq_iff_eq.mpr hst))
    · simp only [List.forall_mem_cons, List.not_mem_nil, false_imp_iff, implies_true, and_true]
      refine ⟨yields_of_clock (f := ptpSyncTx t) rfl hfreeze (if_pos ?_),
        yields_of_clock (f := ptpAnnounceTx t) rfl hfreeze (if_neg ?_)⟩
      · rw [Bool.or_eq_true, Bool.not_eq_true', bne_iff_ne]
        exact hidle
      · rw [Bool.and_eq_true, beq_iff_eq]
        rintro ⟨htx, hst⟩
        exact hidle.elim (fun h => Bool.false_ne_true (h.symm.trans htx)) fun h => h hst
    · unfold ptpDelayReqTx
      simp only [Bool.and_eq_true, beq_iff_eq, Bool.not_eq_true', and_assoc]
      rfl

end Sys2Proof
end

section
/-! Time exchange and time stamps (R350 to R378). -/

namespace Sys2Proof.Machine

/-! ### A write of memory leaves the time scale and the segments as they are -/

theorem Part.snoopTarget_regs (p : Part) (code a : Nat) (w : Bool) (bs : List Byte) :
    ∃ m, p.snoopTarget code a w bs = { p with regs := m } := by
  have hfold : ∀ (l : List Nat) (p : Part),
      ∃ m, l.foldl (fun (x : Part) i => x.crcTake i bs) p = { p with regs := m } := by
    intro l
    induction l with
    | nil => exact fun p => ⟨p.regs, rfl⟩
    | cons i l ih =>
      intro p
      obtain ⟨m, hm⟩ := ih (p.crcTake i bs)
      exact ⟨m, hm.trans rfl⟩
  exact hfold _ p

theorem Part.selvRequests_times (p : Part) (i n : Nat) :
    (p.selvRequests i n).time = p.time ∧ (p.selvRequests i n).segs = p.segs := by
  unfold Part.selvRequests
  split <;> exact ⟨rfl, rfl⟩

theorem Part.dramWrite_times (p : Part) (a : Nat) (bs : List Byte) :
    (p.dramWrite a bs).time = p.time ∧ (p.dramWrite a bs).segs = p.segs := by
  have hgrant := Part.selvRequests_times (p.grantTo .dma) 25 ((bs.length + 63) / 64)
  unfold Part.dramWrite
  obtain ⟨m, hm⟩ := Part.snoopTarget_regs ((p.grantTo .dma).selvRequests 25 ((bs.length + 63) / 64)) 0x06 a true bs
  split
  · dsimp only
    rw [hm]
    obtain ⟨m', hm'⟩ := Part.snoopTarget_regs
      { (p.grantTo .dma).selvRequests 25 ((bs.length + 63) / 64) with regs := m } 0x12 a true bs
    rw [hm']
    exact hgrant
  · exact hgrant

theorem Part.spillOne_times (p : Part) (n : Nat) : (p.spillOne n).time = p.time ∧ (p.spillOne n).segs = p.segs := by
  unfold Part.spillOne
  split
  · exact ⟨rfl, rfl⟩
  · exact Part.dramWrite_times _ _ _

/-- A client port's transmit stamp reads the time scale and its segment alone. -/
theorem Part.txStamp_client {p q : Part} {n : Fin 48} (htime : q.time = p.time) (hsegs : q.segs = p.segs) (lead : Int) :
    q.txStamp n lead = p.txStamp n lead := by
  unfold Part.txStamp Part.txSegment
  rw [htime, if_pos n.isLt, if_pos n.isLt, Part.segDelay, Part.segDelay, hsegs]

/-- The oldest request that waits is taken, `l` stay, and its stamp is counted. -/
def Part.stampTaken (p : Part) (n : Nat) (l : List StampReq) : Part :=
  (p.setStampSt n { p.stampSt n with waiting := l }).count (0x6000 + n) 0 1

/-- A waiting stamp's record joins the FIFO of `y`, the queue with room, where the stamp is taken as before. -/
theorem stampRecord_joins {p y : Part} {n : Fin 48} {age : Nat} {x : Option (Fin 16 × BitVec 16)} {r : StampReq}
    {l : List StampReq} (hwaits : (p.stampSt n).waiting = r :: l)
    (hroom : (decide (512 ≤ ((p.stampTaken n l).stampSt n).fifo.length) && !(p.stampTaken n l).canSpill n) = false)
    (hy : (if decide (512 ≤ ((p.stampTaken n l).stampSt n).fifo.length) then (p.stampTaken n l).spillOne n
      else p.stampTaken n l) = y)
    (hstamp : y.txStamp n (-age) = p.txStamp n (-age)) : stampRecord n age x p =
      (y.setStampSt n { y.stampSt n with
        fifo := (y.stampSt n).fifo ++ [y.stampWords n r (y.txStamp n (-age)).toNat x] }).spillCheck n := by
  rw [hstamp]
  subst hy
  unfold stampRecord
  rw [hwaits]
  exact if_off hroom

/-! ### What a received message fails -/

/-- Does the message bear its link's key? -/
def Part.exchMacGood (p : Part) (q : Nat) (m : ExchMsg) : Bool :=
  match p.linkKey q m.keyId with
  | some k => hmac128 k (shaBytes (exchWords m)) == m.mac
  | none => false

/-- Is the message no later than the last, heard less than the silence before? -/
def Part.exchOld (p : Part) (q : Nat) (m : ExchMsg) : Bool :=
  match (p.exchSt q).rx with
  | some r => !(laterThan m.seq r.1 || decide (edgesSilent ≤ p.clk - (p.exchSt q).rxAt))
  | none => false

/-- Does the message come in another form, or from another node than expected? -/
def Part.exchWrong (p : Part) (q : Nat) (m : ExchMsg) : Bool :=
  decide (m.version ≠ 1#8) || decide (m.kind ≠ 1#8) ||
    (!p.bit (exReg q 4) 16 && p.field (exReg q 4) 15 0 != m.node.toNat)

/-- The accuracy shown leaves the exchange's status as it is. -/
theorem Part.field_status_acc (p : Part) (q hi lo : Nat) (v : Dword) :
    (p.setReg64 (exReg q 0x28) v).field (exReg q 0x10) hi lo = p.field (exReg q 0x10) hi lo := by
  unfold Part.field Part.setReg64 exReg
  rw [Part.reg_setReg_other _ _ _ _ (by omega), Part.reg_setReg_other _ _ _ _ (by omega)]

section Fault

variable {p : Part} {q : Nat} {m : ExchMsg}

theorem Part.exchFault_wrong (h : p.exchWrong q m = true) :
    p.exchFault q m = some (p.addSatField (exReg q 0x38) 15 0 1) := by
  unfold Part.exchFault
  by_cases hform : m.version ≠ 1#8 ∨ m.kind ≠ 1#8
  · exact if_pos hform
  · refine (if_neg hform).trans (if_pos ?_)
    rw [Part.exchWrong, Bool.or_eq_true, Bool.or_eq_true, decide_eq_true_eq, decide_eq_true_eq] at h
    exact h.resolve_left hform

theorem Part.exchFault_right (h : p.exchWrong q m = false) {r : Option Part}
    (hr : (if !p.bit (exReg q 0) 29 then none
      else if !p.exchMacGood q m then some ((p.addSat (exReg q 0x30) 1).exHist q 2)
      else if p.exchOld q m then some (p.addSat (exReg q 0x34) 1) else none) = r) : p.exchFault q m = r := by
  obtain ⟨hform, hnode⟩ := Bool.or_eq_false_iff.mp h
  rw [Bool.or_eq_false_iff, decide_eq_false_iff_not, decide_eq_false_iff_not] at hform
  refine (if_neg (not_or.mpr hform)).trans ((if_off hnode).trans (Eq.trans ?_ hr))
  unfold Part.exchOld Part.exchMacGood
  cases (p.exchSt q).rx with
  | none => rfl
  | some e =>
    dsimp only
    rw [ite_bnot (b := laterThan m.seq e.1 || decide (edgesSilent ≤ p.clk - (p.exchSt q).rxAt))] <;> rfl

end Fault

/-! ### FIFO_POP -/

/-- What the register table says of FIFO_POP's lowest word. -/
theorem regInfo_fifoPop (n : Fin 48) : decodeAddr (tsReg n 0x20) = .native (tsReg n 0x20) ∧
    (BitVec.ofNat 28 (tsReg n 0x20)).toNat = tsReg n 0x20 ∧ tsReg n 0x20 / 0x1000 = 0x11 ∧
    tsReg n 0x20 % 0x1000 / 64 % 48 = n ∧
    (regInfo (tsReg n 0x20)).map (fun i => (i.idx, i.kind, i.reset)) = some (0, .calc, 0#32) := by
  revert n
  decide

section Pop

variable {p : Part} {n : Fin 48}

theorem busRead_fifoPop_early (hreach : p.reaches .host = true) (hearly : (p.granted .host).early .host = true) :
    busRead .host (BitVec.ofNat 28 (tsReg n 0x20)) p = (p.granted .host).answer .host (tsReg n 0x20) 0#32 := by
  obtain ⟨haddr, hnat, hblock, hport, hinfo⟩ := regInfo_fifoPop n
  obtain ⟨i, hi, hfacts⟩ := Option.map_eq_some_iff.mp hinfo
  obtain ⟨hidx, hkind, hreset⟩ : i.idx = 0 ∧ i.kind = .calc ∧ i.reset = 0#32 := by simpa using hfacts
  refine (if_holds hreach).trans ?_
  simp only [haddr, Target.off, hi, hearly, hblock, hreset, hnat]
  rfl

/-- A host read of FIFO_POP that its selvedge carries pops the queue. -/
theorem busRead_fifoPop (hreach : p.reaches .host = true) (hlate : (p.granted .host).early .host = false) :
    ((((p.granted .host).cross (tsReg n 0x20)).2 = true → busRead .host (BitVec.ofNat 28 (tsReg n 0x20)) p =
      (stampFifoPop n ((p.granted .host).cross (tsReg n 0x20)).1).snoopBus .host (tsReg n 0x20) false
        (((p.granted .host).cross (tsReg n 0x20)).1.readWord (tsReg n 0x20))) ∧
    (((p.granted .host).cross (tsReg n 0x20)).2 = false → busRead .host (BitVec.ofNat 28 (tsReg n 0x20)) p =
      (((p.granted .host).cross (tsReg n 0x20)).1.accessFault 6 .host (BitVec.ofNat 28 (tsReg n 0x20))).answer .host
        (tsReg n 0x20) 0#32)) := by
  obtain ⟨haddr, hnat, hblock, hport, hinfo⟩ := regInfo_fifoPop n
  obtain ⟨i, hi, hfacts⟩ := Option.map_eq_some_iff.mp hinfo
  obtain ⟨hidx, hkind, hreset⟩ : i.idx = 0 ∧ i.kind = .calc ∧ i.reset = 0#32 := by simpa using hfacts
  refine ⟨fun hopen => (if_holds hreach).trans ?_, fun hshut => (if_holds hreach).trans ?_⟩
  · simp only [haddr, Target.off, hi, hlate, hblock, hidx, hkind, hnat, hport, hopen]
    rfl
  · simp only [haddr, Target.off, hi, hlate, hblock, hidx, hkind, hnat, hport, hshut]
    rfl

end Pop

end Sys2Proof.Machine

namespace Sys2Proof

open Sys2Proof.Machine

/-- Settles O56: a message by what it fails, a stamp by the room of its queue, a read of FIFO_POP by its path. -/
theorem exchangeAndStamps : Obligations.ExchangeAndStamps := by
  refine ⟨fun s q n a m x hfreeze => ?frozen, fun s q lead hfreeze => ?sent, fun s q m age hfreeze => ?received,
    fun s q hfreeze => ?expire, fun s n age x hfreeze => ?record, fun s n => ?pop⟩
  case frozen =>
    simp only [List.forall_mem_cons, List.not_mem_nil, false_imp_iff, implies_true, and_true]
    exact ⟨yields_frozen_clock rfl hfreeze, yields_frozen_clock rfl hfreeze, yields_frozen_clock rfl hfreeze,
      yields_frozen_clock rfl hfreeze, yields_frozen_clock rfl hfreeze⟩
  case sent =>
    intro p stamp on id auth c rx st flags m kept sent
    have hrow {x : Machine.Part} (hx : txMessageSend q lead p = x) : Yields (.txMessageSend q lead) s x :=
      yields_of_clock (f := txMessageSend q lead) rfl hfreeze hx
    refine ⟨fun hoff => hrow (if_three.trans (if_off hoff)), fun hon => ?_⟩
    have hgo {x : Machine.Part} (hx : _ = x) : Yields (.txMessageSend q lead) s x :=
      hrow (if_three.trans ((if_pos hon).trans hx))
    refine ⟨fun hauth hkey => hgo (if_pos ?_), fun k hauth hkey => hgo ((if_neg ?_).trans ?_),
      fun hauth => hgo ((if_neg ?_).trans ?_)⟩
    · rw [show p.bit (exReg q 0) 29 = true from hauth, hkey]; rfl
    · rw [hkey, Option.isNone_some, Bool.and_false]; exact Bool.false_ne_true
    · rw [show p.bit (exReg q 0) 29 = true from hauth, show p.linkKey q (p.field (exReg q 0) 27 26) = some k from hkey]
    · rw [show p.bit (exReg q 0) 29 = false from hauth, Bool.false_and]; exact Bool.false_ne_true
    · rw [show p.bit (exReg q 0) 29 = false from hauth]
  case received =>
    intro on p t4 c wrong auth macGood old kept shown bad told
    have hrow {x : Machine.Part} (hx : txMessageRx q m age s.part = x) : Yields (.txMessageRx q m age) s x :=
      yields_of_clock (f := txMessageRx q m age) rfl hfreeze hx
    refine ⟨fun hoff => hrow (if_three.trans (if_off hoff)), fun hon => ?_⟩
    have hfault {x : Machine.Part} (hx : p.exchFault q m = some x) : Yields (.txMessageRx q m age) s x :=
      hrow (if_three.trans ((if_pos hon).trans (by dsimp only; rw [hx])))
    refine ⟨fun hwrong => hfault (Part.exchFault_wrong hwrong),
      fun hwrong hauth hmac => hfault (Part.exchFault_right hwrong ((if_holds hauth).trans (if_fails hmac))),
      fun hwrong hauth hmac hold => hfault (Part.exchFault_right hwrong ((if_holds hauth).trans ((if_holds hmac).trans
        (if_pos hold)))), fun hwrong hgood => ?_⟩
    have hnone : p.exchFault q m = none := by
      refine Part.exchFault_right hwrong ?_
      by_cases hauth : p.bit (exReg q 0) 29 = true
      · obtain ⟨hmac, hold⟩ := hgood.resolve_left (Bool.ne_false_iff.mpr hauth)
        exact (if_holds hauth).trans ((if_holds hmac).trans (if_off hold))
      · exact if_fails (Bool.eq_false_iff.mpr hauth)
    refine hrow (if_three.trans ((if_pos hon).trans ?_))
    dsimp only
    rw [hnone]
    dsimp only [told, bad, shown, kept, c, t4, p]
    simp only [Part.field_status_acc]
  case expire => exact yields_of_clock (f := exchValidExpire q) rfl hfreeze rfl
  case record =>
    intro p
    have hrow {y : Machine.Part} (hy : stampRecord n age x p = y) : Yields (.stampRecord n age x) s y :=
      yields_of_clock (f := stampRecord n age x) rfl hfreeze hy
    refine ⟨⟨fun hnone => hrow (by unfold stampRecord; rw [hnone]), fun r l hwaits => ?_⟩,
      yields_of_clock (f := stampSpillMove n) rfl hfreeze ?_⟩
    · intro q time joined full
      have hspilled := Part.spillOne_times q n
      refine ⟨fun hroom => hrow (stampRecord_joins hwaits (Bool.and_eq_false_iff.mpr (.inl hroom)) (if_off hroom)
          (Part.txStamp_client rfl rfl _)),
        fun hfull hspills => hrow (stampRecord_joins hwaits
          (Bool.and_eq_false_iff.mpr (.inr (congrArg not hspills))) (if_pos hfull)
          (Part.txStamp_client (hspilled.1.trans rfl) (hspilled.2.trans rfl) _)),
        fun hfull hstays => hrow ?_⟩
      unfold stampRecord
      rw [hwaits]
      exact if_both hfull (by rw [hstays]; rfl)
    · unfold stampSpillMove
      simp only [Bool.and_eq_true]
      rfl
  case pop =>
    intro off p c q seen taken
    have hpop {x : Machine.Part} (hx : busRead .host (BitVec.ofNat 28 (tsReg n 0x20)) s.part = x) :
        Yields (.stampFifoPop n) s x :=
      yields_of (f := busRead .host (BitVec.ofNat 28 (tsReg n 0x20))) rfl hx
    refine ⟨fun hdeaf => hpop (if_fails hdeaf), fun hreach hearly => hpop (busRead_fifoPop_early hreach hearly),
      fun hreach hlate => ?_⟩
    obtain ⟨hcarried, hrefused⟩ := busRead_fifoPop hreach hlate
    refine ⟨fun hshut => hpop (hrefused hshut), fun hopen => ⟨fun r l hspills hfifo => hpop ((hcarried hopen).trans ?_),
      fun hempty => hpop ((hcarried hopen).trans ?_)⟩⟩
    · refine congrArg seen ?_
      unfold stampFifoPop
      rw [hspills, hfifo]
      rfl
    · refine congrArg seen ?_
      unfold stampFifoPop
      dsimp only
      split
      · next r l hspills hfifo =>
        rcases hempty with h | h
        · exact absurd (hspills.symm.trans h) Bool.false_ne_true
        · exact absurd (hfifo.symm.trans h) (List.cons_ne_nil r l)
      · rfl

end Sys2Proof
end

section
/-! Client ports, taps, pools, injection and R-TAG recovery (R382 to R404, R303 to R306). -/

namespace Sys2Proof.Machine

/-! ### The frame whose wait began first (R396) -/

/-- Does a copied frame wait for bobbins? -/
def TapFrame.waitsLong (f : TapFrame) : Bool := f.ended && !f.dead && f.dec.isNone && decide (0 < f.left)

theorem longestWait_cons (f : TapFrame) (l : List TapFrame) : longestWait (f :: l) =
    if f.waitsLong = true then some (((longestWait l).filter fun g => decide (g.since < f.since)).getD f)
    else longestWait l := by
  unfold TapFrame.waitsLong
  rw [longestWait]
  cases longestWait l with
  | none => rfl
  | some g =>
    by_cases h : g.since < f.since <;> simp [Option.filter, h]

theorem longestWait_none {l : List TapFrame} (h : l.any TapFrame.waitsLong = false) : longestWait l = none := by
  induction l with
  | nil => rfl
  | cons f l ih =>
    obtain ⟨hf, hl⟩ := Bool.or_eq_false_iff.mp h
    rw [longestWait_cons, hf, ih hl]
    rfl

theorem longestWait_mem {l : List TapFrame} {g : TapFrame} (h : longestWait l = some g) :
    g ∈ l ∧ g.waitsLong = true := by
  induction l with
  | nil => exact absurd h nofun
  | cons f l ih =>
    rw [longestWait_cons] at h
    split at h
    · next hf =>
      cases hl : (longestWait l).filter fun g => decide (g.since < f.since) with
      | none =>
        rw [hl, Option.getD_none, Option.some.injEq] at h
        exact h ▸ ⟨.head _, hf⟩
      | some e =>
        rw [hl, Option.getD_some, Option.some.injEq] at h
        obtain ⟨hmem, hwaits⟩ := ih (h ▸ (Option.filter_eq_some_iff.mp hl).1)
        exact ⟨.tail _ hmem, hwaits⟩
    · obtain ⟨hmem, hwaits⟩ := ih h
      exact ⟨.tail _ hmem, hwaits⟩

theorem longestWait_first {f : TapFrame} {a b : List TapFrame} (hf : f.waitsLong = true)
    (ha : ∀ g ∈ a, g.waitsLong = true → f.since < g.since) (hb : ∀ g ∈ b, g.waitsLong = true → f.since ≤ g.since) :
    longestWait (a ++ f :: b) = some f := by
  induction a with
  | nil =>
    rw [List.nil_append, longestWait_cons, if_pos hf]
    cases hl : longestWait b with
    | none => rfl
    | some g =>
      obtain ⟨hmem, hwaits⟩ := longestWait_mem hl
      have hle := hb g hmem hwaits
      simp [Option.filter, Nat.not_lt.mpr hle]
  | cons e a ih =>
    rw [List.cons_append, longestWait_cons, ih fun g hg => ha g (.tail _ hg)]
    split
    · next he =>
      have hlt := ha e (.head _) he
      simp [Option.filter, hlt]
    · rfl

/-! ### A frame from the client ends (R384 to R390) -/

section FromClient

variable {p : Part} {n : Nat} {f : ClientFrame}

/-- A frame's class is counted, and that of a control frame as well. -/
def Part.clientCounted (p : Part) (n : Nat) (f : ClientFrame) : Part :=
  let sized := if p.sized n f && f.fcsOk then (p.addReg64 (macReg n 0x60) 1).addReg64 (macReg n 0x68) f.len
    else if p.sized n f then p.addSat (macReg n 0x70) 1
    else if f.len < 64 then p.addSat (macReg n 0x74) 1
    else p.addSat (macReg n 0x78) 1
  if f.etype == 0x8808 then sized.addSat (macReg n 0x7C) 1 else sized

theorem Part.frameFromClient_short (h : f.len < 64) : p.frameFromClient n f =
    if p.mapLost n f then (p.clientCounted n f).mapOverflow n f else (p.clientCounted n f).sendToLine n f :=
  if_pos h

/-- What a frame of 64 bytes or more leaves, by its fate: its copy for PTP or the tap ends. -/
def Part.clientEnded (p : Part) (n : Nat) (f : ClientFrame) (good : Bool) (q : Part) : Part :=
  let r := if (q.client n).fate.isNone then q else q.setClient n { q.client n with fate := none }
  if ((p.client n).fate.getD (p.verdict n f)).step = 1 then
    if good then r.emit (.frame "TO_PTP" n f.bytes)
    else (((r.addSat (macReg n 0xB0) 1).count (0x7000 + n) 0 1).count (0x7000 + n) 2 1).dropHist n
  else r.tapEnd n f good

theorem Part.frameFromClient_long (h : 64 ≤ f.len) : p.frameFromClient n f =
    let q := p.clientEnded n f (p.sized n f && f.fcsOk) (p.clientCounted n f)
    if ((p.client n).fate.getD (p.verdict n f)).removed then q
    else if p.mapLost n f then q.mapOverflow n f else q.sendToLine n f :=
  if_neg (Nat.not_lt.mpr h)

theorem Part.mapLost_eq : p.mapLost n f = (decide (p.field (macReg n 0) 30 29 ≠ 0) &&
    (f.overflow || p.tribsOn.any fun t => p.tribClient t == some n && (p.trib t).impLost)) := by
  rw [Part.mapLost, bne, decide_not]
  rfl

theorem Part.clientCounted_eq : p.clientCounted n f =
    let sized := if (decide (64 ≤ f.len) && decide (f.len ≤ p.field (macReg n 0) 13 0) && f.fcsOk) = true then
        (p.addReg64 (macReg n 0x60) 1).addReg64 (macReg n 0x68) f.len
      else if 64 ≤ f.len ∧ f.len ≤ p.field (macReg n 0) 13 0 then p.addSat (macReg n 0x70) 1
      else if f.len < 64 then p.addSat (macReg n 0x74) 1
      else p.addSat (macReg n 0x78) 1
    if f.etype = 0x8808 then sized.addSat (macReg n 0x7C) 1 else sized := by
  unfold Part.clientCounted Part.sized
  simp only [beq_iff_eq, Bool.and_eq_true, decide_eq_true_eq]

end FromClient

/-! ### Frames that wait to be placed (R403) -/

section Waiting

variable {f : TxFrame} {a b : List TxFrame}

theorem find_waits (ha : a.any TxFrame.waits = false) (hf : f.waits = true) :
    (a ++ f :: b).find? TxFrame.waits = some f := by
  rw [List.find?_append, List.find?_eq_none.mpr fun g hg => by simpa using List.any_eq_false.mp ha g hg]
  exact List.find?_cons_of_pos hf

theorem updWaiting_first (g : TxFrame → TxFrame) (ha : a.any TxFrame.waits = false) (hf : f.waits = true) :
    updWaiting g (a ++ f :: b) = a ++ g f :: b := by
  induction a with
  | nil => exact if_pos hf
  | cons e a ih =>
    obtain ⟨he, hrest⟩ := Bool.or_eq_false_iff.mp ha
    exact (if_off he).trans (congrArg (e :: ·) (ih hrest))

theorem find_waits_none {l : List TxFrame} (h : l.any TxFrame.waits = false) : l.find? TxFrame.waits = none :=
  List.find?_eq_none.mpr fun g hg => by simpa using List.any_eq_false.mp h g hg

end Waiting

end Sys2Proof.Machine

namespace Sys2Proof

open Sys2Proof.Machine

/-- Settles O57: each row by its branch; the queues' first waiting frames by induction over the queue. -/
theorem clientPath : Obligations.ClientPath := by
  refine ⟨fun s n b k l f e d r m v w q hfreeze => ?frozen, fun s n a hfreeze => ?align, fun s n f hfreeze => ?classify,
    fun s n f hfreeze => ?ends, fun s n hfreeze => ?taps, fun s b e hfreeze => ?pool, fun s n d hfreeze => ?descriptor,
    fun s n run hfreeze => ?inject, fun s m hfreeze => ?loss, fun p n f r k htx => ?drain, fun s n hfreeze => ?fault,
    fun s n k hfreeze => ?recovery⟩
  case frozen =>
    simp only [List.forall_mem_cons, List.not_mem_nil, false_imp_iff, implies_true, and_true]
    exact ⟨yields_frozen_receivers rfl hfreeze, yields_frozen_clock rfl hfreeze, yields_frozen_clock rfl hfreeze,
      yields_frozen_clock rfl hfreeze, yields_frozen_clock rfl hfreeze, yields_frozen_clock rfl hfreeze,
      yields_frozen_clock rfl hfreeze, yields_frozen_clock rfl hfreeze, yields_frozen_clock rfl hfreeze,
      yields_frozen_receivers rfl hfreeze, yields_frozen_receivers rfl hfreeze, yields_frozen_clock rfl hfreeze,
      yields_frozen_clock rfl hfreeze⟩
  case align =>
    intro p ls ready lo hi holds locked q1 q2 aligned same
    have hrow {x : Machine.Part} (hx : clientPortAlign n a p = x) : Yields (.clientPortAlign n a) s x.signals :=
      yields_of_receivers (f := clientPortAlign n a) rfl hfreeze hx
    have hguard : (!p.clientRx n || p.clientAligned n || a.length != ls.length ||
        !ls.all fun l => p.bit (laneReg l 0x10) 2) = !ready := by
      have hcount : (a.length == ls.length) = decide (a.length = ls.length) := rfl
      simp only [ready, Bool.not_and, Bool.not_not, bne, hcount]
    have hon (h : ready = true) : ¬(!p.clientRx n || p.clientAligned n || a.length != ls.length ||
        !ls.all fun l => p.bit (laneReg l 0x10) 2) = true := by
      rw [hguard, h]; decide
    exact ⟨fun hoff => hrow (if_pos (by rw [hguard, hoff]; rfl)),
      fun hready hskew => hrow ((if_neg (hon hready)).trans (if_pos hskew)),
      fun hready hskew => hrow ((if_neg (hon hready)).trans (if_neg (Nat.not_lt.mpr hskew)))⟩
  case classify =>
    intro p up v fixed c copied
    have hrow {x : Machine.Part} (hx : clientFrameClassify n f p = x) : Yields (.clientFrameClassify n f) s x :=
      yields_of_clock (f := clientFrameClassify n f) rfl hfreeze hx
    have hguard : (!p.clientRx n || !p.clientAligned n || decide (f.len < 64)) = true ↔ up = false ∨ f.len < 64 := by
      rw [Bool.or_eq_true, decide_eq_true_eq, ← Bool.not_and, Bool.not_eq_true']
    refine ⟨fun hidle => hrow (if_pos (hguard.mpr hidle)), fun hup hlen => ?_⟩
    have hgo {x : Machine.Part} (hx : _ = x) : Yields (.clientFrameClassify n f) s x :=
      hrow ((if_neg (mt hguard.mp (not_or.mpr ⟨by rw [hup]; decide, Nat.not_lt.mpr hlen⟩))).trans hx)
    exact ⟨fun hstep => hgo (if_pos hstep), fun hstep hcopied => hgo ((if_neg hstep).trans (if_pos hcopied)),
      fun hstep hcopied => hgo ((if_neg hstep).trans (if_off hcopied))⟩
  case ends =>
    intro p up most good sized counted lost toLine v done ptp ended down out
    have hrow {b : Bool} {x : Machine.Part} (hx : clientFrameEnd n b f p = x) : Yields (.clientFrameEnd n b f) s x :=
      yields_of_clock (f := clientFrameEnd n b f) rfl hfreeze hx
    refine ⟨fun hoff => hrow (if_off hoff), fun hup hlen => hrow ((if_pos hup).trans ?_),
      fun hup hlen => hrow ((if_pos hup).trans ?_), fun hoff => hrow (if_off hoff), fun hdown => hrow (if_pos hdown)⟩
    · rw [Part.frameFromClient_short hlen, Part.mapLost_eq, Part.clientCounted_eq]
    · rw [Part.frameFromClient_long hlen, Part.mapLost_eq, Part.clientCounted_eq]
      rfl
  case taps =>
    intro p waits first whole
    have hcomplete {x : Machine.Part} (hx : tapFrameComplete n p = x) : Yields (.tapFrameComplete n) s x :=
      yields_of_clock (f := tapFrameComplete n) rfl hfreeze hx
    have hstarve {x : Machine.Part} (hx : rxStarveTimeout n p = x) : Yields (.rxStarveTimeout n) s x :=
      yields_of_clock (f := rxStarveTimeout n) rfl hfreeze hx
    refine ⟨fun hno => hcomplete ?_, fun f r hfront hwhole => ?_, fun hnone => hstarve ?_,
      fun f a b hfirst => hstarve ?_⟩
    · unfold tapFrameComplete
      dsimp only
      split
      · next f r hfront => exact if_off (hno f r hfront)
      · rfl
    · refine hcomplete ?_
      unfold tapFrameComplete
      dsimp only
      rw [hfront]
      exact if_pos hwhole
    · unfold rxStarveTimeout
      dsimp only
      rw [longestWait_none hnone]
    · obtain ⟨hframes, hwaits, ha, hb⟩ := hfirst
      unfold rxStarveTimeout
      dsimp only
      rw [hframes, longestWait_first hwaits ha hb]
      simp only [List.isEmpty_iff]
  case pool =>
    intro p ready i q
    have hrow {x : Machine.Part} (hx : poolEntryRead b e p = x) : Yields (.poolEntryRead b e) s x :=
      yields_of_clock (f := poolEntryRead b e) rfl hfreeze hx
    have hguard : (!p.bit (poolReg b 8) 31 || !p.host.linkUp || p.reg (poolReg b 0xC) == p.reg (poolReg b 0x10) ||
        decide (64 ≤ (p.onDie b).length)) = !ready := by
      simp only [ready, Bool.not_and, bne, Bool.not_not, ← decide_not, Nat.not_lt]
    have hon (h : ready = true) : ¬(!p.bit (poolReg b 8) 31 || !p.host.linkUp ||
        p.reg (poolReg b 0xC) == p.reg (poolReg b 0x10) || decide (64 ≤ (p.onDie b).length)) = true := by
      rw [hguard, h]; decide
    exact ⟨fun hoff => hrow (if_pos (by rw [hguard, hoff]; rfl)),
      fun hready hbad => hrow ((if_neg (hon hready)).trans (if_pos (bne_iff_ne.mpr hbad))),
      fun hready hgood => hrow ((if_neg (hon hready)).trans (if_neg (by rw [hgood]; decide)))⟩
  case descriptor =>
    intro p c w0 ready i f asked q
    have hrow {x : Machine.Part} (hx : txDescriptorRead n d p = x) : Yields (.txDescriptorRead n d) s x :=
      yields_of_clock (f := txDescriptorRead n d) rfl hfreeze hx
    have hguard : (!p.bit (tapReg n 0x28) 31 || !p.host.linkUp ||
        p.reg (tapReg n 0x2C) == p.reg (tapReg n 0x30) + BitVec.ofNat 32 (p.txRead n)) = !ready := by
      simp only [ready, Bool.not_and, bne, Bool.not_not]
      rfl
    refine ⟨fun hoff => hrow (if_pos (by rw [hguard, hoff]; rfl)), fun hready hgood => hrow ((if_neg ?_).trans ?_),
      fun hready hbad => hrow ((if_neg ?_).trans ?_)⟩
    · rw [hguard, hready]; decide
    · rw [hgood]
      rfl
    · rw [hguard, hready]; decide
    · rw [hbad]
      rfl
  case inject =>
    intro p
    have hplace {x : Machine.Part} (hx : injectPlace n run p = x) : Yields (.injectPlace n run) s x :=
      yields_of_clock (f := injectPlace n run) rfl hfreeze hx
    have htimeout {x : Machine.Part} (hx : injectTimeout n p = x) : Yields (.injectTimeout n) s x :=
      yields_of_clock (f := injectTimeout n) rfl hfreeze hx
    refine ⟨fun hnone => ⟨hplace ?_, htimeout (if_off hnone)⟩, fun f a b htx ha hdead hleaves => ?_⟩
    · unfold injectPlace
      dsimp only
      rw [find_waits_none hnone]
    · have hwaits : f.waits = true := by rw [TxFrame.waits, hdead, hleaves]; rfl
      intro len fits g left putBack q u stamp out sent serial asked
      have hfits : fits = true ↔ ¬(!p.clientTx n || p.clientFaulted n || decide (run.blocks < (len + 27) / 8 + 1) ||
          decide (2048 < run.blocks)) = true := by
        simp only [fits, Bool.and_eq_true, Bool.not_eq_true', decide_eq_true_eq, Bool.or_eq_true, not_or,
          Bool.not_eq_false,
          Bool.not_eq_true, Nat.not_lt]
      have hcount : (p.client n).tx.length = a.length + (b.length + 1) := by
        rw [htx, List.length_append, List.length_cons]
      have hfirst : (p.client n).tx.find? TxFrame.waits = some f := by rw [htx, find_waits ha hwaits]
      have hupd (h : TxFrame → TxFrame) : updWaiting h (p.client n).tx = a ++ h f :: b := by
        rw [htx, updWaiting_first h ha hwaits]
      refine ⟨fun hno => hplace ?_, fun hyes => hplace ?_, htimeout ((if_pos ?_).trans ?_)⟩
      · unfold injectPlace
        dsimp only
        rw [hfirst]
        exact if_pos (not_not.mp (mt hfits.mpr (by rw [hno]; decide)))
      · unfold injectPlace
        dsimp only
        rw [hfirst]
        refine (if_neg (hfits.mp hyes)).trans ?_
        rw [hupd, hcount]
        rfl
      · exact List.any_eq_true.mpr ⟨f, by rw [htx]; simp, hwaits⟩
      · rw [hupd, hcount]
  case loss =>
    intro p n
    rw [← apply_ite Part.signals]
    refine yields_of_receivers (f := clientAlignLoss m) rfl hfreeze ?_
    unfold clientAlignLoss
    simp only [Bool.and_eq_true, decide_eq_true_eq, and_assoc]
    rfl
  case drain =>
    have hgone : f.gone p.clk = true ↔ f.dead = true ∨ ∃ e, f.leaves = some e ∧ e ≤ p.clk := by
      unfold TxFrame.gone
      cases f.leaves <;> simp
    rw [Part.drainTx]
    dsimp only
    rw [htx]
    simp only [hgone]
  case fault =>
    intro p remote on b
    have hrow {x : Machine.Part} (hx : faultOrderedSetsRx n remote on p = x) :
        Yields (.faultOrderedSetsRx n remote on) s x.signals :=
      yields_of_receivers (f := faultOrderedSetsRx n remote on) rfl hfreeze hx
    refine ⟨fun hoff => hrow (if_fails hoff), fun hrx hon => hrow ((if_holds hrx).trans (if_pos hon)),
      fun hrx hon => ?_⟩
    rw [← apply_ite Part.signals]
    refine hrow ((if_holds hrx).trans ((if_off hon).trans ?_))
    simp only [Bool.or_eq_true]
    rfl
  case recovery =>
    intro p mode on enters u c h
    have hon : (mode == 0 || mode == 3) = !on := by
      have hlt : mode < 4 := Nat.mod_lt _ (by decide)
      revert hlt
      simp only [on]
      generalize mode = m
      revert m
      decide
    have hframe {o : Option (BitVec 16)} {x : Machine.Part} (hx : rtagRecoveryFrame n k o p = x) :
        Yields (.rtagRecoveryFrame n k o) s x := yields_of_clock (f := rtagRecoveryFrame n k o) rfl hfreeze hx
    have hguard : (!p.clientTx n || mode == 0 || mode == 3 || !p.legEnters n k || !p.weftRuns) = !enters := by
      rw [Bool.or_assoc (!p.clientTx n), hon]
      simp only [enters, Bool.not_and]
    refine ⟨fun hoff q => hframe (if_pos (by rw [hguard, hoff]; rfl)), fun henters => ?_, ?_⟩
    · have hgo {o : Option (BitVec 16)} {x : Machine.Part} (hx : _ = x) : Yields (.rtagRecoveryFrame n k o) s x :=
        hframe ((if_neg (by rw [hguard, henters]; decide)).trans hx)
      refine ⟨hgo rfl, fun q hany => hgo (if_pos hany), fun q hany hmode => hgo ((if_off hany).trans (if_pos hmode)),
        fun q hany hmode => ?_⟩
      intro d
      have hwindow {x : Machine.Part} (hx : _ = x) : Yields (.rtagRecoveryFrame n k (some q)) s x :=
        hgo ((if_off hany).trans
          ((if_neg (by rw [show p.field (macReg n 0xC0) 27 26 = 1 from hmode]; decide)).trans hx))
      refine ⟨fun hout => hwindow (if_pos hout), fun hlow hzero hhigh => hwindow ((if_neg ?_).trans (if_pos hzero)),
        fun hzero hhigh => hwindow ((if_neg ?_).trans (if_neg (not_le.mpr hzero)))⟩
      · exact not_or.mpr ⟨not_le.mpr hhigh, not_le.mpr hlow⟩
      · refine not_or.mpr ⟨not_le.mpr hhigh, not_le.mpr (lt_of_le_of_lt ?_ hzero)⟩
        exact Int.neg_nonpos_of_nonneg (Int.natCast_nonneg _)
    · refine yields_of_clock (f := rtagRecoveryReset n) rfl hfreeze ?_
      have hreset : (mode == 0 || mode == 3 || (p.recovSt n).takeAny) = !(on && !(p.recovSt n).takeAny) := by
        rw [hon, Bool.not_and, Bool.not_not]
      unfold rtagRecoveryReset
      dsimp only
      rw [show (p.field (macReg n 0xC0) 27 26 == 0 || p.field (macReg n 0xC0) 27 26 == 3 || (p.recovSt n).takeAny) = _
        from hreset, ite_bnot]
      simp only [Bool.and_eq_true, Bool.not_eq_true']
      rfl

end Sys2Proof
end

section
/-! Cirumlink cycles, slots, training and mirroring (R408 to R433). -/

namespace Sys2Proof.Machine

/-! ### AM lock of a level's lanes (R408, R411) -/

theorem levelHeld_iff (holds : SMap (Option Int)) (l : Nat) :
    levelHeld holds l = true ↔
      (∀ i ∈ (List.range 4).filter fun i => (levelLanes l).testBit i, ∃ a, SMap.get (fun _ => none) holds i = some a) ∧
      ∀ i ∈ (List.range 4).filter (fun i => (levelLanes l).testBit i),
        ∀ j ∈ (List.range 4).filter (fun i => (levelLanes l).testBit i),
          ∀ a b : Int, SMap.get (fun _ => none) holds i = some a ∧ SMap.get (fun _ => none) holds j = some b →
            a - b ≤ 2621440 := by
  unfold levelHeld
  simp only [Bool.and_eq_true, beq_iff_eq, List.all_eq_true, decide_eq_true_eq, List.mem_filterMap]
  refine and_congr ?_ ?_
  · rw [List.filterMap_length_eq_length]
    simp only [Option.isSome_iff_exists]
  · exact ⟨fun h i hi j hj a b ⟨ha, hb⟩ => h a ⟨i, hi, ha⟩ b ⟨j, hj, hb⟩,
      fun h a ⟨i, hi, ha⟩ b ⟨j, hj, hb⟩ => h i hi j hj a b ⟨ha, hb⟩⟩

/-! ### The notices of a supply loss -/

/-- A cycle counts the notices that it sends in a last gasp. -/
def Part.noticed (q : Part) : Part :=
  match q.supply.loss with
  | some l =>
    let n := l.notices + (q.linkSends 0).toNat + (q.linkSends 1).toNat
    { q with supply := { q.supply with loss := some { l with notices := n } } }
  | none => q

theorem Part.noticed_none {q : Part} (h : q.supply.loss = none) : q.noticed = q := by
  unfold Part.noticed
  rw [h]

theorem Part.noticed_some {q : Part} {l : LossSeq} (h : q.supply.loss = some l) : q.noticed =
    { q with supply := { q.supply with
      loss := some { l with notices := l.notices + (q.linkSends 0).toNat + (q.linkSends 1).toNat } } } := by
  unfold Part.noticed
  rw [h]

end Sys2Proof.Machine

namespace Sys2Proof

open Sys2Proof.Machine

/-- Settles O58: each row by its branch. -/
theorem cirumlinkRing : Obligations.CirumlinkRing := by
  refine ⟨fun s => ?cycle, fun s k f g hidle => ?idle, fun s k hused hstate => ⟨fun f => ?frame, fun f => ?slot0⟩,
    fun holds l => levelHeld_iff holds l, fun s k => ?timers, fun s => ?mirror, fun s r => ?record⟩
  case cycle =>
    intro q0 held n q1 q2 q3 q
    have hrow {x : Machine.Part} (hx : cirumlinkCycle s.part = x) : Yields .cirumlinkCycle s x :=
      yields_of (f := cirumlinkCycle) rfl hx
    have hgo (hring : s.part.ringPowered = true) {x : Machine.Part} (hx : _ = x) : Yields .cirumlinkCycle s x :=
      hrow ((if_holds hring).trans hx)
    refine ⟨fun hring hmode => hrow ((if_fails hring).trans (if_pos hmode)),
      fun hring hmode => hrow ((if_fails hring).trans (if_neg hmode)),
      fun hring hloss => hgo hring (Part.noticed_none hloss), fun l hring hloss => hgo hring (Part.noticed_some hloss)⟩
  case idle =>
    have hguard : (!s.part.linkUsed k || s.part.linkState k == 0) = true := by
      rw [Bool.or_eq_true, Bool.not_eq_true', beq_iff_eq]
      exact hidle
    exact ⟨yields_of (f := slotFrameRx k f) rfl (if_pos hguard), yields_of (f := slot0Rx k g) rfl (if_pos hguard)⟩
  case frame =>
    intro head p w own heard o onward q id mine
    have hguard : ¬(!s.part.linkUsed k || s.part.linkState k == 0) = true := by
      rw [hused, Bool.or_eq_true, beq_iff_eq]
      exact not_or.mpr ⟨by decide, hstate⟩
    have hrow {x : Machine.Part} (hx : _ = x) : Yields (.slotFrameRx k f) s x :=
      yields_of (f := slotFrameRx k f) rfl ((if_neg hguard).trans hx)
    refine ⟨fun hcrc => hrow (if_fails hcrc), fun hcrc => ?_⟩
    have hgood {x : Machine.Part} (hx : _ = x) : Yields (.slotFrameRx k f) s x := hrow ((if_holds hcrc).trans hx)
    exact ⟨fun h0 => hgood (if_pos h0), fun h0 hown => hgood ((if_neg h0).trans (if_fails hown)),
      fun h0 hown hcls => hgood ((if_neg h0).trans ((if_holds hown).trans (if_neg hcls))),
      fun h0 hown hcls => hgood ((if_neg h0).trans ((if_holds hown).trans (if_pos hcls)))⟩
  case slot0 =>
    intro holds p u c q1 q2 q
    have hguard : ¬(!s.part.linkUsed k || s.part.linkState k == 0) = true := by
      rw [hused, Bool.or_eq_true, beq_iff_eq]
      exact not_or.mpr ⟨by decide, hstate⟩
    have hrow {x : Machine.Part} (hx : _ = x) : Yields (.slot0Rx k f) s x :=
      yields_of (f := slot0Rx k f) rfl ((if_neg hguard).trans hx)
    exact ⟨fun hheld => hrow (if_fails hheld), fun hheld => hrow (if_holds hheld)⟩
  case timers =>
    intro p light
    have hlower {x : Machine.Part} (hx : lowerHoldExpire k p = x) : Yields (.lowerHoldExpire k) s x :=
      yields_of (f := lowerHoldExpire k) rfl hx
    have hguard : (p.linkState k == 2 && decide (0 < p.txLevel k) && !p.linkFixed k && light) = true ↔
        p.linkState k = 2 ∧ 0 < p.txLevel k ∧ p.linkFixed k = false ∧ light = true := by
      simp only [Bool.and_eq_true, beq_iff_eq, decide_eq_true_eq, Bool.not_eq_true', and_assoc]
    refine ⟨yields_of (f := trainTimeout k) rfl rfl, yields_of (f := raiseTimeout k) rfl rfl,
      yields_of (f := downRetry k) rfl rfl,
      fun hrun hlevel hfixed hlight => hlower (if_pos (hguard.mpr ⟨hrun, hlevel, hfixed, hlight⟩)),
      fun hno => hlower (if_neg (mt hguard.mp ?_))⟩
    rintro ⟨hrun, hlevel, hfixed, hlight⟩
    rcases hno with h | h | h | h
    · exact h hrun
    · omega
    · exact Bool.false_ne_true (hfixed.symm.trans h)
    · exact Bool.false_ne_true (h.symm.trans hlight)
  case mirror =>
    intro p wakes old still due
    have hsend {kind : MirrorKind} {x : Machine.Part} (hx : mirrorRecordSend kind p = x) :
        Yields (.mirrorRecordSend kind) s x :=
      yields_of (f := mirrorRecordSend kind) rfl hx
    have hagain {x : Machine.Part} (hx : mirrorRetransmit p = x) : Yields .mirrorRetransmit s x :=
      yields_of (f := mirrorRetransmit) rfl hx
    have hstill : (!p.mirrors || decide (p.twin.stuck < 8) || p.twin.outst.isEmpty) = !still := by
      simp only [still, Bool.not_and, Bool.not_not, ← decide_not, Nat.not_le]
    have hon (h : still = true) : ¬(!p.mirrors || decide (p.twin.stuck < 8) || p.twin.outst.isEmpty) = true := by
      rw [hstill, h]; decide
    refine ⟨yields_of (f := autoWakeSend) rfl rfl, fun hoff kind => hsend (if_fails hoff), fun hmirrors => ?_,
      fun hno => hagain (if_pos (by rw [hstill, hno]; rfl)),
      fun hyes hnew => hagain ((if_neg (hon hyes)).trans (if_off hnew)),
      fun hyes hold => hagain ((if_neg (hon hyes)).trans (if_pos hold)), yields_of (f := mirrorResyncStart) rfl rfl,
      yields_of (f := resyncReoffer) rfl ?_⟩
    · have hgo {kind : MirrorKind} {x : Machine.Part} (hx : _ = x) : Yields (.mirrorRecordSend kind) s x :=
        hsend ((if_holds hmirrors).trans hx)
      refine ⟨fun hnone => hgo (if_pos (List.isEmpty_iff.mpr hnone)),
        fun hsome => hgo (if_off (List.isEmpty_eq_false_iff.mpr hsome)),
        hgo rfl, hgo ?_, hgo ?_, hgo rfl, hgo rfl, hgo rfl, hgo rfl⟩
      · simp only [List.isEmpty_iff]
      · simp only [List.isEmpty_iff]
    · unfold resyncReoffer
      simp only [Bool.and_eq_true]
      rfl
  case record =>
    intro p taken key parts tw restores late q
    have hrow {x : Machine.Part} (hx : mirrorRecordRx r p = x) : Yields (.mirrorRecordRx r) s x :=
      yields_of (f := mirrorRecordRx r) rfl hx
    have htaken : (!p.paired || !(r.seq == p.twin.inSeq + 1#32 || r.kind == .resyncBegin)) = !taken := by
      rw [← Bool.not_and]
    have hgo (h : taken = true) {x : Machine.Part} (hx : _ = x) : Yields (.mirrorRecordRx r) s x :=
      hrow ((if_neg (by rw [htaken, h]; decide)).trans hx)
    exact ⟨fun hno => hrow (if_pos (by rw [htaken, hno]; rfl)), fun hyes hmore => hgo hyes (if_off hmore),
      fun hyes hlast hlate => hgo hyes ((if_pos hlast).trans (if_pos hlate)),
      fun hyes hlast hlate => hgo hyes ((if_pos hlast).trans (if_off hlate))⟩

end Sys2Proof
end

section
/-! The SMBus target and the test access port (R544 to R549). -/

namespace Sys2Proof.Machine

/-! ### SMBus commands by whether the target hears them -/

section Smbus

variable {s : State} {a : BitVec 7} {o : Word} {pec : Bool}

theorem exec_smbAddr_takes (h : s.smbRegs a = true) :
    exec (.smbAddr a o true) s = .next { s with smb := { s.smb with pointer := o } } :=
  (rfl : exec (.smbAddr a o true) s = execSmbAddr a o true s).trans (if_both h rfl)

theorem exec_smbAddr_drops (h : s.smbRegs a = false ∨ pec = false) : exec (.smbAddr a o pec) s = .next s := by
  refine (rfl : exec (.smbAddr a o pec) s = execSmbAddr a o pec s).trans (if_off ?_)
  rwa [Bool.and_eq_false_iff]

theorem exec_smbWrite_takes (h : s.smbRegs a = true) : exec (.smbWrite a o true) s = .next { s with
    smb := s.smbNext,
    part := (busWrite { req := .smb, addr := s.smbAt, be := 0xF#4, val := o } s.part).copyQueued s.window } :=
  (rfl : exec (.smbWrite a o true) s = execSmbWrite a o true s).trans (if_both h rfl)

theorem exec_smbWrite_drops (h : s.smbRegs a = false ∨ pec = false) : exec (.smbWrite a o pec) s = .next s := by
  refine (rfl : exec (.smbWrite a o pec) s = execSmbWrite a o pec s).trans (if_off ?_)
  rwa [Bool.and_eq_false_iff]

theorem exec_smbRead_takes (h : s.smbRegs a = true) : exec (.smbRead a) s = .next { s with
    smb := s.smbNext,
    part := (busRead .smb s.smbAt s.part).emit (.words "SMB_READ" (s.part.sideStatus false s.smbAt)
      [(busRead .smb s.smbAt s.part).lastData]) } :=
  (rfl : exec (.smbRead a) s = execSmbRead a s).trans (if_pos h)

theorem exec_smbRead_drops (h : s.smbRegs a = false) : exec (.smbRead a) s = .next s :=
  (rfl : exec (.smbRead a) s = execSmbRead a s).trans (if_off h)

theorem exec_smbRecSel_takes {sel : Byte} {l : List Byte} (h : s.smbHears a = true)
    (hrec : s.part.smbRecord sel = some l) :
    exec (.smbRecSel a sel true) s = .next { s with smb := { s.smb with snapshot := l, cursor := 0 } } := by
  change execSmbRecSel a sel true s = _
  unfold execSmbRecSel
  rw [hrec]
  exact if_both h rfl

theorem exec_smbRecSel_drops {sel : Byte} (h : s.smbHears a = false ∨ pec = false ∨ s.part.smbRecord sel = none) :
    exec (.smbRecSel a sel pec) s = .next s := by
  change execSmbRecSel a sel pec s = _
  unfold execSmbRecSel
  cases hrec : s.part.smbRecord sel with
  | none => rfl
  | some l =>
    refine if_off (Bool.and_eq_false_iff.mpr ?_)
    rcases h with h | h | h
    · exact .inl h
    · exact .inr h
    · exact absurd (hrec.symm.trans h) (Option.some_ne_none l)

end Smbus

end Sys2Proof.Machine

namespace Sys2Proof

open Sys2Proof.Machine

/-- Settles O59: each command by whether the target hears it. -/
theorem smbusTarget : Obligations.SmbusTarget := by
  refine ⟨fun s a => ?regs, fun s a sel => ?records, fun s => ⟨fun hvin => ?_, fun hvin => ?_⟩⟩
  case regs =>
    intro regs next at_
    refine ⟨fun h => ⟨fun o => exec_smbAddr_takes h, exec_smbRead_takes h, fun v => exec_smbWrite_takes h⟩,
      fun h o pec => ?_, fun o => ⟨exec_smbAddr_drops (.inr rfl), exec_smbWrite_drops (.inr rfl)⟩⟩
    simp only [List.forall_mem_cons, List.not_mem_nil, false_imp_iff, implies_true, and_true]
    exact ⟨exec_smbAddr_drops (.inl h), exec_smbRead_drops h, exec_smbWrite_drops (.inl h)⟩
  case records =>
    intro hears
    refine ⟨fun h => ⟨fun l hrec => exec_smbRecSel_takes h hrec, ?_, yields_of rfl (if_pos h)⟩, fun h pec => ?_,
      exec_smbRecSel_drops (.inr (.inl rfl)), fun hnone pec => exec_smbRecSel_drops (.inr (.inr hnone))⟩
    · exact (rfl : exec (.smbRecRead a) s = execSmbRecRead a s).trans (if_pos h)
    · simp only [List.forall_mem_cons, List.not_mem_nil, false_imp_iff, implies_true, and_true]
      exact ⟨exec_smbRecSel_drops (.inl h), (rfl : exec (.smbRecRead a) s = execSmbRecRead a s).trans (if_off h),
        yields_of (p := s.part) rfl (if_off h)⟩
  · exact (rfl : exec .smbSclTimeout s = execSmbSclTimeout s).trans (if_pos hvin)
  · exact (rfl : exec .smbSclTimeout s = execSmbSclTimeout s).trans (if_off hvin)

/-- Settles O60: each instruction by whether the part has its input, and whether the test instructions act. -/
theorem testAccessPort : Obligations.TestAccessPort := by
  refine ⟨fun s pins b op w o v hdead => ⟨?dead, ?access⟩, fun s halive => ?alive⟩
  case dead =>
    simp only [List.forall_mem_cons, List.not_mem_nil, false_imp_iff, implies_true, and_true]
    exact ⟨yields_of (f := drivePins .extest "EXTEST" pins) rfl (if_fails hdead),
      yields_of (f := drivePins .extestPulse "EXTEST_PULSE" pins) rfl (if_fails hdead),
      yields_of (f := drivePins .extestTrain "EXTEST_TRAIN" pins) rfl (if_fails hdead),
      yields_of (f := holdPins .clamp "CLAMP") rfl (if_fails hdead),
      yields_of (f := holdPins .highz "HIGHZ") rfl (if_fails hdead),
      yields_of (f := Machine.samplePreload b pins) rfl (if_fails hdead),
      yields_of (f := readIdcode) rfl (if_fails hdead),
      yields_of (f := bypassTap op) rfl (if_pos (by rw [hdead]; rfl)),
      yields_of (f := testLogicReset) rfl (if_fails hdead)⟩
  case access => exact yieldsBus_of (f := Machine.regAccess w o v) rfl (if_fails hdead)
  case alive =>
    intro load
    have hbus {w : Bool} {o : BitVec 28} {v : Word} {x : Machine.Part} (hx : Machine.regAccess w o v s.part = x) :
        YieldsBus (.regAccess w o v) s x := yieldsBus_of (f := Machine.regAccess w o v) rfl hx
    have hdrive {pins : List Bool} {i : TapInstr} {nm : String} {c : Instr}
        (hexec : exec c s = onPart (drivePins i nm pins) s) :
        ((load i).tapActs = true → Yields c s (Part.emit { load i with
          jtag := { (load i).jtag with captured := pins } } (.bytes nm (load i).boundaryCells))) ∧
        ((load i).tapActs = false → Yields c s (load i)) :=
      ⟨fun hacts => yields_of hexec ((if_holds halive).trans (if_pos hacts)),
        fun hidle => yields_of hexec ((if_holds halive).trans (if_off hidle))⟩
    refine ⟨fun pins i nm c hc => ?_, yields_of (f := holdPins .clamp "CLAMP") rfl (if_holds halive),
      yields_of (f := holdPins .highz "HIGHZ") rfl (if_holds halive),
      fun b pins => yields_of (f := Machine.samplePreload b pins) rfl (if_holds halive),
      yields_of (f := readIdcode) rfl (if_holds halive), fun op => yields_of (f := bypassTap op) rfl ?_,
      yields_of (f := testLogicReset) rfl (if_holds halive), fun w o v => ?_⟩
    · simp only [List.mem_cons, Prod.mk.injEq, List.not_mem_nil, or_false] at hc
      rcases hc with ⟨rfl, rfl, rfl⟩ | ⟨rfl, rfl, rfl⟩ | ⟨rfl, rfl, rfl⟩
      · exact hdrive rfl
      · exact hdrive rfl
      · exact hdrive rfl
    · unfold bypassTap
      rw [halive, Bool.not_true, Bool.false_or]
    · intro q
      refine ⟨fun hdormant => hbus ((if_holds halive).trans (if_pos hdormant)), fun hawake hw => ?_,
        fun hawake hw => ?_⟩ <;>
        subst hw
      · exact hbus ((if_holds halive).trans (if_neg hawake))
      · exact hbus ((if_holds halive).trans (if_neg hawake))

end Sys2Proof
end
